-- ==== Sys2Proof/Word.lean ====
section
/-!
DEFINITION. The words of the block: 32-bit registers, 512-bit flit payloads, and the sparse table that holds
every sparse or repeated piece of state.
-/
namespace Sys2Proof

/-- A control-window register (R343). -/
abbrev W32 := BitVec 32

/-- The payload of one flit, one 64-byte granule (R34). Byte `i` of the granule lies in bits `[8*i+7:8*i]` (R9). -/
abbrev Line := BitVec 512

/-- A sparse table: pairs of key and value. Its canonical form is `Tab.wf` of Machine/Tab.lean. -/
abbrev Tab (α : Type) := List (Nat × α)

end Sys2Proof
end

