-- ==== Sys2Proof/Config.lean ====
section
/-!
DEFINITION. What the manual leaves to the generated device or does not state: free values without a body, and the
generation parameters of R30.
-/
namespace Sys2Proof

/-- The four generated parts of R2 and R30. -/
inductive Variant where
  | t24 | t48 | t96 | t96p
  deriving DecidableEq, Repr

namespace Config

/-- A free 512-bit value, one for each count: the bytes of an answer that the manual does not state (log 9). -/
opaque freeLine : Nat → Line

/-- A free 32-bit value, one for each count (log 9). -/
opaque freeWord : Nat → W32

/-- The set (0 to 511) of the hot-page table of R137 in which a page and owner lie; the manual gives the 8 ways
and the key, and no set function (log 13). -/
opaque hotSet : Nat → Nat → Nat

/-- TAG[5:0] of the completion of a request on IRSP (R358): IREQ carries no tag and the manual does not say which one comes
back, so it is a free value for each request (log 9). -/
opaque irspTag : Nat → BitVec 6

end Config

namespace Variant

/-- COL.GEN.QUIRES (R30). -/
def quires : Variant → Nat
  | .t24 => 1 | .t48 => 2 | .t96 => 4 | .t96p => 4

/-- Number of folios, four a quire (R17, R30). -/
def folios (v : Variant) : Nat := 4 * v.quires

/-- COL.GEN.PORTS (R30). -/
def ports (v : Variant) : Nat := 24 * v.quires

/-- Lowest DRAM port (R30). -/
def firstDram : Variant → Nat
  | .t24 => 12 | .t48 => 24 | .t96 => 48 | .t96p => 48

/-- Lowest tile port (R30). -/
def firstTile : Variant → Nat
  | .t24 => 16 | .t48 => 32 | .t96 => 64 | .t96p => 64

/-- Number of tile ports (R30). -/
def tiles (v : Variant) : Nat := 8 * v.quires

/-- Mule engines of one plane (R30). -/
def mules (v : Variant) : Nat := 2 * v.quires

/-- Spine links of one plane (R30). -/
def spineLinks : Variant → Nat
  | .t24 => 0 | .t48 => 4 | .t96 => 24 | .t96p => 24

/-- Two planes on the T96-P, one elsewhere (R17). -/
def paired : Variant → Bool
  | .t96p => true | _ => false

/-- COL.IDENT of each part (R27, R30). -/
def ident : Variant → W32
  | .t24 => 0x05A10101 | .t48 => 0x05A10102 | .t96 => 0x05A10103 | .t96p => 0x05A10104

/-- COL.GEN of each part (R30). -/
def gen : Variant → W32
  | .t24 => 0x00181641 | .t48 => 0x04301642 | .t96 => 0x18601644 | .t96p => 0x18602644

/-- COL.PORTMAP of each part (R30). -/
def portmap : Variant → W32
  | .t24 => 0x0810040C | .t48 => 0x10200818 | .t96 => 0x20401030 | .t96p => 0x20401030

/-- COL.LIMITS of each part (R30). -/
def limits : Variant → W32
  | .t24 => 0x10402002 | .t48 => 0x10402004 | .t96 => 0x10402008 | .t96p => 0x10402008

/-- COL.CAPACITY of each part (R30). -/
def capacity : Variant → W32
  | .t24 => 0x04000200 | .t48 => 0x04000400 | .t96 => 0x04000800 | .t96p => 0x04000800

end Variant
end Sys2Proof
end

