-- ==== Sys2Proof/Syntax.lean ====
section
/-!
DEFINITION. The commands of the block, one constructor for each row of spec/opcode_table.json, with the operands
that the rules give each step. A step inside one plane names the plane (R232, R236); a step that takes a packet
names where the packet waits; a register command carries the access.
-/
namespace Sys2Proof

/-- Plane A or B (R17). Parts with one plane have plane A only. -/
inductive Pl where
  | a | b
  deriving DecidableEq, Repr

/-- One data beat of IREQ or TREQ: a granule and its byte enables (R358). -/
structure Beat where
  data : Line
  ben : BitVec 64
  deriving DecidableEq, Repr

/-- The IREQ command fields of R359 that every kind but FENCE carries. `len` is the length in bytes minus one. -/
structure Stitch where
  addr : Nat
  len : Nat
  owner : Nat
  priv : Nat
  cls : Nat
  gts : Nat
  esc : Bool
  beats : List Beat
  deriving DecidableEq, Repr

/-- A Stitch message request of R162, R359. -/
structure MsgReq where
  tflock : Bool
  num : Nat
  key : BitVec 64
  unkeyed : Bool
  owner : Nat
  priv : Nat
  beats : List Line
  deriving DecidableEq, Repr

/-- What the control island finds of the two copies of a control-window request (R236). -/
inductive Copies where
  | agree | onlyA | onlyB | differ
  deriving DecidableEq, Repr

/-- The requester of a control-window or channel-aperture access. -/
structure CwReq where
  src : Nat
  tag : Nat
  vc : Nat
  owner : Nat
  priv : Nat
  copies : Copies
  deriving DecidableEq, Repr

/-- A sender of flits: the ends and routers whose output is arbitrated once an fc (R75, R376). Service links and
Mule engines name the VC they inject on (log 10). -/
inductive Node where
  | niLink (p : Nat)
  | folio (g : Nat)
  | quire (q : Nat)
  | service (q vc : Nat)
  | mule (e vc : Nat)
  deriving DecidableEq, Repr

/-- One output of a sender, as the far end's credits name it (R69). -/
inductive OutPort where
  | niLink (p : Nat)
  | folio (g out : Nat)
  | quire (q out : Nat)
  | service (q : Nat)
  | mule (e : Nat)
  deriving DecidableEq, Repr

/-- One flit at a comparator: header, payload and the check word that came with it (R235). -/
structure CmpFlit where
  hdr : BitVec 64
  data : Line
  check : W32
  deriving DecidableEq, Repr

/-- What a fault has made of a half's flit before a comparator: it does not come; the plane brings this one; the half's delay
register gives this one out (R234, R237). -/
inductive HalfFault where
  | lost
  | plane (f : CmpFlit)
  | delay (f : CmpFlit)
  deriving DecidableEq, Repr

/-- A flit of a VC as a link's receiver takes it (R253): how many flits of the VC have come since, its payload, and its link
check word. -/
structure LinkFlit where
  vc : Nat
  back : Nat
  data : Line
  word : BitVec 16
  deriving DecidableEq, Repr

/-- A word of the kettle link as it is received (R247). -/
structure KettleWord where
  data : BitVec 256
  crc : BitVec 16
  deriving DecidableEq, Repr

/-- The block a set of protection regions belongs to (R189, R225). -/
inductive RegionBlock where
  | ni (p : Nat)
  | mul (e : Nat)
  deriving DecidableEq, Repr

/-- Where a plane checker fired, for the attribution of R250: owners that are affected if this is a second fault
(none: every valid owner). -/
structure CheckSite where
  port : Nat
  owners : Option (BitVec 16)
  deriving DecidableEq, Repr

/-- What SFDP discovery reads (R263): the header's signature and minor revision, the density, which modes the tables report
(1-1-4, 1-4-4, 8D-8D-8D), and whether the Quad Enable Requirements demand a non-volatile write. -/
structure Discovery where
  signatureOk : Bool
  minor : Nat
  densityLog2 : Nat
  quadOut : Bool
  quadIo : Bool
  octal : Bool
  qeNonVolatile : Bool
  deriving DecidableEq, Repr

/-- What the measurement of a crossing gave (R97): its code (R99) and its 16 results, in receiver cycles. -/
structure Crossing where
  code : Nat
  results : List Nat
  deriving DecidableEq, Repr

/-- What the check bits of a central-table entry have found (R129): `corrected`, a single-bit error; otherwise an uncorrectable
one. -/
structure EntryErr where
  page : Nat
  corrected : Bool
  deriving DecidableEq, Repr

/-- The wrapper instructions of R372. -/
inductive WsInstr where
  | bypass | extest | intest | mbistRun | lbistRun
  deriving DecidableEq, Repr

/-- The commands of the T96 (spec/opcode_table.json). -/
inductive Instr where
  | slotBoundary
  | outputArbitration (pl : Pl) (node : Node)
  | drainAnswer (pl : Pl) (node : Node) (vc : Nat)
  | creditReturn (pl : Pl) (out : OutPort) (vc : Nat)
  | linkCheckFailure (pl : Pl) (out : OutPort) (got : LinkFlit)
  | linkRetryRequest (pl : Pl) (out : OutPort) (vc : Nat)
  | stitchRead (pl : Pl) (p : Nat) (r : Stitch)
  | stitchFetch (pl : Pl) (p : Nat) (r : Stitch)
  | stitchWrite (pl : Pl) (p : Nat) (r : Stitch)
  | stitchAtomic (pl : Pl) (p : Nat) (r : Stitch) (subop : Nat) (asize : Nat)
  | stitchFence (pl : Pl) (p : Nat) (fcls : BitVec 4)
  | stitchMessage (pl : Pl) (p : Nat) (m : MsgReq)
  | pieceIssue (pl : Pl) (p : Nat)
  | rackReceived (pl : Pl) (p : Nat) (vc : Nat)
  | rdataReceived (pl : Pl) (p : Nat) (vc : Nat)
  | fenceComplete (pl : Pl) (p : Nat)
  | retryReceived (pl : Pl) (p : Nat) (vc : Nat)
  | reissue (pl : Pl) (p : Nat) (tag : Nat)
  | targetRequest (pl : Pl) (p : Nat) (vc : Nat)
  | treqPresent (pl : Pl) (p : Nat)
  | trspResponse (pl : Pl) (p : Nat) (ttag : Nat) (status : Nat) (data : Line)
  | atomicWriteBack (pl : Pl) (p : Nat) (job : Nat)
  | writeMerge (pl : Pl) (p : Nat) (job : Nat)
  | pathFence (pl : Pl) (p : Nat) (vc : Nat)
  | pathFenceAck (pl : Pl) (p : Nat)
  | lockAcquire (pl : Pl) (q : Nat) (vc : Nat)
  | lockRelease (pl : Pl) (q : Nat) (vc : Nat)
  | lockExpiry (pl : Pl) (n : Nat)
  | lockBreak (pl : Pl) (n : Nat) (niFault : Bool)
  | lockFree (r : CwReq) (n : Nat)
  | portLiveFall (p : Nat)
  | portLiveRise (p : Nat)
  | islandLock (pl : Pl) (i : Nat)
  | islandUnlock (pl : Pl) (i : Nat)
  | islandRelock (pl : Pl) (i : Nat) (measured : List Crossing)
  | gtStreamEnable
  | gtRelease (p : Nat)
  | gtLateDelivery (p : Nat)
  | placementLookup (pl : Pl) (q : Nat)
  | tableError (pl : Pl) (err : EntryErr)
  | lookupReply (pl : Pl) (agent : Nat)
  | lookasideInvalidate (pl : Pl) (agent : Nat)
  | lookasideFreeze (pl : Pl) (agent : Nat)
  | freezeAcknowledge (pl : Pl) (agent : Nat) (page : Nat)
  | lookasideRelease (pl : Pl) (agent : Nat)
  | lookasideWatch (pl : Pl) (p : Nat)
  | invalidateAcknowledge (pl : Pl) (q : Nat)
  | periodBoundary (pl : Pl)
  | migrationCopyDone (pl : Pl) (e : Nat)
  | migrationRecopyDone (pl : Pl) (e : Nat)
  | freezeLimitReached (pl : Pl) (page : Nat)
  | silentInitiator (pl : Pl) (agent : Nat) (page : Nat)
  | timedModeEnd (pl : Pl)
  | timedReq (r : CwReq) (value : Bool)
  | timedResume (r : CwReq)
  | pagePin (r : CwReq) (page : Nat)
  | pageUnpin (r : CwReq) (page : Nat)
  | pageDemote (r : CwReq) (page : Nat)
  | queueTailGate (pl : Pl) (q : Nat)
  | ringWriteRack (pl : Pl) (q : Nat)
  | doorbellRack (pl : Pl) (q : Nat)
  | queueStatus (pl : Pl) (q : Nat) (vc : Nat)
  | queueConsume (pl : Pl) (q : Nat) (vc : Nat)
  | consumeArm (pl : Pl) (q : Nat) (vc : Nat)
  | memberLeave (pl : Pl) (q : Nat) (vc : Nat)
  | memberJoin (pl : Pl) (q : Nat) (vc : Nat)
  | heldMessageAdmit (pl : Pl) (f : Nat) (k : Nat)
  | rebalanceBoundary (pl : Pl)
  | keywaitExpiry (pl : Pl) (n : Nat)
  | redeliveryRead (pl : Pl) (q : Nat)
  | lossFinish (pl : Pl) (n : Nat)
  | queueStop (r : CwReq) (n : Nat) (stop : Bool)
  | queueFlush (r : CwReq) (n : Nat) (stop : Bool)
  | regionCommit (r : CwReq) (blk : RegionBlock) (region : Nat) (attr : W32)
  | recordWrite (pl : Pl) (p : Nat)
  | recordWriteRack (pl : Pl) (p : Nat) (vc : Nat)
  | recTailWrite (r : CwReq) (p : Nat) (v : W32)
  | ownerResetGo (r : CwReq) (o : Nat)
  | ownerClose
  | ownerDrainDone
  | ownerResetStall
  | keyDerivationDone (k : Nat)
  | ownerKeySwitch
  | ownerCleanDone
  | ownerOpen
  | channelRegisterWrite (aperture : Bool) (r : CwReq) (e c off : Nat) (b : Beat)
  | channelStart (aperture : Bool) (r : CwReq) (e c : Nat)
  | channelStop (aperture : Bool) (r : CwReq) (e c : Nat)
  | listReadAnswer (pl : Pl) (e : Nat)
  | burstStart (pl : Pl) (e : Nat)
  | muleResponse (pl : Pl) (e : Nat)
  | muleParityError (pl : Pl) (e : Nat)
  | comparatorDecision (p : Nat) (fa fb : Option HalfFault)
  | comparatorReplay (p : Nat) (delayed : CmpFlit)
  | divergeTimeout (p : Nat)
  | planeCheckerFire (pl : Pl) (site : CheckSite)
  | planeOut
  | forceOutA (r : CwReq)
  | forceOutB (r : CwReq)
  | planeResetDone
  | selftestDone (passed : Bool)
  | kettleWordError (w : KettleWord)
  | sweepDone
  | joinStart
  | joinDrainDone
  | joinResume
  | joinAbort
  | pairRejoin (r : CwReq)
  | clearSuspect (r : CwReq)
  | proofTest (p : Nat) (passed : Bool)
  | safeOutAssert
  | safeRelease (r : CwReq) (groups : BitVec 4)
  | deviceReset
  | deviceResetRelease
  | fuseSample (valid : Bool) (root khash : BitVec 256)
  | discoveryDone (d : Discovery)
  | headersRead (a b : List (BitVec 8))
  | flashDqsTimeout
  | imageReadDone (bytes : List (BitVec 8))
  | vigenOutcome (selfCheckOk : Bool)
  | applyDone
  | fabricDone (measured : List Crossing)
  | islandLockTimeout (pl : Pl) (i : Nat)
  | tableDone
  | startupDone
  | imgReboot (r : CwReq)
  | flashRead (r : CwReq)
  | flashProgram (r : CwReq)
  | flashErase (r : CwReq)
  | flashCommandDone (data : List W32)
  | flashTimeout
  | powerRun (r : CwReq) (quires : BitVec 4) (device : Bool)
  | powerSleep (r : CwReq) (quires : BitVec 4) (device : Bool)
  | powerDeepSleep (r : CwReq) (quires : BitVec 4) (device : Bool)
  | powerOff (r : CwReq) (quires : BitVec 4) (device : Bool)
  | autoIdleEntry (q : Nat)
  | idleExit (q : Nat)
  | autoSleepEntry (q : Nat)
  | entryClose (q : Nat)
  | entryVacateDone (q : Nat)
  | entryDrainDone (q : Nat)
  | entryPark (q : Nat)
  | entryCommit (q : Nat)
  | entryDrainLimit (q : Nat)
  | wakeIn
  | alarmWake
  | mpWake (m : Nat)
  | supplyAck (device : Bool) (q : Nat)
  | quireExitComplete (q : Nat) (retentionOk : Bool)
  | padFunctionSwitch (r : CwReq) (v : W32)
  | padHoldEnd (m : Nat)
  | padHoldRelease (r : CwReq)
  | eventRaise (r : CwReq) (src : Nat)
  | eventAck (r : CwReq) (src n : Nat)
  | emitterSelect
  | eventHandoff
  | eventDeliveryRack (pl : Pl) (q : Nat)
  | eventHoldExpiry (src : Nat)
  | ctrValLoWrite (r : CwReq) (idx : Nat) (lo : W32)
  | ctrValLoRead (r : CwReq) (idx : Nat)
  | slotLoRead (r : CwReq)
  | readClear (r : CwReq) (off : Nat) (ben : BitVec 64)
  | w1cWrite (r : CwReq) (off : Nat) (v : W32)
  | registerWrite (r : CwReq) (off : Nat) (b : Beat)
  | mirrorRefresh (pl : Pl)
  | ownerMirrorRead (r : CwReq) (off : Nat) (ben : BitVec 64)
  | dumpBoundary (pl : Pl) (g : Nat)
  | dumpPacket (pl : Pl) (q : Nat)
  | dumpAcknowledge (pl : Pl) (agent : Nat)
  | dumpRecordWrite (pl : Pl) (g : Nat)
  | dumpWriteRack (pl : Pl) (q : Nat)
  | dgTailWrite (r : CwReq) (g : Nat) (v : W32)
  | dgEnable (r : CwReq) (g : Nat)
  | snapshotTrigger (r : CwReq)
  | snapInEdge (m : Nat)
  | snapshotLatch
  | snapshotArm (r : CwReq)
  | portResetRequest (p : Nat)
  | portResetAssert (p : Nat)
  | portResetRelease (p : Nat)
  | portResetWithdraw (p : Nat)
  | unitDown (p : Nat)
  | testModeEntry
  | alwaysOnSupplyRemoved
  | wrapperInstructionUpdate (w : WsInstr)
  deriving DecidableEq, Repr

end Sys2Proof
end

