-- ==== Sys2Proof/Decode.lean ====
section
/-!
DEFINITION. The command that a word spells. No row of the opcode table gives bits, so no word spells a command.
-/
namespace Sys2Proof

/-- The command a word of `nbits` bits spells by the table's bits: none, since the table gives no row any bits. -/
def decodeTableWord (_nbits _w : Nat) : Option Instr := none

end Sys2Proof
end

