-- ==== Sys2Proof/Machine/State.lean ====
section
/-!
DEFINITION. The state of the block as plain data: everything INVENTORY.md lists under "State".
-/
namespace Sys2Proof.Machine

/-- A flit in a buffer: header word (R34), payload, its number within the packet, the poison bit (R253), the fc at which it
entered the present buffer (for R110), and on the T96-P the check word of its plane (R235). -/
structure Flit where
  hdr : BitVec 64
  data : Line
  idx : Nat
  poison : Bool
  since : Nat
  check : W32 := 0
  deriving DecidableEq, Repr

/-- A packet taken whole out of a buffer. -/
structure Packet where
  hdr : BitVec 64
  flits : List Line
  poison : Bool
  deriving DecidableEq, Repr

/-- One piece of a Stitch request, or one packet an NI sends for itself (R40, R43, R162, R192). `kind` is the packet
kind of R32. `cls` is 0 GT, 1 LL, 2 BE, 3 Message. `raddr`, `rlen`: first byte of its Stitch request, and the request's length
minus one (R190). -/
structure Piece where
  ord : Nat
  pidx : Nat
  kind : Nat
  cls : Nat
  owner : Nat
  priv : Nat
  paddr : Nat
  taddr : Nat
  dest : Nat
  placed : Bool
  resolved : Bool
  pepoch : Nat
  ben : BitVec 64
  data : Line
  subop : Nat
  asize : Nat
  gts : Nat
  hdrHi : BitVec 64
  msg : List Line
  tag : Option Nat
  sent : Bool
  loss : Nat
  retryAt : Option Nat
  posted : Bool
  inBuf : Bool
  recWrite : Bool
  heldCounted : Bool
  waitLookup : Bool
  sampled : Bool
  raddr : Nat := 0
  rlen : Nat := 0
  deriving DecidableEq, Repr

/-- The answer to one piece: number of the piece, status, data. -/
structure Answer where
  pidx : Nat
  status : Nat
  data : Line
  deriving DecidableEq, Repr

/-- A Stitch request that has been accepted and not yet completed (R42, R44). -/
structure StReq where
  ord : Nat
  kind : Nat
  cls : Nat
  owner : Nat
  priv : Nat
  addr : Nat
  len : Nat
  pieces : Nat
  posted : Bool
  answers : List Answer
  deriving DecidableEq, Repr

/-- A completion on IRSP: kind, overall status, the status and data of each beat (R42), and TAG[5:0], a free value (R358;
log 9). -/
structure Irsp where
  ord : Nat
  kind : Nat
  status : Nat
  beats : List (Nat × Line)
  tag : BitVec 6 := Config.irspTag ord
  deriving DecidableEq, Repr

/-- A Stitch fence being held (R50). -/
structure Fence where
  ord : Nat
  classes : BitVec 4
  deriving DecidableEq, Repr

/-- A lookaside entry (R130). The list order of the table is the order of use, latest first. -/
structure Look where
  page : Nat
  inframe : Bool
  frame : Nat
  epoch : Nat
  pinned : Bool
  deriving DecidableEq, Repr

/-- A page in an initiator's freeze list (R141): old home, fences still unanswered, VC0 tags still unanswered. `released`: its
RELEASE has come before the FREEZE could be acknowledged; the page is held no more and only the acknowledgement is owed. -/
structure Frozen where
  page : Nat
  home : Nat
  fence1 : Bool
  fence3 : Bool
  gtTags : List Nat
  acked : Bool
  released : Bool := false
  deriving DecidableEq, Repr

/-- A return reservation at a destination NI (R104): its source and stream, bucket and waiting packets. `off`: disabled,
because an island of its path is unlocked (R119). -/
structure RetRes where
  src : Nat
  stream : Nat
  tok : Nat
  queue : List (List Flit)
  off : Bool := false
  deriving DecidableEq, Repr

/-- A GT packet in the release buffer (R109): flits not yet released, age limit and lane. -/
structure GtPkt where
  flits : List Flit
  request : Bool
  limit : Nat
  lane : Nat
  islot : Nat
  late : Bool
  nextFlit : Nat
  deriving DecidableEq, Repr

/-- Where a target NI stands with a request (R52, R54, R195, R374). -/
inductive JPhase where
  | plain       -- granules are presented and answered as they are
  | rmwRead     -- an ATOMIC or a merge waits to read, or is reading, the granule
  | rmwReady    -- the read has been answered; the write-back is due
  | rmwWrite    -- the write-back has been presented
  deriving DecidableEq, Repr

/-- A request that a target NI has taken up. `held`: its flits that are still in the input buffer, because no granule of
it has been presented (R374). -/
structure Job where
  id : Nat
  src : Nat
  rtag : Nat
  vc : Nat
  kind : Nat
  owner : Nat
  priv : Nat
  paddr : Nat
  taddr : Nat
  ben : BitVec 64
  span : Nat
  subop : Nat
  asize : Nat
  opA : Nat
  opB : Nat
  wdata : List Line
  gts : Nat
  late : Bool
  phase : JPhase
  nextGran : Nat
  old : Line
  got : List Answer
  placed : Bool
  held : Nat
  deriving DecidableEq, Repr

/-- A request presented on TREQ and not yet answered (R43, R358). `data` is what the unit sees. -/
structure TPres where
  ttag : Nat
  job : Nat
  gran : Nat
  write : Bool
  addr : Nat
  data : Line
  ben : BitVec 64
  owner : Nat
  priv : Nat
  status : Nat
  deriving DecidableEq, Repr

/-- A path fence that has reached its destination (R51): the jobs it waits for, and whether it came poisoned (R254). -/
structure PFence where
  src : Nat
  tag : Nat
  vc : Nat
  waits : List Nat
  poison : Bool := false
  deriving DecidableEq, Repr

/-- An armed watch slot (R142). -/
structure Watch where
  page : Nat
  dirty : BitVec 1024
  deriving DecidableEq, Repr

/-- One NI half (R232): initiator and target side. `chHeld`: the request that waits at the Stitch request channel for a tag
or for message room, with every later request behind it (R43, R163). -/
structure Ni where
  nextOrd : Nat := 1
  reqs : List StReq := []
  wait : List Piece := []
  chHeld : Option Nat := none
  out : List Piece := []
  fences : List Fence := []
  kept : List Nat := []
  irsp : List Irsp := []
  beTurn : Bool := false
  unkeyed : Nat := 0
  gtq : Tab (List Piece) := []
  tok : Tab Nat := []
  gptr : Nat := 0
  rptr : Nat := 0
  rets : List RetRes := []
  tx : Tab (List Flit) := []
  txUsed : Tab Nat := []
  txCred : Tab Nat := []
  txPtr1 : Nat := 0
  txPtr2 : Nat := 0
  txRun : Nat := 0
  rx : Tab (List Flit) := []
  inbox : Tab (List Flit) := []
  look : List Look := []
  lookups : List (Nat × Nat) := []
  sampleCount : Nat := 0
  frozen : List Frozen := []
  jobs : List Job := []
  pres : List TPres := []
  nextJob : Nat := 0
  pfences : List PFence := []
  watch : List Watch := []
  tombs : List (Nat × Nat) := []
  recQ : List Line := []
  recSeq : Nat := 0
  recOut : Bool := false
  dumpOut : Nat := 0
  mirrorLatch : List (BitVec 64) := []
  mirrorSent : Bool := false
  fault : Bool := false
  deriving DecidableEq, Repr

/-- A bucket of an order table (R67). -/
structure OrdBucket where
  link : Nat := 0
  pend : Nat := 0
  deriving DecidableEq, Repr

/-- A packet sent over a spine link whose tail's credit has not returned (R67): flits still to be credited, bucket. -/
structure SentRec where
  left : Nat
  bucket : Nat
  deriving DecidableEq, Repr

/-- A folio or quire router. Keys: `input*8+vc` for buffers, `output*8+vc` for credits and allocation,
`output*32+input` for the counters of R76, `group*1024+bucket` for the order table, `output` or `32+input` of a link for
`hist`, the last 8 flits sent on it (R253). -/
structure Router where
  buf : Tab (List Flit) := []
  used : Tab Nat := []
  cred : Tab Nat := []
  alloc : Tab Nat := []
  rp : Tab Nat := []
  run : Tab Nat := []
  spent : Tab Nat := []
  asked : Tab Bool := []
  won : Tab Bool := []
  aged : Tab Bool := []
  inRun : Tab Nat := []
  inPtr : Tab Nat := []
  ord : Tab OrdBucket := []
  sent : Tab (List SentRec) := []
  pick : Tab Nat := []
  drains : Tab Bool := []
  completing : Tab Bool := []
  gen : Tab (List (List Flit)) := []
  lastTx : Tab (List Flit) := []
  retryWait : Tab (List Flit) := []
  retried : Tab Nat := []
  poisonRun : Tab Bool := []
  hist : Tab (List Flit) := []
  linkPend : Tab Nat := []
  dumpOut : Nat := 0
  deriving DecidableEq, Repr

/-- Where an address leads: destination port, address there, PLACED and PEPOCH (R34, R130). -/
structure Place where
  dest : Nat
  taddr : Nat
  placed : Bool
  epoch : Nat
  deriving DecidableEq, Repr

/-- A request issued by a Mule engine for part of a burst, or for a list (R213, R214, R218). `mark`: its placement has been
looked at and counted, and whether its sample is still to be sent (R136). -/
structure SubReq where
  tag : Option Nat
  dst : Bool
  write : Bool
  addr : Nat
  span : Nat
  ben : BitVec 64
  done : Bool
  status : Nat
  data : List Line
  mark : Option Bool := none
  deriving DecidableEq, Repr

/-- A burst in progress (R214, R218). `writing`: its writes are formed. `dRoute`: where they go, none from a FREEZE of their
page until they are resolved again (R141, R226). -/
structure Burst where
  off : Nat
  len : Nat
  sAddr : Nat
  dAddr : Nat
  reads : List SubReq
  writes : List SubReq
  writing : Bool
  dRoute : Option Place := none
  deriving DecidableEq, Repr

/-- A request of a channel that was refused or failed (R223): stream offset, address, status, and whether it was a write. -/
structure Failed where
  off : Nat
  addr : Nat
  status : Nat
  write : Bool
  deriving DecidableEq, Repr

/-- A channel's walk (R210 to R223). STATE, CODE, REASON, CAUSE stand in the CH_STATUS word. `markS`, `markD`: as
`SubReq.mark`, for the source and destination of the next burst. -/
structure Chan where
  pos : Nat := 0
  srcList : List (Nat × Nat) := []
  dstList : List (Nat × Nat) := []
  listReads : List SubReq := []
  listing : Bool := false
  bursts : List Burst := []
  nextOk : Nat := 0
  failed : List Failed := []
  halfSeen : Bool := false
  stopCause : Nat := 0
  dirtyLines : List Nat := []
  markS : Option Bool := none
  markD : Option Bool := none
  deriving DecidableEq, Repr

/-- A Mule engine (R206). -/
structure Mule where
  chans : Tab Chan := []
  rr : Tab Nat := []
  tags : List Nat := []
  fault : Bool := false
  tx : Tab (List Flit) := []
  txUsed : Tab Nat := []
  txCred : Tab Nat := []
  rx : Tab (List Flit) := []
  inbox : Tab (List Flit) := []
  look : List Look := []
  lookups : List (Nat × Nat) := []
  sampleCount : Nat := 0
  frozen : List Frozen := []
  dumpOut : Nat := 0
  deriving DecidableEq, Repr

/-- STATE of a lock (R56). -/
inductive LockState where
  | free | held | broken
  deriving DecidableEq, Repr

/-- A lock (R56). `holderM`, `holderPort`, `holderOwner` and `hold` mean something in HELD only. `changedAt` is the
fc of the last grant or release, for R59. -/
structure Lock where
  state : LockState := .free
  holderM : Bool := false
  holderPort : Nat := 0x7F
  holderOwner : Nat := 0
  hold : Nat := 0
  last : Nat := 0x7F
  changedAt : Option Nat := none
  deriving DecidableEq, Repr

/-- What an outstanding request of the service block is for (R72). `void`: its answer no longer matters. -/
inductive SbPurpose where
  | ring (q s : Nat)
  | record (q s : Nat)
  | doorbell (q : Nat)
  | event (src : Nat)
  | dump (g : Nat)
  | redeliver (q s : Nat)
  | redeliverRec (q s : Nat)
  | plt
  | void
  deriving DecidableEq, Repr

/-- An outstanding or waiting request of the service block (R72). `page` is the placed page it touches, if any. -/
structure SbOut where
  tag : Option Nat
  purpose : SbPurpose
  write : Bool
  ll : Bool
  owner : Nat
  priv : Nat
  addr : Nat
  span : Nat
  ben : BitVec 64
  data : List Line
  page : Option Nat
  deriving DecidableEq, Repr

/-- A message admitted to a queue and not yet committed (R167). -/
structure Adm where
  seq : Nat
  src : Nat
  tag : Nat
  reply : Bool
  keyslot : Nat
  srcOwner : Nat
  redel : Bool
  waits : Nat
  flits : List Line
  room : Nat
  flock : Bool
  deriving DecidableEq, Repr

/-- Where the loss of a member stands (R177). -/
structure Loss where
  next : Nat
  finish : Nat
  flits : List Line
  recWord : Option (BitVec 64)
  waitData : Bool
  waitRec : Bool
  bad : Bool
  assigned : Tab Nat
  joinAfter : Bool
  readsDone : Bool
  deriving DecidableEq, Repr

/-- Dynamic state of a queue beside its QDS words (R159, R169 to R177). `qopAt`: fc of the last QOP; `oldHead`: HEAD at the start
of fc `headAt`, in which it moved; `taken`: key slots that a leave or a loss has taken; `leaving`: key slots of a leave at whose
end messages were held, with LEFT still to come; `joinDue`: a recorded JOIN takes effect after this fc. -/
structure QDyn where
  adm : List Adm := []
  recent : List Nat := []
  leaveAt : Option Nat := none
  leaveSlot : Nat := 0
  loss : Option Loss := none
  qopAt : Option Nat := none
  headAt : Option Nat := none
  oldHead : Nat := 0
  taken : List Nat := []
  leaving : List Nat := []
  joinDue : Bool := false
  deriving DecidableEq, Repr

/-- A key move in progress (R173). `target` is the index of B. -/
structure Move where
  flock : Nat
  key : Nat
  fromIdx : Nat
  target : Nat
  atSeq : Nat
  slot : Nat
  deriving DecidableEq, Repr

/-- A message in the hold store (R173, R174). -/
structure Held where
  flock : Nat
  key : Nat
  src : Nat
  tag : Nat
  srcOwner : Nat
  flits : List Line
  deriving DecidableEq, Repr

/-- An entry of the hot-page table (R137). -/
structure Hot where
  page : Nat
  owner : Nat
  counts : List Nat
  writes : Nat
  deriving DecidableEq, Repr

/-- A migration in progress (R140): `step` 1 to 7; `stopping`: aborted, its RELEASEs still unacknowledged. `toFreeze`: ends
to which the packet of the step is still to go; `acks`: those that owe an acknowledgement, with the fc of the packet; `fzFc`:
fc of the first FREEZE (R144). -/
structure Mig where
  page : Nat
  step : Nat
  engine : Nat
  newIn : Bool
  newFrame : Nat
  rounds : Nat
  dirty : BitVec 1024
  oldHome : Nat
  oldEpoch : Nat
  acks : List (Nat × Nat)
  toFreeze : List Nat
  frozen : List Nat
  fzFc : Option Nat
  pin : Bool
  byCmd : Bool
  stopping : Bool
  deriving DecidableEq, Repr

/-- A dump group's work (R331 to R334): slot, number and range of the record under way; what the hosts have latched; the runs
of entries not yet sent and not yet received, by first index; the entries received; WRITEs not yet answered; dumps skipped
since the last record; a dump put off by sleep; slot of the last boundary handled. -/
structure DumpG where
  slot : Nat := 0
  seq : Nat := 0
  first : Nat := 0
  count : Nat := 0
  latch : Tab (BitVec 64) := []
  toSend : List Nat := []
  need : List Nat := []
  entries : Tab (BitVec 64) := []
  active : Bool := false
  writing : Bool := false
  writes : Nat := 0
  bad : Bool := false
  lostSince : Nat := 0
  owed : Bool := false
  doneAt : Option Nat := none
  deriving DecidableEq, Repr

/-- The service block (R25, R72). Keys of `rx`, `tx`: `link*8+vc`. -/
structure Sb where
  rx : Tab (List Flit) := []
  inbox : Tab (List Flit) := []
  tx : Tab (List Flit) := []
  txUsed : Tab Nat := []
  txCred : Tab Nat := []
  outs : List SbOut := []
  locks : Tab Lock := []
  queues : Tab QDyn := []
  kmap : Tab (BitVec 8) := []
  moves : List Move := []
  dbTest : List Nat := []
  held : List Held := []
  ctab : Tab W32 := []
  badPages : List Nat := []
  hot : List Hot := []
  migs : List Mig := []
  cooling : Tab Nat := []
  badEngines : List Nat := []
  withheld : List Nat := []
  invWait : List Nat := []
  invSend : List Nat := []
  cmdDemote : Option Nat := none
  periodAt : Option Nat := none
  rebalAt : Option Nat := none
  timed : Bool := false
  causeTable : Bool := false
  clearSlots : Nat := 0
  slotDirty : Bool := false
  pendingDemotes : List Nat := []
  slotWait : List Nat := []
  mirror : Tab (BitVec 64) := []
  mirrorAt : Option Nat := none
  dumps : Tab DumpG := []
  deriving DecidableEq, Repr

/-- An island (R91, R92). Index 0 to 15 folio, 16 to 19 quire, 20 spine link, 21 the control island (in plane A's table).
`coin`: the consecutive slots, up to 256, in which its phase detector has seen an edge in its window. `gaveUp`: start-up has
left it unlocked (R282). `marked`: the table entries of its paths hold FLAGS[1] (R119). -/
structure Island where
  locked : Bool := false
  copy : BitVec 64 := 0
  disagree : Nat := 0
  coin : Nat := 0
  gaveUp : Bool := false
  marked : Bool := false
  deriving DecidableEq, Repr

/-- One plane (R17, R232). `free` counts the free values used in it, so that both planes of a pair use the same (log 9). -/
structure Plane where
  free : Nat := 0
  rf : Tab W32 := []
  stage : Tab W32 := []
  ctr : Tab (BitVec 48) := []
  ctrHi : Tab W32 := []
  ni : Tab Ni := []
  frt : Tab Router := []
  qrt : Tab Router := []
  mule : Tab Mule := []
  sb : Sb := {}
  isl : Tab Island := []
  deriving DecidableEq, Repr

/-- A record of the address map (R272). -/
structure MapRec where
  base : Nat
  limit : Nat
  port : Nat
  ports : Nat
  ilv : Nat
  deriving DecidableEq, Repr

/-- A GT stream record (R274). -/
structure GtRec where
  src : Nat
  stream : Nat
  dest : Nat
  kinds : Nat
  rate : Nat
  burst : Nat
  lane : Nat
  rlane : Nat
  limit : Nat
  flags : Nat
  deriving DecidableEq, Repr

/-- A page record (R275). -/
structure PageRec where
  first : Nat
  count : Nat
  entry : W32
  deriving DecidableEq, Repr

/-- The configuration an accepted image gives (R270 to R278). -/
structure Img where
  w : Nat := 8
  skew : Nat := 0
  clocks : Tab (BitVec 32) := []
  map : List MapRec := []
  plt : Nat := 0
  lap : Nat := 0
  qap : Nat := 0
  fap : Nat := 0
  mulAper : Nat := 0
  tileBase : Nat := 0
  cwBase : Nat := 0
  seq : Nat := 0
  gt : List GtRec := []
  pages : List PageRec := []
  lockOwner : Tab Nat := []
  words : Tab W32 := []
  ok : Bool := false
  deriving DecidableEq, Repr

/-- The start-up sequencer, flash controller and Vigen (R262 to R288). `offList`: the off-nominal crossings, with the largest
result of each (R98, R100). `phase6At`: the slot in which phase 6 began (R282). `tableHdr`: the header of the path latency
table is on its way (R99). `slept`: the device has returned from Deep sleep, and the start-up registers read their reset values
(R346). -/
structure Boot where
  inReset : Bool := false
  slotSeen : Bool := false
  offList : List (Nat × Nat) := []
  phase6At : Nat := 0
  tableHdr : Bool := false
  slept : Bool := false
  hdrA : List (BitVec 8) := []
  hdrB : List (BitVec 8) := []
  dqsMode : Bool := false
  densityOk : Bool := true
  candidates : List Nat := []
  tried : Nat := 0
  bytes : List (BitVec 8) := []
  digest : BitVec 256 := 0
  store : List (BitVec 8) := []
  root : BitVec 256 := 0
  khash : BitVec 256 := 0
  flOp : Nat := 0
  bootPort : Nat := 0
  bootBase : Nat := 0
  measured : Nat := 0
  firstOff : Nat := 0
  deriving DecidableEq, Repr

/-- The key material in Vigen and the XTS engines (R196 to R198): key 0 to 15 of the owners, 16 the machine key. -/
structure Keys where
  keys : Tab (BitVec 512) := []
  epochs : Tab Nat := []
  next : Option (Nat × BitVec 512) := none
  deriving DecidableEq, Repr

/-- An owner reset in progress (R200). -/
structure OReset where
  step : Nat := 0
  owner : Nat := 0
  slot : Nat := 0
  ready : Bool := false
  doneSlot : Nat := 0
  deriving DecidableEq, Repr

/-- The power states of R292, with the codes of R312. -/
inductive PState where
  | run | idle | sleep | deep | off
  deriving DecidableEq, Repr

/-- Where an entry of R298 stands. -/
inductive EStep where
  | close | vacate | drain | park | commit
  deriving DecidableEq, Repr

/-- An entry in progress (R298). -/
structure Entry where
  target : PState
  step : EStep
  slot : Nat
  start : Nat
  auto : Bool
  device : Bool
  deriving DecidableEq, Repr

/-- The power state of a quire, or of the spine-link island (R292 to R304). `byWake`: the return is that of a pin or alarm
wake. -/
structure QPower where
  state : PState := .run
  entry : Option Entry := none
  exitAt : Option Nat := none
  exitFrom : PState := .run
  pending : Option PState := none
  byWake : Bool := false
  quiet : Nat := 0
  idleSlots : Nat := 0
  flitSeen : Bool := false
  retained : Nat := 0
  supplyReq : Bool := true
  supplyAck : Bool := true
  deriving DecidableEq, Repr

/-- The power sequencer (R292 to R304). `q` holds the quires and, at 4, the spine-link island; `devSlot` is the slot of the
last quire commit; `wakeBits`: the bits of WAKE_STATUS that wakes have set since the last device entry began (R301, R346). -/
structure Power where
  dev : PState := .run
  devTarget : Option PState := none
  devExitAt : Option Nat := none
  devFrom : PState := .run
  devWake : Bool := false
  devSlot : Nat := 0
  wakeBits : W32 := 0
  q : Tab QPower := []
  devSupplyReq : Bool := true
  devSupplyAck : Bool := true
  deriving DecidableEq, Repr

/-- One MP pad (R309, R310): function in effect, slot of a switch that will hold it from the next slot on, slot of the switch that
holds it, level it keeps while held (`none`: high impedance). -/
structure MpPad where
  active : Nat := 0
  switchAt : Option Nat := none
  holdFrom : Option Nat := none
  latched : Option Bool := none
  deriving DecidableEq, Repr

/-- The pads (R251, R252, R306 to R310). -/
structure Pads where
  held : Bool := false
  safe : BitVec 4 := 0
  safePend : BitVec 4 := 0
  releasePend : BitVec 4 := 0
  mp : Tab MpPad := []
  snapOut : Bool := false
  pairOkHeld : Bool := false
  deriving DecidableEq, Repr

/-- Delivery states of an event source (R317). -/
inductive EvState where
  | idle | pending | sent | hold
  deriving DecidableEq, Repr

/-- The event block (R314 to R319). `queue` holds the pending sources, earliest first; `ccNew`: those that became PENDING in
cc `ccAt`, in ascending number (R318). -/
structure Evt where
  count : Tab Nat := []
  st : Tab EvState := []
  queue : List Nat := []
  ccAt : Nat := 0
  ccNew : List Nat := []
  forming : Option Nat := none
  inflight : Nat := 0
  holdTill : Tab Nat := []
  toSend : List (Nat × Nat × Nat) := []
  deriving DecidableEq, Repr

/-- The snapshot block (R335, R336). `missAt`: slot of the last triggers that came while HELD; their causes, the source and
counter of the first, and their number, for an ARM later in the slot. -/
structure Snp where
  armed : Bool := false
  held : Bool := false
  part : Bool := false
  cause : BitVec 4 := 0
  trig : Option Nat := none
  missAt : Option Nat := none
  missCause : BitVec 4 := 0
  missInfo : W32 := 0
  missed : Nat := 0
  deriving DecidableEq, Repr

/-- Plane states of R246, with the codes of PAIR.STATE. -/
inductive PlState where
  | inService | reset | selftest | sweep | ready | join | failed
  deriving DecidableEq, Repr

/-- What the comparator has of one half: the flit in the half's comparator copy register and the flit it compares, which for
half A has come through the egress delay register (R237, R241). -/
structure Seen where
  copy : Flit
  flit : Flit
  deriving DecidableEq, Repr

/-- One port's comparator (R237 to R244). `delay`: half A's flits in the egress delay register, each with the fc in which it
leaves; `inB`: half B's flits that have arrived. `copyA`, `copyB`: comparator copies of the flits under replay, since fc
`waitAt`. `queue`: the replay queue, with the fc of each arrival. `faultSeen`: the plane that the port itself has found faulty.
`testAt`: fc of a proof test that holds the next flit; `tests`: due slots of the proof test that are past. -/
structure Cmp where
  delay : List (Nat × Flit) := []
  inB : List Flit := []
  copyA : Option Flit := none
  copyB : Option Flit := none
  waitAt : Option Nat := none
  diverged : Option Nat := none
  queue : List (Nat × Option Seen × Option Seen) := []
  single : Bool := false
  fromB : Bool := false
  suspect : Bool := false
  latent : Bool := false
  faultSeen : Option Pl := none
  transients : List Nat := []
  pattern : Nat := 0
  testAt : Option Nat := none
  tests : Nat := 0
  deriving DecidableEq, Repr

/-- The redundant pair (R232 to R250). `since`, `sinceFc`: slot and fc at which the state of the plane that is out began.
`kfails`, `resent`: kettle words that have failed in a row, and those resent in this sweep (R247). `edges`: the slot edges that
plane B has still to receive, by fc, with the slot (R233). -/
structure Pair where
  a : PlState := .inService
  b : PlState := .inService
  window : Bool := false
  restarts : Nat := 0
  cause : Nat := 0
  port : Nat := 0
  faulty : Option Pl := none
  slot : Nat := 0
  rejoin : Bool := false
  joining : Option Nat := none
  resumeWait : Bool := false
  aborted : Bool := false
  notBefore : Nat := 0
  since : Nat := 0
  sinceFc : Nat := 0
  kfails : Nat := 0
  resent : Nat := 0
  edges : List (Nat × BitVec 64) := []
  cmp : Tab Cmp := []
  deriving DecidableEq, Repr

/-- The shared edge of a port (R358 to R365) with the GT release buffer (R109, R232). `ingress`: the ingress delay register,
half B's flits with their check words and the fc in which each leaves (R234). -/
structure Port where
  unitUp : Bool := true
  prstReq : Bool := false
  prstAck : Bool := false
  inReset : Bool := false
  ready : Bool := false
  live : Bool := false
  draining : Bool := false
  poisoning : Bool := false
  poisonFrom : Nat := 0
  gtRel : List GtPkt := []
  ingress : List (Nat × Flit) := []
  deriving DecidableEq, Repr

/-- Test access (R372, R373). -/
structure Test where
  mode : Bool := false
  wir : WsInstr := .bypass
  deriving DecidableEq, Repr

/-- What hardware did to register words in fabric cycle `fc`, for R12: bits it set, by word; what it added to count fields, by
word and low bit, with the field's length and its value before. -/
structure Hw where
  fc : Nat := 0
  set : Tab W32 := []
  inc : Tab (Nat × Nat × Nat) := []
  deriving DecidableEq, Repr

/-- The answer to a control-window or aperture access (R343, R344). -/
structure CwAnswer where
  src : Nat
  tag : Nat
  status : Nat
  data : Line
  deriving DecidableEq, Repr

/-- The state of the block. -/
structure State where
  pending : List Instr := []
  variant : Variant := .t96
  freeCtr : Nat := 0
  fc : Nat := 0
  fcInSlot : Nat := 0
  slot : BitVec 64 := 0
  rf : Tab W32 := []
  hw : Hw := {}
  answers : List CwAnswer := []
  img : Img := {}
  boot : Boot := {}
  keys : Keys := {}
  oreset : OReset := {}
  pw : Power := {}
  pads : Pads := {}
  evt : Evt := {}
  snp : Snp := {}
  pair : Pair := {}
  ports : Tab Port := []
  test : Test := {}
  pa : Plane := {}
  pb : Plane := {}
  deriving DecidableEq, Repr

/-- No command of the block stops it: the manual answers every error with a status code, an event or a record
(R3, R13, R14), so there is no fault. Nobody raises one; safe. -/
inductive Fault where
  deriving DecidableEq, Repr

/-- Why a command is turned away. -/
inductive Refusal where
  /-- The command has no meaning in this model; raised by the dispatch only; safe. -/
  | notModelled (mnemonic : String)
  deriving DecidableEq, Repr

/-- The block of variant `v` right after device reset, before anything has been read from the flash. -/
def State.resetOf (v : Variant) : State := { variant := v }

/-- The machine right after reset (R27 gives the T96's values; log 2): every field at the value the manual
states, and the fields for which it states none at the values of log 1. -/
def State.reset : State := State.resetOf .t96

end Sys2Proof.Machine
end

