-- ==== Sys2Proof/Machine/Flags.lean ====
section
/-!
DEFINITION. Status codes (R14) and their ranking (R16).
-/
namespace Sys2Proof.Machine

/-- 0x0: completed as requested (R14). -/
def stOk : Nat := 0
/-- 0x1: denied by the protection unit or the privilege rule (R14). -/
def stProt : Nat := 1
/-- 0x2: a stale placement epoch reached an old home (R14). -/
def stPlace : Nat := 2
/-- 0x3: an alignment rule is violated (R14). -/
def stAlign : Nat := 3
/-- 0x4: the address falls in no target and no window (R14). -/
def stDecode : Nat := 4
/-- 0x5: a gate refused 12 times in a row (R14, R86). -/
def stBusy : Nat := 5
/-- 0x6: a gate refused this attempt (R14, R15). -/
def stRetry : Nat := 6
/-- 0x7: the data was corrupted by a detected fault (R14). -/
def stPoison : Nat := 7
/-- 0x8: a GT flit arrived after its deadline (R14). -/
def stLate : Nat := 8
/-- 0x9: the lock was acquired after it had been broken (R14). -/
def stBroken : Nat := 9

/-- The place of a status in the order of R16; OK is last. -/
def stRank (st : Nat) : Nat :=
  if st = stProt then 0 else if st = stDecode then 1 else if st = stAlign then 2 else if st = stPlace then 3
  else if st = stPoison then 4 else if st = stLate then 5 else if st = stBusy then 6 else if st = stBroken then 7
  else 8

/-- The one of two statuses that ranks first under R16. -/
def stFirst (x y : Nat) : Nat := if stRank y < stRank x then y else x

/-- The status of a list that ranks first under R16; OK when there is none. -/
def stFirstOf (l : List Nat) : Nat := l.foldl stFirst stOk

/-- The status a target unit's TRSP answer is delivered with (R361): OK, POISON and ERR_DECODE as they are, every
other code as POISON. -/
def stOfUnit (st : Nat) : Nat :=
  if st = stOk then stOk else if st = stDecode then stDecode else stPoison

/-- Adds `n` to a counter field of `len` bits that saturates (R10, R16). -/
def satAdd (len v n : Nat) : Nat := min (v + n) (2 ^ len - 1)

end Sys2Proof.Machine
end

