-- ==== Sys2Proof/Machine/Operands.lean ====
section
/-!
DEFINITION. Bit fields, the flit header word (R34, R35), the command flit (R37) and the splitting of a request into
granules (R40).
-/
namespace Sys2Proof.Machine

/-- Bits `[lo+len-1:lo]` of a word (R9). -/
def fld {n : Nat} (w : BitVec n) (lo len : Nat) : Nat := (w.toNat / 2 ^ lo) % 2 ^ len

/-- One bit of a word. -/
def bit {n : Nat} (w : BitVec n) (i : Nat) : Bool := w.getLsbD i

/-- The word with bits `[lo+len-1:lo]` replaced by `v`. -/
def setFld {n : Nat} (w : BitVec n) (lo len v : Nat) : BitVec n :=
  BitVec.ofNat n (w.toNat - fld w lo len * 2 ^ lo + (v % 2 ^ len) * 2 ^ lo)

/-- The word with bit `i` replaced. -/
def setBit {n : Nat} (w : BitVec n) (i : Nat) (b : Bool) : BitVec n := setFld w i 1 (if b then 1 else 0)

/-- 1 for true. -/
def b2n (b : Bool) : Nat := if b then 1 else 0

/-- Byte `i` of a granule. -/
def byteAt (d : Line) (i : Nat) : Nat := fld d (8 * i) 8

/-- The bits of a granule that a byte-enable mask selects (R37). -/
def benMask (ben : BitVec 64) : Line :=
  BitVec.ofNat 512 ((List.range 64).foldl (fun a i => if ben.getLsbD i then a + 255 * 2 ^ (8 * i) else a) 0)

/-- The granule `old` with the enabled bytes of `new` merged in (R195). -/
def mergeLine (old new : Line) (ben : BitVec 64) : Line :=
  (old &&& ~~~(benMask ben)) ||| (new &&& benMask ben)

/-- All byte enables set. -/
def benAll : BitVec 64 := BitVec.allOnes 64

/-- Byte enables of bytes `lo` to `lo + n - 1` of a granule. -/
def benRange (lo n : Nat) : BitVec 64 := BitVec.ofNat 64 ((2 ^ n - 1) * 2 ^ lo)

/-! Packet kinds (R32). -/
def kRead : Nat := 0
def kFetch : Nat := 1
def kWrite : Nat := 2
def kAtomic : Nat := 3
def kMessage : Nat := 4
def kFence : Nat := 5
def kLock : Nat := 6
def kQop : Nat := 7
def kMgmt : Nat := 8
def kRdata : Nat := 9
def kRack : Nat := 10

/-! Endpoint codes (R34, R65). -/
def epService : Nat := 0x7F
def epMule (e : Nat) : Nat := 0x70 + e
def epFolio (g : Nat) : Nat := 0x60 + g
def epQuire (q : Nat) : Nat := 0x78 + q

/-- The Mule engine an endpoint code names (R34). -/
def muleOf (ep : Nat) : Option Nat := if 0x70 ≤ ep ∧ ep ≤ 0x77 then some (ep - 0x70) else none

/-- The quire of an endpoint code: the quire whose service link leads to it (R20, R64, R65). -/
def quireOfEp (ep : Nat) : Nat :=
  if ep ≤ 95 then ep / 24 else if 0x60 ≤ ep ∧ ep ≤ 0x6F then (ep - 0x60) / 4
  else if 0x70 ≤ ep ∧ ep ≤ 0x77 then (ep - 0x70) / 2 else if 0x78 ≤ ep ∧ ep ≤ 0x7B then ep - 0x78 else 0

/-- The header word of R34 with bits `[63:39]` zero. -/
def mkHdr (dest src vc kind priv owner tag len : Nat) : BitVec 64 :=
  BitVec.ofNat 64 (dest % 2 ^ 7 + (src % 2 ^ 7) * 2 ^ 7 + (vc % 2 ^ 3) * 2 ^ 14 + (kind % 2 ^ 4) * 2 ^ 17
    + (priv % 2 ^ 2) * 2 ^ 21 + (owner % 2 ^ 4) * 2 ^ 23 + (tag % 2 ^ 6) * 2 ^ 27 + (len % 2 ^ 6) * 2 ^ 33)

def hDest (h : BitVec 64) : Nat := fld h 0 7
def hSrc (h : BitVec 64) : Nat := fld h 7 7
def hVc (h : BitVec 64) : Nat := fld h 14 3
def hKind (h : BitVec 64) : Nat := fld h 17 4
def hPriv (h : BitVec 64) : Nat := fld h 21 2
def hOwner (h : BitVec 64) : Nat := fld h 23 4
def hTag (h : BitVec 64) : Nat := fld h 27 6
def hLen (h : BitVec 64) : Nat := fld h 33 6
/-! Kind-dependent fields (R35). -/
def hPepoch (h : BitVec 64) : Nat := fld h 39 8
def hPlaced (h : BitVec 64) : Bool := bit h 47
def hIslot (h : BitVec 64) : Nat := fld h 48 4
def hGts (h : BitVec 64) : Nat := fld h 52 5
def hStatus (h : BitVec 64) : Nat := fld h 39 4
def hTflock (h : BitVec 64) : Bool := bit h 39
def hQueue (h : BitVec 64) : Nat := fld h 40 14
def hFlock (h : BitVec 64) : Nat := fld h 40 10
def hKeyslot (h : BitVec 64) : Nat := fld h 50 12
def hMop (h : BitVec 64) : Nat := fld h 39 5
def hMarg (h : BitVec 64) : Nat := fld h 44 20

/-- The request fields of R35: PEPOCH, PLACED, ISLOT and GTS. -/
def reqHi (pepoch : Nat) (placed : Bool) (islot gts : Nat) : BitVec 64 :=
  BitVec.ofNat 64 ((pepoch % 256) * 2 ^ 39 + b2n placed * 2 ^ 47 + (islot % 16) * 2 ^ 48 + (gts % 32) * 2 ^ 52)

/-- The response fields of R35: STATUS and ISLOT. -/
def rspHi (status islot : Nat) : BitVec 64 :=
  BitVec.ofNat 64 ((status % 16) * 2 ^ 39 + (islot % 16) * 2 ^ 48)

/-- The MESSAGE fields of R35. -/
def msgHi (tflock : Bool) (num keyslot : Nat) : BitVec 64 :=
  if tflock then BitVec.ofNat 64 (2 ^ 39 + (num % 1024) * 2 ^ 40 + (keyslot % 4096) * 2 ^ 50)
  else BitVec.ofNat 64 ((num % 16384) * 2 ^ 40)

/-- The MGMT fields of R35. -/
def mgmtHi (mop marg : Nat) : BitVec 64 := BitVec.ofNat 64 ((mop % 32) * 2 ^ 39 + (marg % 2 ^ 20) * 2 ^ 44)

/-- The command flit of R37. `ops` are bytes 32 to 63 (OPA, OPB). -/
def cmdFlit (paddr taddr : Nat) (ben : BitVec 64) (span subop asize : Nat) (ops : Nat) : Line :=
  BitVec.ofNat 512 (paddr % 2 ^ 48 + (taddr % 2 ^ 48) * 2 ^ 64 + ben.toNat * 2 ^ 128 + (span % 256) * 2 ^ 192
    + (subop % 256) * 2 ^ 200 + (asize % 256) * 2 ^ 208 + (ops % 2 ^ 256) * 2 ^ 256)

def cPaddr (d : Line) : Nat := fld d 0 48
def cTaddr (d : Line) : Nat := fld d 64 48
def cBen (d : Line) : BitVec 64 := BitVec.ofNat 64 (fld d 128 64)
def cSpan (d : Line) : Nat := fld d 192 8
def cSubop (d : Line) : Nat := fld d 200 8
def cAsize (d : Line) : Nat := fld d 208 8
def cOpA (d : Line) : Nat := fld d 256 128
def cOpB (d : Line) : Nat := fld d 384 128

/-- The flits of a packet. -/
def mkFlits (hdr : BitVec 64) (lines : List Line) (now : Nat) : List Flit :=
  lines.zipIdx.map (fun (d, i) => { hdr := hdr, data := d, idx := i, poison := false, since := now })

/-- The VC of a request of class `cls` (R32, R68). -/
def reqVc (cls : Nat) : Nat := if cls = 0 then 0 else if cls = 1 then 1 else if cls = 2 then 3 else 5

/-- The paired response VC (R32). -/
def rspVc (vc : Nat) : Nat :=
  if vc = 0 then 0 else if vc = 1 then 2 else if vc = 6 then 6 else 4

/-- The arbitration tier of a VC (R68). -/
def tierOf (vc : Nat) : Nat :=
  if vc = 0 then 0 else if vc = 1 ∨ vc = 2 ∨ vc = 6 then 1 else 2

/-- The VCs of a tier (R68). -/
def tierVcs (tier : Nat) : List Nat :=
  if tier = 0 then [0] else if tier = 1 then [1, 2, 6] else [3, 4, 5]

/-- Buffer depth of a VC at every router input and fabric end (R68, R374). -/
def vcDepth (vc : Nat) : Nat := if vc = 6 then 4 else 8

/-- Number of granules a request of `len + 1` bytes at `addr` touches (R40, R359). -/
def granules (addr len : Nat) : Nat := (addr % 64 + len + 1 + 63) / 64

/-- First byte of granule piece `i` of a request at `addr` (R40). -/
def pieceAddr (addr i : Nat) : Nat := if i = 0 then addr else (addr / 64 + i) * 64

/-- Byte enables of piece `i` of a request of `len + 1` bytes at `addr` (R37, R40). -/
def pieceBen (addr len i : Nat) : BitVec 64 :=
  let first := pieceAddr addr i
  let last := min (addr + len) ((first / 64) * 64 + 63)
  benRange (first % 64) (last - first + 1)

/-- A request crosses a 4 KiB boundary (R40). -/
def crosses4k (addr len : Nat) : Bool := decide (addr / 4096 ≠ (addr + len) / 4096)

/-- The least element of a list, if any. -/
def leastOf (l : List Nat) : Option Nat := l.foldl (fun a x => match a with | none => some x | some y => some (min x y)) none

/-- The lowest number below `n` that the list does not hold. -/
def lowestFree (n : Nat) (used : List Nat) : Option Nat := (List.range n).find? (fun i => !used.contains i)

/-- The first element of `l` at or after pointer `p`, wrapping past the highest number `n` (R76): the one with the
least distance from the pointer. -/
def rotatePick (l : List Nat) (p n : Nat) : Option Nat :=
  match l with
  | [] => none
  | x :: rest => some (rest.foldl (fun a y => if (y + n - p % n) % n < (a + n - p % n) % n then y else a) x)

end Sys2Proof.Machine
end

