-- ==== Sys2Proof/Machine/CheckWord.lean ====
section
/-!
DEFINITION. The check words: CRC-32C of a flit in its plane (R235), the CRC-16 of a link flit (R253) and of a word of the
kettle link (R247).
-/
namespace Sys2Proof.Machine

/-- The `n` bytes of a number, least significant first. -/
def bytesLE (n v : Nat) : List Nat := (List.range n).map (fun i => v / 2 ^ (8 * i) % 256)

/-- One byte of CRC-32C, bit by bit: reflected polynomial 0x82F63B78. -/
def crcByte (crc byte : Nat) : Nat :=
  (List.range 8).foldl (fun c _ => if c % 2 = 1 then c / 2 ^^^ 0x82F63B78 else c / 2) (crc ^^^ byte)

/-- CRC-32C of bytes. -/
def crc32c (l : List Nat) : Nat := l.foldl crcByte 0xFFFFFFFF ^^^ 0xFFFFFFFF

/-- The check word of a flit in a plane (R235). -/
def checkWord (pl : Pl) (hdr : BitVec 64) (data : Line) : W32 :=
  BitVec.ofNat 32 (crc32c (bytesLE 8 hdr.toNat ++ bytesLE 64 data.toNat ++ [match pl with | .a => 0 | .b => 1]))

/-- The flit's check word passes in the plane. -/
def checkPass (pl : Pl) (f : Flit) : Bool := decide (f.check = checkWord pl f.hdr f.data)

/-- One bit, the next of a word, into a CRC-16 with polynomial 0x1021. -/
def crc16Bit (c b : Nat) : Nat := if (c / 0x8000 + b) % 2 = 1 then c * 2 % 0x10000 ^^^ 0x1021 else c * 2 % 0x10000

/-- CRC-16 of the `n` bits of a number, most significant first, from 0: the manual gives the polynomial alone (log 15). -/
def crc16 (n v : Nat) : Nat := (List.range n).foldl (fun c i => crc16Bit c (v / 2 ^ (n - 1 - i) % 2)) 0

/-- The link check word of a flit: over the header word and the payload, 576 bits (R253). -/
def linkCheck (hdr : BitVec 64) (data : Line) : BitVec 16 := BitVec.ofNat 16 (crc16 576 (hdr.toNat + data.toNat * 2 ^ 64))

/-- The CRC of a word of the kettle link (R247). -/
def kettleCrc (w : BitVec 256) : BitVec 16 := BitVec.ofNat 16 (crc16 256 w.toNat)

end Sys2Proof.Machine
end

