-- ==== Sys2Proof/Machine/Crypto.lean ====
section
/-!
DEFINITION. The ciphers and the hash of the manual: AES-256 (FIPS 197), XTS over one granule (R194), the key derivation
(R196), SHA-256 and ECDSA verification on P-256 (R279). Bytes are natural numbers below 256, first byte first.
-/
namespace Sys2Proof.Machine

/-- The AES S-box: byte `n` of the constant (FIPS 197). -/
def aesS (n : Nat) : Nat :=
  0x16BB54B00F2D99416842E6BF0D89A18CDF2855CEE9871E9B948ED9691198F8E19E1DC186B95735610EF6034866B53E708A8BBD4B1F74DDE8C6B4A61C2E2578BA08AE7A65EAF4566CA94ED58D6D37C8E779E4959162ACD3C25C2406490A3A32E0DB0B5EDE14B8EE4688902A22DC4F816073195D643D7EA7C41744975FEC130CCDD2F3FF1021DAB6BCF5389D928F40A351A89F3C507F02F94585334D43FBAAEFD0CF584C4A39BECB6A5BB1FC20ED00D153842FE329B3D63B52A05A6E1B1A2C830975B227EBE28012079A059618C323C7041531D871F1E5A534CCF73F362693FDB7C072A49CAFA2D4ADF04759FA7DC982CA76ABD7FE2B670130C56F6BF27B777C63 / 2 ^ (8 * n) % 256

/-- The inverse S-box. -/
def aesInvS (n : Nat) : Nat :=
  0x7D0C2155631469E126D677BA7E042B17619953833CBBEBC8B0F52AAE4D3BE0A0EF9CC9939F7AE52D0D4AB519A97F51605FEC8027591012B131C7078833A8DD1FF45ACD78FEC0DB9A2079D2C64B3E56FC1BBE18AA0E62B76F89C5291D711AF1476EDF751CE837F9E28535ADE72274AC9673E6B4F0CECFF297EADC674F4111913A6B8A130103BDAFC1020F3FCA8F1E2CD00645B3B80558E4F70AD3BC8C00ABD890849D8DA75746155EDAB9EDFD5048706C92B6655DCC5CA4D41698688664F6F87225D18B6D49A25B76B224D92866A12E084EC3FA420B954CEE3D23C2A632947B54CBE9DEC444438E3487FF2F9B8239E37CFBD7F3819EA340BF38A53630D56A0952 / 2 ^ (8 * n) % 256

/-- Multiplication by x in GF(2^8). -/
def xtime (a : Nat) : Nat := if 128 ≤ a then (2 * a) ^^^ 0x11B else 2 * a

/-- Multiplication in GF(2^8) by a constant below 16. -/
def gmul (a c : Nat) : Nat :=
  let a2 := xtime a
  let a4 := xtime a2
  let a8 := xtime a4
  (if c % 2 = 1 then a else 0) ^^^ (if c / 2 % 2 = 1 then a2 else 0) ^^^ (if c / 4 % 2 = 1 then a4 else 0)
    ^^^ (if c / 8 % 2 = 1 then a8 else 0)

/-- Byte `i` of a list. -/
def nth (l : List Nat) (i : Nat) : Nat := l.getD i 0

/-- Byte-wise exclusive or. -/
def xorB (x y : List Nat) : List Nat := List.zipWith (fun a b => a ^^^ b) x y

/-- The key schedule of AES-256 as words of 4 bytes, extended to `n` more words (FIPS 197). -/
def aesExpand (n : Nat) (w : List (List Nat)) (rcon : Nat) : List (List Nat) :=
  match n with
  | 0 => w
  | n + 1 =>
    let i := w.length
    let t := w.getD (i - 1) []
    let (t, rcon) := if i % 8 = 0 then
        (xorB ((t.drop 1 ++ t.take 1).map aesS) [rcon, 0, 0, 0], xtime rcon)
      else if i % 8 = 4 then (t.map aesS, rcon) else (t, rcon)
    aesExpand n (w ++ [xorB (w.getD (i - 8) []) t]) rcon

/-- The 15 round keys of a 32-byte key. -/
def aesKeys (key : List Nat) : List (List Nat) :=
  let w := aesExpand 52 ((List.range 8).map (fun i => (key.drop (4 * i)).take 4)) 1
  (List.range 15).map (fun r => ((w.drop (4 * r)).take 4).flatten)

/-- ShiftRows. -/
def shiftRows (s : List Nat) : List Nat := (List.range 16).map (fun i => nth s ((i + 4 * (i % 4)) % 16))

/-- InvShiftRows. -/
def invShiftRows (s : List Nat) : List Nat := (List.range 16).map (fun i => nth s ((i + 16 - 4 * (i % 4)) % 16))

/-- MixColumns with the row `m` of its matrix. -/
def mixColumns (m : List Nat) (s : List Nat) : List Nat :=
  (List.range 16).map (fun i =>
    (List.range 4).foldl (fun a k => a ^^^ gmul (nth s (i / 4 * 4 + k)) (nth m ((k + 4 - i % 4) % 4))) 0)

/-- The rounds of encryption after the first key. -/
def aesEncRounds (ks : List (List Nat)) (s : List Nat) : List Nat :=
  match ks with
  | [] => s
  | [k] => xorB (shiftRows (s.map aesS)) k
  | k :: rest => aesEncRounds rest (xorB (mixColumns [2, 3, 1, 1] (shiftRows (s.map aesS))) k)

/-- AES-256 encryption of one block. -/
def aesEnc (key block : List Nat) : List Nat :=
  match aesKeys key with
  | [] => block
  | k :: rest => aesEncRounds rest (xorB block k)

/-- The rounds of decryption after the last key, keys in reverse order. -/
def aesDecRounds (ks : List (List Nat)) (s : List Nat) : List Nat :=
  match ks with
  | [] => s
  | [k] => xorB ((invShiftRows s).map aesInvS) k
  | k :: rest => aesDecRounds rest (mixColumns [14, 11, 13, 9] (xorB ((invShiftRows s).map aesInvS) k))

/-- AES-256 decryption of one block. -/
def aesDec (key block : List Nat) : List Nat :=
  match (aesKeys key).reverse with
  | [] => block
  | k :: rest => aesDecRounds rest (xorB block k)

/-- The number that bytes spell, least significant first. -/
def ofBytesLE (l : List Nat) : Nat := l.foldr (fun b a => b + 256 * a) 0

/-- The `n` bytes of a number, most significant first. -/
def bytesBE (n v : Nat) : List Nat := (bytesLE n v).reverse

/-- The number that bytes spell, most significant first. -/
def ofBytesBE (l : List Nat) : Nat := ofBytesLE l.reverse

/-- Multiplication of an XTS tweak by x (IEEE 1619). -/
def xtsNext (t : List Nat) : List Nat :=
  let v := ofBytesLE t * 2
  bytesLE 16 (if 2 ^ 128 ≤ v then (v - 2 ^ 128) ^^^ 0x87 else v)

/-- The blocks of a granule under XTS: `f` is the block cipher, `t` the first block's tweak. -/
def xtsBlocks (f : List Nat → List Nat) (n : Nat) (t data : List Nat) : List Nat :=
  match n with
  | 0 => []
  | n + 1 => xorB (f (xorB (data.take 16) t)) t ++ xtsBlocks f n (xtsNext t) (data.drop 16)

/-- XTS over one granule with a 64-byte key: data key in bytes 0 to 31, tweak key in bytes 32 to 63; the tweak value is
the granule number (R194, R196). -/
def xtsLine (dec : Bool) (key : BitVec 512) (gran : Nat) (d : Line) : Line :=
  let k := bytesLE 64 key.toNat
  let t := aesEnc (k.drop 32) (bytesLE 16 gran)
  BitVec.ofNat 512 (ofBytesLE (xtsBlocks (if dec then aesDec (k.take 32) else aesEnc (k.take 32)) 4 t (bytesLE 64 d.toNat)))

/-- Doubling in GF(2^128) of a CMAC subkey (SP 800-38B). -/
def cmacDbl (l : List Nat) : List Nat :=
  let v := ofBytesBE l * 2
  bytesBE 16 (if 2 ^ 128 ≤ v then (v - 2 ^ 128) ^^^ 0x87 else v)

/-- CMAC over a message of at most `fuel` blocks (SP 800-38B). -/
def cmacRun (fuel : Nat) (key k1 k2 x m : List Nat) : List Nat :=
  match fuel with
  | 0 => x
  | fuel + 1 =>
    if 16 < m.length then cmacRun fuel key k1 k2 (aesEnc key (xorB x (m.take 16))) (m.drop 16)
    else if m.length = 16 then aesEnc key (xorB x (xorB m k1))
    else aesEnc key (xorB x (xorB (m ++ 0x80 :: List.replicate (15 - m.length) 0) k2))

/-- AES-256-CMAC (SP 800-38B). -/
def cmac (key m : List Nat) : List Nat :=
  let k1 := cmacDbl (aesEnc key (List.replicate 16 0))
  cmacRun (m.length / 16 + 1) key k1 (cmacDbl k1) (List.replicate 16 0) m

/-- The 512-bit key of owner `o` (0x10: the machine key) at an epoch, K(1) to K(4) one after another (R196). -/
def deriveKey (root : BitVec 256) (o epoch : Nat) : BitVec 512 :=
  let rk := bytesLE 32 root.toNat
  let label := [0x58, 0x49, 0x45, 0x4C, 0x41, 0x2D, 0x4F, 0x57, 0x4E, 0x45, 0x52]
  let k (i : Nat) : List Nat := cmac rk (bytesBE 4 i ++ label ++ [0, o] ++ bytesBE 2 epoch ++ bytesBE 4 512)
  BitVec.ofNat 512 (ofBytesLE (k 1 ++ k 2 ++ k 3 ++ k 4))

/-! ### SHA-256 (FIPS 180-4) -/

/-- Round constant `i`. -/
def shaK (i : Nat) : Nat :=
  0xC67178F2BEF9A3F7A4506CEB90BEFFFA8CC7020884C8781478A5636F748F82EE682E6FF35B9CCA4F4ED8AA4A391C0CB334B0BCB52748774C1E376C0819A4C116106AA070F40E3585D6990624D192E819C76C51A3C24B8B70A81A664BA2BFE8A192722C8581C2C92E766A0ABB650A735453380D134D2C6DFC2E1B213827B70A851429296706CA6351D5A79147C6E00BF3BF597FC7B00327C8A831C66D983E515276F988DA5CB0A9DC4A7484AA2DE92C6F240CA1CC0FC19DC6EFBE4786E49B69C1C19BF1749BDC06A780DEB1FE72BE5D74550C7DC3243185BE12835B01D807AA98AB1C5ED5923F82A459F111F13956C25BE9B5DBA5B5C0FBCF71374491428A2F98 / 2 ^ (32 * i) % 2 ^ 32

def rotr (n x : Nat) : Nat := x / 2 ^ n + (x % 2 ^ n) * 2 ^ (32 - n)
def add32 (x y : Nat) : Nat := (x + y) % 2 ^ 32

/-- The message schedule, extended to `n` more words. -/
def shaSched (n : Nat) (w : List Nat) : List Nat :=
  match n with
  | 0 => w
  | n + 1 =>
    let t := w.length
    let x := nth w (t - 15)
    let y := nth w (t - 2)
    let s0 := rotr 7 x ^^^ rotr 18 x ^^^ (x / 8)
    let s1 := rotr 17 y ^^^ rotr 19 y ^^^ (y / 1024)
    shaSched n (w ++ [add32 (add32 (nth w (t - 16)) s0) (add32 (nth w (t - 7)) s1)])

/-- One round on the eight working values. -/
def shaRound (h : List Nat) (kw : Nat) : List Nat :=
  match h with
  | [a, b, c, d, e, f, g, hh] =>
    let s1 := rotr 6 e ^^^ rotr 11 e ^^^ rotr 25 e
    let ch := (e &&& f) ^^^ ((2 ^ 32 - 1 - e) &&& g)
    let t1 := add32 (add32 hh s1) (add32 ch kw)
    let s0 := rotr 2 a ^^^ rotr 13 a ^^^ rotr 22 a
    let mj := (a &&& b) ^^^ (a &&& c) ^^^ (b &&& c)
    [add32 t1 (add32 s0 mj), a, b, c, add32 d t1, e, f, g]
  | _ => h

/-- One block of 64 bytes. -/
def shaBlock (h block : List Nat) : List Nat :=
  let w := shaSched 48 ((List.range 16).map (fun i => ofBytesBE ((block.drop (4 * i)).take 4)))
  List.zipWith add32 h ((w.zipIdx).foldl (fun a x => shaRound a (add32 (shaK x.2) x.1)) h)

/-- All blocks of a padded message. -/
def shaBlocks (n : Nat) (h m : List Nat) : List Nat :=
  match n with
  | 0 => h
  | n + 1 => shaBlocks n (shaBlock h (m.take 64)) (m.drop 64)

/-- SHA-256 of bytes, as 32 bytes in output order. -/
def sha256 (m : List Nat) : List Nat :=
  let z := (119 - m.length % 64) % 64
  let p := m ++ 0x80 :: List.replicate z 0 ++ bytesBE 8 (8 * m.length)
  (shaBlocks (p.length / 64) [0x6A09E667, 0xBB67AE85, 0x3C6EF372, 0xA54FF53A, 0x510E527F, 0x9B05688C, 0x1F83D9AB, 0x5BE0CD19] p).flatMap (bytesBE 4)

/-! ### P-256 (FIPS 186) -/

def p256P : Nat := 0xFFFFFFFF00000001000000000000000000000000FFFFFFFFFFFFFFFFFFFFFFFF
def p256N : Nat := 0xFFFFFFFF00000000FFFFFFFFFFFFFFFFBCE6FAADA7179E84F3B9CAC2FC632551
def p256B : Nat := 0x5AC635D8AA3A93E7B3EBBD55769886BC651D06B0CC53B0F63BCE3C3E27D2604B
def p256G : Nat × Nat :=
  (0x6B17D1F2E12C4247F8BCE6E563A440F277037D812DEB33A0F4A13945D898C296,
   0x4FE342E2FE1A7F9B8EE7EB4A7C0F9E162BCE33576B315ECECBB6406837BF51F5)

/-- `a` to the power `e` modulo `m`, for exponents of at most `n` bits. -/
def powMod (n : Nat) (a e m : Nat) : Nat :=
  match n with
  | 0 => 1 % m
  | n + 1 =>
    let h := powMod n (a * a % m) (e / 2) m
    if e % 2 = 1 then h * a % m else h

/-- Subtraction modulo `m`. -/
def subMod (a b m : Nat) : Nat := (a + m - b % m) % m

/-- The point is on the curve (R279 code 0x35). -/
def onCurve (x y : Nat) : Bool :=
  decide (y * y % p256P = (subMod (x * x % p256P * x % p256P) (3 * x) p256P + p256B) % p256P)

/-- Point addition; `none` is the point at infinity. -/
def ecAdd (a b : Option (Nat × Nat)) : Option (Nat × Nat) :=
  match a, b with
  | none, q => q
  | q, none => q
  | some (x1, y1), some (x2, y2) =>
    if x1 = x2 ∧ (y1 + y2) % p256P = 0 then none
    else
      let l := if x1 = x2 then subMod (3 * x1 * x1) 3 p256P * powMod 256 (2 * y1 % p256P) (p256P - 2) p256P % p256P
        else subMod y2 y1 p256P * powMod 256 (subMod x2 x1 p256P) (p256P - 2) p256P % p256P
      let x3 := subMod (l * l) (x1 + x2) p256P
      some (x3, subMod (l * subMod x1 x3 p256P) y1 p256P)

/-- Multiple of a point by a number of at most `n` bits. -/
def ecMul (n : Nat) (k : Nat) (q : Option (Nat × Nat)) : Option (Nat × Nat) :=
  match n with
  | 0 => none
  | n + 1 =>
    let h := ecMul n (k / 2) (ecAdd q q)
    if k % 2 = 1 then ecAdd h q else h

/-- The verification equation of ECDSA holds (R279 code 0x38). -/
def ecdsaOk (x y r s : Nat) (digest : Nat) : Bool :=
  let w := powMod 256 s (p256N - 2) p256N
  match ecAdd (ecMul 256 (digest * w % p256N) (some p256G)) (ecMul 256 (r * w % p256N) (some (x, y))) with
  | some (px, _) => decide (px % p256N = r)
  | none => false

end Sys2Proof.Machine
end

