-- ==== Sys2Proof/Machine/RegMap.lean ====
section
/-!
DEFINITION. The control window: its blocks (R341) and the access code, image section and range of every field, one row
for each register of the manual's tables (R27, R88, R89, R121, R122, R153, R154, R156, R180, R181, R204, R205, R230,
R231, R258 to R261, R290, R291, R311 to R313, R337 to R340, R347 to R357).
-/
namespace Sys2Proof.Machine

/-- A field range that R278 checks: low bit, length, least and greatest value. -/
structure FieldRange where
  lo : Nat
  len : Nat
  min : Nat
  max : Nat
  deriving DecidableEq, Repr

/-- One row of a register table: offset of the first copy, up to two repetitions (count and stride), whether it lies in
a block of R236, the image section that may set it (0: none), and the bits of each access code (R10). -/
structure RegRow where
  base : Nat
  n1 : Nat := 1
  s1 : Nat := 4
  n2 : Nat := 1
  s2 : Nat := 4
  plane : Bool := false
  sec : Nat := 0
  img : Nat := 0
  rw : Nat := 0
  w1c : Nat := 0
  rc : Nat := 0
  ranges : List FieldRange := []
  deriving DecidableEq, Repr

def all32 : Nat := 0xFFFFFFFF

/-- The five registers of a counter (R338) at `base`. -/
def ctrRows (base n1 s1 n2 mask : Nat) : List RegRow :=
  [ { base := base, n1 := n1, s1 := s1, n2 := n2, s2 := 0x20, plane := true, sec := 0xE, img := mask, rw := mask,
      w1c := 0x80000000 },
    { base := base + 4, n1 := n1, s1 := s1, n2 := n2, s2 := 0x20, plane := true, rw := all32 },
    { base := base + 8, n1 := n1, s1 := s1, n2 := n2, s2 := 0x20, plane := true, rw := 0xFFFF },
    { base := base + 12, n1 := n1, s1 := s1, n2 := n2, s2 := 0x20, plane := true },
    { base := base + 16, n1 := n1, s1 := s1, n2 := n2, s2 := 0x20, plane := true } ]

/-- The five registers of a protection region (R205, R230), 64 to a block. The bounds are staged (R189). -/
def rgnRows (base n1 s1 : Nat) : List RegRow :=
  [ { base := base, n1 := n1, s1 := s1, n2 := 64, s2 := 0x20, plane := true, sec := 5, img := 0xFFFFFFC0, rw := 0xFFFFFFC0 },
    { base := base + 4, n1 := n1, s1 := s1, n2 := 64, s2 := 0x20, plane := true, sec := 5, img := 0xFFFF, rw := 0xFFFF },
    { base := base + 8, n1 := n1, s1 := s1, n2 := 64, s2 := 0x20, plane := true, sec := 5, img := 0xFFFFFFC0, rw := 0xFFFFFFC0 },
    { base := base + 12, n1 := n1, s1 := s1, n2 := 64, s2 := 0x20, plane := true, sec := 5, img := 0xFFFF, rw := 0xFFFF },
    { base := base + 16, n1 := n1, s1 := s1, n2 := 64, s2 := 0x20, plane := true, sec := 5, img := 0x3F1F, rw := 0x3F1F } ]

/-- SYS, PAD, IMG, EVT, SNP (R204, R290, R311, R313, R260, R337, R340). -/
def rowsShared : List RegRow :=
  [ { base := 0x1000, n1 := 16, sec := 4, img := 1 },
    { base := 0x1040, n1 := 16, sec := 4, img := 0xFFFF },
    { base := 0x1080 }, { base := 0x1084 }, { base := 0x1088 }, { base := 0x108C },
    { base := 0x1090, sec := 4, img := 0xFFFFFF },
    { base := 0x1094, rc := all32 },
    { base := 0x1200 }, { base := 0x1204 }, { base := 0x1208 },
    { base := 0x120C, sec := 0xF, img := 0xFFFF0FF3, ranges := [⟨4, 8, 1, 255⟩, ⟨16, 16, 1, 65535⟩] },
    { base := 0x1210, sec := 0xF, img := 0xFFFFFF },
    { base := 0x1214, sec := 0xF, img := 0x10F, rw := 0x10F },
    { base := 0x1218, w1c := 0x10F },
    { base := 0x121C, rw := all32 }, { base := 0x1220, rw := all32 },
    { base := 0x1240, n1 := 16, sec := 0xF, img := 0xFF, rw := 0xFF,
      ranges := [⟨0, 2, 0, 2⟩, ⟨2, 2, 0, 2⟩, ⟨4, 2, 0, 2⟩, ⟨6, 2, 0, 2⟩] },
    { base := 0x1280, n1 := 4 },
    { base := 0x1F00 }, { base := 0x1F04 }, { base := 0x1F08 }, { base := 0x1F0C }, { base := 0x1F10 },
    { base := 0x2000, sec := 0x10, img := 0x77, rw := 0x77, ranges := [⟨0, 3, 0, 4⟩, ⟨4, 3, 0, 4⟩] },
    { base := 0x2004, sec := 0x10, img := 3, rw := 3 },
    { base := 0x2008 }, { base := 0x200C },
    { base := 0x2100, sec := 0x10, img := all32 },
    { base := 0x2104, sec := 0x10, img := 0xFFFF },
    { base := 0x2108, w1c := 0xF00 }, { base := 0x210C },
    { base := 0x4000, n1 := 8 }, { base := 0x4020 }, { base := 0x4030 },
    { base := 0x4034, rw := 0x7FFFFF }, { base := 0x4038 },
    { base := 0x4040, n1 := 16, rw := all32 },
    { base := 0x8000, n1 := 512, sec := 0xE, img := 0xFFFF7FFF, rw := 0xFFFF7FFF },
    { base := 0x8800, n1 := 512 },
    { base := 0x9000, n1 := 32, s1 := 8, sec := 0xE, img := 0xFFFFFFFC, rw := 0xFFFFFFFC },
    { base := 0x9004, n1 := 32, s1 := 8, sec := 0xE, img := 0xFFFF, rw := 0xFFFF },
    { base := 0x9100, n1 := 33 }, { base := 0x9200 }, { base := 0x9204 },
    { base := 0x9208, w1c := 0x10000 }, { base := 0x920C, rc := all32 }, { base := 0x9210 },
    { base := 0x9214, rc := all32 },
    { base := 0x10000, sec := 0xE, img := 0x70, rw := 0x70 },
    { base := 0x10004, n1 := 4 }, { base := 0x10014, rc := all32 }, { base := 0x10018, rc := all32 } ]

/-- PAIR (R258, R259). -/
def rowsPair : List RegRow :=
  [ { base := 0x40000, sec := 0x11, img := 0xFFFF00F1, ranges := [⟨16, 16, 1, 65535⟩] },
    { base := 0x40004, rw := 0x100 }, { base := 0x40008, n1 := 14 },
    { base := 0x40040, n1 := 5, rc := all32 }, { base := 0x40054, w1c := 0xFFFF },
    { base := 0x40058, n1 := 2, rc := all32 }, { base := 0x40060, n1 := 3 }, { base := 0x4006C, rc := 0xFFFFF } ]

/-- PLC (R153, R154). R153 gives FREEZE_MAX as RC and the field table of R154 as RO: the model takes RC (log 39). -/
def rowsPlc : List RegRow :=
  [ { base := 0x20000, plane := true, sec := 8, img := 1, rw := 2 },
    { base := 0x20004, plane := true },
    { base := 0x20008, plane := true, sec := 8, img := 0xFFFF0000 },
    { base := 0x2000C, plane := true, sec := 8, img := 0xFFFF },
    { base := 0x20010, plane := true, sec := 8, img := 0x7FFFF, ranges := [⟨0, 19, 0, 262144⟩] },
    { base := 0x20014, plane := true }, { base := 0x20018, plane := true },
    { base := 0x2001C, plane := true, sec := 8, img := all32, ranges := [⟨0, 4, 4, 15⟩, ⟨8, 8, 1, 255⟩, ⟨16, 8, 0, 254⟩] },
    { base := 0x20020, plane := true, sec := 8, img := 0x03FFFF7F, ranges := [⟨0, 4, 1, 8⟩] },
    { base := 0x20024, plane := true, sec := 8, img := 0xFFFFFF },
    { base := 0x20030, plane := true }, { base := 0x20034, plane := true },
    { base := 0x20038, plane := true, rw := 0x3FFFF }, { base := 0x2003C, plane := true },
    { base := 0x20040, n1 := 16, plane := true, sec := 4, img := 0x03FFFFFF, ranges := [⟨2, 12, 1, 4095⟩, ⟨14, 12, 0, 2048⟩] },
    { base := 0x20080, n1 := 16, plane := true },
    { base := 0x20100, n1 := 32, plane := true, sec := 8, img := 0x7F, ranges := [⟨0, 7, 0, 64⟩] },
    { base := 0x20200, n1 := 3, plane := true, rc := all32 }, { base := 0x2020C, plane := true },
    { base := 0x20210, n1 := 3, plane := true, rc := all32 } ]
  ++ ctrRows 0x20400 1 4 16 0x000F3FFF

/-- FLK, the lock unit included (R181, R350, R351). -/
def rowsFlk : List RegRow :=
  [ { base := 0x30000, n1 := 1024, s1 := 0x10, plane := true, sec := 0xB, img := 0xFFFF07FF },
    { base := 0x30004, n1 := 1024, s1 := 0x10, plane := true, sec := 0xB, img := 0xFF },
    { base := 0x30008, n1 := 1024, s1 := 0x10, plane := true },
    { base := 0x3000C, n1 := 1024, s1 := 0x10, plane := true, rc := all32 },
    { base := 0x34000, n1 := 4, plane := true },
    { base := 0x34010, plane := true, sec := 0xB, img := 0xFFFFFF0F }, { base := 0x34014, plane := true },
    { base := 0x34018, n1 := 2, plane := true, rc := all32 } ]
  ++ ctrRows 0x34100 1 4 8 0x000F3FFF ++ ctrRows 0x34200 1 4 8 0x000F3FFF ++
  [ { base := 0x38000, n1 := 1024, plane := true }, { base := 0x39000, n1 := 16, plane := true, ranges := [⟨0, 13, 1, 4096⟩] },
    { base := 0x39040, plane := true }, { base := 0x39044, plane := true },
    { base := 0x39050, n1 := 2, plane := true } ]

/-- QRT and FRT (R88, R89, R261, R355, R356), and the spine-link counters of SYS (R347). -/
def rowsRouter : List RegRow :=
  [ { base := 0x80000, n1 := 4, s1 := 0x4000, plane := true, sec := 6, img := 0x3F, ranges := [⟨0, 6, 1, 63⟩] },
    { base := 0x80004, n1 := 4, s1 := 0x4000, n2 := 2, plane := true, sec := 6, img := all32 },
    { base := 0x8000C, n1 := 4, s1 := 0x4000, plane := true, sec := 6, img := 0x0FFFFFFF },
    { base := 0x80010, n1 := 4, s1 := 0x4000, plane := true },
    { base := 0x80014, n1 := 4, s1 := 0x4000, n2 := 4, plane := true, rc := all32 },
    { base := 0x80200, n1 := 4, s1 := 0x4000, plane := true, w1c := 0xF },
    { base := 0x80204, n1 := 4, s1 := 0x4000, n2 := 2, plane := true },
    { base := 0xA0000, n1 := 16, s1 := 0x1000, plane := true, sec := 6, img := 0x3F, ranges := [⟨0, 6, 1, 63⟩] },
    { base := 0xA0004, n1 := 16, s1 := 0x1000, plane := true, sec := 6, img := all32 },
    { base := 0xA0008, n1 := 16, s1 := 0x1000, plane := true },
    { base := 0xA000C, n1 := 16, s1 := 0x1000, n2 := 3, plane := true, rc := all32 },
    { base := 0xA0200, n1 := 16, s1 := 0x1000, plane := true, w1c := 0xF },
    { base := 0xA0204, n1 := 16, s1 := 0x1000, n2 := 2, plane := true } ]
  ++ ctrRows 0x80100 4 0x4000 8 0x000F3FFF ++ ctrRows 0xA0100 16 0x1000 8 0x000F3FFF ++ ctrRows 0x1300 1 4 8 0x000F3FFF

/-- NI (R122, R156, R205, R353, R354). -/
def rowsNi : List RegRow :=
  [ { base := 0x100000, n1 := 96, s1 := 0x2000, plane := true, sec := 5, img := 0x3FFFF },
    { base := 0x100004, n1 := 96, s1 := 0x2000, plane := true, w1c := 5 },
    { base := 0x100008, n1 := 96, s1 := 0x2000, n2 := 2, plane := true, rc := all32 },
    { base := 0x100010, n1 := 96, s1 := 0x2000, plane := true, sec := 5, img := 0xFFFFFFC0 },
    { base := 0x100014, n1 := 96, s1 := 0x2000, plane := true, sec := 5, img := 0xFFFF },
    { base := 0x100018, n1 := 96, s1 := 0x2000, plane := true, sec := 5, img := 0x1F, ranges := [⟨0, 5, 4, 16⟩] },
    { base := 0x10001C, n1 := 96, s1 := 0x2000, plane := true },
    { base := 0x100020, n1 := 96, s1 := 0x2000, plane := true, rw := all32 },
    { base := 0x100040, n1 := 96, s1 := 0x2000, n2 := 16, plane := true },
    { base := 0x100400, n1 := 96, s1 := 0x2000, n2 := 64, plane := true },
    { base := 0x100500, n1 := 96, s1 := 0x2000, n2 := 2, plane := true, rc := all32 },
    { base := 0x100508, n1 := 96, s1 := 0x2000, plane := true },
    { base := 0x100600, n1 := 96, s1 := 0x2000, plane := true },
    { base := 0x100604, n1 := 96, s1 := 0x2000, n2 := 3, plane := true, rc := all32 },
    { base := 0x100700, n1 := 96, s1 := 0x2000, n2 := 2, plane := true },
    { base := 0x100708, n1 := 96, s1 := 0x2000, plane := true, w1c := 1 },
    { base := 0x10070C, n1 := 96, s1 := 0x2000, plane := true, rc := all32 },
    { base := 0x100900, n1 := 96, s1 := 0x2000, plane := true, w1c := 0xF },
    { base := 0x100904, n1 := 96, s1 := 0x2000, plane := true } ]
  ++ ctrRows 0x100800 96 0x2000 8 0x01FF3FFF ++ rgnRows 0x101000 96 0x2000

/-- MUL (R230, R231, R357). The channel registers come first in each block. -/
def rowsMul : List RegRow :=
  [ { base := 0x200000, n1 := 8, s1 := 0x4000, n2 := 32, s2 := 0x100, plane := true, rw := all32 },
    { base := 0x200004, n1 := 8, s1 := 0x4000, n2 := 32, s2 := 0x100, plane := true, rw := 0xFFFF },
    { base := 0x200008, n1 := 8, s1 := 0x4000, n2 := 32, s2 := 0x100, plane := true, rw := all32 },
    { base := 0x20000C, n1 := 8, s1 := 0x4000, n2 := 32, s2 := 0x100, plane := true, rw := 0xFFFF },
    { base := 0x200010, n1 := 8, s1 := 0x4000, n2 := 32, s2 := 0x100, plane := true, rw := all32 },
    { base := 0x200014, n1 := 8, s1 := 0x4000, n2 := 32, s2 := 0x100, plane := true, rw := all32 },
    { base := 0x200018, n1 := 8, s1 := 0x4000, n2 := 32, s2 := 0x100, plane := true, rw := all32 },
    { base := 0x20001C, n1 := 8, s1 := 0x4000, n2 := 32, s2 := 0x100, plane := true, rw := 0xFFFF },
    { base := 0x200020, n1 := 8, s1 := 0x4000, n2 := 32, s2 := 0x100, plane := true, rw := all32 },
    { base := 0x200024, n1 := 8, s1 := 0x4000, n2 := 32, s2 := 0x100, plane := true, rw := all32 },
    { base := 0x200028, n1 := 8, s1 := 0x4000, n2 := 32, s2 := 0x100, plane := true, rw := 0xFFFF },
    { base := 0x20002C, n1 := 8, s1 := 0x4000, n2 := 32, s2 := 0x100, plane := true, rw := all32 },
    { base := 0x200030, n1 := 8, s1 := 0x4000, n2 := 32, s2 := 0x100, plane := true, rw := all32 },
    { base := 0x200034, n1 := 8, s1 := 0x4000, n2 := 32, s2 := 0x100, plane := true, rw := 0x1FF },
    { base := 0x200040, n1 := 8, s1 := 0x4000, n2 := 32, s2 := 0x100, plane := true },
    { base := 0x200044, n1 := 8, s1 := 0x4000, n2 := 32, s2 := 0x100, plane := true, w1c := 0x8000 },
    { base := 0x200048, n1 := 8, s1 := 0x4000, n2 := 32, s2 := 0x100, plane := true },
    { base := 0x20004C, n1 := 8, s1 := 0x4000, n2 := 32, s2 := 0x100, plane := true },
    { base := 0x200050, n1 := 8, s1 := 0x4000, n2 := 32, s2 := 0x100, plane := true },
    { base := 0x200054, n1 := 8, s1 := 0x4000, n2 := 32, s2 := 0x100, plane := true },
    { base := 0x200058, n1 := 8, s1 := 0x4000, n2 := 32, s2 := 0x100, plane := true, rc := all32 },
    { base := 0x20005C, n1 := 8, s1 := 0x4000, n2 := 32, s2 := 0x100, plane := true, sec := 0xD, img := 0x01FF033F,
      ranges := [⟨16, 9, 1, 256⟩] },
    { base := 0x202000, n1 := 8, s1 := 0x4000, plane := true },
    { base := 0x202004, n1 := 8, s1 := 0x4000, n2 := 2, plane := true },
    { base := 0x20200C, n1 := 8, s1 := 0x4000, n2 := 2, plane := true, rc := all32 },
    { base := 0x202180, n1 := 8, s1 := 0x4000, plane := true, w1c := 3 },
    { base := 0x202184, n1 := 8, s1 := 0x4000, plane := true },
    { base := 0x202188, n1 := 8, s1 := 0x4000, n2 := 3, plane := true, w1c := all32 } ]
  ++ ctrRows 0x202100 8 0x4000 4 0x000F3FFF ++ rgnRows 0x203000 8 0x4000

/-- QDS and CNT (R180, R339). -/
def rowsQdsCnt : List RegRow :=
  [ { base := 0x400000, n1 := 16384, s1 := 0x40, n2 := 11, plane := true },
    { base := 0x40002C, n1 := 16384, s1 := 0x40, n2 := 3, plane := true },
    { base := 0x400038, n1 := 16384, s1 := 0x40, plane := true, rc := all32 },
    { base := 0x40003C, n1 := 16384, s1 := 0x40, plane := true, rw := 1 },
    { base := 0x800000, plane := true, sec := 0xE, img := all32 },
    { base := 0x800004, plane := true, sec := 0xE, img := 0xFFFFFF01, rw := 0xFFFFFF01, ranges := [⟨8, 24, 256, 16777215⟩] },
    { base := 0x800008, plane := true, rc := all32 },
    { base := 0x800100, n1 := 8, s1 := 0x40, plane := true, sec := 0xE, img := 1, rw := 1, w1c := 4 },
    { base := 0x800104, n1 := 8, s1 := 0x40, plane := true, sec := 0xE, img := 0x03FF03FF, rw := 0x03FF03FF,
      ranges := [⟨0, 10, 0, 999⟩, ⟨16, 10, 1, 1000⟩] },
    { base := 0x800108, n1 := 8, s1 := 0x40, plane := true, sec := 0xE, img := 0xFFFFFF, rw := 0xFFFFFF,
      ranges := [⟨0, 24, 256, 16777215⟩] },
    { base := 0x80010C, n1 := 8, s1 := 0x40, plane := true, sec := 0xE, img := 0xFFFFFF, rw := 0xFFFFFF },
    { base := 0x800110, n1 := 8, s1 := 0x40, plane := true, sec := 0xE, img := 0xFFFFFFC0, rw := 0xFFFFFFC0 },
    { base := 0x800114, n1 := 8, s1 := 0x40, plane := true, sec := 0xE, img := 0xFFFF, rw := 0xFFFF },
    { base := 0x800118, n1 := 8, s1 := 0x40, plane := true, sec := 0xE, img := 0x1F, rw := 0x1F, ranges := [⟨0, 5, 2, 16⟩] },
    { base := 0x80011C, n1 := 8, s1 := 0x40, plane := true },
    { base := 0x800120, n1 := 8, s1 := 0x40, plane := true, rw := all32 },
    { base := 0x800124, n1 := 8, s1 := 0x40, plane := true },
    { base := 0x800128, n1 := 8, s1 := 0x40, plane := true, rc := all32 } ]

/-- Every register row but those of COL, which software cannot write (R27). -/
def regRows : List RegRow :=
  rowsShared ++ rowsPair ++ rowsPlc ++ rowsFlk ++ rowsRouter ++ rowsNi ++ rowsMul ++ rowsQdsCnt

/-- The window offset `off` is a copy of this row's register. -/
def RegRow.has (r : RegRow) (off : Nat) : Bool :=
  let d := off - r.base
  let i := if r.n1 = 1 then 0 else d / r.s1
  let e := d - i * r.s1
  let j := if r.n2 = 1 then 0 else e / r.s2
  decide (r.base ≤ off ∧ i < r.n1 ∧ j < r.n2 ∧ r.base + i * r.s1 + j * r.s2 = off)

/-- The row of a register offset; none for an unassigned offset (R13). -/
def rowOf (off : Nat) : Option RegRow := regRows.find? (fun r => r.has off)

/-- The reset value of a stored word: zero but for MUL.CH_MISMATCH (R230). -/
def resetWord (off : Nat) : W32 :=
  if 0x200000 ≤ off ∧ off < 0x220000 ∧ (off % 0x4000) < 0x2000 ∧ off % 0x100 = 0x54 then 0xFFFFFFFF else 0

/-! Bases of repeated registers. -/
def rOwner (o : Nat) : Nat := 0x1000 + 4 * o
def rEpoch (o : Nat) : Nat := 0x1040 + 4 * o
def rOResetStatus : Nat := 0x1084
def rOClosed : Nat := 0x1088
def rKeyStatus : Nat := 0x108C
def rResetLimit : Nat := 0x1090
def rOResets : Nat := 0x1094
def rPwrResult : Nat := 0x1208
def rPwrPolicy : Nat := 0x120C
def rPwrLimit : Nat := 0x1210
def rWakeCtrl : Nat := 0x1214
def rWakeStatus : Nat := 0x1218
def rAlarmLo : Nat := 0x121C
def rAlarmHi : Nat := 0x1220
def rVote (o : Nat) : Nat := 0x1240 + 4 * o
def rQpwr (q : Nat) : Nat := 0x1280 + 4 * q
def rSlotHi : Nat := 0x1F04
def rTiming : Nat := 0x1F10
def rMpFn : Nat := 0x2000
def rMpOut : Nat := 0x2004
def rSafeMap : Nat := 0x2100
def rSafeFs : Nat := 0x2104
def rSafeState : Nat := 0x2108
def rBootStatus : Nat := 0x4000
def rCopyA : Nat := 0x4004
def rCopyB : Nat := 0x4008
def rSeqA : Nat := 0x400C
def rSeqB : Nat := 0x4010
def rErrLoc : Nat := 0x4014
def rFlash : Nat := 0x4018
def rBootTime : Nat := 0x401C
def rFlAddr : Nat := 0x4034
def rFlStat : Nat := 0x4038
def rFlData (i : Nat) : Nat := 0x4040 + 4 * i
def rSrcCfg (s : Nat) : Nat := 0x8000 + 4 * s
def rTgtLo (t : Nat) : Nat := 0x9000 + 8 * t
def rTgtHi (t : Nat) : Nat := 0x9004 + 8 * t
def rInfo (i : Nat) : Nat := 0x9100 + 4 * i
def rEvtStatus : Nat := 0x9208
def rDelivErr : Nat := 0x920C
def rErrTgt : Nat := 0x9210
def rEvtSent : Nat := 0x9214
def rSnpCtrl : Nat := 0x10000
def rSnpSlotLo : Nat := 0x10008
def rSnpSlotHi : Nat := 0x1000C
def rTrigInfo : Nat := 0x10010
def rMissed : Nat := 0x10014
def rTaken : Nat := 0x10018
def rPlcCtrl : Nat := 0x20000
def rRegionLo : Nat := 0x20008
def rRegionHi : Nat := 0x2000C
def rRegionPages : Nat := 0x20010
def rTileBaseLo : Nat := 0x20014
def rTileBaseHi : Nat := 0x20018
def rPolicy0 : Nat := 0x2001C
def rPolicy1 : Nat := 0x20020
def rResume : Nat := 0x20024
def rPlcCmdStatus : Nat := 0x20034
def rEntrySel : Nat := 0x20038
def rPlcOwner (o : Nat) : Nat := 0x20040 + 4 * o
def rTilePool (t : Nat) : Nat := 0x20100 + 4 * t
def rPromotions : Nat := 0x20200
def rDemotions : Nat := 0x20204
def rAborts : Nat := 0x20208
def rLastAbort : Nat := 0x2020C
def rFreezeMax : Nat := 0x20210
def rPlcErrPlace : Nat := 0x20214
def rTableErr : Nat := 0x20218
def rFcfg (f : Nat) : Nat := 0x30000 + 0x10 * f
def rFpolicy (f : Nat) : Nat := 0x30004 + 0x10 * f
def rFmoves (f : Nat) : Nat := 0x3000C + 0x10 * f
def rFlkPolicy : Nat := 0x34010
def rRedelivered : Nat := 0x34018
def rLosses : Nat := 0x3401C
def rLockLimit (k : Nat) : Nat := 0x39000 + 4 * k
def rLockCmdStatus : Nat := 0x39044
def rPairCfg : Nat := 0x40000
def rPairCtrl : Nat := 0x40004
def rPairTransients : Nat := 0x40040
def rPairFaults : Nat := 0x40044
def rPairPoisoned : Nat := 0x40048
def rPairDiverge : Nat := 0x4004C
def rPairProof : Nat := 0x40050
def rPairAffected : Nat := 0x40054
def rPairRejoins : Nat := 0x40058
def rPairAborts : Nat := 0x4005C
def rPairSlotLo : Nat := 0x40060
def rPairSlotHi : Nat := 0x40064
def rPairRecovery : Nat := 0x40068
def rPairKettle : Nat := 0x4006C
def bQrt (q : Nat) : Nat := 0x80000 + 0x4000 * q
def bFrt (g : Nat) : Nat := 0xA0000 + 0x1000 * g
def bNi (p : Nat) : Nat := 0x100000 + 0x2000 * p
def bMul (e : Nat) : Nat := 0x200000 + 0x4000 * e
def bChan (e c : Nat) : Nat := bMul e + 0x100 * c
def bQds (n : Nat) : Nat := 0x400000 + 0x40 * n
def rGrant : Nat := 0x800000
def rMirror : Nat := 0x800004
def rMirrorLost : Nat := 0x800008
def bDg (g : Nat) : Nat := 0x800100 + 0x40 * g

/-- The selection register of counter `idx` (R322). -/
def ctrBase (idx : Nat) : Nat :=
  if idx < 768 then bNi (idx / 8) + 0x800 + 0x20 * (idx % 8)
  else if idx < 896 then bFrt ((idx - 768) / 8) + 0x100 + 0x20 * (idx % 8)
  else if idx < 928 then bQrt ((idx - 896) / 8) + 0x100 + 0x20 * (idx % 8)
  else if idx < 960 then bMul ((idx - 928) / 4) + 0x2100 + 0x20 * (idx % 4)
  else if idx < 976 then 0x20400 + 0x20 * (idx - 960)
  else if idx < 984 then 0x34100 + 0x20 * (idx - 976)
  else if idx < 992 then 0x34200 + 0x20 * (idx - 984)
  else 0x1300 + 0x20 * (idx - 992)

/-- The counter whose registers hold offset `off`, with the register's place within it (R322, R338). -/
def ctrOf (off : Nat) : Option (Nat × Nat) :=
  let at? (base first n : Nat) : Option (Nat × Nat) :=
    if base ≤ off ∧ off < base + 0x20 * n then some (first + (off - base) / 0x20, (off - base) % 0x20) else none
  if 0x100000 ≤ off ∧ off < 0x1C0000 then
    let p := (off - 0x100000) / 0x2000
    at? (bNi p + 0x800) (8 * p) 8
  else if 0xA0000 ≤ off ∧ off < 0xB0000 then
    let g := (off - 0xA0000) / 0x1000
    at? (bFrt g + 0x100) (768 + 8 * g) 8
  else if 0x80000 ≤ off ∧ off < 0x90000 then
    let q := (off - 0x80000) / 0x4000
    at? (bQrt q + 0x100) (896 + 8 * q) 8
  else if 0x200000 ≤ off ∧ off < 0x220000 then
    let e := (off - 0x200000) / 0x4000
    at? (bMul e + 0x2100) (928 + 4 * e) 4
  else if 0x20400 ≤ off ∧ off < 0x20600 then at? 0x20400 960 16
  else if 0x34100 ≤ off ∧ off < 0x34200 then at? 0x34100 976 8
  else if 0x34200 ≤ off ∧ off < 0x34300 then at? 0x34200 984 8
  else if 0x1300 ≤ off ∧ off < 0x1400 then at? 0x1300 992 8
  else none

/-- The offset lies in a block of the window of this variant (R31, R341). -/
def inBlock (v : Variant) (off : Nat) : Bool :=
  decide (off < 0x40000) || (v.paired && decide (0x40000 ≤ off ∧ off < 0x41000))
  || decide (0x80000 ≤ off ∧ off < 0x80000 + 0x4000 * v.quires)
  || decide (0xA0000 ≤ off ∧ off < 0xA0000 + 0x1000 * v.folios)
  || decide (0x100000 ≤ off ∧ off < 0x100000 + 0x2000 * v.ports)
  || decide (0x200000 ≤ off ∧ off < 0x200000 + 0x4000 * v.mules)
  || decide (0x400000 ≤ off ∧ off < 0x500000) || decide (0x800000 ≤ off ∧ off < 0xA00000)

/-- The offset lies in a block whose state belongs to a plane (R236, R342). -/
def planeBlock (off : Nat) : Bool :=
  decide (0x20000 ≤ off ∧ off < 0x40000) || decide (0x80000 ≤ off) || decide (0x1300 ≤ off ∧ off < 0x1400)

/-- The quire an offset's NI, FRT, QRT or MUL block belongs to (R303). -/
def quireOfOff (off : Nat) : Option Nat :=
  if 0x80000 ≤ off ∧ off < 0x90000 then some ((off - 0x80000) / 0x4000)
  else if 0xA0000 ≤ off ∧ off < 0xB0000 then some ((off - 0xA0000) / 0x4000)
  else if 0x100000 ≤ off ∧ off < 0x1C0000 then some ((off - 0x100000) / 0x2000 / 24)
  else if 0x200000 ≤ off ∧ off < 0x220000 then some ((off - 0x200000) / 0x8000)
  else none

end Sys2Proof.Machine
end

