-- ==== Sys2Proof/Machine/Tab.lean ====
section
/-!
DEFINITION. Reading and writing a sparse table. An unlisted key reads as the default `d`; writing the default removes
the entry, so that equal contents are equal data.
-/
namespace Sys2Proof

/-- The entry of key `k`, if listed. -/
def Tab.find {α : Type} (t : Tab α) (k : Nat) : Option α :=
  match t with
  | [] => none
  | (j, v) :: rest => if j = k then some v else Tab.find rest k

/-- What key `k` reads as. -/
def Tab.rd {α : Type} (t : Tab α) (k : Nat) (d : α) : α := (Tab.find t k).getD d

/-- Puts an entry at its place in the rising order of keys. -/
def Tab.ins {α : Type} (t : Tab α) (k : Nat) (v : α) : Tab α :=
  match t with
  | [] => [(k, v)]
  | (j, w) :: rest =>
    if k < j then (k, v) :: (j, w) :: rest
    else if j = k then (k, v) :: rest
    else (j, w) :: Tab.ins rest k v

/-- Takes every entry of key `k` away. -/
def Tab.del {α : Type} (t : Tab α) (k : Nat) : Tab α :=
  match t with
  | [] => []
  | (j, w) :: rest => if j = k then Tab.del rest k else (j, w) :: Tab.del rest k

/-- Writes `v` at key `k`; the default `d` is never listed. -/
def Tab.wr {α : Type} [DecidableEq α] (t : Tab α) (k : Nat) (v d : α) : Tab α :=
  if v = d then Tab.del t k else Tab.ins t k v

/-- Changes what key `k` reads as. -/
def Tab.upd {α : Type} [DecidableEq α] (t : Tab α) (k : Nat) (d : α) (f : α → α) : Tab α :=
  Tab.wr t k (f (Tab.rd t k d)) d

/-- The keys rise strictly. -/
abbrev Tab.Sorted {α : Type} (t : Tab α) : Prop := List.Pairwise (fun x y => x.1 < y.1) t

/-- The canonical form: keys strictly rising, no entry equal to the default of its key. -/
def Tab.wf {α : Type} (t : Tab α) (d : Nat → α) : Prop :=
  Tab.Sorted t ∧ ∀ x ∈ t, x.2 ≠ d x.1

end Sys2Proof
end

