-- ==== Sys2Proof/Machine/Ops.lean ====
section
/-!
DEFINITION. The named operations over the state: planes, register words, event occurrences, performance counters,
snapshot triggers, packets sent by an end.
-/
namespace Sys2Proof.Machine

/-- The outcomes of a command. -/
abbrev Out := Host.Outcome State Fault Refusal

/-! ### Planes -/

/-- The plane of a name. -/
def State.pln (s : State) (pl : Pl) : Plane := match pl with | .a => s.pa | .b => s.pb

def State.setPln (s : State) (pl : Pl) (x : Plane) : State :=
  match pl with | .a => { s with pa := x } | .b => { s with pb := x }

def State.modPln (s : State) (pl : Pl) (f : Plane → Plane) : State := s.setPln pl (f (s.pln pl))

/-- The state of a plane of the pair (R246). -/
def State.plState (s : State) (pl : Pl) : PlState := match pl with | .a => s.pair.a | .b => s.pair.b

/-- The plane exists and is in service (R17, R246). -/
def State.runs (s : State) (pl : Pl) : Bool :=
  if s.variant.paired then decide (s.plState pl = .inService) else decide (pl = .a)

/-- The planes in service. -/
def State.planes (s : State) : List Pl := [Pl.a, Pl.b].filter (fun pl => s.runs pl)

/-- The planes that exist (R17). -/
def State.allPlanes (s : State) : List Pl := if s.variant.paired then [.a, .b] else [.a]

/-- The plane whose occurrences count: A while A is in service, B otherwise (R315, R342). -/
def State.lead (s : State) : Pl := if s.runs .a then .a else if s.runs .b then .b else .a

/-- Applies `f` for every plane in service. -/
def State.eachPlane (s : State) (f : Pl → State → State) : State := s.planes.foldl (fun t pl => f pl t) s

/-- The plane PAIR.CTRL.VIEW selects (R236). -/
def State.view (s : State) : Pl := if s.variant.paired && bit (s.rf.rd rPairCtrl 0) 8 then .b else .a

/-! ### Register words -/

/-- A shared stored word. -/
def State.g (s : State) (off : Nat) : W32 := s.rf.rd off 0

def State.gset (s : State) (off : Nat) (v : W32) : State := { s with rf := s.rf.wr off v 0 }

def State.gf (s : State) (off lo len : Nat) : Nat := fld (s.g off) lo len

def State.gfset (s : State) (off lo len v : Nat) : State := s.gset off (setFld (s.g off) lo len v)

/-- A stored word of a plane. -/
def Plane.w (x : Plane) (off : Nat) : W32 := x.rf.rd off (resetWord off)

def Plane.wset (x : Plane) (off : Nat) (v : W32) : Plane := { x with rf := x.rf.wr off v (resetWord off) }

def State.p (s : State) (pl : Pl) (off : Nat) : W32 := (s.pln pl).w off

def State.pset (s : State) (pl : Pl) (off : Nat) (v : W32) : State := s.modPln pl (fun x => x.wset off v)

def State.pf (s : State) (pl : Pl) (off lo len : Nat) : Nat := fld (s.p pl off) lo len

def State.pfset (s : State) (pl : Pl) (off lo len v : Nat) : State := s.pset pl off (setFld (s.p pl off) lo len v)

/-! What hardware does to a word in the fc of a software access stands against the access (R12). -/

/-- The number of a shared word in the record of R12. -/
def hwShared (off : Nat) : Nat := 3 * off

/-- The number of a plane's word in the record of R12. -/
def hwPlane (pl : Pl) (off : Nat) : Nat := 3 * off + (match pl with | .a => 1 | .b => 2)

/-- The record of this fc; that of an earlier one is over. -/
def State.hwNow (s : State) : Hw := if s.hw.fc = s.fc then s.hw else { fc := s.fc }

/-- Notes that hardware sets the bits `m` of word `k` in this fc. -/
def State.noteSet (s : State) (k : Nat) (m : W32) : State :=
  { s with hw := { s.hwNow with set := s.hwNow.set.upd k 0 (· ||| m) } }

/-- Notes that hardware adds `n` to a field of word `k`, which holds `v`, in this fc. -/
def State.noteInc (s : State) (k lo len v n : Nat) : State :=
  { s with hw := { s.hwNow with inc := s.hwNow.inc.upd (32 * k + lo) (len, v, 0) (fun x => (x.1, x.2.1, x.2.2 + n)) } }

/-- The bits of word `k` that hardware has set in this fc. -/
def State.hwSet (s : State) (k : Nat) : W32 := s.hwNow.set.rd k 0

/-- What hardware has added in this fc to the fields of word `k`: low bit, length, value before, amount. -/
def State.hwIncs (s : State) (k : Nat) : List (Nat × Nat × Nat × Nat) :=
  s.hwNow.inc.filterMap (fun x => if x.1 / 32 = k then some (x.1 % 32, x.2) else none)

/-- Adds to a saturating counter field (R10, R16). -/
def State.ginc (s : State) (off lo len n : Nat) : State :=
  (s.noteInc (hwShared off) lo len (s.gf off lo len) n).gfset off lo len (satAdd len (s.gf off lo len) n)

def State.pinc (s : State) (pl : Pl) (off lo len n : Nat) : State :=
  (s.noteInc (hwPlane pl off) lo len (s.pf pl off lo len) n).pfset pl off lo len (satAdd len (s.pf pl off lo len) n)

/-- Sets the bits of a mask. -/
def State.gor (s : State) (off : Nat) (m : W32) : State := (s.noteSet (hwShared off) m).gset off (s.g off ||| m)

def State.por (s : State) (pl : Pl) (off : Nat) (m : W32) : State :=
  (s.noteSet (hwPlane pl off) m).pset pl off (s.p pl off ||| m)

/-- Software clears the bits of a mask in a plane's word, but not those that hardware sets in the same fc (R12). -/
def State.pclear (s : State) (pl : Pl) (off : Nat) (m : W32) : State :=
  s.pset pl off (s.p pl off &&& ~~~(m &&& ~~~s.hwSet (hwPlane pl off)))

/-- The word with only bit `i` set. -/
def bitMask (i : Nat) : W32 := BitVec.ofNat 32 (2 ^ i)

/-! ### Units -/

def State.ni (s : State) (pl : Pl) (p : Nat) : Ni := (s.pln pl).ni.rd p {}

def State.modNi (s : State) (pl : Pl) (p : Nat) (f : Ni → Ni) : State :=
  s.modPln pl (fun x => { x with ni := x.ni.upd p {} f })

def State.sb (s : State) (pl : Pl) : Sb := (s.pln pl).sb

def State.modSb (s : State) (pl : Pl) (f : Sb → Sb) : State := s.modPln pl (fun x => { x with sb := f x.sb })

def State.mul (s : State) (pl : Pl) (e : Nat) : Mule := (s.pln pl).mule.rd e {}

def State.modMul (s : State) (pl : Pl) (e : Nat) (f : Mule → Mule) : State :=
  s.modPln pl (fun x => { x with mule := x.mule.upd e {} f })

/-- A router: `quire` says which kind. -/
def State.router (s : State) (pl : Pl) (quire : Bool) (i : Nat) : Router :=
  if quire then (s.pln pl).qrt.rd i {} else (s.pln pl).frt.rd i {}

def State.modRouter (s : State) (pl : Pl) (quire : Bool) (i : Nat) (f : Router → Router) : State :=
  s.modPln pl (fun x => if quire then { x with qrt := x.qrt.upd i {} f } else { x with frt := x.frt.upd i {} f })

def State.port (s : State) (p : Nat) : Port := s.ports.rd p {}

def State.modPort (s : State) (p : Nat) (f : Port → Port) : State := { s with ports := s.ports.upd p {} f }

def State.qp (s : State) (q : Nat) : QPower := s.pw.q.rd q {}

def State.modQp (s : State) (q : Nat) (f : QPower → QPower) : State :=
  { s with pw := { s.pw with q := s.pw.q.upd q {} f } }

/-- The port number names a port (R31). -/
def State.isPort (s : State) (p : Nat) : Bool := decide (p < s.variant.ports)

/-- The ports of a quire (R20). -/
def portsOf (q : Nat) : List Nat := (List.range 24).map (fun i => 24 * q + i)

/-- The port encrypts (R21): DRAM and tile ports of this variant. -/
def State.encrypts (s : State) (p : Nat) : Bool := decide (s.variant.firstDram ≤ p ∧ p < s.variant.ports)

/-- The quire is in Run or Idle (R80, R292). -/
def State.quireUp (s : State) (q : Nat) : Bool :=
  decide ((s.qp q).state = .run) || decide ((s.qp q).state = .idle)

/-! ### The read buffer of a Mule engine (R218) -/

/-- Every write of a burst has been sent. -/
def Burst.sent (b : Burst) : Bool := b.writing && b.writes.all (·.tag.isSome)

/-- Flits of the read buffer that a burst has reserved; they are free once its writes have been sent. -/
def Burst.room (b : Burst) : Nat := if b.sent then 0 else (b.reads.map (·.span)).sum

/-- Flits of the read buffer that a burst fills. -/
def Burst.heldFlits (b : Burst) : Nat :=
  if b.sent then 0 else ((b.reads.filter (fun q => q.done && decide (q.status = stOk))).map (·.span)).sum

/-- Flits reserved in an engine's read buffer. -/
def Mule.reserved (m : Mule) : Nat := (m.chans.map (fun x => (x.2.bursts.map Burst.room).sum)).sum

/-- Flits that stand in an engine's read buffer (R338). -/
def Mule.heldFlits (m : Mule) : Nat := (m.chans.map (fun x => (x.2.bursts.map Burst.heldFlits).sum)).sum

/-- The master slot counter as a number (R92). -/
def State.now (s : State) : Nat := s.slot.toNat

/-- Owner `o` is closed (R200 step 1). -/
def State.closedOwner (s : State) (o : Nat) : Bool := bit (s.g rOClosed) o

/-- Start-up has finished (R281); a return from Deep sleep does not start again (R284). -/
def State.done (s : State) : Bool := bit (s.g rBootStatus) 4 || s.boot.slept

/-- The phase of start-up (R281). -/
def State.phase (s : State) : Nat := if s.boot.slept then 8 else s.gf rBootStatus 0 4

/-- The path latency table has been written (R99). -/
def State.pltDone (s : State) : Bool := bit (s.g rTiming) 0 || s.boot.slept

/-- A free 512-bit value of the shared part of the block (log 9). -/
def State.freshLine (s : State) : Line × State := (Config.freeLine (2 * s.freeCtr), { s with freeCtr := s.freeCtr + 1 })

/-- A free 32-bit value of the shared part of the block (log 9). -/
def State.freshWord (s : State) : W32 × State := (Config.freeWord (2 * s.freeCtr), { s with freeCtr := s.freeCtr + 1 })

/-- The number of a plane's next free value. -/
def State.freeNo (s : State) (pl : Pl) : Nat := 2 * (s.pln pl).free + 1

/-- A free value of a plane is used up. -/
def State.usedFree (s : State) (pl : Pl) : State := s.modPln pl (fun x => { x with free := x.free + 1 })

/-- A free 512-bit value of a plane (log 9). -/
def State.freeLine (s : State) (pl : Pl) : Line × State := (Config.freeLine (s.freeNo pl), s.usedFree pl)

/-- A free 32-bit value of a plane (log 9). -/
def State.freeWord (s : State) (pl : Pl) : W32 × State := (Config.freeWord (s.freeNo pl), s.usedFree pl)

/-- A payload of which the manual states the low `n` bytes, those of `d`: the others are free (log 9). -/
def State.stated (s : State) (pl : Pl) (n : Nat) (d : Line) : Line × State :=
  let f := s.freeLine pl
  (mergeLine f.1 d (benRange 0 n), f.2)

/-! ### Snapshot triggers (R335, R336) -/

/-- A trigger that comes while HELD is missed; what it was is kept for an ARM later in the slot (R336). -/
def Snp.miss (x : Snp) (now : Nat) (c : BitVec 4) (info : W32) : Snp :=
  if x.missAt = some now then { x with missCause := x.missCause ||| c, missed := x.missed + 1 }
  else { x with missAt := some now, missCause := c, missInfo := info, missed := 1 }

/-- A trigger with cause bit `c` (0 MP, 1 write, 2 event, 3 counter), event source `src` and counter `ctr`. -/
def State.snapTrigger (s : State) (c src ctr : Nat) : State :=
  let info := BitVec.ofNat 32 (src % 512 + (ctr % 1024) * 2 ^ 16)
  if s.snp.held then { s.ginc rMissed 0 32 1 with snp := s.snp.miss s.now (BitVec.ofNat 4 (2 ^ c)) info }
  else if !s.snp.armed then s
  else match s.snp.trig with
    | none => { (s.gset rTrigInfo info) with snp := { s.snp with trig := some s.now, cause := BitVec.ofNat 4 (2 ^ c) } }
    | some t =>
      if s.now ≤ t + 1 then { s with snp := { s.snp with cause := s.snp.cause ||| BitVec.ofNat 4 (2 ^ c) } } else s

/-! ### Event sources (R314 to R317) -/

/-- The cc now, counted from slot 0: the control island runs two a slot (R90). -/
def State.cc (s : State) : Nat := 2 * s.now + min 1 (2 * s.fcInSlot / max s.img.w 1)

/-- A number at its place in a rising list. -/
def insertUp (x : Nat) (l : List Nat) : List Nat :=
  match l with
  | [] => [x]
  | y :: rest => if x ≤ y then x :: y :: rest else y :: insertUp x rest

/-- A source takes its place at the tail of the order of emission; those that come there in one cc stand in ascending number
(R318). -/
def State.evTail (s : State) (src : Nat) : State :=
  let same := if s.evt.ccAt = s.cc then s.evt.ccNew.filter (fun x => s.evt.queue.contains x) else []
  let new := insertUp src same
  { s with evt := { s.evt with
    queue := s.evt.queue.filter (fun x => !same.contains x) ++ new, ccAt := s.cc, ccNew := new } }

/-- A source in IDLE with ENABLE, MSG and COUNT > 0 becomes PENDING at the tail (R317). -/
def State.evtKick (s : State) (src : Nat) : State :=
  let cfg := s.g (rSrcCfg src)
  if s.evt.st.rd src .idle = .idle ∧ bit cfg 0 = true ∧ bit cfg 1 = true ∧ 0 < s.evt.count.rd src 0 then
    ({ s with evt := { s.evt with st := s.evt.st.wr src .pending .idle } } : State).evTail src
  else s

/-- One occurrence of a source (R315): COUNT, delivery state, snapshot trigger. -/
def State.occur (s : State) (src : Nat) : State :=
  let s := { s with evt := { s.evt with count := s.evt.count.upd src 0 (fun n => satAdd 8 n 1) } }
  let s := s.evtKick src
  if bit (s.g (rSrcCfg src)) 14 && bit (s.g rSnpCtrl) 5 then s.snapTrigger 2 src 0x3FF else s

/-- An occurrence of source 372 to 404 with its INFO word (R314). -/
def State.occurInfo (s : State) (src info : Nat) : State :=
  (s.gset (rInfo (src - 372)) (BitVec.ofNat 32 info)).occur src

/-- An occurrence in a plane; it counts for the leading plane only (R315). -/
def State.occurP (s : State) (pl : Pl) (src info : Nat) : State :=
  if pl = s.lead then (if 372 ≤ src ∧ src ≤ 404 then s.occurInfo src info else s.occur src) else s

/-- The event of NI `p` with cause bit `c` (R314). -/
def State.niEvent (s : State) (pl : Pl) (p c : Nat) : State :=
  (s.por pl (bNi p + 0x900) (bitMask c)).occurP pl (256 + p) 0

/-- The event of a router with cause bit `c` (R314). -/
def State.rtrEvent (s : State) (pl : Pl) (quire : Bool) (i c : Nat) : State :=
  if quire then (s.por pl (bQrt i + 0x200) (bitMask c)).occurP pl (368 + i) 0
  else (s.por pl (bFrt i + 0x200) (bitMask c)).occurP pl (352 + i) 0

/-- The event of channel `c` of engine `e`: `k` 0 half, 1 completion, 2 error (R314). -/
def State.chanEvent (s : State) (pl : Pl) (e c k : Nat) : State :=
  (s.por pl (bMul e + 0x2188 + 4 * k) (bitMask c)).occurP pl (32 * e + c) 0

/-- The placement-fault event (R314). -/
def State.placeFault (s : State) (pl : Pl) (page kind : Nat) : State := s.occurP pl 374 (page + kind * 2 ^ 20)

/-- The queue-fault event (R314). -/
def State.queueFault (s : State) (pl : Pl) (q : Nat) (doorbell read : Bool) : State :=
  s.occurP pl 378 (q + b2n doorbell * 2 ^ 16 + b2n read * 2 ^ 17)

/-! ### Performance counters (R322 to R325) -/

/-- The first global index and the number of counters of the host that counter `idx` belongs to (R322). -/
def hostOf (idx : Nat) : Nat × Nat :=
  if idx < 928 then (idx / 8 * 8, 8) else if idx < 960 then (928 + (idx - 928) / 4 * 4, 4)
  else if idx < 976 then (960, 16) else (976 + (idx - 976) / 8 * 8, 8)

/-- The event that a wrap raises when OVF_EVT is set (R314, R325). -/
def State.wrapEvent (s : State) (pl : Pl) (idx : Nat) : State :=
  if idx < 768 then s.niEvent pl (idx / 8) 3
  else if idx < 896 then s.rtrEvent pl false ((idx - 768) / 8) 3
  else if idx < 928 then s.rtrEvent pl true ((idx - 896) / 8) 3
  else if idx < 960 then
    (s.por pl (bMul ((idx - 928) / 4) + 0x2180) (bitMask 1)).occurP pl (386 + (idx - 928) / 4) 2
  else s.occurP pl 394 idx

/-- Adds `n` to counter `idx`; a wrap sets OVF, may raise the host's event or a snapshot trigger, and counts once in a
chained neighbour (R325). `fuel` bounds the chain. -/
def State.ctrAdd (fuel : Nat) (s : State) (pl : Pl) (idx n : Nat) : State :=
  match fuel with
  | 0 => s
  | fuel + 1 =>
    let v := ((s.pln pl).ctr.rd idx 0).toNat + n
    let s := (s.noteInc (hwPlane pl (ctrBase idx + 4)) 0 0 0 n).modPln pl (fun x =>
      { x with ctr := x.ctr.wr idx (BitVec.ofNat 48 v) 0 })
    if v < 2 ^ 48 then s
    else
      let sel := s.p pl (ctrBase idx)
      let s := s.por pl (ctrBase idx) (bitMask 31)
      let s := if bit sel 18 then s.wrapEvent pl idx else s
      let s := if bit sel 19 && bit (s.g rSnpCtrl) 6 && decide (pl = s.lead) then s.snapTrigger 3 0x1FF idx else s
      let h := hostOf idx
      if bit sel 17 && decide (idx + 1 < h.1 + h.2) && bit (s.p pl (ctrBase (idx + 1))) 16 then
        State.ctrAdd fuel s pl (idx + 1) 1
      else s

/-- The counter ignores its own EVENT because its lower neighbour is chained to it (R325). -/
def State.ctrChained (s : State) (pl : Pl) (idx : Nat) : Bool :=
  decide ((hostOf idx).1 < idx) && bit (s.p pl (ctrBase (idx - 1))) 17

/-- QUAL selects something for the event `code` of counter `idx` (R323). -/
def qualUsed (idx code : Nat) : Bool :=
  if idx < 768 then decide (2 ≤ code ∧ code ≤ 5) || decide (code = 0x0B)
  else if idx < 928 then decide (2 ≤ code ∧ code ≤ 5) || decide (code = 9)
  else if idx < 960 then decide (code = 2 ∨ code = 4)
  else decide (992 ≤ idx ∧ (code = 2 ∨ code = 3))

/-- Counter `idx` counts event `code` with qualifier `qual`, for the owner of a packet at U or S level if one is named
(R323, R324). -/
def State.ctrTakes (s : State) (pl : Pl) (idx code qual : Nat) (owner : Option Nat) : Bool :=
  let sel := s.p pl (ctrBase idx)
  bit sel 16 && !s.ctrChained pl idx && decide (fld sel 0 8 = code) && (bit sel 13 || !qualUsed idx code || decide (fld sel 8 5 = qual))
  && (!bit sel 24 || decide (owner = some (fld sel 20 4)))

/-- `n` occurrences of event `code` in the host whose counters start at index `first` (R323). -/
def State.countN (s : State) (pl : Pl) (first cnt code qual : Nat) (owner : Option Nat) (n : Nat) : State :=
  (List.range cnt).foldl
    (fun t i => if t.ctrTakes pl (first + i) code qual owner then State.ctrAdd cnt t pl (first + i) n else t) s

/-- The owner that OWNER_EN compares: the header's OWNER when PRIV is U or S (R324). -/
def ownerIf (priv owner : Nat) : Option Nat := if priv = 3 then none else some owner

def State.countNi (s : State) (pl : Pl) (p code qual : Nat) (owner : Option Nat) : State :=
  if s.quireUp (p / 24) then s.countN pl (8 * p) 8 code qual owner 1 else s

def State.countRtr (s : State) (pl : Pl) (quire : Bool) (i code qual : Nat) : State :=
  if quire then (if s.quireUp i then s.countN pl (896 + 8 * i) 8 code qual none 1 else s)
  else (if s.quireUp (i / 4) then s.countN pl (768 + 8 * i) 8 code qual none 1 else s)

def State.countMul (s : State) (pl : Pl) (e code qual n : Nat) : State :=
  if s.quireUp (e / 2) then s.countN pl (928 + 4 * e) 4 code qual none n else s

def State.countPlc (s : State) (pl : Pl) (code : Nat) : State := s.countN pl 960 16 code 0 none 1
def State.countQ (s : State) (pl : Pl) (code : Nat) : State := s.countN pl 976 8 code 0 none 1
def State.countLock (s : State) (pl : Pl) (code : Nat) : State := s.countN pl 984 8 code 0 none 1
def State.countSpine (s : State) (pl : Pl) (code qual : Nat) : State := s.countN pl 992 8 code qual none 1

/-- The class number that QUAL selects (R323): 0 GT, 1 LL, 2 BE, 3 Message, 4 MG. -/
def vcClass (vc : Nat) : Nat :=
  if vc = 0 then 0 else if vc = 1 ∨ vc = 2 then 1 else if vc = 5 then 3 else if vc = 6 then 4 else 2

/-! ### Fail-safe owners (R251, R252) -/

/-- A fabric fault delivered a POISON flit of `owner`: the group of a fail-safe owner goes safe at the next boundary
(R251, R252). M-level traffic belongs to no owner. -/
def State.poisonOwner (s : State) (owner priv : Nat) : State :=
  if priv ≠ 3 && bit (s.g rSafeFs) owner then
    { s with pads := { s.pads with safePend := s.pads.safePend ||| BitVec.ofNat 4 (2 ^ (s.gf rSafeMap (2 * owner) 2)) } }
  else s

/-! ### MP pads (R309, R310) -/

def State.mp (s : State) (m : Nat) : MpPad := s.pads.mp.rd m {}

def State.modMp (s : State) (m : Nat) (f : MpPad → MpPad) : State := { s with pads := { s.pads with mp := s.pads.mp.upd m {} f } }

/-- The function that PAD.MP_FN gives pad `m`. -/
def State.mpFn (s : State) (m : Nat) : Nat := s.gf rMpFn (4 * m) 3

/-- What the pad drives: `none` is high impedance (R306, R307, R309, R310). -/
def State.mpOut (s : State) (m : Nat) : Option Bool :=
  let x := s.mp m
  if s.pads.held || x.holdFrom.isSome then x.latched
  else if x.active = 1 then some (bit (s.g rMpOut) m)
  else if x.active = 3 then some s.pads.snapOut
  else none

/-- The slot of a switch ends: the pad is in HOLD from here on, at the level it has now, or at the level of a hold that still
lasts (R310). -/
def State.beginHolds (s : State) : State :=
  [0, 1].foldl (fun t m => match (t.mp m).switchAt with
    | some w => t.modMp m (fun x => { x with
        switchAt := none, holdFrom := some w, latched := if x.holdFrom.isSome then x.latched else s.mpOut m })
    | none => t) s

/-! ### Sending packets -/

/-- Appends flits to a list kept by key. -/
def pushAt (t : Tab (List Flit)) (k : Nat) (fs : List Flit) : Tab (List Flit) := t.upd k [] (fun l => l ++ fs)

/-- Flits with their check words on the T96-P (R235). -/
def State.checked (s : State) (pl : Pl) (fs : List Flit) : List Flit :=
  if s.variant.paired then fs.map (fun f => { f with check := checkWord pl f.hdr f.data }) else fs

/-- The flits of a packet that an end of plane `pl` forms. -/
def State.flits (s : State) (pl : Pl) (hdr : BitVec 64) (lines : List Line) : List Flit := s.checked pl (mkFlits hdr lines s.fc)

/-- Flits of NI `p` pass toward its link to the folio router: half A's at once, half B's through the ingress delay register,
with the check words of the flits as they were formed (R234, R376). -/
def State.niPass (s : State) (pl : Pl) (p vc : Nat) (fs : List Flit) : State :=
  let fs := s.checked pl fs
  if pl = .b ∧ 0 < s.img.skew then
    s.modPort p (fun x => { x with ingress := x.ingress ++ fs.map (fun f => (s.fc + s.img.skew, f)) })
  else s.modNi pl p (fun n => { n with tx := pushAt n.tx vc fs })

/-- NI `p` queues a packet for its link. -/
def State.niSend (s : State) (pl : Pl) (p : Nat) (hdr : BitVec 64) (lines : List Line) : State :=
  s.niPass pl p (hVc hdr) (mkFlits hdr lines s.fc)

/-- The service block queues a packet on the service link of its destination's quire (R64). -/
def State.sbSend (s : State) (pl : Pl) (hdr : BitVec 64) (lines : List Line) : State :=
  s.modSb pl (fun b => { b with tx := pushAt b.tx (quireOfEp (hDest hdr) * 8 + hVc hdr) (s.flits pl hdr lines) })

/-- Mule engine `e` queues a packet toward its quire router (R64). -/
def State.mulSend (s : State) (pl : Pl) (e : Nat) (hdr : BitVec 64) (lines : List Line) : State :=
  s.modMul pl e (fun m => { m with tx := pushAt m.tx (hVc hdr) (s.flits pl hdr lines) })

/-- An initiator of placement traffic, an NI or a Mule engine, sends a packet. -/
def State.epSend (s : State) (pl : Pl) (ep : Nat) (hdr : BitVec 64) (lines : List Line) : State :=
  match muleOf ep with
  | some e => s.mulSend pl e hdr lines
  | none => s.niSend pl ep hdr lines

/-- The service block sends a MGMT packet (R32, R35, R72). -/
def State.sbMgmt (s : State) (pl : Pl) (dest mop marg tag : Nat) (lines : List Line) : State :=
  s.sbSend pl (mkHdr dest epService 6 kMgmt 3 0 tag (lines.length - 1) ||| mgmtHi mop marg) lines

/-- The service block answers a request (R32, R35): RACK without data, RDATA with one line. Its answers carry PRIV M and OWNER
0, the model's choice: the manual does not say which a response carries (log 39). -/
def State.sbReply (s : State) (pl : Pl) (dest vc tag status : Nat) (data : Option Line) : State :=
  let kind := match data with | some _ => kRdata | none => kRack
  s.sbSend pl (mkHdr dest epService (rspVc vc) kind 3 0 tag 0 ||| rspHi status 0) [data.getD 0]

/-- Takes the first whole packet out of a list of flits, if its tail has arrived. -/
def takePacket (l : List Flit) : Option (Packet × List Flit) :=
  match l with
  | [] => none
  | f :: _ =>
    let n := hLen f.hdr + 1
    let fs := l.take n
    if fs.length = n then
      some ({ hdr := f.hdr, flits := fs.map (·.data), poison := fs.any (·.poison) }, l.drop n)
    else none

/-- A command of a plane acts only while that plane is in service (R17, R246). -/
def inPlane (s : State) (pl : Pl) (f : State → State) : Out := .next (if s.runs pl then f s else s)

/-- What comes from the unit over a port's Stitch crossing, which both halves share, reaches every half in service, whichever of
the two is named (R232 to R234). -/
def atUnit (s : State) (pl : Pl) (f : Pl → State → State) : Out := .next (if s.runs pl then s.eachPlane f else s)

/-- A packet that waits at an end, and the state once it has been taken up. -/
abbrev Taken := Option (Packet × State)

end Sys2Proof.Machine
end

