-- ==== Sys2Proof/Machine/Topology.lean ====
section
/-!
DEFINITION. Decode of addresses (R55, R161, R208, R272, R273), the placed region (R123, R124, R126) and the protection
check (R184 to R187).
-/
namespace Sys2Proof.Machine

/-- Where an address leads (R272, R273). -/
inductive Tgt where
  | window (off : Nat)
  | lock (n : Nat)
  | queue (n off : Nat)
  | flock (f : Nat)
  | aper (e c off : Nat)
  | port (p : Nat)
  | nowhere
  deriving DecidableEq, Repr

/-- The minimal window is in use (R285). -/
def State.minimal (s : State) : Bool := bit (s.g rBootStatus) 10 && !s.boot.slept

/-- The control-window base in force (R283, R285). -/
def State.cwBase (s : State) : Option Nat :=
  if s.minimal then some s.boot.bootBase else if s.img.ok then some s.img.cwBase else none

/-- The window offset of an address, if it lies in the control window (16 MiB, R341). -/
def State.cwOff (s : State) (a : Nat) : Option Nat :=
  match s.cwBase with
  | some b => if b ≤ a ∧ a < b + 0x1000000 then some (a - b) else none
  | none => none

/-- The port to which the address map sends an address (R272). -/
def State.mapPort (s : State) (a : Nat) : Option Nat :=
  match s.img.map.find? (fun r => decide (r.base ≤ a ∧ a ≤ r.limit)) with
  | some r => some (if r.ports ≤ 1 then r.port else r.port + ((a - r.base) / 2 ^ r.ilv) % r.ports)
  | none => none

/-- Where an address leads at an initiator. -/
def State.target (s : State) (a : Nat) : Tgt :=
  match s.cwOff a with
  | some o => .window o
  | none =>
    if !s.img.ok || s.minimal then .nowhere
    else if s.img.lap ≤ a ∧ a < s.img.lap + 0x10000 then .lock ((a - s.img.lap) / 64)
    else if s.img.qap ≤ a ∧ a < s.img.qap + 0x400000 then .queue ((a - s.img.qap) / 256) ((a - s.img.qap) % 256)
    else if s.img.fap ≤ a ∧ a < s.img.fap + 0x10000 then .flock ((a - s.img.fap) / 64)
    else if s.img.mulAper ≤ a ∧ a < s.img.mulAper + 0x10000 then
      let d := a - s.img.mulAper
      if d / 0x2000 < s.variant.mules then .aper (d / 0x2000) (d % 0x2000 / 0x100) (d % 0x100) else .nowhere
    else match s.mapPort a with
      | some p => if s.isPort p then .port p else .nowhere
      | none => .nowhere

/-! ### The placed region -/

/-- First address of the placed region (R123). -/
def State.regionBase (s : State) (pl : Pl) : Nat := s.pf pl rRegionHi 0 16 * 2 ^ 32 + s.pf pl rRegionLo 16 16 * 2 ^ 16

/-- Number of pages; none while ENABLE is 0 (R123). -/
def State.regionPages (s : State) (pl : Pl) : Nat :=
  if bit (s.p pl rPlcCtrl) 0 then s.pf pl rRegionPages 0 19 else 0

/-- The page index of an address in the placed region (R123); none while ENABLE is 0. -/
def State.pageOf (s : State) (pl : Pl) (a : Nat) : Option Nat :=
  let b := s.regionBase pl
  if bit (s.p pl rPlcCtrl) 0 then
    (if b ≤ a ∧ (a - b) / 65536 < s.regionPages pl then some ((a - b) / 65536) else none)
  else none

/-- The entry the image gives a page (R128, R275). -/
def imgEntry (l : List PageRec) (page : Nat) : W32 :=
  match l.find? (fun r => decide (r.first ≤ page ∧ page < r.first + r.count)) with
  | some r => if bit r.entry 2 then setFld r.entry 3 11 (fld r.entry 3 11 + (page - r.first)) else r.entry
  | none => 0

/-- The central-table entry of a page (R126). -/
def State.entry (s : State) (pl : Pl) (page : Nat) : W32 :=
  ((s.sb pl).ctab.find page).getD (imgEntry s.img.pages page)

def State.setEntry (s : State) (pl : Pl) (page : Nat) (e : W32) : State :=
  s.modSb pl (fun b => { b with ctab := if e = imgEntry s.img.pages page then b.ctab.del page else b.ctab.ins page e })

/-- Fields of an entry (R126). -/
def eState (e : W32) : Nat := fld e 0 2
def eInframe (e : W32) : Bool := bit e 2
def eFrame (e : W32) : Nat := fld e 3 11
def eOwner (e : W32) : Nat := fld e 14 4
def eEpoch (e : W32) : Nat := fld e 18 8

/-- An entry word of its fields (R126). -/
def mkEntry (st : Nat) (inframe : Bool) (frame owner epoch : Nat) : W32 :=
  BitVec.ofNat 32 (st % 4 + b2n inframe * 4 + (if inframe then frame % 2048 * 8 else 0) + owner % 16 * 2 ^ 14 + epoch % 256 * 2 ^ 18)

/-- First address of page `page`. -/
def State.pageAddr (s : State) (pl : Pl) (page : Nat) : Nat := s.regionBase pl + page * 65536

/-- Target address and port of an address of a placed page, with the home given (R124). -/
def State.home (s : State) (a : Nat) (inframe : Bool) (frame : Nat) : Nat × Option Nat :=
  if inframe then (s.img.tileBase + frame * 65536 + a % 65536, some (s.variant.firstTile + frame / 64)) else (a, s.mapPort a)

/-- The port of a page's home (R124). -/
def State.homePort (s : State) (pl : Pl) (page : Nat) (inframe : Bool) (frame : Nat) : Nat :=
  ((s.home (s.pageAddr pl page) inframe frame).2).getD epService

/-- Target address and port for the service block, which reads the central table directly (R72, R272). -/
def State.resolveSb (s : State) (pl : Pl) (a : Nat) : Nat × Option Nat × Option Nat :=
  match s.pageOf pl a with
  | some page =>
    let e := s.entry pl page
    let h := s.home a (eInframe e) (eFrame e)
    (h.1, h.2, some page)
  | none => (a, (match s.target a with | .port p => some p | _ => none), none)

/-! ### Protection -/

/-- The right a piece needs: [0] R, [1] W, [2] X (R186, R190). -/
def needOf (kind : Nat) : Nat :=
  if kind = kFetch then 4 else if kind = kWrite then 2 else if kind = kAtomic then 3 else if kind = kMessage then 2 else 1

/-- The region evaluation of R187 over the 64 regions at `base`: none when allowed, else cause and region. -/
def State.regionCheck (s : State) (pl : Pl) (base owner priv addr need : Nat) : Option (Nat × Nat) :=
  let gr := addr / 64
  let covers (r : Nat) : Bool :=
    let b := base + 0x20 * r
    let attr := s.p pl (b + 16)
    bit attr 0 && decide (fld attr 1 4 = owner)
      && decide (s.pf pl b 6 26 + s.pf pl (b + 4) 0 16 * 2 ^ 26 ≤ gr)
      && decide (gr ≤ s.pf pl (b + 8) 6 26 + s.pf pl (b + 12) 0 16 * 2 ^ 26)
  let denies (r : Nat) : Bool :=
    let perm := fld (s.p pl (base + 0x20 * r + 16)) (if priv = 0 then 8 else 11) 3
    decide (need &&& perm ≠ need)
  let m := (List.range 64).filter covers
  if m.isEmpty then some (0, 0xFF)
  else match m.find? denies with
    | some r => some (1, r)
    | none => none

/-- The identity test of R184. -/
def State.identityRefused (s : State) (pl : Pl) (p owner priv : Nat) : Bool :=
  let cfg := s.p pl (bNi p)
  if priv = 2 then true
  else if priv = 3 then !bit cfg 16
  else !bit cfg owner || !bit (s.g (rOwner owner)) 0

/-- A read of an owner's mirror slice that R328 passes: offset in the window, READ within one granule. -/
def State.sliceRead (s : State) (pl : Pl) (off kind owner priv : Nat) : Bool :=
  decide (kind = kRead) && decide (0x900000 + 0x10000 * owner ≤ off ∧ off < 0x900000 + 0x10000 * (owner + 1))
    && (if priv = 1 then bit (s.p pl rGrant) (2 * owner) else if priv = 0 then bit (s.p pl rGrant) (2 * owner + 1) else false)

/-- The check of R187 for a piece of an NI: none when allowed, else cause and region. In the minimal window BOOT_PORT
may issue M-level requests only (R286). -/
def State.protCheck (s : State) (pl : Pl) (p kind owner priv addr : Nat) (oneGranule : Bool) : Option (Nat × Nat) :=
  if s.minimal then (if priv = 3 ∧ p = s.boot.bootPort then none else some (2, 0xFF))
  else if s.identityRefused pl p owner priv then some (2, 0xFF)
  else match s.cwOff addr with
    | some off => if priv = 3 || (oneGranule && s.sliceRead pl off kind owner priv) then none else some (3, 0xFF)
    | none =>
      if priv = 3 then none
      else if s.closedOwner owner then some (4, 0xFF)
      else s.regionCheck pl (bNi p + 0x1000) owner priv addr (needOf kind)

end Sys2Proof.Machine
end

