-- ==== Sys2Proof/Machine/Access.lean ====
section
/-!
DEFINITION. Arrival and departure of packets at the ends of the fabric (R69, R374) and the common part of every
control-window access: privilege, block, copies, answer (R11, R13, R26, R236, R286, R303, R343 to R345).
-/
namespace Sys2Proof.Machine

/-! ### Credits (R69) -/

/-- Changes the count of a VC's credits on their way to the sender of `out`. -/
def State.modCredit (s : State) (pl : Pl) (out : OutPort) (vc : Nat) (f : Nat → Nat) : State :=
  match out with
  | .niLink p => s.modNi pl p (fun x => { x with txCred := x.txCred.upd vc 0 f })
  | .folio g o => s.modRouter pl false g (fun x => { x with cred := x.cred.upd (o * 8 + vc) 0 f })
  | .quire q o => s.modRouter pl true q (fun x => { x with cred := x.cred.upd (o * 8 + vc) 0 f })
  | .service q => s.modSb pl (fun x => { x with txCred := x.txCred.upd (q * 8 + vc) 0 f })
  | .mule e => s.modMul pl e (fun x => { x with txCred := x.txCred.upd vc 0 f })

/-- Puts `n` credits of a VC on their way to the sender of `out`. -/
def State.giveCredit (s : State) (pl : Pl) (out : OutPort) (vc n : Nat) : State := s.modCredit pl out vc (· + n)

/-- The folio router output that leads to port `p` (R20, R24). -/
def outToPort (p : Nat) : OutPort := .folio (p / 6) (p % 6)

/-- The quire router output that leads to Mule engine `e` (R24). -/
def outToMule (e : Nat) : OutPort := .quire (e / 2) (20 + e % 2)

/-- The quire router output that leads to the service block over link `q` (R24). -/
def outToSb (q : Nat) : OutPort := .quire q 22

/-- Flits at the head of a buffer of depth `d` that have left it, with their credits, although their packet is not yet whole:
those of a packet longer than the buffer, once it is at the head (R374; log 14). -/
def headOut (l : List Flit) (d : Nat) : Nat :=
  match l with
  | [] => 0
  | f :: _ => if d < hLen f.hdr + 1 then min l.length (hLen f.hdr + 1) else 0

/-- The packet at the head of a buffer with depth `d`: the packet, what is left, the credits that its own flits still owe,
and those of a long packet that comes to the head after it. -/
def popHeld (l : List Flit) (d : Nat) : Option (Packet × List Flit × Nat × Nat) :=
  match takePacket l with
  | some (k, rest) => some (k, rest, hLen k.hdr + 1 - headOut l d, headOut rest d)
  | none => none

/-- The packet at the head of a buffer, what is left, and the credits to return as it leaves (R374). -/
def popBuf (l : List Flit) (d : Nat) : Option (Packet × List Flit × Nat) :=
  (popHeld l d).map (fun x => (x.1, x.2.1, x.2.2.1 + x.2.2.2))

/-- Credits that flit `f` returns on its arrival behind the flits `l` (R374). -/
def arriveOut (l : List Flit) (f : Flit) (d : Nat) : Nat := headOut (l ++ [f]) d - headOut l d

/-- The header at the head of a buffer. -/
def headHdr (l : List Flit) : Option (BitVec 64) := l.head?.map (·.hdr)

/-- Takes the packet at the head of NI `p`'s buffer of `vc`. -/
def State.popNi (s : State) (pl : Pl) (p vc : Nat) : Taken :=
  match popBuf ((s.ni pl p).rx.rd vc []) (vcDepth vc) with
  | some (k, rest, n) =>
    some (k, (s.modNi pl p (fun x => { x with rx := x.rx.wr vc rest [] })).giveCredit pl (outToPort p) vc n)
  | none => none

/-- Takes the packet at the head of NI `p`'s inbox of `vc`. -/
def State.popNiIn (s : State) (pl : Pl) (p vc : Nat) : Taken :=
  match takePacket ((s.ni pl p).inbox.rd vc []) with
  | some (k, rest) => some (k, s.modNi pl p (fun x => { x with inbox := x.inbox.wr vc rest [] }))
  | none => none

/-- Takes the packet at the head of the service block's buffer of link `q` and `vc`. -/
def State.popSb (s : State) (pl : Pl) (q vc : Nat) : Taken :=
  match popBuf ((s.sb pl).rx.rd (q * 8 + vc) []) (vcDepth vc) with
  | some (k, rest, n) =>
    some (k, (s.modSb pl (fun x => { x with rx := x.rx.wr (q * 8 + vc) rest [] })).giveCredit pl (outToSb q) vc n)
  | none => none

/-- Takes the packet at the head of the service block's inbox of link `q` and `vc`. -/
def State.popSbIn (s : State) (pl : Pl) (q vc : Nat) : Taken :=
  match takePacket ((s.sb pl).inbox.rd (q * 8 + vc) []) with
  | some (k, rest) => some (k, s.modSb pl (fun x => { x with inbox := x.inbox.wr (q * 8 + vc) rest [] }))
  | none => none

/-- Takes the packet at the head of Mule engine `e`'s buffer of `vc`. -/
def State.popMul (s : State) (pl : Pl) (e vc : Nat) : Taken :=
  match popBuf ((s.mul pl e).rx.rd vc []) (vcDepth vc) with
  | some (k, rest, n) =>
    some (k, (s.modMul pl e (fun x => { x with rx := x.rx.wr vc rest [] })).giveCredit pl (outToMule e) vc n)
  | none => none

/-- Takes the packet at the head of Mule engine `e`'s inbox of `vc`. -/
def State.popMulIn (s : State) (pl : Pl) (e vc : Nat) : Taken :=
  match takePacket ((s.mul pl e).inbox.rd vc []) with
  | some (k, rest) => some (k, s.modMul pl e (fun x => { x with inbox := x.inbox.wr vc rest [] }))
  | none => none

/-- Takes the packet at the head of the inbox of a placement endpoint: an NI or a Mule engine. -/
def State.popEpIn (s : State) (pl : Pl) (ep vc : Nat) : Taken :=
  match muleOf ep with
  | some e => s.popMulIn pl e vc
  | none => s.popNiIn pl ep vc

/-! ### Control-window accesses -/

/-- The header is that of request `r`'s packet (R26). -/
def cwIsHead (r : CwReq) (h : Option (BitVec 64)) : Bool :=
  match h with
  | some h => decide (hSrc h = r.src ∧ hTag h = r.tag ∧ hVc h = r.vc ∧ (hKind h = kRead ∨ hKind h = kWrite))
  | none => false

/-- Sends the control island's answer into plane `pl` and takes the request's packet out of the service block's buffer
there, if it came by the fabric (R26, R236). -/
def State.answerPlane (r : CwReq) (status : Nat) (data : Option Line) (pl : Pl) (s : State) : State :=
  let q := quireOfEp r.src
  if cwIsHead r (headHdr ((s.sb pl).rx.rd (q * 8 + r.vc) [])) then
    match s.popSb pl q r.vc with
    | some (_, t) => t.sbReply pl r.src r.vc r.tag status data
    | none => s
  else s

/-- The single answer of the control island (R236, R343, R344). -/
def State.answer (s : State) (r : CwReq) (status : Nat) (data : Option Line) : State :=
  let a : CwAnswer := { src := r.src, tag := r.tag, status := status, data := data.getD 0 }
  let s : State := { s with answers := s.answers ++ [a] }
  s.eachPlane (State.answerPlane r status data)

/-- The window is there for anyone to reach: after DONE, or the minimal window (R283, R285), and while the control island
runs (R300). -/
def State.windowOpen (s : State) : Bool := (s.done || s.minimal) && decide (s.pw.dev = .run)

/-- The flits of a plane's service block that end a window access: its tails, in no order (R26). -/
def Sb.windowTails (b : Sb) : List Flit :=
  (b.rx.flatMap (·.2)).filter (fun f => decide ((hKind f.hdr = kRead ∨ hKind f.hdr = kWrite) ∧ f.idx = hLen f.hdr))

/-- Where the packet of `r` is at the head of its buffer in a plane: no access whose tail came earlier waits there, and none
of a lower source whose tail came in the same fc (R26). -/
def Sb.turnOf (b : Sb) (r : CwReq) : Bool :=
  let l := b.rx.rd (quireOfEp r.src * 8 + r.vc) []
  if cwIsHead r (headHdr l) then
    match l[hLen ((headHdr l).getD 0)]? with
    | some f => b.windowTails.all (fun g => decide (f.since < g.since ∨ (f.since = g.since ∧ hSrc f.hdr ≤ hSrc g.hdr)))
    | none => false
  else true

/-- It is the turn of access `r` in every plane in service (R26). -/
def State.cwTurn (s : State) (r : CwReq) : Bool := s.planes.all (fun pl => (s.sb pl).turnOf r)

/-- The packet of `r` at the head of its buffer came poisoned (R254). -/
def Sb.headPoison (b : Sb) (r : CwReq) : Bool :=
  let l := b.rx.rd (quireOfEp r.src * 8 + r.vc) []
  cwIsHead r (headHdr l) && match takePacket l with | some (k, _) => k.poison | none => false

/-- The access delivers a poisoned request, or two copies that differ (R236, R254). -/
def State.cwPoison (s : State) (r : CwReq) : Bool :=
  (decide (r.copies = .differ) && decide (s.planes.length = 2)) || s.planes.any (fun pl => (s.sb pl).headPoison r)

/-- The control island takes up access `r` now. -/
def State.windowTakes (s : State) (r : CwReq) : Bool := s.windowOpen && s.cwTurn r

/-- The offset answers in the minimal window: COL, IMG and PAD.SAFE_STATE (R286). -/
def minimalOff (off : Nat) : Bool :=
  decide (off < 0x1000) || decide (0x4000 ≤ off ∧ off < 0x8000) || decide (off = rSafeState)

/-- NI.PROT_CFG.M_OK of a source port (R184, R345); an engine's requests come from no port. -/
def State.mOk (s : State) (pl : Pl) (src : Nat) : Bool := decide (95 < src) || bit (s.p pl (bNi src)) 16

/-- The status with which an access of `r` to `off` is refused, or OK (R11, R13, R16, R236, R286, R303, R328, R345). -/
def State.accessStatus (s : State) (r : CwReq) (off : Nat) (write : Bool) : Nat :=
  let st :=
    if s.minimal then
      (if r.priv ≠ 3 ∨ r.src ≠ s.boot.bootPort then stProt else if minimalOff off then stOk else stDecode)
    else if r.priv ≠ 3 ∧ (write ∨ !s.sliceRead s.lead off kRead r.owner r.priv) then stProt
    else if r.priv = 3 ∧ !s.mOk s.lead r.src then stProt
    else if !inBlock s.variant off then stDecode
    else match quireOfOff off with
      | some q => if s.quireUp q then stOk else stDecode
      | none => stOk
  stFirst st (if s.cwPoison r then stPoison else stOk)

/-- An access to a block of an Idle quire wakes it (R296). -/
def State.touch (s : State) (off : Nat) : State :=
  match quireOfOff off with
  | some q =>
    if (s.qp q).state = PState.idle ∧ (s.qp q).exitAt = none then
      s.modQp q (fun x => { x with state := .run, quiet := 0, idleSlots := 0 })
    else s
  | none => s

/-- A write access of one word at `off` with effect `f` (R343, R344). In the minimal window only IMG.CTRL and the flash
interface take a write (R286). -/
def State.cwWrite (s : State) (r : CwReq) (off : Nat) (f : State → State) : Out :=
  .next (if s.windowTakes r then
    (let st := s.accessStatus r off true
     let t := if st = stOk ∧ (!s.minimal || (decide (0x4020 ≤ off ∧ off < 0x4080))) then f (s.touch off) else s
     t.answer r st none)
  else s)

/-- Puts word values into a line: `ws` at their byte offsets within the granule (R343). -/
def lineOf (ws : List (Nat × W32)) : Line :=
  BitVec.ofNat 512 (ws.foldl (fun a (i, w) => a + w.toNat * 2 ^ (8 * i)) 0)

end Sys2Proof.Machine
end

