-- ==== Sys2Proof/Machine/Faults.lean ====
section
/-!
DEFINITION. Plane faults on the T96-P: the first fault, a second fault, a fault of the recovering plane (R239, R245, R246, R250).
-/
namespace Sys2Proof.Machine

/-- Owners that a second fault affects: recorded, and the groups of those that are fail-safe go safe (R250, R251). -/
def State.affectOwners (s : State) (m : BitVec 16) : State :=
  let s := s.gor rPairAffected (BitVec.ofNat 32 m.toNat)
  (List.range 16).foldl (fun t o =>
    if m.getLsbD o && bit (t.g rSafeFs) o then
      { t with pads := { t.pads with safePend := t.pads.safePend ||| BitVec.ofNat 4 (2 ^ (t.gf rSafeMap (2 * o) 2)) } }
    else t) s

/-- Every valid owner (R250). -/
def State.validOwners (s : State) : BitVec 16 :=
  BitVec.ofNat 16 ((List.range 16).foldl (fun a o => if bit (s.g (rOwner o)) 0 then a + 2 ^ o else a) 0)

/-- A plane fault during the join pause aborts the join (R249, R250). -/
def State.abortJoin (s : State) : State :=
  if s.pair.joining.isSome ∧ !s.pair.aborted then
    { s.ginc rPairAborts 0 32 1 with pair := { s.pair with aborted := true, resumeWait := false, notBefore := s.now + 65536 } }
  else s

/-- No flit is at the comparator. -/
def Cmp.idle (c : Cmp) : Bool :=
  c.delay.isEmpty && c.inB.isEmpty && c.queue.isEmpty && c.waitAt.isNone && c.diverged.isNone

/-- The comparator without any flit. -/
def Cmp.flush (c : Cmp) : Cmp :=
  { c with delay := [], inB := [], queue := [], copyA := none, copyB := none, waitAt := none, diverged := none }

/-- The flits of a plane that have arrived at the comparator. -/
def Cmp.arrived (c : Cmp) (pl : Pl) : List Flit := match pl with | .a => c.delay.map (fun x => x.2) | .b => c.inB

/-- What a comparator holds of a plane that goes out of service. -/
def Cmp.dropHalf (c : Cmp) (pl : Pl) : Cmp := match pl with | .a => { c with delay := [] } | .b => { c with inB := [] }

/-- A plane is reset (R19, R246): everything in it is at its reset value, its islands are unlocked, and what was on record of its
crossings is forgotten. The control island belongs to no plane. -/
def State.resetPlane (s : State) (pl : Pl) : State :=
  let s := s.setPln pl { isl := (s.pln pl).isl.filter (fun x => decide (x.1 = 21)) }
  { s with
    pair := { s.pair with
      cmp := s.pair.cmp.foldl (fun t x => t.upd x.1 {} (·.dropHalf pl)) s.pair.cmp,
      edges := if pl = .b then [] else s.pair.edges },
    ports := if pl = .b then s.ports.foldl (fun t x => t.upd x.1 {} (fun y => { y with ingress := [] })) s.ports else s.ports,
    boot := { s.boot with offList := s.boot.offList.filter (fun o => decide (o.1 / 512 % 2 ≠ (match pl with | .a => 0 | .b => 1))) } }

/-- The recovering plane fails: it starts again at RESET, the third time it is FAILED (R246). -/
def State.restartPlane (s : State) (pl : Pl) : State :=
  let n := min (s.pair.restarts + 1) 3
  let st : PlState := if 3 ≤ n then .failed else .reset
  let p : Pair := { s.pair with restarts := n, since := s.now, sinceFc := s.fc }
  ({ s with pair := match pl with | .a => { p with a := st } | .b => { p with b := st } } : State).resetPlane pl

/-- A plane is found faulty: the first fault opens a recovery window (R245); a fault of the plane in service while a
window is open is a second fault (R250); a fault of the recovering plane restarts it (R246). `owners`: the owners a
second fault affects, all valid owners when none are named. -/
def State.planeFault (s : State) (pl : Pl) (cause port : Nat) (owners : Option (BitVec 16)) : State :=
  if !s.variant.paired then s
  else if s.plState pl = .failed then s
  else
    let s := s.abortJoin
    if !s.runs pl then s.restartPlane pl
    else if s.pair.window ∨ s.pair.faulty.isSome then
      if s.pair.faulty = some pl then s
      else (s.affectOwners (owners.getD s.validOwners)).occurInfo 381 port
    else { s with pair := { s.pair with faulty := some pl, cause := cause, port := port, slot := s.now } }

/-- The OWNER that a header names, for R250; M-level traffic belongs to no owner. -/
def ownerBits (hdr : BitVec 64) : BitVec 16 := if hPriv hdr = 3 then 0 else BitVec.ofNat 16 (2 ^ hOwner hdr)

/-- A flit fails its plane's check at an end inside the plane (R239). -/
def State.failsCheck (s : State) (pl : Pl) (f : Flit) : Bool := s.variant.paired && !checkPass pl f

/-- An end inside the plane finds the plane faulty by such a flit, which it discards (R239). -/
def State.checkFault (s : State) (pl : Pl) (port : Nat) (f : Flit) : State := s.planeFault pl 1 port (some (ownerBits f.hdr))

end Sys2Proof.Machine
end

