-- ==== Sys2Proof/Machine/Fabric.lean ====
section
/-!
DEFINITION. Routes (R62 to R67), live ends (R80), and the arrival of a flit at a router, an NI, a Mule engine or the
service block (R69, R109, R374).
-/
namespace Sys2Proof.Machine

/-- What a router finds for a packet (R62, R63). -/
inductive Route where
  | out (o : Nat)
  | spine (j : Nat)
  | agent
  deriving DecidableEq, Repr

/-- The spine group of quire `q` toward quire `dq` (R63). -/
def spineGroup (q dq : Nat) : Nat := if dq < q then dq else dq - 1

/-- The quire that spine group `j` of quire `q` leads to (R24). -/
def spinePeer (q j : Nat) : Nat := if j < q then j else j + 1

/-- Route at folio router `g` (R62). -/
def routeFolio (g dest src : Nat) : Route :=
  if dest ≤ 95 ∧ dest / 6 = g then .out (dest % 6)
  else if dest = epFolio g then .agent
  else .out (6 + (src + dest) % 2)

/-- Route at quire router `q` (R63). -/
def routeQuire (q dest src : Nat) : Route :=
  if dest = epService then .out 22
  else if 0x70 ≤ dest ∧ dest ≤ 0x77 then
    let e := dest - 0x70
    if e / 2 = q then .out (20 + e % 2) else .spine (spineGroup q (e / 2))
  else if 0x78 ≤ dest ∧ dest ≤ 0x7B then
    if dest - 0x78 = q then .agent else .spine (spineGroup q (dest - 0x78))
  else if 0x60 ≤ dest ∧ dest ≤ 0x6F then
    let g := dest - 0x60
    if g / 4 = q then .out (2 * (g % 4) + (src + dest) % 2) else .spine (spineGroup q (g / 4))
  else if dest / 24 = q then .out (2 * (dest % 24 / 6) + (src + dest) % 2)
  else .spine (spineGroup q (dest / 24))

/-- The order-table bucket of a packet (R67). -/
def bucketOf (h : BitVec 64) : Nat := (hSrc h ^^^ hDest h) * 8 + hVc h

/-- Credits that output `o` holds for `vc` (R69). -/
def Router.credits (r : Router) (o vc : Nat) : Nat := vcDepth vc - r.used.rd (o * 8 + vc) 0

/-- The output of group `j` with the most credits on `vc`, lowest index on a tie (R66). -/
def Router.freest (r : Router) (j vc : Nat) : Nat :=
  8 + 4 * j + [1, 2, 3].foldl (fun a i => if r.credits (8 + 4 * j + a) vc < r.credits (8 + 4 * j + i) vc then i else a) 0

/-- The output a head flit takes toward spine group `j` (R66, R67). -/
def Router.spineOut (r : Router) (j : Nat) (h : BitVec 64) : Nat :=
  if hVc h = 0 then 8 + 4 * j + (hSrc h + hDest h) % 4
  else
    let b := r.ord.rd (j * 1024 + bucketOf h) {}
    if 0 < b.pend then 8 + 4 * j + b.link else r.freest j (hVc h)

/-- Route of a flit at a router. -/
def routeAt (quire : Bool) (i : Nat) (h : BitVec 64) : Route :=
  if quire then routeQuire i (hDest h) (hSrc h) else routeFolio i (hDest h) (hSrc h)

/-- The output of the flit at the head of input `n`, `vc`; none for the router's own agent. -/
def Router.flitOut (r : Router) (quire : Bool) (i n : Nat) (f : Flit) : Option Nat :=
  match routeAt quire i f.hdr with
  | .out o => some o
  | .agent => none
  | .spine j => if f.idx = 0 then some (r.spineOut j f.hdr) else some (r.pick.rd (n * 8 + hVc f.hdr) 0)

/-- Number of outputs and the index of the local input (R65). -/
def nOut (quire : Bool) : Nat := if quire then 23 else 8

/-- The fabric islands are out of reset: from the end of phase 6 on, or in the minimal window (R281, R285). -/
def State.fabricUp (s : State) : Bool := s.done || decide (s.phase = 7) || s.minimal

/-- The input and output `n` of a router is live (R80). -/
def State.liveEnd (s : State) (quire : Bool) (i n : Nat) : Bool :=
  s.fabricUp && (if quire then
      s.quireUp i && (if n ≤ 7 then true
        else if n ≤ 19 then decide (spinePeer i ((n - 8) / 4) < s.variant.quires) && s.quireUp (spinePeer i ((n - 8) / 4))
        else if n ≤ 21 then true
        else decide (s.pw.dev = .run ∨ s.pw.dev = .idle))
    else s.quireUp (i / 4) && (if n ≤ 5 then (s.port (6 * i + n)).live else true))

/-- A quire whose island clocks run. -/
def State.quireRuns (s : State) (q : Nat) : Bool := s.fabricUp && decide ((s.qp q).state = .run)

/-- The island behind output `o` of a router runs: a flit offered to an Idle quire or spine-link island waits (R296). -/
def State.farRuns (s : State) (quire : Bool) (i o : Nat) : Bool :=
  !quire || decide (o < 8 ∨ o = 20 ∨ o = 21)
    || (decide ((s.qp 4).state = .run) && (decide (19 < o) || decide ((s.qp (spinePeer i ((o - 8) / 4))).state = .run)))

/-- Marks that a flit entered quire `q`, or the spine-link island, 4 (R295). -/
def State.seeFlit (s : State) (q : Nat) : State := s.modQp q (fun x => { x with flitSeen := true })

/-- A flit enters input `n` of a router. -/
def State.arriveRouter (s : State) (pl : Pl) (quire : Bool) (i n : Nat) (f : Flit) : State :=
  let s := (s.modRouter pl quire i (fun r => { r with buf := pushAt r.buf (n * 8 + hVc f.hdr) [{ f with since := s.fc }] })).seeFlit
    (if quire then i else i / 4)
  if quire ∧ 8 ≤ n ∧ n ≤ 19 then s.seeFlit 4 else s

/-- A VC whose packets leave the buffer on arrival (R374). -/
def onArrival (vc : Nat) : Bool := decide (vc = 2 ∨ vc = 4 ∨ vc = 6)

/-- The GT record of a stream (R274). -/
def State.gtRec (s : State) (src n : Nat) : Option GtRec := s.img.gt.find? (fun r => decide (r.src = src ∧ r.stream = n))

/-- A GT flit enters the release buffer of the shared edge (R109, R232). -/
def State.gtArrive (s : State) (p : Nat) (f : Flit) : State :=
  let isReq := decide (hKind f.hdr < kRdata)
  let f := { f with since := s.fc }
  s.modPort p (fun x =>
    if f.idx = 0 then
      let lane := if isReq then
          match s.gtRec (hSrc f.hdr) (hGts f.hdr) with | some r => (r.lane, r.limit) | none => (0, 0)
        else
          match (s.ni s.lead p).out.find? (fun q => decide (q.tag = some (hTag f.hdr))) with
          | some q => (match s.gtRec p q.gts with | some r => (r.rlane, r.limit) | none => (0, 0))
          | none => (0, 0)
      { x with gtRel := x.gtRel ++ [{ flits := [f], request := isReq, limit := lane.2, lane := lane.1,
                                      islot := hIslot f.hdr, late := false, nextFlit := 0 }] }
    else
      { x with gtRel := x.gtRel.map (fun g =>
          if g.flits.length = f.idx ∧ (g.flits.head?.map (·.hdr)) = some f.hdr then { g with flits := g.flits ++ [f] } else g) })

/-- A flit enters half `pl` of NI `p` (R374); a GT flit is in the release buffer of both. A port that answers with POISON
returns no further credit on its request VCs (R365). -/
def State.enterNi (s : State) (pl : Pl) (p : Nat) (f : Flit) : State :=
  let vc := hVc f.hdr
  let f := { f with since := s.fc }
  let s := s.countNi pl p 0x05 (vcClass vc) (ownerIf (hPriv f.hdr) (hOwner f.hdr))
  if vc = 0 then (if (s.port p).poisoning then s else s.giveCredit pl (outToPort p) 0 1)
  else if onArrival vc then
    (s.modNi pl p (fun x => { x with inbox := pushAt x.inbox vc [f] })).giveCredit pl (outToPort p) vc 1
  else
    let back := arriveOut ((s.ni pl p).rx.rd vc []) f (vcDepth vc)
    let s := s.modNi pl p (fun x => { x with rx := pushAt x.rx vc [f] })
    if (s.port p).poisoning then s else s.giveCredit pl (outToPort p) vc back

/-- The GT flits that come to a port go to its release buffer. -/
def State.edgeGt (s : State) (p : Nat) (f : Flit) : State := if hVc f.hdr = 0 then s.gtArrive p f else s

/-- A flit arrives at the fabric side of NI `p`: at its comparator on the T96-P, half A's flit in the egress delay register
(R237); but a MGMT packet is consumed inside the plane, if its check word passes (R239). -/
def State.arriveNi (s : State) (pl : Pl) (p : Nat) (f : Flit) : State :=
  let s := s.seeFlit (p / 24)
  if !s.variant.paired then (s.edgeGt p f).enterNi pl p f
  else if hKind f.hdr = kMgmt then
    (if s.failsCheck pl f then (s.giveCredit pl (outToPort p) (hVc f.hdr) 1).checkFault pl p f else s.enterNi pl p f)
  else { s with pair := { s.pair with cmp := s.pair.cmp.upd p {} (fun c => match pl with
      | .a => { c with delay := c.delay ++ [(s.fc + s.img.skew, f)] }
      | .b => { c with inB := c.inB ++ [f] }) } }

/-- A flit arrives at Mule engine `e` (R239, R374). -/
def State.arriveMul (s : State) (pl : Pl) (e : Nat) (f : Flit) : State :=
  let vc := hVc f.hdr
  let f := { f with since := s.fc }
  if s.failsCheck pl f then (s.giveCredit pl (outToMule e) vc 1).checkFault pl (epMule e) f
  else if onArrival vc then
    (s.modMul pl e (fun x => { x with inbox := pushAt x.inbox vc [f] })).giveCredit pl (outToMule e) vc 1
  else
    let back := arriveOut ((s.mul pl e).rx.rd vc []) f (vcDepth vc)
    (s.modMul pl e (fun x => { x with rx := pushAt x.rx vc [f] })).giveCredit pl (outToMule e) vc back

/-- A flit arrives at the service block over link `q` (R239, R374). -/
def State.arriveSb (s : State) (pl : Pl) (q : Nat) (f : Flit) : State :=
  let vc := hVc f.hdr
  let f := { f with since := s.fc }
  let s := s.seeFlit 4
  if s.failsCheck pl f then (s.giveCredit pl (outToSb q) vc 1).checkFault pl epService f
  else if onArrival vc then
    (s.modSb pl (fun x => { x with inbox := pushAt x.inbox (q * 8 + vc) [f] })).giveCredit pl (outToSb q) vc 1
  else
    let back := arriveOut ((s.sb pl).rx.rd (q * 8 + vc) []) f (vcDepth vc)
    (s.modSb pl (fun x => { x with rx := pushAt x.rx (q * 8 + vc) [f] })).giveCredit pl (outToSb q) vc back

/-- The spine link number of parallel link `i` between two quires (R23). -/
def spineLink (a b i : Nat) : Nat :=
  let lo := min a b
  let hi := max a b
  4 * (if lo = 0 then hi - 1 else if lo = 1 then hi + 1 else 5) + i

/-- A flit leaves output `o` of a router and arrives at the far end (R24). -/
def State.leaveRouter (s : State) (pl : Pl) (quire : Bool) (i o : Nat) (f : Flit) : State :=
  if quire then
    if o ≤ 7 then s.arriveRouter pl false (4 * i + o / 2) (6 + o % 2) f
    else if o ≤ 19 then
      let peer := spinePeer i ((o - 8) / 4)
      let par := (o - 8) % 4
      (s.countSpine pl 0x02 (spineLink i peer par)).arriveRouter pl true peer (8 + 4 * spineGroup peer i + par) f
    else if o ≤ 21 then s.arriveMul pl (2 * i + (o - 20)) f
    else (s.countSpine pl 0x03 i).arriveSb pl i f
  else if o ≤ 5 then s.arriveNi pl (6 * i + o) f
  else s.arriveRouter pl true (i / 4) (2 * (i % 4) + (o - 6)) f

/-- The sender behind input `n` of a router; none for the local input. -/
def inputSender (quire : Bool) (i n : Nat) : Option OutPort :=
  if quire then
    if n ≤ 7 then some (.folio (4 * i + n / 2) (6 + n % 2))
    else if n ≤ 19 then
      let peer := spinePeer i ((n - 8) / 4)
      some (.quire peer (8 + 4 * spineGroup peer i + (n - 8) % 4))
    else if n ≤ 21 then some (.mule (2 * i + (n - 20)))
    else if n = 22 then some (.service i) else none
  else if n ≤ 5 then some (.niLink (6 * i + n))
  else if n ≤ 7 then some (.quire (i / 4) (2 * (i % 4) + (n - 6))) else none

end Sys2Proof.Machine
end

