-- ==== Sys2Proof/Machine/NiBase.lean ====
section
/-!
DEFINITION. The initiator side of an NI: violation records (R190, R191), the lookaside (R130, R131, R136), the packet of
a piece (R34 to R38, R164), the holds of R45, R46, R50 and R87, and completions (R42, R44).
-/
namespace Sys2Proof.Machine

/-! ### Violation records -/

/-- The 64-byte record of R190. -/
def recordLine (slot paddr port owner priv kind cause region need len seq : Nat) : Line :=
  BitVec.ofNat 512 (slot % 2 ^ 64 + (paddr % 2 ^ 48) * 2 ^ 64 + port * 2 ^ 128 + (owner % 16 + priv % 4 * 16) * 2 ^ 136
    + kind * 2 ^ 144 + cause * 2 ^ 152 + region * 2 ^ 160 + need * 2 ^ 168 + (len % 65536) * 2 ^ 176
    + (seq % 2 ^ 32) * 2 ^ 192)

/-- Word `i` of a 64-byte line. -/
def lineWord (d : Line) (i : Nat) : W32 := BitVec.ofNat 32 (fld d (32 * i) 32)

/-- Writes the sixteen words of NI.VREC. -/
def State.setVrec (s : State) (pl : Pl) (p : Nat) (d : Line) : State :=
  (List.range 16).foldl (fun t i => t.pset pl (bNi p + 0x40 + 4 * i) (lineWord d i)) s

/-- Forms the record of a request refused with ERR_PROT (R190, R191). -/
def State.violation (s : State) (pl : Pl) (p owner priv paddr kind cause region need len : Nat) : State :=
  let seq := (s.ni pl p).recSeq
  let d := recordLine s.now paddr p owner priv kind cause region need len seq
  let s := (s.pinc pl (bNi p + 8) 0 32 1).modNi pl p (fun n => { n with recSeq := n.recSeq + 1 })
  let s := s.countNi pl p 0x0A 0 (ownerIf priv owner)
  if bit (s.p pl (bNi p)) 17 then
    let s := s.setVrec pl p d
    if (s.ni pl p).recQ.length < 8 then
      (s.modNi pl p (fun n => { n with recQ := n.recQ ++ [d] })).niEvent pl p 2
    else s.pinc pl (bNi p + 12) 0 32 1
  else if bit (s.p pl (bNi p + 4)) 0 then s
  else ((s.setVrec pl p d).por pl (bNi p + 4) 1).niEvent pl p 2

/-! ### The lookaside (R130) -/

/-- Puts an entry into a lookaside of `sets` sets of 4 ways; the list runs from the entry used last. -/
def lookInsert (sets : Nat) (l : List Look) (e : Look) : List Look :=
  let l := l.filter (fun x => decide (x.page ≠ e.page))
  let set := l.filter (fun x => decide (x.page % sets = e.page % sets))
  if set.length < 4 then e :: l
  else
    let free := set.filter (fun x => !x.pinned)
    match (if free.isEmpty then set else free).getLast? with
    | some v => e :: l.filter (fun x => decide (x.page ≠ v.page))
    | none => e :: l

/-- Moves the entry of a page to the front: it has been used. -/
def lookTouch (l : List Look) (page : Nat) : List Look :=
  l.filter (fun x => decide (x.page = page)) ++ l.filter (fun x => decide (x.page ≠ page))

/-- The lookaside entry of a table entry (R130). -/
def lookOf (page : Nat) (e : W32) : Look :=
  { page := page, inframe := eInframe e, frame := eFrame e, epoch := eEpoch e, pinned := decide (eState e = 2) }

/-- The flit of a lookup (R132). -/
def lookupHdr (src tag page owner priv : Nat) (sample write : Bool) : BitVec 64 :=
  mkHdr epService src 6 kMgmt priv owner tag 0 ||| mgmtHi 1 (page + b2n sample * 2 ^ 18 + b2n write * 2 ^ 19)

/-- The freeze list holds the pieces of a page (R141). -/
def holdsPage (l : List Frozen) (page : Nat) : Bool := l.any (fun f => decide (f.page = page ∧ f.released = false))

/-- Sends a lookup of NI `p`, if none for the page is in flight and fewer than 4 in all (R131); dump packets count toward the
limit of R73. -/
def State.niLookup (s : State) (pl : Pl) (p page owner priv : Nat) (sample write : Bool) : State :=
  let n := s.ni pl p
  if n.lookups.any (fun x => decide (x.1 = page)) ∨ 4 ≤ n.lookups.length + n.dumpOut then s
  else
    let tag := (lowestFree 64 (n.lookups.map (·.2))).getD 0
    (s.modNi pl p (fun n => { n with lookups := n.lookups ++ [(page, tag)] })).niSend pl p
      (lookupHdr p tag page owner priv sample write) [0]

/-! ### Packets of pieces -/

/-- The packet of a piece (R34 to R38, R164). `islot` is set for GT only. -/
def Piece.packet (q : Piece) (p islot : Nat) : BitVec 64 × List Line :=
  let tag := q.tag.getD 0
  let vc := reqVc q.cls
  let cmd := cmdFlit q.paddr q.taddr q.ben 1 q.subop q.asize
    (if q.kind = kAtomic then fld q.data 0 256 else if q.kind = kQop then fld (q.data &&& benMask q.ben) 0 40 else 0)
  let lines := if q.kind = kMessage then q.msg else if q.kind = kWrite then [cmd, q.data] else [cmd]
  let hi := if q.kind = kMessage then q.hdrHi
    else reqHi (if q.placed then q.pepoch else 0) q.placed (if q.cls = 0 then islot else 0) (if q.cls = 0 then q.gts else 0)
  (mkHdr q.dest p vc q.kind q.priv q.owner tag (lines.length - 1) ||| hi, lines)

/-- Sends a piece's packet. -/
def State.sendPiece (s : State) (pl : Pl) (p : Nat) (q : Piece) : State :=
  let k := q.packet p (s.now % 16)
  s.niSend pl p k.1 k.2

/-- Tags an NI has in use (R43). -/
def Ni.tags (n : Ni) : List Nat :=
  (n.out ++ n.gtq.flatMap (·.2)).filterMap (·.tag)

/-- The lowest free tag (R43). -/
def Ni.freeTag (n : Ni) : Option Nat := lowestFree 64 n.tags

/-- Posted-write lines in use (R44). -/
def Ni.lines (n : Ni) : List Piece := (n.wait ++ n.out ++ n.gtq.flatMap (·.2)).filter (·.inBuf)

/-- Flits of issued messages kept for reissue (R163). -/
def Ni.msgFlits (n : Ni) : Nat := (n.out.map (fun q => q.msg.length)).sum

/-! ### Completions -/

/-- Completes a request whose pieces have all been answered (R42). -/
def Ni.finishReq (n : Ni) (r : StReq) : Ni :=
  let beats := (List.range r.pieces).map (fun i =>
    match r.answers.find? (fun a => decide (a.pidx = i)) with | some a => (a.status, a.data) | none => (stOk, 0))
  { n with irsp := n.irsp ++ [{ ord := r.ord, kind := r.kind, status := stFirstOf (beats.map (·.1)), beats := beats }],
           reqs := n.reqs.filter (fun x => decide (x.ord ≠ r.ord)) }

/-- The answer to a piece of request `ord` (R42). -/
def Ni.answerPiece (n : Ni) (ord pidx status : Nat) (data : Line) : Ni :=
  match n.reqs.find? (fun r => decide (r.ord = ord)) with
  | none => n
  | some r =>
    if r.posted then n
    else
      let r : StReq := { r with answers := r.answers ++ [{ pidx := pidx, status := status, data := data }] }
      let n : Ni := { n with reqs := n.reqs.map (fun x => if x.ord = ord then r else x) }
      if r.answers.length = r.pieces then n.finishReq r else n

/-- `x` stands before `y` in Stitch order. -/
def before (x y : Piece) : Bool := decide (x.ord < y.ord ∨ (x.ord = y.ord ∧ x.pidx < y.pidx))

/-- A piece of the NI's own, which does not come through the Stitch request channel: a record write or a path fence (R51,
R192). -/
def Piece.own (q : Piece) : Bool := q.recWrite || decide (q.kind = kFence)

/-- The request of the piece waits behind one that is held at the Stitch request channel (R43). -/
def Ni.behindHeld (n : Ni) (q : Piece) : Bool :=
  match n.chHeld with | some o => !q.own && decide (o < q.ord) | none => false

/-- Write pieces enter free posted-write lines in order; the request whose last piece has entered is completed (R44). -/
def Ni.enterLines (fuel : Nat) (n : Ni) : Ni :=
  match fuel with
  | 0 => n
  | fuel + 1 =>
    match n.wait.find? (fun q => q.posted && !q.inBuf) with
    | none => n
    | some q =>
      if n.lines.length < 16 ∧ !n.behindHeld q then
        let n : Ni := { n with wait := n.wait.map (fun x => if x.ord = q.ord ∧ x.pidx = q.pidx then { x with inBuf := true } else x) }
        let n := match n.reqs.find? (fun r => decide (r.ord = q.ord ∧ r.pieces = q.pidx + 1)) with
          | some r => { n with irsp := n.irsp ++ [{ ord := r.ord, kind := r.kind, status := stOk, beats := [] }],
                               reqs := n.reqs.filter (fun x => decide (x.ord ≠ r.ord)) }
          | none => n
        Ni.enterLines fuel n
      else n

/-- The piece is still at the Stitch request channel: it stands behind a request held there, or it is, or stands behind, a
write piece that waits for a line (R43, R44). -/
def Ni.atChannel (n : Ni) (q : Piece) : Bool :=
  n.behindHeld q
    || (!q.own && match n.wait.find? (fun x => x.posted && !x.inBuf) with | some w => !before q w | none => false)

/-- The waiting pieces that have left the Stitch request channel. -/
def Ni.entered (n : Ni) : List Piece := n.wait.filter (fun q => !n.atChannel q)

/-! ### Holds -/

/-- The byte enables of two pieces of one granule overlap (R45). -/
def overlaps (x y : Piece) : Bool := decide (x.paddr / 64 = y.paddr / 64) && decide (x.ben &&& y.ben ≠ 0)

/-- A read-like piece: READ, FETCH or ATOMIC (R45). -/
def readLike (q : Piece) : Bool := decide (q.kind = kRead ∨ q.kind = kFetch ∨ q.kind = kAtomic)

/-- An earlier line overlaps the piece (R45). -/
def Ni.lineHeld (n : Ni) (q : Piece) : Bool := n.lines.any (fun l => before l q && overlaps l q)

/-- The holds of R45: a READ, FETCH or ATOMIC by an earlier line, a WRITE by an earlier READ, FETCH or ATOMIC that is held
so. -/
def Ni.readHeld (n : Ni) (q : Piece) : Bool :=
  if readLike q then n.lineHeld q
  else decide (q.kind = kWrite) && n.wait.any (fun x => before x q && overlaps x q && readLike x && n.lineHeld x)

/-- The holds of R45, R46 and, for writes of one class, R48: an earlier overlapping write of the class goes first. -/
def Ni.overlapHeld (n : Ni) (q : Piece) : Bool :=
  n.readHeld q || (decide (q.kind = kWrite) &&
    (n.lines.any (fun l => before l q && overlaps l q && decide (l.cls ≠ q.cls))
      || n.wait.any (fun x => before x q && overlaps x q && decide (x.kind = kWrite))))

/-- The holds of R45 and R46 alone (R323 code 0x07). -/
def Ni.held4546 (n : Ni) (q : Piece) : Bool :=
  n.readHeld q || (decide (q.kind = kWrite) && n.lines.any (fun l => before l q && overlaps l q && decide (l.cls ≠ q.cls)))

/-- The gate object of a piece (R87): kind of gate and number; none when it meets no gate. -/
def gateOf (q : Piece) : Option (Nat × Nat) :=
  if q.kind = kAtomic then some (0, q.dest)
  else if q.kind = kLock then some (1, q.paddr / 64)
  else if q.kind = kMessage then some (if bit q.hdrHi 39 then (3, hFlock q.hdrHi) else (2, hQueue q.hdrHi))
  else if q.kind = kQop then some (2, hQueue q.hdrHi)
  else none

/-- An earlier request on the same VC to the same gate object has been refused and not yet admitted (R87). -/
def Ni.gateHeld (n : Ni) (q : Piece) : Bool :=
  match gateOf q with
  | none => false
  | some g => n.out.any (fun x => before x q && decide (0 < x.loss ∧ gateOf x = some g ∧ reqVc x.cls = reqVc q.cls))

/-- A fence holds the piece (R50). -/
def Ni.fenceHeld (n : Ni) (q : Piece) : Bool :=
  n.fences.any (fun f => decide (f.ord < q.ord) && f.classes.getLsbD q.cls)

/-- An earlier piece of the same request has not been issued (R40). -/
def Ni.sameReqHeld (n : Ni) (q : Piece) : Bool := n.wait.any (fun x => decide (x.ord = q.ord ∧ x.pidx < q.pidx))

/-- Nothing but a tag, a response reservation or message room stands between the piece and its issue. -/
def Ni.ready (n : Ni) (q : Piece) : Bool :=
  q.resolved && !n.overlapHeld q && !n.gateHeld q && (q.recWrite || !n.fenceHeld q) && !n.sameReqHeld q

/-- A message finds room for its reissue copy (R163). -/
def Ni.fits (n : Ni) (q : Piece) : Bool := q.kind ≠ kMessage || decide (n.msgFlits + q.msg.length ≤ 128)

/-- The piece may be issued, but for its tag. -/
def Ni.free (n : Ni) (q : Piece) : Bool := n.ready q && n.fits q

/-- The request that is held at the Stitch request channel from now on (R43, R163): the one held so far, while a piece of
it is ready and waits; otherwise the first whose piece is ready and finds no tag, or no room for its message. -/
def Ni.hold (n : Ni) : Ni :=
  let ready (q : Piece) : Bool := !q.own && n.ready q
  if (match n.chHeld with | some o => n.entered.any (fun q => ready q && decide (q.ord = o)) | none => false) then n
  else
    let n : Ni := { n with chHeld := none }
    { n with chHeld := (n.entered.find? (fun q => ready q && (n.freeTag.isNone || !n.fits q))).map (·.ord) }

/-! ### Classes (R33, R105) -/

/-- The piece may run as GT on its stream (R105). -/
def State.gtOk (s : State) (pl : Pl) (p : Nat) (q : Piece) : Bool :=
  match s.gtRec p q.gts with
  | some r => decide (r.dest = q.dest ∧ q.kind ≤ kWrite ∧ r.kinds / 2 ^ q.kind % 2 = 1) && !bit (s.p pl (bNi p + 0x508)) q.gts
  | none => false

/-- A GT piece that must go on LL does, with its request; CLASS_DEMOTE counts the request (R33, R105). -/
def State.demote (s : State) (pl : Pl) (p : Nat) (q : Piece) : State × Piece :=
  if q.cls = 0 ∧ q.resolved ∧ !s.gtOk pl p q then
    let first := (s.ni pl p).reqs.any (fun r => decide (r.ord = q.ord ∧ r.cls = 0)) || decide (q.pidx = 0)
    let s := if first then s.pinc pl (bNi p + 0x504) 0 32 1 else s
    (s.modNi pl p (fun n => { n with reqs := n.reqs.map (fun r => if r.ord = q.ord then { r with cls := 1 } else r) }),
      { q with cls := 1 })
  else (s, q)

/-! ### Resolution of placed pieces (R131, R136, R141) -/

/-- Resolves a placed piece through the lookaside: hit, frozen page, or miss with a lookup. -/
def State.resolvePiece (s : State) (pl : Pl) (p : Nat) (q : Piece) : State × Piece :=
  if q.resolved then (s, q)
  else match s.pageOf pl q.paddr with
    | none => (s, { q with resolved := true })
    | some page =>
      let n := s.ni pl p
      let wr := decide (q.kind = kWrite ∨ q.kind = kAtomic)
      if holdsPage n.frozen page then
        if q.heldCounted then (s, q) else (s.pinc pl (bNi p + 0x608) 0 32 1, { q with heldCounted := true })
      else match n.look.find? (fun x => decide (x.page = page)) with
        | some e =>
          let h := s.home q.paddr e.inframe e.frame
          let s := s.modNi pl p (fun n => { n with look := lookTouch n.look page })
          let s := if q.sampled && !q.waitLookup then s.niLookup pl p page q.owner q.priv true wr else s
          s.demote pl p { q with resolved := true, taddr := h.1, dest := h.2.getD epService, pepoch := e.epoch,
                                 sampled := false, waitLookup := false }
        | none =>
          let s := if q.waitLookup then s
            else (s.pinc pl (bNi p + 0x604) 0 32 1).countNi pl p 0x06 0 (ownerIf q.priv q.owner)
          (s.niLookup pl p page q.owner q.priv q.sampled wr, { q with waitLookup := true })

/-- Resolves the pieces that have left the Stitch channel, and those that wait for reissue; a waiting GT piece whose stream
cannot carry it goes on LL (R105). -/
def State.resolveAll (s : State) (pl : Pl) (p : Nat) : State :=
  let n := s.ni pl p
  let walk (l : List Piece) (stay : Piece → Bool) (s : State) : State × List Piece :=
    l.foldl (fun (a : State × List Piece) q =>
      let r := if stay q then (a.1, q) else a.1.resolvePiece pl p q
      let d := r.1.demote pl p r.2
      (d.1, a.2 ++ [d.2])) (s, [])
  let a := walk n.wait n.atChannel s
  let b := n.out.foldl (fun (a : State × List Piece) q => let r := a.1.resolvePiece pl p q; (r.1, a.2 ++ [r.2])) (a.1, [])
  b.1.modNi pl p (fun m => { m with wait := a.2, out := b.2 })

/-- An earlier packet of the piece's stream waits (R106). -/
def Ni.streamHeld (n : Ni) (q : Piece) : Bool :=
  n.wait.any (fun x => decide (x.cls = 0 ∧ x.gts = q.gts) && before x q)

/-- Free GT pieces leave the Stitch channel for their stream's admission queue, each with a tag, the packets of a stream
in order (R43, R106). -/
def Ni.gtTake (fuel : Nat) (n : Ni) : Ni :=
  match fuel with
  | 0 => n
  | fuel + 1 =>
    match n.entered.find? (fun q => decide (q.cls = 0) && n.free q && !n.streamHeld q), n.freeTag with
    | some q, some t =>
      Ni.gtTake fuel { n with
        wait := n.wait.filter (fun x => decide (¬(x.ord = q.ord ∧ x.pidx = q.pidx))),
        gtq := n.gtq.upd q.gts [] (· ++ [{ q with tag := some t }]) }
    | _, _ => n.hold

/-- Lines, resolution and GT queues after a change at an NI. -/
def State.niSettle (s : State) (pl : Pl) (p : Nat) : State :=
  let s := s.modNi pl p (fun n => let n := n.hold; n.enterLines (n.wait.length + 1))
  (s.resolveAll pl p).modNi pl p (fun n => let n := n.gtTake (n.wait.length + 1); n.enterLines (n.wait.length + 1))

end Sys2Proof.Machine
end

