-- ==== Sys2Proof/Machine/Stitch.lean ====
section
/-!
DEFINITION. Stitch requests and messages at an initiator NI: the checks of R41 over all pieces, refusals, records, and
the pieces of an accepted request (R33, R40 to R44, R53, R55, R112, R161, R162, R190, R208, R359).
-/
namespace Sys2Proof.Machine

/-- A Stitch channel of the port takes a request: the port is live and READY is high (R305, R360, R363). -/
def State.stitchReady (s : State) (p : Nat) : Bool := s.isPort p && (s.port p).live && (s.port p).ready

/-- Class of a request: ESC means GT on stream 31, class 3 goes on BE (R112, R359). -/
def stitchCls (r : Stitch) : Nat := if r.esc then 0 else if r.cls = 3 then 2 else r.cls

/-- Stream of a request (R112). -/
def stitchGts (r : Stitch) : Nat := if r.esc then 31 else r.gts

/-- Operand size in bytes of an ASIZE (R37). -/
def asizeBytes (asize : Nat) : Nat := 4 * 2 ^ asize

/-- The operation exists and takes the operand size (R52). -/
def atomicOk (subop asize : Nat) : Bool := decide (subop ≤ 9 ∧ asize ≤ (if subop ≤ 1 then 2 else 1))

/-- Length in bytes minus one; that of an ATOMIC is its operand size (R190, log 17). -/
def stitchLen (kind asize : Nat) (r : Stitch) : Nat := if kind = kAtomic then asizeBytes asize - 1 else r.len

/-- What an access to a target becomes: packet kind, destination, and LOCK's SUBOP; or the status that refuses it (R31,
R53, R55, R161, R208, R343). `whole`: the request is one whole granule. -/
def State.convert (_ : State) (t : Tgt) (kind : Nat) (whole : Bool) : Except Nat (Nat × Nat × Nat) :=
  match t with
  | .window _ => if kind = kRead ∨ kind = kWrite then .ok (kind, epService, 0) else .error stDecode
  | .lock _ =>
    if kind = kRead then .ok (kLock, epService, 0) else if kind = kWrite then .ok (kLock, epService, 1) else .error stDecode
  | .queue _ off =>
    if off < 64 then (if kind ≠ kWrite then .error stDecode else if whole then .ok (kMessage, epService, 0) else .error stAlign)
    else if off < 128 then (if kind = kRead then .ok (kQop, epService, 0) else .error stDecode)
    else if off < 192 then (if kind = kWrite then .ok (kQop, epService, 0) else .error stDecode)
    else .error stDecode
  | .flock _ =>
    if kind ≠ kWrite then .error stDecode else if whole then .ok (kMessage, epService, 0) else .error stAlign
  | .aper e _ _ => if kind = kRead ∨ kind = kWrite then .ok (kind, epMule e, 0) else .error stDecode
  | .port q => .ok (kind, q, 0)
  | .nowhere => .error stDecode

/-- The failures of one piece (R41): statuses, and cause and region when the protection check refused it. -/
def State.pieceFails (s : State) (pl : Pl) (p kind subop asize : Nat) (r : Stitch) (i : Nat) :
    List Nat × Option (Nat × Nat) :=
  let len := stitchLen kind asize r
  let a := pieceAddr r.addr i
  let whole := decide (r.addr % 64 = 0 ∧ len = 63)
  let prot := s.protCheck pl p kind r.owner r.priv a (decide (granules r.addr len = 1))
  let dec := match s.convert (s.target a) kind whole with | .ok _ => [] | .error st => [st]
  let align := if crosses4k r.addr len then [stAlign] else []
  let atom := if kind = kAtomic ∧ (!atomicOk subop asize || decide (r.addr % asizeBytes asize ≠ 0)) then [stAlign] else []
  ((match prot with | some _ => [stProt] | none => []) ++ dec ++ align ++ atom, prot)

/-- Packet kind that a record of the request names (R190). -/
def State.recKind (s : State) (a kind : Nat) : Nat :=
  match s.convert (s.target a) kind true with | .ok (k, _, _) => k | .error _ => kind

/-- Refuses a request: completion, count and record (R41, R188, R190). A refused read returns zero data. -/
def State.refuse (s : State) (pl : Pl) (p kind st owner priv addr len n : Nat) (first : Option (Nat × Nat × Nat)) : State :=
  let ord := (s.ni pl p).nextOrd
  let beats := if kind = kWrite ∨ kind = kMessage then [] else List.replicate n (st, (0 : Line))
  let s := s.modNi pl p (fun x => { x with
    nextOrd := ord + 1, irsp := x.irsp ++ [{ ord := ord, kind := kind, status := st, beats := beats }] })
  if st = stProt then
    match first with
    | some (i, cause, region) =>
      let a := if cause < 2 then pieceAddr addr i else addr
      s.violation pl p owner priv a (s.recKind a kind) cause region (needOf kind) len
    | none => s
  else s

/-- The unkeyed key slot of the next message, and the count after it (R162). -/
def State.nextUnkeyed (s : State) (pl : Pl) (p : Nat) : Nat × State :=
  ((s.ni pl p).unkeyed % 4096, s.modNi pl p (fun n => { n with unkeyed := n.unkeyed + 1 }))

/-- The piece for granule `i` of an accepted request (R37, R40). A WRITE that becomes a lock release is not posted and takes no
line: the manual says so of CONSUME only (R164), and the model treats both alike (DESIGN CHOICE, log 39). -/
def State.mkPiece (s : State) (pl : Pl) (p kind subop asize ord cls : Nat) (r : Stitch) (i : Nat) : State × Piece :=
  let len := stitchLen kind asize r
  let a := pieceAddr r.addr i
  let t := s.target a
  let conv := match s.convert t kind (decide (r.addr % 64 = 0 ∧ len = 63)) with
    | .ok c => c | .error _ => (kind, epService, 0)
  let page := match t with | .port _ => s.pageOf pl a | _ => none
  let beat := (r.beats[i]?).getD { data := 0, ben := 0 }
  let range := pieceBen r.addr len i
  let ben := if kind = kWrite then range &&& beat.ben else range
  let nn := s.ni pl p
  let sh := s.pf pl rPolicy0 0 4
  let sampled := page.isSome && decide ((nn.sampleCount + 1) % 2 ^ sh = 0)
  let s := if page.isSome then s.modNi pl p (fun n => { n with sampleCount := n.sampleCount + 1 }) else s
  let mh : BitVec 64 × State := match t with
    | .flock f => let u := s.nextUnkeyed pl p; (msgHi true f u.1, u.2)
    | .queue n _ => (msgHi false n 0, s)
    | _ => (0, s)
  let k := conv.1
  let cls := if k = kMessage then 3 else cls
  (mh.2, { ord := ord, pidx := i, kind := k, cls := cls, owner := r.owner, priv := r.priv, paddr := a, taddr := a,
           dest := conv.2.1, placed := page.isSome, resolved := page.isNone, pepoch := 0, ben := ben, data := beat.data,
           subop := if k = kAtomic then subop else conv.2.2, asize := if k = kAtomic then asize else 0,
           gts := stitchGts r, hdrHi := mh.1, msg := if k = kMessage then [beat.data] else [], tag := none, sent := false,
           loss := 0, retryAt := none, posted := decide (k = kWrite), inBuf := false, recWrite := false,
           heldCounted := false, waitLookup := false, sampled := sampled, raddr := r.addr, rlen := len })

/-- A Stitch READ, FETCH, WRITE or ATOMIC (R40, R41). -/
def State.stitch (s : State) (pl : Pl) (p kind subop asize : Nat) (r : Stitch) : State :=
  if !s.stitchReady p then s
  else
    let len := stitchLen kind asize r
    let n := granules r.addr len
    let fails := (List.range n).map (fun i => (i, s.pieceFails pl p kind subop asize r i))
    let st := stFirstOf (fails.flatMap (fun x => x.2.1))
    if st ≠ stOk then
      let first := (fails.filterMap (fun x => x.2.2.map (fun c => (x.1, c.1, c.2)))).head?
      s.refuse pl p kind st r.owner r.priv r.addr len n first
    else
      let ord := (s.ni pl p).nextOrd
      let cls := stitchCls r
      let a := (List.range n).foldl (fun (a : State × List Piece) i =>
        let x := a.1.mkPiece pl p kind subop asize ord cls r i
        let y := x.1.demote pl p x.2
        (y.1, a.2 ++ [y.2])) (s, [])
      let rc := (a.2.head?.map (·.cls)).getD cls
      let posted := a.2.all (·.posted)
      let req : StReq := { ord := ord, kind := kind, cls := rc, owner := r.owner, priv := r.priv, addr := r.addr,
                           len := len, pieces := n, posted := posted, answers := [] }
      (a.1.modNi pl p (fun x => { x with nextOrd := ord + 1, reqs := x.reqs ++ [req], wait := x.wait ++ a.2 })).niSettle pl p

/-- STITCH_READ (R40, R41). -/
def execStitchRead (pl : Pl) (p : Nat) (r : Stitch) (s : State) : Out :=
  atUnit s pl (fun pl s => s.stitch pl p kRead 0 0 r)

/-- STITCH_FETCH: checked against execute permission (R32, R186). -/
def execStitchFetch (pl : Pl) (p : Nat) (r : Stitch) (s : State) : Out :=
  atUnit s pl (fun pl s => s.stitch pl p kFetch 0 0 r)

/-- STITCH_WRITE (R40, R41, R44). -/
def execStitchWrite (pl : Pl) (p : Nat) (r : Stitch) (s : State) : Out :=
  atUnit s pl (fun pl s => s.stitch pl p kWrite 0 0 r)

/-- STITCH_ATOMIC (R52, R53). -/
def execStitchAtomic (pl : Pl) (p : Nat) (r : Stitch) (subop asize : Nat) (s : State) : Out :=
  atUnit s pl (fun pl s => s.stitch pl p kAtomic subop asize r)

/-- A Stitch fence at half `pl` (R50). -/
def State.stitchFence (s : State) (pl : Pl) (p : Nat) (fcls : BitVec 4) : State :=
  if s.stitchReady p then
    s.modNi pl p (fun n => { n with nextOrd := n.nextOrd + 1, fences := n.fences ++ [{ ord := n.nextOrd, classes := fcls }] })
  else s

/-- STITCH_FENCE: the named classes are held until FENCE_COMPLETE (R50). -/
def execStitchFence (pl : Pl) (p : Nat) (fcls : BitVec 4) (s : State) : Out :=
  atUnit s pl (fun pl s => s.stitchFence pl p fcls)

/-- The key hash of R162. -/
def keySlot (k : BitVec 64) : Nat := ((fld k 0 32 ^^^ fld k 32 32) * 0x9E3779B1) % 2 ^ 32 / 2 ^ 20

/-- The address at which a message is checked: the queue's ENQ granule or the flock's granule (R162). -/
def State.msgAddr (s : State) (m : MsgReq) : Nat :=
  if m.tflock then s.img.fap + 0x40 * m.num else s.img.qap + 0x100 * m.num

/-- A Stitch message at half `pl` (R162, R163, R184, R187). -/
def State.stitchMessage (s : State) (pl : Pl) (p : Nat) (m : MsgReq) : State :=
  if !s.stitchReady p then s
  else
    let a := s.msgAddr m
    let len := 64 * m.beats.length - 1
    match (if s.minimal ∧ m.priv = 3 ∧ p = s.boot.bootPort then none else s.protCheck pl p kMessage m.owner m.priv a false) with
    | some c => s.refuse pl p kMessage stProt m.owner m.priv a len 1 (some (0, c.1, c.2))
    | none =>
      if s.minimal then s.refuse pl p kMessage stDecode m.owner m.priv a len 1 none
      else
        let u : Nat × State := if m.tflock ∧ m.unkeyed then s.nextUnkeyed pl p else (keySlot m.key, s)
        let s := u.2
        let ord := (s.ni pl p).nextOrd
        let q : Piece := { ord := ord, pidx := 0, kind := kMessage, cls := 3, owner := m.owner, priv := m.priv, paddr := a,
                           taddr := a, dest := epService, placed := false, resolved := true, pepoch := 0, ben := benAll,
                           data := 0, subop := 0, asize := 0, gts := 0, hdrHi := msgHi m.tflock m.num u.1, msg := m.beats,
                           tag := none, sent := false, loss := 0, retryAt := none, posted := false, inBuf := false,
                           recWrite := false, heldCounted := false, waitLookup := false, sampled := false,
                           raddr := a, rlen := len }
        let req : StReq := { ord := ord, kind := kMessage, cls := 3, owner := m.owner, priv := m.priv, addr := a, len := len,
                             pieces := 1, posted := false, answers := [] }
        s.modNi pl p (fun x => { x with nextOrd := ord + 1, reqs := x.reqs ++ [req], wait := x.wait ++ [q] })

/-- STITCH_MESSAGE (R162). -/
def execStitchMessage (pl : Pl) (p : Nat) (m : MsgReq) (s : State) : Out := atUnit s pl (fun pl s => s.stitchMessage pl p m)

end Sys2Proof.Machine
end

