-- ==== Sys2Proof/Machine/NiIssue.lean ====
section
/-!
DEFINITION. Issue of pieces and what answers do at the initiator NI (R42 to R47, R50, R85 to R87, R114, R141, R192, R251).
-/
namespace Sys2Proof.Machine

/-- The piece that starts into NI ingress in this fc: LL before BE, BE and message pieces taking turns (R43, R114). -/
def Ni.pickIssue (n : Ni) : Option Piece :=
  let find (c : Nat) : Option Piece := n.entered.find? (fun q => decide (q.cls = c) && n.free q)
  match find 1 with
  | some q => some q
  | none =>
    match find (if n.beTurn then 2 else 3) with
    | some q => some q
    | none => find (if n.beTurn then 3 else 2)

/-- PIECE_ISSUE (R43). Nothing is injected while a join pause runs (R248). The manual gives no size for the space in which an
NI reserves its responses, so the model's choice is that a free tag brings its reservation with it (log 39). -/
def execPieceIssue (pl : Pl) (p : Nat) (s : State) : Out :=
  inPlane s pl (fun s =>
    if !s.isPort p || !(s.port p).live || s.pair.joining.isSome then s
    else
      let s := s.niSettle pl p
      let n := s.ni pl p
      match n.pickIssue, n.freeTag with
      | some q, some t =>
        let q := { q with tag := some t, sent := true }
        let s := s.modNi pl p (fun n => { n with
          wait := n.wait.filter (fun x => decide (¬(x.ord = q.ord ∧ x.pidx = q.pidx))),
          out := n.out ++ [q],
          beTurn := if q.cls = 2 then false else if q.cls = 3 then true else n.beTurn })
        (if q.kind = kFence then s else s.countNi pl p 0x02 q.cls (ownerIf q.priv q.owner)).sendPiece pl p q
      | _, _ => s)

/-- The latch of the posted-write error record (R47, R354). -/
def State.postedError (s : State) (pl : Pl) (p : Nat) (q : Piece) (status : Nat) : State :=
  let b := bNi p
  let s := s.pinc pl (b + 0x70C) 0 32 1
  let s := if bit (s.p pl (b + 0x708)) 0 then s
    else (((s.pset pl (b + 0x700) (BitVec.ofNat 32 q.paddr)).pset pl (b + 0x704) (BitVec.ofNat 32 (q.paddr / 2 ^ 32))).pset pl
      (b + 0x708) (BitVec.ofNat 32 (status * 16 + q.owner * 256 + (q.tag.getD 0) * 65536))).por pl (b + 0x708) 1
  (s.modNi pl p (fun n => { n with kept := n.kept ++ [status] })).niEvent pl p 0

/-- The answer to an outstanding piece: a line is freed, or the request is answered; a path fence of a freeze is noted
(R44, R47, R141). -/
def State.pieceAnswered (s : State) (pl : Pl) (p : Nat) (q : Piece) (status : Nat) (data : Line) : State :=
  let s := s.modNi pl p (fun n => { n with out := n.out.filter (fun x => decide (x.tag ≠ q.tag)) })
  let s := s.modNi pl p (fun n => { n with frozen := n.frozen.map (fun f =>
    { f with gtTags := f.gtTags.filter (fun t => decide (some t ≠ q.tag)),
             fence1 := f.fence1 || decide (q.kind = kFence ∧ q.cls = 1 ∧ q.pidx / 2 = f.page),
             fence3 := f.fence3 || decide (q.kind = kFence ∧ q.cls = 2 ∧ q.pidx / 2 = f.page) }) })
  let s := if q.kind = kFence then s
    else if q.posted then (if status = stOk then s else s.postedError pl p q status)
    else s.modNi pl p (fun n => n.answerPiece q.ord q.pidx status data)
  (s.countNi pl p 0x03 q.cls (ownerIf q.priv q.owner)).niSettle pl p

/-- The response at the head of the NI's inbox of `vc`: on VC0 first those in time, then the late ones. -/
def State.headResponse (s : State) (pl : Pl) (p vc : Nat) : Option (Packet × Nat × State) :=
  match s.popNiIn pl p vc with
  | some (k, t) => some (k, if k.poison then stFirst (hStatus k.hdr) stPoison else hStatus k.hdr, t)
  | none =>
    if vc = 0 then
      match s.popNiIn pl p 9 with
      | some (k, t) => some (k, stFirst (if k.poison then stFirst (hStatus k.hdr) stPoison else hStatus k.hdr) stLate, t)
      | none => none
    else none

/-- The piece that a response of the tag answers. -/
def State.answeredPiece (s : State) (pl : Pl) (p tag : Nat) : Option Piece :=
  (s.ni pl p).out.find? (fun q => decide (q.tag = some tag))

/-- A response that is no RETRY reaches the NI (R42, R44). -/
def State.takeResponse (s : State) (pl : Pl) (p vc kind : Nat) : State :=
  match s.headResponse pl p vc with
  | none => s
  | some (k, st, t) =>
    if hKind k.hdr ≠ kind ∨ hStatus k.hdr = stRetry then s
    else match s.answeredPiece pl p (hTag k.hdr) with
      | none => t
      | some q =>
        if q.recWrite then s
        else
          let t := if k.poison then t.poisonOwner q.owner q.priv else t
          t.pieceAnswered pl p q st ((k.flits.head?).getD 0)

/-- RACK_RECEIVED (R44, R45, R47). -/
def execRackReceived (pl : Pl) (p vc : Nat) (s : State) : Out :=
  inPlane s pl (fun s => if s.isPort p then s.takeResponse pl p vc kRack else s)

/-- RDATA_RECEIVED (R42). -/
def execRdataReceived (pl : Pl) (p vc : Nat) (s : State) : Out :=
  inPlane s pl (fun s => if s.isPort p then s.takeResponse pl p vc kRdata else s)

/-- Something earlier in the fenced classes is outstanding (R50). A request that asked for GT and went on LL counts as LL, the
model's choice (log 39). -/
def Ni.fenceWaits (n : Ni) (f : Fence) : Bool :=
  (n.wait ++ n.out ++ n.gtq.flatMap (·.2)).any (fun q =>
      decide (q.ord < f.ord ∧ q.kind ≠ kFence) && !q.recWrite && f.classes.getLsbD q.cls)
    || n.reqs.any (fun r => decide (r.ord < f.ord) && f.classes.getLsbD r.cls)

/-- FENCE_COMPLETE: the oldest fence for which nothing earlier is outstanding completes, with the first-ranking kept status
(R50). -/
def execFenceComplete (pl : Pl) (p : Nat) (s : State) : Out :=
  inPlane s pl (fun s =>
    match (s.ni pl p).fences.find? (fun f => !(s.ni pl p).fenceWaits f) with
    | none => s
    | some f =>
      (s.modNi pl p (fun n => { n with
        fences := n.fences.erase f, kept := [],
        irsp := n.irsp ++ [{ ord := f.ord, kind := kFence, status := stFirstOf n.kept, beats := [] }] })).niSettle pl p)

/-- The slot at which a request refused for the `n`-th time is reissued (R85): the first slot boundary at or after now,
plus 2^min(n, 10). -/
def State.retrySlot (s : State) (n : Nat) : Nat :=
  (if s.fcInSlot = 0 then s.now else s.now + 1) + 2 ^ (min n 10)

/-- The NI holds the page of a piece (R141). -/
def State.pieceFrozen (s : State) (pl : Pl) (p : Nat) (q : Piece) : Bool :=
  match s.pageOf pl q.paddr with | some page => holdsPage (s.ni pl p).frozen page | none => false

/-- RETRY_RECEIVED (R85, R86). A piece of a page that the NI holds by now is resolved again before it is reissued (R141). -/
def execRetryReceived (pl : Pl) (p vc : Nat) (s : State) : Out :=
  inPlane s pl (fun s =>
    match s.popNiIn pl p vc with
    | none => s
    | some (k, t) =>
      if hStatus k.hdr ≠ stRetry ∨ (hKind k.hdr ≠ kRack ∧ hKind k.hdr ≠ kRdata) then s
      else match t.answeredPiece pl p (hTag k.hdr) with
        | none => t
        | some q =>
          let t := t.countNi pl p 0x08 0 (ownerIf q.priv q.owner)
          let loss := q.loss + 1
          if 12 ≤ loss then (t.countNi pl p 0x09 0 (ownerIf q.priv q.owner)).pieceAnswered pl p q stBusy 0
          else t.modNi pl p (fun n => { n with out := n.out.map (fun x =>
            if x.tag = q.tag then { x with
              loss := loss, retryAt := some (t.retrySlot loss), resolved := x.resolved && !(x.placed && t.pieceFrozen pl p x) }
            else x) }))

/-- REISSUE (R85): at the reissue slot the refused request is sent again with its tag, unless an earlier one refused at the
same gate still holds it (R87). -/
def execReissue (pl : Pl) (p tag : Nat) (s : State) : Out :=
  inPlane s pl (fun s =>
    if s.pair.joining.isSome || !(s.port p).live then s
    else
      let s := s.resolveAll pl p
      match s.answeredPiece pl p tag with
      | none => s
      | some q =>
        match q.retryAt with
        | none => s
        | some at? =>
          if at? ≤ s.now ∧ q.resolved ∧ !(s.ni pl p).gateHeld q then
            let s := s.modNi pl p (fun n => { n with out := n.out.map (fun x =>
              if x.tag = some tag then { x with retryAt := none } else x) })
            s.sendPiece pl p q
          else s)

/-! ### Record writes (R192, R193) -/

/-- The record ring is full (R193). -/
def State.ringFull (s : State) (pl : Pl) (p : Nat) : Bool :=
  let d := (s.p pl (bNi p + 0x1C) - s.p pl (bNi p + 0x20)).toNat
  decide (d = 2 ^ (s.pf pl (bNi p + 0x18) 0 5))

/-- RECORD_WRITE (R192, R193): the record at the head of the queue goes to its ring slot as a BE WRITE at M level. -/
def execRecordWrite (pl : Pl) (p : Nat) (s : State) : Out :=
  inPlane s pl (fun s =>
    let n := s.ni pl p
    let b := bNi p
    match n.recQ with
    | [] => s
    | d :: _ =>
      if n.recOut || bit (s.p pl (b + 4)) 2 || s.pair.joining.isSome || !(s.port p).live then s
      else if s.ringFull pl p then s.por pl (b + 4) 2
      else
        let head := (s.p pl (b + 0x1C)).toNat
        let a := s.pf pl (b + 0x10) 6 26 * 64 + s.pf pl (b + 0x14) 0 16 * 2 ^ 32
          + 64 * (head % 2 ^ (s.pf pl (b + 0x18) 0 5))
        let page := s.pageOf pl a
        match s.target a with
        | .port dst =>
          let q : Piece := { ord := n.nextOrd, pidx := 0, kind := kWrite, cls := 2, owner := 0, priv := 3, paddr := a,
                             taddr := a, dest := dst, placed := page.isSome, resolved := page.isNone, pepoch := 0,
                             ben := benAll, data := d, subop := 0, asize := 0, gts := 0, hdrHi := 0, msg := [], tag := none,
                             sent := false, loss := 0, retryAt := none, posted := false, inBuf := false, recWrite := true,
                             heldCounted := false, waitLookup := false, sampled := false }
          s.modNi pl p (fun n => { n with nextOrd := n.nextOrd + 1, recOut := true, wait := n.wait ++ [q] })
        | _ => s.por pl (b + 4) 4)

/-- RECORD_WRITE_RACK (R192). -/
def execRecordWriteRack (pl : Pl) (p vc : Nat) (s : State) : Out :=
  inPlane s pl (fun s =>
    match s.headResponse pl p vc with
    | none => s
    | some (k, st, t) =>
      match s.answeredPiece pl p (hTag k.hdr) with
      | none => s
      | some q =>
        if !q.recWrite then s
        else
          let t := (t.countNi pl p 0x03 q.cls (ownerIf q.priv q.owner)).modNi pl p (fun n => { n with
            out := n.out.filter (fun x => decide (x.tag ≠ q.tag)), recOut := false,
            recQ := if st = stOk then n.recQ.drop 1 else n.recQ })
          if st = stOk then (t.pset pl (bNi p + 0x1C) (t.p pl (bNi p + 0x1C) + 1)).niSettle pl p
          else (t.por pl (bNi p + 4) 4).niSettle pl p)

/-- A write of NI.REC_TAIL (R193): ignored out of range; clears OVERFLOW when it leaves room. -/
def State.recTail (s : State) (p : Nat) (v : W32) (pl : Pl) : State :=
  let b := bNi p
  let size := 2 ^ (s.pf pl (b + 0x18) 0 5)
  let d := (s.p pl (b + 0x1C) - v).toNat
  if size < d then s
  else
    let s := s.pset pl (b + 0x20) v
    if d < size then s.pfset pl (b + 4) 1 1 0 else s

/-- REC_TAIL_WRITE (R193). -/
def execRecTailWrite (r : CwReq) (p : Nat) (v : W32) (s : State) : Out :=
  s.cwWrite r (bNi p + 0x20) (fun s => s.eachPlane (fun pl s => s.recTail p v pl))

/-- A write of RGN_ATTR commits the staged bounds with the attributes (R189, R225). `b`: offset of the region's first
register. -/
def State.commitRegion (s : State) (b : Nat) (attr : W32) (pl : Pl) : State :=
  let s := [0, 4, 8, 12].foldl (fun t o =>
    match (t.pln pl).stage.find (b + o) with | some w => t.pset pl (b + o) w | none => t) s
  s.pset pl (b + 16) (attr &&& 0x3F1F)

/-- First register of a region (R205, R230). -/
def regionOff (blk : RegionBlock) (region : Nat) : Nat :=
  match blk with
  | .ni p => bNi p + 0x1000 + 0x20 * region
  | .mul e => bMul e + 0x3000 + 0x20 * region

/-- REGION_COMMIT (R189). -/
def execRegionCommit (r : CwReq) (blk : RegionBlock) (region : Nat) (attr : W32) (s : State) : Out :=
  s.cwWrite r (regionOff blk region + 16) (fun s => s.eachPlane (fun pl s => s.commitRegion (regionOff blk region) attr pl))

end Sys2Proof.Machine
end

