-- ==== Sys2Proof/Machine/Target.lean ====
section
/-!
DEFINITION. The target side of an NI: requests taken up (R54, R81, R142, R200, R254, R374), presentation on TREQ (R43,
R194, R360), unit answers (R52, R195, R361), read-modify-write (R52, R195) and path fences (R51).
-/
namespace Sys2Proof.Machine

/-! ### Atomic operations (R52) -/

/-- `v` as a signed number of `n` bits. -/
def signedOf (n v : Nat) : Int := if v < 2 ^ (n - 1) then (v : Int) else (v : Int) - 2 ^ n

/-- The result that ATOMIC operation `subop` writes, over operands of `n` bits (R52). -/
def atomicResult (subop n old a b : Nat) : Nat :=
  if subop = 0 then a
  else if subop = 1 then (if old = a then b else old)
  else if subop = 2 then (old + a) % 2 ^ n
  else if subop = 3 then old &&& a
  else if subop = 4 then old ||| a
  else if subop = 5 then old ^^^ a
  else if subop = 6 then (if signedOf n old < signedOf n a then a else old)
  else if subop = 7 then (if signedOf n a < signedOf n old then a else old)
  else if subop = 8 then max old a
  else min old a

/-- Bits of an ATOMIC operand (R37). -/
def Job.bits (j : Job) : Nat := 8 * (4 * 2 ^ j.asize)

/-- The operand of an ATOMIC in the granule `d`. -/
def Job.operand (j : Job) (d : Line) : Nat := fld d (8 * (j.taddr % 64)) j.bits

/-- The granule an ATOMIC writes back (R52). -/
def Job.atomicLine (j : Job) (d : Line) : Line :=
  setFld d (8 * (j.taddr % 64)) j.bits (atomicResult j.subop j.bits (j.operand d) (j.opA % 2 ^ j.bits) (j.opB % 2 ^ j.bits))

/-! ### The request buffers -/

/-- A request at the head of an NI's buffer: whether its flits came late, the flits that have not left the buffer yet, and
the state without it. -/
structure Req where
  pkt : Packet
  late : Bool
  held : Nat
  rest : State

/-- Flits of NI `p` on `vc` leave its input buffer: their credits go back, but not while the port answers with POISON
(R365, R374). -/
def State.freeFlits (s : State) (pl : Pl) (p vc n : Nat) : State :=
  if (s.port p).poisoning ∨ n = 0 then s else s.giveCredit pl (outToPort p) vc n

/-- Takes the request at the head of NI `p`'s buffer of `vc`. VC0 requests come released from the release buffer, those in
time first. -/
def State.popReq (s : State) (pl : Pl) (p vc : Nat) : Option Req :=
  if vc = 0 then
    match s.popNiIn pl p 7 with
    | some (k, t) => some { pkt := k, late := false, held := 0, rest := t }
    | none => (s.popNiIn pl p 8).map (fun (k, t) => { pkt := k, late := true, held := 0, rest := t })
  else if vc = 6 then (s.popNiIn pl p 6).map (fun (k, t) => { pkt := k, late := false, held := 0, rest := t })
  else (popHeld ((s.ni pl p).rx.rd vc []) (vcDepth vc)).map (fun (k, rest, own, next) =>
    { pkt := k, late := false, held := own,
      rest := (s.modNi pl p (fun x => { x with rx := x.rx.wr vc rest [] })).freeFlits pl p vc next })

/-! ### Answers (R32, R38) -/

/-- The answer packet of a target NI: RDATA of `lines`, or an RACK when there are none. -/
def respPacket (p src vc tag priv owner status islot : Nat) (lines : List Line) : BitVec 64 × List Line :=
  (mkHdr src p (rspVc vc) (if lines.isEmpty then kRack else kRdata) priv owner tag (lines.length - 1) ||| rspHi status islot,
    if lines.isEmpty then [0] else lines)

/-- Queues a GT response in its return reservation (R104, R106). -/
def Ni.queueRet (n : Ni) (src stream : Nat) (fs : List Flit) : Ni :=
  if n.rets.any (fun r => decide (r.src = src ∧ r.stream = stream)) then
    { n with rets := n.rets.map (fun r => if r.src = src ∧ r.stream = stream then { r with queue := r.queue ++ [fs] } else r) }
  else { n with rets := n.rets ++ [{ src := src, stream := stream, tok := 0, queue := [fs] }] }

/-- Sends the answer to a request: a GT response waits for its reservation, any other goes to the link. -/
def State.respond (s : State) (pl : Pl) (p src vc tag priv owner gts status : Nat) (lines : List Line) : State :=
  let k := respPacket p src vc tag priv owner status 0 lines
  if vc = 0 then s.modNi pl p (fun n => n.queueRet src gts (s.flits pl k.1 k.2))
  else s.niSend pl p k.1 k.2

/-- `n` lines whose contents the manual does not state (log 9). -/
def State.freeLines (pl : Pl) (n : Nat) (s : State) : List Line × State :=
  match n with
  | 0 => ([], s)
  | n + 1 => let a := s.freeLine pl; let b := State.freeLines pl n a.2; (a.1 :: b.1, b.2)

/-- Number of data flits in the answer to a request (R38). -/
def answerFlits (kind span : Nat) : Nat :=
  if kind = kRead ∨ kind = kFetch then span else if kind = kAtomic ∨ kind = kQop then 1 else 0

/-- Answers a request that is not presented, with free data. -/
def State.answerUnpresented (s : State) (pl : Pl) (p : Nat) (k : Packet) (late : Bool) (status : Nat) : State :=
  let cmd := (k.flits.head?).getD 0
  let a := State.freeLines pl (answerFlits (hKind k.hdr) (cSpan cmd)) s
  a.2.respond pl p (hSrc k.hdr) (hVc k.hdr) (hTag k.hdr) (hPriv k.hdr) (hOwner k.hdr) (hGts k.hdr)
    (if late then stFirst status stLate else status) a.1

/-! ### TARGET_REQUEST -/

/-- A request reads before it writes: an ATOMIC, or a WRITE that the NI merges (R52, R195). -/
def State.isRmw (s : State) (p kind : Nat) (ben : BitVec 64) : Bool :=
  decide (kind = kAtomic) || (decide (kind = kWrite) && s.encrypts p && decide (ben ≠ benAll))

/-- A read-modify-write of another request holds a granule of the range (R54, R195). -/
def Ni.granuleHeld (n : Ni) (taddr span : Nat) : Bool :=
  n.jobs.any (fun j => decide (j.phase ≠ .plain ∧ taddr / 64 ≤ j.taddr / 64 ∧ j.taddr / 64 < taddr / 64 + span))

/-- ATOMICs in progress (R54). -/
def Ni.atomics (n : Ni) : Nat := (n.jobs.filter (fun j => decide (j.kind = kAtomic))).length

/-- Presentations that are due or unanswered (R43). -/
def Ni.treqLoad (n : Ni) : Nat :=
  n.pres.length + (n.jobs.map (fun j => if j.phase = .plain then j.span - j.nextGran else if j.nextGran = 0 then 1 else 0)).sum

/-- The page and old epoch of a placed request match a tombstone (R142). -/
def State.tombstoned (s : State) (pl : Pl) (p : Nat) (hdr : BitVec 64) (paddr : Nat) : Option Nat :=
  if !hPlaced hdr then none
  else match s.pageOf pl paddr with
    | some page => if (s.ni pl p).tombs.contains (page, hPepoch hdr) then some page else none
    | none => none

/-- The owner of the request is closed to this NI (R200 step 1). -/
def State.closedFor (s : State) (hdr : BitVec 64) : Bool :=
  decide (hPriv hdr ≠ 3) && decide (hSrc hdr ≤ 95 ∨ (0x70 ≤ hSrc hdr ∧ hSrc hdr ≤ 0x77)) && s.closedOwner (hOwner hdr)

/-- The job of a request (R37). -/
def jobOf (id : Nat) (k : Packet) (late rmw : Bool) (held : Nat) : Job :=
  let cmd := (k.flits.head?).getD 0
  { id := id, src := hSrc k.hdr, rtag := hTag k.hdr, vc := hVc k.hdr, kind := hKind k.hdr, owner := hOwner k.hdr,
    priv := hPriv k.hdr, paddr := cPaddr cmd, taddr := cTaddr cmd, ben := cBen cmd, span := cSpan cmd, subop := cSubop cmd,
    asize := cAsize cmd, opA := cOpA cmd, opB := cOpB cmd, wdata := k.flits.drop 1, gts := hGts k.hdr, late := late,
    phase := if rmw then .rmwRead else .plain, nextGran := 0, old := 0, got := [], placed := hPlaced k.hdr,
    held := held }

/-- What the NI does with a whole request at the head of its buffer: answers it, takes it up, or leaves it there. An answered
request leaves the buffer at once, a request taken up as it is presented (R374). A request to a granule that R54 holds
stays in the buffer, a ninth ATOMIC among them: the gate is tested once the granule is free, the model's choice (log 27). -/
def State.takeRequest (s : State) (pl : Pl) (p : Nat) (x : Req) : State :=
  let k := x.pkt
  let late := x.late
  let t := x.rest.freeFlits pl p (hVc k.hdr) x.held
  let cmd := (k.flits.head?).getD 0
  let n := s.ni pl p
  let kind := hKind k.hdr
  let rmw := s.isRmw p kind (cBen cmd)
  if kind = kFence ∨ kRdata ≤ kind ∨ kind = kMgmt then s
  else if s.closedFor k.hdr then t.answerUnpresented pl p k late stProt
  else match s.tombstoned pl p k.hdr (cPaddr cmd) with
    | some page =>
      ((((t.pinc pl (bNi p + 0x60C) 0 32 1).pinc pl rPlcErrPlace 0 32 1).countPlc pl 0x0A).placeFault pl page 2).answerUnpresented pl p k late stPlace
    | none =>
      if k.poison then (t.poisonOwner (hOwner k.hdr) (hPriv k.hdr)).answerUnpresented pl p k late stPoison
      else if (s.port p).poisoning then t.answerUnpresented pl p k late stPoison
      else if n.granuleHeld (cTaddr cmd) (cSpan cmd) then s
      else if kind = kAtomic ∧ 8 ≤ n.atomics then t.answerUnpresented pl p k late stRetry
      else if 64 < n.treqLoad + (if rmw then 1 else cSpan cmd) ∧ n.treqLoad ≠ 0 then s
      else x.rest.modNi pl p (fun n => { n with nextJob := n.nextJob + 1, jobs := n.jobs ++ [jobOf n.nextJob k late rmw x.held] })

/-- TARGET_REQUEST (R374): the request at the head of VC0, VC1 or VC3 is taken up, answered, or held in its buffer. -/
def execTargetRequest (pl : Pl) (p vc : Nat) (s : State) : Out :=
  inPlane s pl (fun s =>
    if !s.isPort p ∨ ¬(vc = 0 ∨ vc = 1 ∨ vc = 3) then s
    else match s.popReq pl p vc with
      | none => s
      | some x => s.takeRequest pl p x)

/-! ### TREQ_PRESENT -/

/-- The key that a request selects (R194): index 16 is the machine key. -/
def keyOf (owner priv : Nat) : Nat := if priv = 3 then 16 else owner

/-- A granule as the unit stores it, and back (R194). -/
def State.xts (s : State) (dec : Bool) (p owner priv addr : Nat) (d : Line) : Line :=
  if s.encrypts p then xtsLine dec (s.keys.keys.rd (keyOf owner priv) 0) (addr / 64) d else d

/-- Marks the line of a placed write in the armed watch slot (R142). -/
def State.markDirty (s : State) (pl : Pl) (p : Nat) (j : Job) (gran : Nat) : State :=
  if !j.placed then s
  else match s.pageOf pl j.paddr with
    | some page =>
      let line := j.paddr % 65536 / 64 + gran
      s.modNi pl p (fun n => { n with watch := n.watch.map (fun w =>
        if w.page = page then { w with dirty := w.dirty ||| BitVec.ofNat 1024 (2 ^ line) } else w) })
    | none => s

/-- Address presented for granule `i` of a job: full granules only where the NI encrypts (R360). -/
def State.treqAddr (s : State) (p : Nat) (j : Job) (i : Nat) (rmw : Bool) : Nat :=
  if i = 0 ∧ !rmw ∧ !s.encrypts p then j.taddr else (j.taddr / 64 + i) * 64

/-- Flits of a job that leave the input buffer as its granule `i` is presented (R374): the command flit with the first
granule, a data flit with its granule, all that is left with the last; all at once where the NI performs the request
itself. -/
def Job.leaving (j : Job) (i : Nat) : Nat :=
  if j.phase = .plain ∧ j.kind = kWrite ∧ i + 1 < j.span then min j.held (if i = 0 then 2 else 1)
  else if j.phase = .plain ∧ j.kind ≠ kWrite ∧ 0 < i then 0 else j.held

/-- Presents a granule with the lowest free TREQ tag (R43); nothing while 64 are unanswered. -/
def State.present (s : State) (pl : Pl) (p : Nat) (j : Job) (i : Nat) (write : Bool) (data : Line) : State :=
  match lowestFree 64 ((s.ni pl p).pres.map (·.ttag)) with
  | none => s
  | some t =>
    let rmw := decide (j.phase ≠ .plain)
    let addr := s.treqAddr p j i rmw
    let x : TPres :=
      { ttag := t, job := j.id, gran := i, write := write, addr := addr,
        data := if write then s.xts false p j.owner j.priv addr data else 0,
        ben := if s.encrypts p || rmw || decide (0 < i) then benAll else j.ben, owner := j.owner, priv := j.priv,
        status := if j.late then stLate else stOk }
    let s := if write then s.markDirty pl p j i else s
    (s.modNi pl p (fun n => { n with
      pres := n.pres ++ [x],
      jobs := n.jobs.map (fun y => if y.id = j.id then { y with nextGran := i + 1, held := y.held - j.leaving i } else y) })).freeFlits
        pl p j.vc (j.leaving i)

/-- The job whose next granule is due. -/
def Ni.nextDue (n : Ni) : Option Job :=
  n.jobs.find? (fun j => match j.phase with
    | .plain => decide (j.nextGran < j.span)
    | .rmwRead => decide (j.nextGran = 0)
    | _ => false)

/-- TREQ_PRESENT (R43): the next granule due, in order of arrival. -/
def execTreqPresent (pl : Pl) (p : Nat) (s : State) : Out :=
  inPlane s pl (fun s =>
    match (s.ni pl p).nextDue with
    | none => s
    | some j =>
      let write := decide (j.kind = kWrite ∧ j.phase = .plain)
      s.present pl p j j.nextGran write (j.wdata.getD j.nextGran 0))

/-! ### TRSP_RESPONSE -/

/-- Answers a job and forgets it. -/
def State.finishJob (s : State) (pl : Pl) (p : Nat) (j : Job) (status : Nat) (lines : List Line) : State :=
  (s.modNi pl p (fun n => { n with jobs := n.jobs.filter (fun x => decide (x.id ≠ j.id)) })).respond pl p j.src j.vc j.rtag
    j.priv j.owner j.gts (if j.late then stFirst status stLate else status) lines

/-- The first-ranking status of the granules of a job. -/
def Job.status (j : Job) : Nat := stFirstOf (j.got.map (·.status))

/-- The answer's lines for a plain job, in granule order; a WRITE has none. -/
def Job.lines (j : Job) : List Line :=
  if j.kind = kWrite then []
  else (List.range j.span).map (fun i => ((j.got.find? (fun a => decide (a.pidx = i))).map (·.data)).getD 0)

/-- A unit's answer to granule `x` of job `j` (R52, R195, R361). -/
def State.unitAnswer (s : State) (pl : Pl) (p : Nat) (x : TPres) (j : Job) (status : Nat) (data : Line) : State :=
  let st := stOfUnit status
  let plain := s.xts true p j.owner j.priv x.addr data
  match j.phase with
  | .plain =>
    let j : Job := { j with got := j.got ++ [{ pidx := x.gran, status := st, data := if x.write then 0 else plain }] }
    if j.got.length = j.span then s.finishJob pl p j j.status j.lines
    else s.modNi pl p (fun n => { n with jobs := n.jobs.map (fun y => if y.id = j.id then j else y) })
  | .rmwRead =>
    if st = stOk then
      s.modNi pl p (fun n => { n with jobs := n.jobs.map (fun y => if y.id = j.id then { j with phase := .rmwReady, old := plain } else y) })
    else s.finishJob pl p j st (if j.kind = kAtomic then [0] else [])
  | .rmwReady => s
  | .rmwWrite =>
    if j.kind = kAtomic ∧ st = stOk then
      let x := s.stated pl 16 (BitVec.ofNat 512 (j.operand j.old))
      x.2.finishJob pl p j st [x.1]
    else s.finishJob pl p j st (if j.kind = kAtomic then [0] else [])

/-- A response of the unit at half `pl`: the presentation with tag `ttag` is answered (R361). -/
def State.unitResponse (s : State) (pl : Pl) (p ttag status : Nat) (data : Line) : State :=
  match (s.ni pl p).pres.find? (fun x => decide (x.ttag = ttag)) with
  | none => s
  | some x =>
    let s := s.modNi pl p (fun n => { n with pres := n.pres.filter (fun y => decide (y.ttag ≠ ttag)) })
    match (s.ni pl p).jobs.find? (fun j => decide (j.id = x.job)) with
    | none => s
    | some j => s.unitAnswer pl p x j status data

/-- TRSP_RESPONSE (R361): the unit answers the presentation with tag `ttag`. -/
def execTrspResponse (pl : Pl) (p ttag status : Nat) (data : Line) (s : State) : Out :=
  atUnit s pl (fun pl s => s.unitResponse pl p ttag status data)

/-- The write-back of a job whose read has been answered. -/
def State.writeBack (s : State) (pl : Pl) (p : Nat) (j : Job) (d : Line) : State :=
  if 64 ≤ (s.ni pl p).pres.length then s
  else
    (s.present pl p j 0 true d).modNi pl p (fun n => { n with
      jobs := n.jobs.map (fun y => if y.id = j.id then { y with phase := .rmwWrite } else y) })

/-- ATOMIC_WRITE_BACK (R52): the whole granule is written back, whatever its value. -/
def execAtomicWriteBack (pl : Pl) (p job : Nat) (s : State) : Out :=
  inPlane s pl (fun s =>
    match (s.ni pl p).jobs.find? (fun j => decide (j.id = job ∧ j.phase = .rmwReady ∧ j.kind = kAtomic)) with
    | none => s
    | some j => s.writeBack pl p j (j.atomicLine j.old))

/-- WRITE_MERGE (R195): the enabled bytes are merged and the whole granule is written. -/
def execWriteMerge (pl : Pl) (p job : Nat) (s : State) : Out :=
  inPlane s pl (fun s =>
    match (s.ni pl p).jobs.find? (fun j => decide (j.id = job ∧ j.phase = .rmwReady ∧ j.kind = kWrite)) with
    | none => s
    | some j => s.writeBack pl p j (mergeLine j.old (j.wdata.getD 0 0) j.ben))

/-! ### Path fences (R51) -/

/-- PATH_FENCE: a FENCE at the head of a buffer is noted with the requests it waits for. -/
def execPathFence (pl : Pl) (p vc : Nat) (s : State) : Out :=
  inPlane s pl (fun s =>
    if !s.isPort p then s
    else match s.popReq pl p vc with
      | none => s
      | some x =>
        let h := x.pkt.hdr
        if hKind h ≠ kFence then s
        else
          let waits := ((s.ni pl p).jobs.filter (fun j => decide (j.src = hSrc h ∧ j.vc = vc))).map (·.id)
          (x.rest.freeFlits pl p vc x.held).modNi pl p (fun n => { n with
            pfences := n.pfences ++ [{ src := hSrc h, tag := hTag h, vc := vc, waits := waits, poison := x.pkt.poison }] }))

/-- PATH_FENCE_ACK: the first fence whose earlier requests have all been answered is acknowledged, with POISON if it came
poisoned (R254). Its answer carries PRIV M and OWNER 0, the model's choice (log 39). -/
def execPathFenceAck (pl : Pl) (p : Nat) (s : State) : Out :=
  inPlane s pl (fun s =>
    let n := s.ni pl p
    match n.pfences.find? (fun f => f.waits.all (fun w => !n.jobs.any (fun j => decide (j.id = w)))) with
    | none => s
    | some f =>
      (s.modNi pl p (fun n => { n with pfences := n.pfences.erase f })).respond pl p f.src f.vc f.tag 3 0 0
        (if f.poison then stPoison else stOk) [])

end Sys2Proof.Machine
end

