-- ==== Sys2Proof/Machine/LockUnit.lean ====
section
/-!
DEFINITION. The lock unit (R55 to R59, R351, R352).
-/
namespace Sys2Proof.Machine

def State.lock (s : State) (pl : Pl) (n : Nat) : Lock := (s.sb pl).locks.rd n {}

def State.modLock (s : State) (pl : Pl) (n : Nat) (f : Lock → Lock) : State :=
  s.modSb pl (fun b => { b with locks := b.locks.upd n {} f })

/-- LIMIT of the lock's group (R56). -/
def State.lockLimit (s : State) (pl : Pl) (n : Nat) : Nat := s.pf pl (rLockLimit (n / 64)) 0 13

/-- The owner to which the image assigns lock `n` (R276). -/
def State.lockOwnerOf (s : State) (n : Nat) : Option Nat :=
  let v := s.img.lockOwner.rd n 0
  if v = 0 then none else some (v - 1)

/-- Breaks a HELD lock (R58); `cause` as in R314. -/
def State.breakLock (s : State) (pl : Pl) (n cause : Nat) : State :=
  if (s.lock pl n).state = .held then
    ((s.modLock pl n (fun l => { l with
      state := .broken, holderM := false, holderPort := 0x7F, holderOwner := 0, hold := 0 })).occurP pl 373 (n + cause * 4096)).countLock pl 0x04
  else s

/-- The expiry of R58 and R59: a HELD lock whose HOLD has reached LIMIT breaks. -/
def State.expireLock (s : State) (pl : Pl) (n : Nat) : State :=
  if (s.lock pl n).state = .held ∧ s.lockLimit pl n ≤ (s.lock pl n).hold then s.breakLock pl n 1 else s

/-- LOCK_EXPIRY (R58, R59). -/
def execLockExpiry (pl : Pl) (n : Nat) (s : State) : Out :=
  inPlane s pl (fun s => if s.pair.joining.isSome then s else s.expireLock pl n)

/-- The cause of R58, other than expiry, that holds for the holder of lock `n` (R314 codes); 0 when none does. -/
def State.breakCause (s : State) (pl : Pl) (n : Nat) (niFault : Bool) : Nat :=
  let l := s.lock pl n
  if l.holderPort ≤ 95 ∧ !(s.port l.holderPort).live then 2
  else if niFault || (s.ni pl l.holderPort).fault then 3
  else if !l.holderM && decide (s.oreset.step = 4 ∧ s.oreset.owner = l.holderOwner) then 4
  else 0

/-- LOCK_BREAK (R58): the holder's port has fallen, its NI reports a fault, or its owner is being reset. -/
def execLockBreak (pl : Pl) (n : Nat) (niFault : Bool) (s : State) : Out :=
  inPlane s pl (fun s =>
    let c := s.breakCause pl n niFault
    if c = 0 then s else s.breakLock pl n c)

/-- The lock a LOCK request names (R56). -/
def State.lockNum (s : State) (d : Line) : Nat := (cPaddr d - s.img.lap) / 64 % 1024

/-- Another link holds a LOCK request for the same lock that arrived in the same fc from a lower port (R59, R84). -/
def State.lockBehind (s : State) (pl : Pl) (key : Nat) (f : Flit) : Bool :=
  (s.sb pl).rx.any (fun x => match x.2.head? with
    | some g => decide (x.1 ≠ key ∧ hKind g.hdr = kLock ∧ s.lockNum g.data = s.lockNum f.data ∧ g.since = f.since ∧ hSrc g.hdr < hSrc f.hdr)
    | none => false)

/-- The owner test of the first row of R57, with the closure of R200 step 1. -/
def State.lockDenied (s : State) (n : Nat) (hdr : BitVec 64) : Bool :=
  match s.lockOwnerOf n with
  | none => true
  | some o => decide (hPriv hdr ≠ 3) && (decide (hOwner hdr ≠ o) || s.closedOwner (hOwner hdr))

/-- The requester holds the lock (R57). -/
def Lock.heldBy (l : Lock) (hdr : BitVec 64) : Bool :=
  decide (l.state = .held ∧ l.holderPort = hSrc hdr)
    && (if l.holderM then decide (hPriv hdr = 3) else decide (hPriv hdr ≠ 3 ∧ l.holderOwner = hOwner hdr))

/-- Code of STATE in RDATA and FLK.LOCK (R57, R351). -/
def LockState.code : LockState → Nat
  | .free => 0 | .held => 1 | .broken => 2

/-- Bytes 0 to 7 of the RDATA of a granted acquire (R57). -/
def lockData (n : Nat) (l : Lock) (limit : Nat) : Line :=
  BitVec.ofNat 512 (n + l.state.code * 2 ^ 16 + l.last * 2 ^ 24 + limit * 2 ^ 32)

/-- Answers an acquire (RDATA). -/
def State.lockReply (s : State) (pl : Pl) (hdr : BitVec 64) (st : Nat) (d : Line) : State :=
  s.sbReply pl (hSrc hdr) (hVc hdr) (hTag hdr) st (some d)

/-- An acquire of lock `n` (R57, R59). -/
def State.acquire (s : State) (pl : Pl) (n : Nat) (hdr : BitVec 64) : State :=
  let l := s.lock pl n
  if s.lockDenied n hdr then s.lockReply pl hdr stProt 0
  else if l.state = .held ∨ l.changedAt = some s.fc then
    let a := s.freeLine pl
    (a.2.countLock pl 0x03).lockReply pl hdr stRetry a.1
  else
    let d := lockData n l (s.lockLimit pl n)
    let m := decide (hPriv hdr = 3)
    let t := (s.modLock pl n (fun l => { l with
      state := .held, holderM := m, holderPort := hSrc hdr, holderOwner := if m then 0 else hOwner hdr,
      hold := 0, last := hSrc hdr, changedAt := some s.fc })).countLock pl 0x02
    let x := t.stated pl 8 d
    if l.state = .broken then (x.2.countLock pl 0x05).lockReply pl hdr stBroken x.1 else x.2.lockReply pl hdr stOk x.1

/-- A release of lock `n` (R57, R59). -/
def State.release (s : State) (pl : Pl) (n : Nat) (hdr : BitVec 64) : State :=
  let l := s.lock pl n
  let reply (t : State) (st : Nat) : State := t.sbReply pl (hSrc hdr) (hVc hdr) (hTag hdr) st none
  if s.lockDenied n hdr then reply s stProt
  else if l.heldBy hdr then
    if l.changedAt = some s.fc then reply s stRetry
    else reply (s.modLock pl n (fun l => { l with
      state := .free, holderM := false, holderPort := 0x7F, holderOwner := 0, hold := 0, changedAt := some s.fc })) stOk
  else reply s stProt

/-- A LOCK request that came poisoned changes no lock: POISON, or the ERR_PROT that ranks first, and it counts for its owner
(R16, R251, R254). -/
def State.lockPoisoned (s : State) (pl : Pl) (n op : Nat) (hdr : BitVec 64) : State :=
  let s := s.poisonOwner (hOwner hdr) (hPriv hdr)
  if s.lockDenied n hdr ∨ (op = 1 ∧ (s.lock pl n).heldBy hdr = false) then
    s.sbReply pl (hSrc hdr) (hVc hdr) (hTag hdr) stProt (if op = 0 then some 0 else none)
  else
    let a := s.freeLine pl
    a.2.sbReply pl (hSrc hdr) (hVc hdr) (hTag hdr) stPoison (if op = 0 then some a.1 else none)

/-- A LOCK request with operation `op` at the head of link `q`, `vc`: expiry comes first, and the request of the lowest
port that arrived in the same fc (R59). -/
def State.lockRequest (s : State) (pl : Pl) (q vc op : Nat) (f : State → Nat → BitVec 64 → State) : State :=
  match ((s.sb pl).rx.rd (q * 8 + vc) []).head? with
  | none => s
  | some g =>
    if hKind g.hdr ≠ kLock ∨ cSubop g.data ≠ op ∨ s.lockBehind pl (q * 8 + vc) g = true then s
    else match s.popSb pl q vc with
      | none => s
      | some (k, t) =>
        let n := s.lockNum g.data
        let t := if s.pair.joining.isSome then t else t.expireLock pl n
        if k.poison then t.lockPoisoned pl n op k.hdr else f t n k.hdr

/-- LOCK_ACQUIRE (R57). -/
def execLockAcquire (pl : Pl) (q vc : Nat) (s : State) : Out :=
  inPlane s pl (fun s => s.lockRequest pl q vc 0 (fun t n h => t.acquire pl n h))

/-- LOCK_RELEASE (R57). -/
def execLockRelease (pl : Pl) (q vc : Nat) (s : State) : Out :=
  inPlane s pl (fun s => s.lockRequest pl q vc 1 (fun t n h => t.release pl n h))

/-- The FREE command in one plane (R352): expiry comes first. -/
def State.freeLock (s : State) (n : Nat) (pl : Pl) : State :=
  let s := if s.pair.joining.isSome then s else s.expireLock pl n
  let broken := decide ((s.lock pl n).state = .broken)
  let s := s.pset pl rLockCmdStatus (BitVec.ofNat 32 (b2n (!broken) + n * 2 ^ 16))
  if broken then s.modLock pl n (fun l => { l with state := .free }) else s

/-- LOCK_FREE (R352). -/
def execLockFree (r : CwReq) (n : Nat) (s : State) : Out :=
  s.cwWrite r 0x39040 (fun s => s.eachPlane (fun pl s => s.freeLock (n % 1024) pl))

end Sys2Proof.Machine
end

