-- ==== Sys2Proof/Machine/Lookaside.lean ====
section
/-!
DEFINITION. The initiators' side of placement (R130 to R134, R141, R142): replies, invalidates, freezes, releases and
watches at an NI or a Mule engine. An agent is named by its endpoint code.
-/
namespace Sys2Proof.Machine

/-- The packet with MOP `mop` and, where one is named, action `act` at the head of an agent's VC6 inbox. -/
def State.takeMgmt (s : State) (pl : Pl) (agent mop : Nat) (act : Option Nat) : Taken :=
  match s.popEpIn pl agent 6 with
  | some (k, t) =>
    if hKind k.hdr = kMgmt ∧ hMop k.hdr = mop ∧ (act = none ∨ act = some (hMarg k.hdr / 2 ^ 18))
    then some (k, t) else none
  | none => none

/-- Page index of a placement packet (R132). -/
def mgPage (h : BitVec 64) : Nat := hMarg h % 2 ^ 18

/-- The first payload flit of a packet. -/
def Packet.line0 (k : Packet) : Line := (k.flits.head?).getD 0

/-- The lookaside, lookups and freeze list of an agent changed as given. -/
def State.modPlacement (s : State) (pl : Pl) (agent : Nat)
    (f : List Look × List (Nat × Nat) × List Frozen → List Look × List (Nat × Nat) × List Frozen) : State :=
  match muleOf agent with
  | some e => s.modMul pl e (fun m => let r := f (m.look, m.lookups, m.frozen); { m with look := r.1, lookups := r.2.1, frozen := r.2.2 })
  | none => s.modNi pl agent (fun n => let r := f (n.look, n.lookups, n.frozen); { n with look := r.1, lookups := r.2.1, frozen := r.2.2 })

/-- The freeze list of an agent. -/
def State.frozenOf (s : State) (pl : Pl) (agent : Nat) : List Frozen :=
  match muleOf agent with | some e => (s.mul pl e).frozen | none => (s.ni pl agent).frozen

/-- Number of sets of an agent's lookaside: 256 entries at an NI, 64 at a Mule engine, in 4 ways (R130). -/
def lookSets (agent : Nat) : Nat := match muleOf agent with | some _ => 16 | none => 64

/-- Re-examines what waits at an agent: an NI settles its pieces; a Mule engine looks again when it starts a burst. -/
def State.settleAgent (s : State) (pl : Pl) (agent : Nat) : State :=
  match muleOf agent with | some _ => s | none => s.niSettle pl agent

/-- The acknowledgement of R132 with the action echoed. -/
def State.ackMgmt (s : State) (pl : Pl) (agent : Nat) (h : BitVec 64) (lines : List Line) : State :=
  s.epSend pl agent (mkHdr epService agent 6 kMgmt 3 0 (hTag h) (lines.length - 1) ||| mgmtHi 4 (hMarg h)) lines

/-- Completes the pieces of an NI that wait for the placement of `page` with POISON (R129, R133). -/
def State.poisonWaiting (s : State) (pl : Pl) (p page : Nat) : State :=
  let hit (q : Piece) : Bool := q.waitLookup && !q.resolved && decide (s.pageOf pl q.paddr = some page)
  let n := s.ni pl p
  let qs := n.wait.filter hit ++ n.out.filter hit
  let s := s.modNi pl p (fun n => { n with wait := n.wait.filter (fun q => !hit q), out := n.out.filter (fun q => !hit q) })
  qs.foldl (fun t q =>
    if q.recWrite then (t.modNi pl p (fun n => { n with recOut := false })).por pl (bNi p + 4) 4
    else if q.posted then t.postedError pl p q stPoison
    else t.modNi pl p (fun n => n.answerPiece q.ord q.pidx stPoison 0)) s

/-- LOOKASIDE_INVALIDATE (R132, R133). -/
def execLookasideInvalidate (pl : Pl) (agent : Nat) (s : State) : Out :=
  inPlane s pl (fun s =>
    match s.takeMgmt pl agent 3 (some 0) with
    | none => s
    | some (k, t) =>
      let all := bit k.line0 64
      let t := t.modPlacement pl agent (fun (l, u, f) =>
        (if all then [] else l.filter (fun x => decide (x.page ≠ mgPage k.hdr)), u, f))
      t.ackMgmt pl agent k.hdr [0])

/-- The path fence of a freeze (R51, R141), as a piece that goes before everything that waits. Its number, 0, is no
Stitch request's. -/
def fencePiece (page home addr cls : Nat) : Piece :=
  { ord := 0, pidx := 2 * page + (cls - 1), kind := kFence, cls := cls, owner := 0, priv := 3, paddr := addr, taddr := addr,
    dest := home, placed := false, resolved := true, pepoch := 0, ben := 0, data := 0, subop := 0, asize := 0, gts := 0,
    hdrHi := 0, msg := [], tag := none, sent := false, loss := 0, retryAt := none, posted := false, inBuf := false,
    recWrite := false, heldCounted := true, waitLookup := false, sampled := false }

/-- Pieces of a frozen page that have not been sent, or wait for reissue, are held for a new resolution (R141). -/
def Ni.freezePieces (n : Ni) (hit : Piece → Bool) : Ni :=
  { n with
    wait := n.wait.map (fun q => if hit q then { q with resolved := false } else q),
    out := n.out.map (fun q => if hit q && q.retryAt.isSome then { q with resolved := false } else q) }

/-- The tags of VC0 requests to port `h` that still await their responses (R141 step 3). -/
def Ni.gtTagsTo (n : Ni) (h : Nat) : List Nat :=
  ((n.out ++ n.gtq.flatMap (·.2)).filter (fun q => decide (q.cls = 0 ∧ q.dest = h))).filterMap (·.tag)

/-- FREEZE at an NI (R141 steps 1 to 3). The path fences name the page by its number of the freeze list. -/
def State.freezeNi (s : State) (pl : Pl) (p page home : Nat) : State :=
  let a := s.pageAddr pl page
  let hit (q : Piece) : Bool := q.placed && q.resolved && decide (s.pageOf pl q.paddr = some page)
  let s := s.modNi pl p (fun n =>
    let n := n.freezePieces hit
    { n with
      look := n.look.filter (fun x => decide (x.page ≠ page)),
      frozen := n.frozen ++ [{ page := page, home := home, fence1 := false, fence3 := false, gtTags := n.gtTagsTo home, acked := false }],
      wait := [fencePiece page home a 1, fencePiece page home a 2] ++ n.wait })
  s.resolveAll pl p

/-- The lowest tag a Mule engine does not use. -/
def Mule.freeTag (m : Mule) : Option Nat := lowestFree 64 m.tags

/-- FREEZE at a Mule engine, which uses VC3 only (R141, R224). Writes that have not been sent are resolved again; no freeze
holds the channel of the Bellwether (R143). -/
def State.freezeMul (s : State) (pl : Pl) (e page home : Nat) : State :=
  match (s.mul pl e).freeTag with
  | none => s
  | some t =>
    let hit (c a : Nat) : Bool := !(decide (c = 3) && bit (s.p pl rPlcCtrl) 0) && decide (s.pageOf pl a = some page)
    let s := s.modMul pl e (fun m => { m with
      chans := m.chans.map (fun (c, x) => (c, { x with bursts := x.bursts.map (fun b =>
        if !b.sent && hit c b.dAddr then { b with dRoute := none } else b) })),
      tags := m.tags ++ [t], look := m.look.filter (fun x => decide (x.page ≠ page)),
      frozen := m.frozen ++ [{ page := page, home := home, fence1 := true, fence3 := false, gtTags := [t], acked := false }] })
    let a := s.pageAddr pl page
    s.mulSend pl e (mkHdr home (epMule e) 3 kFence 3 0 t 0) [cmdFlit a a 0 1 0 0 0]

/-- LOOKASIDE_FREEZE (R141): the page's old home is the home of the entry that the packet carries. -/
def execLookasideFreeze (pl : Pl) (agent : Nat) (s : State) : Out :=
  inPlane s pl (fun s =>
    match s.takeMgmt pl agent 3 (some 1) with
    | none => s
    | some (k, t) =>
      let page := mgPage k.hdr
      let e : W32 := lineWord k.line0 0
      let home := t.homePort pl page (eInframe e) (eFrame e)
      match muleOf agent with
      | some m => if (t.mul pl m).freeTag.isNone then s else t.freezeMul pl m page home
      | none => t.freezeNi pl agent page home)

/-- FREEZE_ACKNOWLEDGE (R141 step 4): once both fences and the earlier VC0 requests have been answered. A page released by then
leaves the list. -/
def execFreezeAcknowledge (pl : Pl) (agent page : Nat) (s : State) : Out :=
  inPlane s pl (fun s =>
    if (s.frozenOf pl agent).any (fun f => decide (f.page = page ∧ f.fence1 ∧ f.fence3 ∧ f.gtTags = [] ∧ ¬f.acked)) then
      let s := s.modPlacement pl agent (fun (l, u, f) =>
        (l, u, (f.filter (fun x => decide (¬(x.page = page ∧ x.released)))).map (fun x =>
          if x.page = page then { x with acked := true } else x)))
      s.epSend pl agent (mkHdr epService agent 6 kMgmt 3 0 0 0 ||| mgmtHi 4 (page + 2 ^ 18)) [0]
    else s)

/-- The old home's part of a RELEASE (R142, R145): the watch slot is disarmed; the old epoch becomes a tombstone when the
page's epoch has moved on. The newest 16 are kept. -/
def Ni.releaseWatch (n : Ni) (page epoch old : Nat) : Ni :=
  if n.watch.any (fun w => decide (w.page = page)) then
    let n : Ni := { n with watch := n.watch.filter (fun w => decide (w.page ≠ page)) }
    if epoch = old then n else { n with tombs := (n.tombs ++ [(page, old)]).drop ((n.tombs.length + 1) - 16) }
  else n

/-- The freeze list after a RELEASE of a page: a FREEZE that is not yet acknowledged is still acknowledged later (R141). -/
def releasePage (l : List Frozen) (page : Nat) : List Frozen :=
  (l.filter (fun x => decide (¬(x.page = page ∧ x.acked)))).map (fun x => if x.page = page then { x with released := true } else x)

/-- LOOKASIDE_RELEASE (R141, R142). -/
def execLookasideRelease (pl : Pl) (agent : Nat) (s : State) : Out :=
  inPlane s pl (fun s =>
    match s.takeMgmt pl agent 3 (some 2) with
    | none => s
    | some (k, t) =>
      let page := mgPage k.hdr
      let e : W32 := lineWord k.line0 0
      let t := t.modPlacement pl agent (fun (l, u, f) => (l, u, releasePage f page))
      let t := match muleOf agent with
        | some _ => t
        | none => t.modNi pl agent (fun n => n.releaseWatch page (eEpoch e) (byteAt k.line0 4))
      (t.ackMgmt pl agent k.hdr [0]).settleAgent pl agent)

/-- The two payload flits of a WATCH acknowledgement (R132). -/
def dirtyLines (d : BitVec 1024) : List Line :=
  [BitVec.ofNat 512 (d.toNat % 2 ^ 512), BitVec.ofNat 512 (d.toNat / 2 ^ 512)]

/-- LOOKASIDE_WATCH (R140, R142): arms a slot at the old home, or returns its dirty bits and clears them. Two slots. -/
def execLookasideWatch (pl : Pl) (p : Nat) (s : State) : Out :=
  inPlane s pl (fun s =>
    match s.takeMgmt pl p 3 (some 3) with
    | none => s
    | some (k, t) =>
      let page := mgPage k.hdr
      let n := t.ni pl p
      let d := ((n.watch.find? (fun w => decide (w.page = page))).map (·.dirty)).getD 0
      let t := t.modNi pl p (fun n =>
        if n.watch.any (fun w => decide (w.page = page)) then
          { n with watch := n.watch.map (fun w => if w.page = page then { w with dirty := 0 } else w) }
        else if n.watch.length < 2 ∧ s.encrypts p then { n with watch := n.watch ++ [{ page := page, dirty := 0 }] } else n)
      t.ackMgmt pl p k.hdr (dirtyLines d))

end Sys2Proof.Machine
end

