-- ==== Sys2Proof/Machine/Service.lean ====
section
/-!
DEFINITION. The requests that the service block issues itself (R72): their tags, addresses, freezes and answers.
-/
namespace Sys2Proof.Machine

/-- The service block's tags in use. -/
def Sb.tags (b : Sb) : List Nat := b.outs.filterMap (·.tag)

/-- A freeze holds the service block's requests to the page (R140 step 4). -/
def Sb.pageFrozen (b : Sb) (page : Option Nat) : Bool :=
  match page with
  | some p => b.migs.any (fun m => decide (m.page = p ∧ 4 ≤ m.step ∧ m.step ≤ 5) && !m.stopping)
  | none => false

/-- The packet of a request (R34, R37, R38, R72). -/
def State.sbPacket (s : State) (pl : Pl) (o : SbOut) (tag dest taddr : Nat) : BitVec 64 × List Line :=
  let epoch := match o.page with | some p => eEpoch (s.entry pl p) | none => 0
  let lines := cmdFlit o.addr taddr o.ben o.span 0 0 0 :: (if o.write then o.data else [])
  (mkHdr dest epService (if o.ll then 1 else 3) (if o.write then kWrite else kRead) o.priv o.owner tag (lines.length - 1)
    ||| reqHi epoch o.page.isSome 0 0, lines)

/-- Issues one waiting request, named by its place: it takes the lowest free tag and goes to the home of its address; an
address in no port range is answered with ERR_DECODE, and one of a page whose entry is lost with POISON (R129). -/
def State.sbIssueOne (s : State) (pl : Pl) (i : Nat) : State :=
  let b := s.sb pl
  match b.outs[i]?, lowestFree 64 b.tags with
  | some o, some t =>
    if o.tag.isSome || b.pageFrozen o.page then s
    else
      let r := s.resolveSb pl o.addr
      let s := s.modSb pl (fun b => { b with outs := b.outs.set i { o with tag := some t } })
      let own (st : Nat) : State :=
        let fs := mkFlits (mkHdr epService epService (if o.ll then 2 else 4) kRack 3 0 t 0 ||| rspHi st 0) [0] s.fc
        s.modSb pl (fun b => { b with inbox := pushAt b.inbox (if o.ll then 2 else 4) fs })
      if (match o.page with | some p => b.badPages.contains p | none => false) then own stPoison
      else match r.2.1 with
      | some d =>
        let k := s.sbPacket pl o t d r.1
        s.sbSend pl k.1 k.2
      | none => own stDecode
  | _, _ => s

/-- A request that waits until a join pause ends: an event delivery, a dump write or a doorbell (R248). -/
def SbOut.waitsJoin (o : SbOut) : Bool :=
  match o.purpose with | .event _ => true | .dump _ => true | .doorbell _ => true | _ => false

/-- The waiting request of that place may go now (R248). -/
def State.sbMayGo (s : State) (pl : Pl) (i : Nat) : Bool :=
  s.pair.joining.isNone || (match (s.sb pl).outs[i]? with | some o => !o.waitsJoin | none => false)

/-- Issues every request that may go, in order. -/
def State.sbIssue (s : State) (pl : Pl) : State :=
  (List.range (s.sb pl).outs.length).foldl (fun t i => if t.sbMayGo pl i then t.sbIssueOne pl i else t) s

/-- Adds a request to those that wait, and issues what may go. -/
def State.sbAdd (s : State) (pl : Pl) (purpose : SbPurpose) (write ll : Bool) (owner priv addr span : Nat) (ben : BitVec 64)
    (data : List Line) : State :=
  let o : SbOut := { tag := none, purpose := purpose, write := write, ll := ll, owner := owner, priv := priv, addr := addr,
                     span := span, ben := ben, data := data, page := s.pageOf pl addr }
  (s.modSb pl (fun b => { b with outs := b.outs ++ [o] })).sbIssue pl

end Sys2Proof.Machine
end

