-- ==== Sys2Proof/Machine/PowerBase.lean ====
section
/-!
DEFINITION. Power commands, refusals, and the beginning and abort of a transition (R292 to R304).
-/
namespace Sys2Proof.Machine

/-! ### Pages in a quire's tiles (R149) -/

/-- Quire of a tile (R21, R124). -/
def State.tileQuire (s : State) (t : Nat) : Nat := (s.variant.firstTile + t) / 24

/-- Framed pages in state HOME. Such a page has an entry of its own, since the image frames pinned pages only (R128). -/
def State.framedHome (s : State) (pl : Pl) : List Nat :=
  ((s.sb pl).ctab.filter (fun x => decide (eState x.2 = 0) && eInframe x.2)).map (·.1)

/-- HOME pages framed in the tiles of quire `q`. -/
def State.framedIn (s : State) (pl : Pl) (q : Nat) : List Nat :=
  (s.framedHome pl).filter (fun p => decide (s.tileQuire (eFrame (s.entry pl p) / 64) = q) && !(s.sb pl).badPages.contains p)

/-! ### States -/

/-- Code of a state (R312); a deeper state has a greater code. -/
def PState.code : PState → Nat
  | .run => 0 | .idle => 1 | .sleep => 2 | .deep => 3 | .off => 4

/-- The quire is in transition: an entry, an exit, or the wait for its supply. -/
def QPower.moving (x : QPower) : Bool := x.entry.isSome || x.exitAt.isSome || (decide (x.state = .off) && x.supplyReq)

/-- The device state: Idle when every quire and the spine-link island are in Idle (R292). -/
def State.devState (s : State) : PState :=
  if s.pw.dev = .run ∧ (List.range s.variant.quires ++ [4]).all (fun q => decide ((s.qp q).state = PState.idle)) then PState.idle else s.pw.dev

/-- The quire runs or idles and has not been parked (R298 E4). -/
def State.quireOn (s : State) (q : Nat) : Bool :=
  s.quireUp q && (match (s.qp q).entry with | some e => decide (e.step ≠ .commit) | none => true)

/-- The island's quire is on; the spine-link island follows the device. -/
def State.islandOn (s : State) (i : Nat) : Bool :=
  if i < 16 then decide (i < s.variant.folios) && s.quireOn (i / 4)
  else if i < 20 then decide (i - 16 < s.variant.quires) && s.quireOn (i - 16)
  else decide (s.pw.dev = .run)

/-- The first slot boundary after what happens now (R293). -/
def State.nextBoundary (s : State) : Nat := s.now + 1

/-! ### Results (R312) -/

/-- Writes SYS.PWR_RESULT. -/
def State.pwrResult (s : State) (result quire : Nat) (device auto : Bool) (port : Nat) : State :=
  s.gset rPwrResult (BitVec.ofNat 32 (result + quire % 4 * 16 + b2n device * 64 + b2n auto * 128 + port * 256))

/-- The refusals of R297 for quire `q`: RESULT and port. -/
def State.refusal (s : State) (q : Nat) : Option (Nat × Nat) :=
  match leastOf ((s.img.gt.filter (fun r => decide (r.flags % 2 = 1 ∧ r.dest / 24 = q ∧ r.src / 24 ≠ q) && (s.port r.src).live)).map (·.src)) with
  | some p => some (2, p)
  | none => if s.planes.any (fun pl => (s.sb pl).timed && !(s.framedIn pl q).isEmpty) then some (4, 0x7F) else none

/-! ### The beginning of a transition -/

/-- An entry begins in the present slot (R298). -/
def State.beginEntry (s : State) (q : Nat) (target : PState) (auto device : Bool) : State :=
  s.modQp q (fun x => { x with
    entry := some { target := target, step := .close, slot := s.now, start := 0, auto := auto, device := device }, idleSlots := 0 })

/-- A return to Run begins with exit boundary `x`; from Off it waits for the supply (R293, R367). -/
def State.beginExit (s : State) (q x : Nat) (wake : Bool) : State :=
  s.modQp q (fun p => { p with
    exitFrom := p.state, byWake := p.byWake || wake, supplyReq := true, exitAt := if p.state = .off then none else some x })

/-- A command for a quire that is not in transition; a return has the exit boundary `x` (R293, R294, R297, R304). -/
def State.quireCmd (s : State) (q x : Nat) (target : PState) (auto : Bool) : State :=
  let st := (s.qp q).state
  if target = .run then
    let s := s.pwrResult 0 q false auto 0x7F
    if st = .run then s else s.beginExit q x false
  else if target.code ≤ st.code then s.pwrResult 0 q false auto 0x7F
  else match s.refusal q with
    | some (r, p) => s.pwrResult r q false auto p
    | none => s.beginEntry q target auto false

/-- The pending command of a quire whose transition has ended (R304); a return starts at the boundary of a commit (R293). What a
device entry waits for has passed its refusals with the device's command (R297). -/
def State.runPending (s : State) (q : Nat) : State :=
  match (s.qp q).pending with
  | some t =>
    let wake := (s.qp q).byWake
    let s := s.modQp q (fun x => { x with pending := none })
    let s := if s.pw.devTarget = some t ∧ (s.qp q).state.code < t.code then s.beginEntry q t false true
      else s.quireCmd q (if s.fcInSlot = 0 then s.now else s.nextBoundary) t false
    s.modQp q (fun x => { x with byWake := wake })
  | none => s

/-- An entry ends without effect on the state (R299, R304): the ports that are still live raise READY. -/
def State.abortEntry (s : State) (q result port : Nat) : State :=
  match (s.qp q).entry with
  | none => s
  | some e =>
    let s := (s.modQp q (fun x => { x with entry := none })).pwrResult result q e.device e.auto port
    let s : State := if e.device then { s with pw := { s.pw with devTarget := none, devWake := false } } else s
    let s := (portsOf q).foldl (fun t p => t.modPort p (fun x =>
      { x with draining := x.draining && x.prstReq, ready := x.live && !x.prstReq && !x.poisoning })) s
    s.runPending q

/-- Timed mode begins: an entry that waits for demotions aborts (R304). -/
def State.abortVacates (s : State) (pl : Pl) : State :=
  (List.range s.variant.quires).foldl (fun t q =>
    match (t.qp q).entry with
    | some e => if e.step = .vacate ∧ !(t.framedIn pl q).isEmpty then
        (t.modSb pl (fun b => { b with pendingDemotes := b.pendingDemotes.filter (fun p => !(t.framedIn pl q).contains p) })).abortEntry q 4 0x7F
        else t
    | none => t) s

end Sys2Proof.Machine
end

