-- ==== Sys2Proof/Machine/Bellwether.lean ====
section
/-!
DEFINITION. The Bellwether (R123 to R155): lookups and statistics, migrations, aborts, timed mode and page commands.
-/
namespace Sys2Proof.Machine

/-! ### Frames -/

/-- Frames that pages hold, with the page's owner: those of the image's framed pages and of rewritten entries (R125, R128). -/
def State.heldFrames (s : State) (pl : Pl) : List (Nat × Nat) :=
  let ct := (s.sb pl).ctab
  (s.img.pages.filter (fun r => bit r.entry 2)).flatMap (fun r =>
      ((List.range r.count).filter (fun k => (ct.find (r.first + k)).isNone)).map (fun k => (eFrame r.entry + k, eOwner r.entry)))
    ++ (ct.filter (fun x => eInframe x.2)).map (fun x => (eFrame x.2, eOwner x.2))

/-- Frames reserved by migrations that have not switched (R138), with the page's owner. -/
def State.reservedFrames (s : State) (pl : Pl) : List (Nat × Nat) :=
  ((s.sb pl).migs.filter (fun m => m.newIn && decide (m.step ≤ 5) && !m.stopping)).map (fun m => (m.newFrame, eOwner (s.entry pl m.page)))

/-- Every frame held or reserved. -/
def State.usedFrames (s : State) (pl : Pl) : List (Nat × Nat) := s.heldFrames pl ++ s.reservedFrames pl

/-- Pool frames of tile `t` (R125). -/
def State.poolOf (s : State) (pl : Pl) (t : Nat) : List Nat :=
  if bit (s.p pl rPlcCtrl) 0 then (List.range (s.pf pl (rTilePool t) 0 7)).map (fun k => 64 * t + k) else []

/-- Free pool frames of tile `t`: neither used nor withheld (R138, R146). -/
def State.freeFrames (s : State) (pl : Pl) (t : Nat) : List Nat :=
  (s.poolOf pl t).filter (fun f => !(s.usedFrames pl).any (fun x => decide (x.1 = f)) && !(s.sb pl).withheld.contains f)

/-- Frames owner `o` holds or has reserved (PLC.OWNER_USED). -/
def State.ownerFrames (s : State) (pl : Pl) (o : Nat) : Nat :=
  ((s.usedFrames pl).filter (fun x => decide (x.2 = o) && decide (x.1 % 64 < s.pf pl (rTilePool (x.1 / 64)) 0 7))).length

/-! ### Channel 3 (R140, R143, R207) -/

/-- STATE of a channel (R211). -/
def State.chanState (s : State) (pl : Pl) (e c : Nat) : Nat := s.pf pl (bChan e c + 0x44) 0 3

/-- Sets STATE and CAUSE of a channel. -/
def State.setChan (s : State) (pl : Pl) (e c st cause : Nat) : State :=
  (s.pfset pl (bChan e c + 0x44) 0 3 st).pfset pl (bChan e c + 0x44) 12 3 cause

def State.modChan (s : State) (pl : Pl) (e c : Nat) (f : Chan → Chan) : State :=
  s.modMul pl e (fun m => { m with chans := m.chans.upd c {} f })

def State.chan (s : State) (pl : Pl) (e c : Nat) : Chan := (s.mul pl e).chans.rd c {}

/-- Something of the channel is outstanding. -/
def Chan.outstanding (x : Chan) : Bool :=
  (x.listReads ++ x.bursts.flatMap (fun b => b.reads ++ b.writes)).any (fun q => q.tag.isSome && !q.done)

/-- A stopped channel reaches STOPPED when nothing is outstanding (R222). -/
def State.stopChan (s : State) (pl : Pl) (e c cause : Nat) : State :=
  if s.chanState pl e c = 1 then
    if (s.chan pl e c).outstanding then (s.setChan pl e c 2 0).modChan pl e c (fun x => { x with stopCause := cause })
    else (s.setChan pl e c 4 cause).modChan pl e c (fun x => { x with
      stopCause := cause, bursts := [], listReads := [], listing := false })
  else s

/-- The Bellwether starts channel 3 of engine `e` on a page: the whole page, or the dirty lines (R140). -/
def State.startCopy (s : State) (pl : Pl) (e src dst : Nat) (lines : List Nat) (recopy : Bool) : State :=
  let b := bChan e 3
  let w (s : State) (o v : Nat) : State := s.pset pl (b + o) (BitVec.ofNat 32 v)
  let s := w (w (w (w (w (w s 0 src) 4 (src / 2 ^ 32)) 8 dst) 0xC (dst / 2 ^ 32)) 0x10 65536) 0x34 0
  let s := w (w (w s 0x44 (if recopy && lines.isEmpty then 3 else 1)) 0x48 0) 0x54 0xFFFFFFFF
  s.modChan pl e 3 (fun x => { nextOk := x.nextOk, dirtyLines := lines })

/-! ### MGMT packets of migrations (R73, R132, R147) -/

/-- The initiators that a FREEZE goes to: every live NI and every Mule engine (R140). -/
def State.initiators (s : State) : List Nat :=
  (List.range s.variant.ports).filter (fun p => (s.port p).live)
    ++ ((List.range s.variant.mules).filter (fun e => s.quireUp (e / 2))).map epMule

/-- Placement packets unacknowledged toward an end (R73). -/
def Sb.toward (b : Sb) (d : Nat) : Nat :=
  ((b.migs.flatMap (·.acks)).filter (fun x => decide (x.1 = d))).length + (b.invWait.filter (fun x => decide (x = d))).length

def State.modMig (s : State) (pl : Pl) (page : Nat) (f : Mig → Mig) : State :=
  s.modSb pl (fun b => { b with migs := b.migs.map (fun m => if m.page = page then f m else m) })

def State.migOf (s : State) (pl : Pl) (page : Nat) : Option Mig := (s.sb pl).migs.find? (fun m => decide (m.page = page))

/-- ACTION of the packets of a step (R132, R140). -/
def Mig.action (m : Mig) : Nat := if m.step = 4 then 1 else if m.step = 7 ∨ m.stopping then 2 else 3

/-- The payload of a packet: the entry, and the old epoch toward the old home of a RELEASE (R132). -/
def State.migLine (s : State) (pl : Pl) (m : Mig) (d : Nat) : Line :=
  BitVec.ofNat 512 ((s.entry pl m.page).toNat + (if m.action = 2 ∧ d = m.oldHome then m.oldEpoch * 2 ^ 32 else 0))

/-- Sends the step's packet to end `d`, when fewer than 4 are outstanding toward it (R73). The freeze timer starts with the
first FREEZE (R144). -/
def State.migSendOne (s : State) (pl : Pl) (page d : Nat) : State :=
  match s.migOf pl page with
  | none => s
  | some m =>
    if 4 ≤ (s.sb pl).toward d then s
    else
      let s := s.sbMgmt pl d 3 (page + m.action * 2 ^ 18) 0 [s.migLine pl m d]
      s.modMig pl page (fun m => { m with
        toFreeze := m.toFreeze.erase d, acks := m.acks ++ [(d, s.fc)],
        frozen := if m.step = 4 then m.frozen ++ [d] else m.frozen,
        fzFc := if m.step = 4 ∧ m.fzFc = none then some s.fc else m.fzFc })

/-- Sends what may be sent: packets of migrations, then INVALIDATEs of an owner reset (R148). -/
def State.migPump (s : State) (pl : Pl) : State :=
  let s := ((s.sb pl).migs.flatMap (fun m => m.toFreeze.map (fun d => (m.page, d)))).foldl (fun t x => t.migSendOne pl x.1 x.2) s
  (s.sb pl).invSend.foldl (fun t d =>
    if 4 ≤ (t.sb pl).toward d then t
    else (t.sbMgmt pl d 3 0 0 [BitVec.ofNat 512 (2 ^ 64)]).modSb pl (fun b => { b with
      invSend := b.invSend.erase d, invWait := b.invWait ++ [d] })) s

/-! ### Starting a migration (R139) -/

/-- The engine of a migration to a home in quire `q` (R139). -/
def State.pickEngine (s : State) (pl : Pl) (q : Nat) : Option Nat :=
  let free (e : Nat) : Bool :=
    !(s.sb pl).migs.any (fun m => decide (m.engine = e)) && !(s.sb pl).badEngines.contains e && s.quireUp (e / 2)
      && decide (s.chanState pl e 3 ≠ 1 ∧ s.chanState pl e 3 ≠ 2)
  let es := (List.range s.variant.mules).filter free
  match es.find? (fun e => decide (e / 2 = q)) with
  | some e => some e
  | none => es.head?

/-- Migrations that count against MAX_MIG. -/
def Sb.running (b : Sb) : Nat := (b.migs.filter (fun m => !m.stopping)).length

/-- A home is live. -/
def State.homeLive (s : State) (p : Nat) : Bool := s.isPort p && (s.port p).live

/-- Starts a migration of `page`, if MAX_MIG, the watch slots of the old home and the engines allow (R139, R140 step 1). -/
def State.startMig (s : State) (pl : Pl) (page : Nat) (newIn : Bool) (newFrame : Nat) (byCmd : Bool) : State :=
  let e := s.entry pl page
  let old := s.homePort pl page (eInframe e) (eFrame e)
  let new := s.homePort pl page newIn newFrame
  let b := s.sb pl
  if eState e ≠ 0 ∨ b.timed ∨ s.pf pl rPolicy1 0 4 ≤ b.running ∨ 2 ≤ (b.migs.filter (fun m => decide (m.oldHome = old))).length
    ∨ b.migs.any (fun m => decide (m.page = page)) ∨ b.badPages.contains page ∨ !s.homeLive old ∨ !s.homeLive new then s
  else match s.pickEngine pl (new / 24) with
    | none => s
    | some eng =>
      let m : Mig := { page := page, step := 1, engine := eng, newIn := newIn, newFrame := newFrame, rounds := 0, dirty := 0,
                       oldHome := old, oldEpoch := eEpoch e, acks := [], toFreeze := [old], frozen := [], fzFc := none,
                       pin := false, byCmd := byCmd, stopping := false }
      (((s.setEntry pl page (setFld e 0 2 1)).modSb pl (fun b => { b with migs := b.migs ++ [m] })).countPlc pl
        (if newIn then 0x04 else 0x05)).migPump pl

/-- The CMD register's result (R155). -/
def State.cmdDone (s : State) (pl : Pl) (result : Nat) : State := s.pset pl rPlcCmdStatus (BitVec.ofNat 32 (result * 2))

/-- A demotion that was asked for waits no longer. -/
def State.dropDemote (s : State) (pl : Pl) (page : Nat) (byCmd : Bool) : State :=
  s.modSb pl (fun b => if byCmd then { b with cmdDemote := none, slotWait := b.slotWait.erase page }
    else { b with pendingDemotes := b.pendingDemotes.erase page, slotWait := b.slotWait.erase page })

/-- A commanded demotion that can never run ends with RESULT 2: the page's entry is lost (R129), or a home is not live. -/
def State.demoteDead (s : State) (pl : Pl) (page : Nat) (byCmd : Bool) : Bool :=
  let e := s.entry pl page
  (s.sb pl).badPages.contains page
    || (byCmd && (!s.homeLive (s.homePort pl page (eInframe e) (eFrame e)) || !s.homeLive (s.homePort pl page false 0)))

/-- A commanded or a power demotion starts as soon as MAX_MIG allows (R149, R155); where something else holds it, it waits for
the next period boundary (R139, R152). The model's choices (log 39): DEMOTE of a page that is MIGRATING waits for the end of
that migration and ends with RESULT 1 if the page is at its DRAM home by then; one that can never run ends with RESULT 2. -/
def State.tryDemote (s : State) (pl : Pl) (page : Nat) (byCmd : Bool) : State :=
  let e := s.entry pl page
  if eState e = 1 ∧ eInframe e then s
  else if eState e ≠ 0 ∨ !eInframe e then
    let s := s.dropDemote pl page byCmd
    if byCmd then s.cmdDone pl 1 else s
  else if s.demoteDead pl page byCmd then
    let s := s.dropDemote pl page byCmd
    if byCmd then s.cmdDone pl 2 else s
  else if (s.sb pl).slotWait.contains page then s
  else
    let t := s.startMig pl page false 0 byCmd
    if (t.migOf pl page).isSome then t.dropDemote pl page byCmd
    else if (s.sb pl).running < s.pf pl rPolicy1 0 4 then t.modSb pl (fun b => { b with slotWait := b.slotWait ++ [page] })
    else t

/-- Starts the demotions that may start now. -/
def State.tryDemotes (s : State) (pl : Pl) : State :=
  let s := match (s.sb pl).cmdDemote with | some p => s.tryDemote pl p true | none => s
  (s.sb pl).pendingDemotes.foldl (fun t p => t.tryDemote pl p false) s

/-! ### Steps of a migration (R140) -/

/-- The old and new target addresses of a migration. -/
def State.migAddrs (s : State) (pl : Pl) (m : Mig) : Nat × Nat :=
  let a := s.pageAddr pl m.page
  let e := s.entry pl m.page
  ((s.home a (eInframe e) (eFrame e)).1, (s.home a m.newIn m.newFrame).1)

/-- Dirty lines of a page, ascending (R142). -/
def linesOf (d : BitVec 1024) : List Nat := (List.range 1024).filter (fun i => d.getLsbD i)

/-- Starts the copy of the lines, or of the whole page. -/
def State.migCopy (s : State) (pl : Pl) (m : Mig) (lines : List Nat) (recopy : Bool) : State :=
  let a := s.migAddrs pl m
  s.startCopy pl m.engine a.1 a.2 lines recopy

/-- A service-block request to the page is outstanding (R140 step 4). -/
def Sb.pageBusy (b : Sb) (page : Nat) : Bool := b.outs.any (fun o => decide (o.page = some page) && o.tag.isSome)

/-- Forgets a migration that has ended; demotions that wait for MAX_MIG are looked at again (R155). -/
def State.migEnd (s : State) (pl : Pl) (page : Nat) : State :=
  (s.modSb pl (fun b => { b with migs := b.migs.filter (fun m => decide (m.page ≠ page)) })).tryDemotes pl

/-- Step 7 ends: counts, and a PIN that waits takes effect (R140, R146). -/
def State.migFinish (s : State) (pl : Pl) (m : Mig) : State :=
  if m.stopping then s.migEnd pl m.page
  else
    let s := s.pinc pl (if m.newIn then rPromotions else rDemotions) 0 32 1
    let s := if m.pin then (s.setEntry pl m.page (setFld (s.entry pl m.page) 0 2 2)).cmdDone pl 0
      else if m.byCmd then s.cmdDone pl 0 else s
    s.migEnd pl m.page

/-- Moves a migration on when everything its step waits for has come (R140 steps 4 and 7). -/
def State.migAdvance (s : State) (pl : Pl) (page : Nat) : State :=
  match s.migOf pl page with
  | none => s
  | some m =>
    if m.toFreeze ≠ [] ∨ m.acks ≠ [] then s
    else if m.step = 7 ∨ m.stopping then s.migFinish pl m
    else if m.step = 4 ∧ !(s.sb pl).pageBusy page then
      (s.modMig pl page (fun m => { m with step := 5, toFreeze := [m.oldHome] })).migPump pl
    else s

/-- Every migration looked at. -/
def State.migSettle (s : State) (pl : Pl) : State :=
  (((s.sb pl).migs.map (·.page)).foldl (fun t p => t.migAdvance pl p) s).migPump pl

/-- The freeze timer stops: FREEZE_MAX takes the longest freeze in fc (R144). -/
def State.noteFreeze (s : State) (pl : Pl) (m : Mig) : State :=
  match m.fzFc with
  | some f => if (s.p pl rFreezeMax).toNat < s.fc - f then s.pset pl rFreezeMax (BitVec.ofNat 32 (s.fc - f)) else s
  | none => s

/-- The port of a migration's new home. -/
def State.newHome (s : State) (pl : Pl) (m : Mig) : Nat := s.homePort pl m.page m.newIn m.newFrame

/-- Aborts a migration in steps 1 to 5 (R145); `port`: the silent initiator, 0x7F for none. A frame is withheld while its tile is
not live (R146). -/
def State.migAbort (s : State) (pl : Pl) (page cause port : Nat) : State :=
  match s.migOf pl page with
  | none => s
  | some m =>
    if 6 ≤ m.step ∨ m.stopping then s
    else
      let e := s.entry pl page
      let pin := m.pin || decide (cause = 8)
      let s := (if 2 ≤ m.step then s.stopChan pl m.engine 3 1 else s).noteFreeze pl m
      let s := s.setEntry pl page (setFld e 0 2 (if pin then 2 else 0))
      let home := if s.homeLive m.oldHome then [m.oldHome] else []
      let ends := (m.frozen.filter (fun a => s.initiators.contains a && decide (a ≠ m.oldHome))) ++ home
      let s := s.modMig pl page (fun m => { m with
        stopping := true, toFreeze := ends,
        acks := m.acks.filter (fun x => s.initiators.contains x.1) })
      let cool := s.pf pl rPolicy1 18 8
      let s := s.modSb pl (fun b => { b with
        withheld := if cause = 2 ∧ m.newIn ∧ !s.homeLive (s.newHome pl m) then b.withheld ++ [m.newFrame] else b.withheld,
        cooling := b.cooling.wr page cool 0,
        badEngines := if cause = 6 then b.badEngines ++ [m.engine] else b.badEngines })
      let s := s.pset pl rLastAbort (BitVec.ofNat 32 (cause + page * 16 + m.step * 2 ^ 22 + port * 2 ^ 25))
      let s := (s.pinc pl rAborts 0 32 1).countPlc pl 0x06
      let s := if m.pin ∨ cause = 8 then s.cmdDone pl 0 else if m.byCmd then s.cmdDone pl 2 else s
      ((s.migPump pl).migAdvance pl page).sbIssue pl

/-- Aborts every migration that a test picks. -/
def State.migAbortAll (s : State) (pl : Pl) (cause : Nat) (f : Mig → Bool) : State :=
  ((s.sb pl).migs.filter f).foldl (fun t m => t.migAbort pl m.page cause 0x7F) s

/-- Step 3: the collected lines are within FREEZE_LINES and the freeze begins, or they are copied again, or the migration
aborts (R140). -/
def State.migCollect (s : State) (pl : Pl) (m : Mig) : State :=
  let n := (linesOf m.dirty).length
  if n ≤ s.pf pl rPolicy1 8 10 then
    let ends := s.initiators
    ((s.modMig pl m.page (fun m => { m with step := 4, toFreeze := ends, frozen := [] })).migPump pl).migAdvance pl m.page
  else if m.rounds < s.pf pl rPolicy1 4 3 then
    (s.modMig pl m.page (fun m => { m with rounds := m.rounds + 1 })).migCopy pl m (linesOf m.dirty) true
  else s.migAbort pl m.page 10 0x7F

/-- The dirty bits of a WATCH acknowledgement. -/
def dirtyOf (k : Packet) : BitVec 1024 :=
  BitVec.ofNat 1024 (((k.flits.getD 0 0).toNat) + ((k.flits.getD 1 0).toNat) * 2 ^ 512)

/-- A WATCH acknowledgement (R140 steps 1, 3 and 5). -/
def State.migWatched (s : State) (pl : Pl) (m : Mig) (d : BitVec 1024) : State :=
  let s := s.modMig pl m.page (fun m => { m with dirty := d })
  let m : Mig := { m with dirty := d }
  if m.step = 1 then (s.modMig pl m.page (fun m => { m with step := 2 })).migCopy pl m [] false
  else if m.step = 3 then s.migCollect pl m
  else if m.step = 5 then s.migCopy pl m (linesOf d) true
  else s

/-- INVALIDATE_ACKNOWLEDGE (R140): an acknowledgement at the head of link `q`. -/
def execInvalidateAcknowledge (pl : Pl) (q : Nat) (s : State) : Out :=
  inPlane s pl (fun s =>
    match s.popSbIn pl q 6 with
    | none => s
    | some (k, t) =>
      if hKind k.hdr ≠ kMgmt ∨ hMop k.hdr ≠ 4 then s
      else
        let page := mgPage k.hdr
        let act := hMarg k.hdr / 2 ^ 18
        let src := hSrc k.hdr
        if act = 0 then (t.modSb pl (fun b => { b with invWait := b.invWait.erase src })).migPump pl
        else match t.migOf pl page with
          | none => t
          | some m =>
            let first := m.acks.find? (fun x => decide (x.1 = src))
            let t := t.modMig pl page (fun m => { m with acks := (match first with | some x => m.acks.erase x | none => m.acks) })
            if act = 3 ∧ !m.stopping then (t.migWatched pl m (dirtyOf k)).migSettle pl
            else t.migSettle pl)

/-- The copy of step 2, or a recopy of step 3, is complete: WATCH is sent again (R140). -/
def execMigrationCopyDone (pl : Pl) (e : Nat) (s : State) : Out :=
  inPlane s pl (fun s =>
    match (s.sb pl).migs.find? (fun m => decide (m.engine = e ∧ (m.step = 2 ∨ m.step = 3)) && m.acks.isEmpty && m.toFreeze.isEmpty && !m.stopping) with
    | none => s
    | some m =>
      if s.chanState pl e 3 ≠ 3 then s
      else
        let s := s.setChan pl e 3 0 0
        (s.modMig pl m.page (fun m => { m with step := 3, toFreeze := [m.oldHome] })).migPump pl)

/-- The switch (R140 step 6) and the start of the release (step 7). -/
def State.migSwitch (s : State) (pl : Pl) (m : Mig) : State :=
  let e := s.entry pl m.page
  let s := s.setEntry pl m.page (mkEntry (if m.pin then 2 else 0) m.newIn m.newFrame (eOwner e) ((eEpoch e + 1) % 256))
  let s := if m.pin then s.cmdDone pl 0 else s
  let s := s.noteFreeze pl m
  let home := if s.homeLive m.oldHome then [m.oldHome] else []
  let ends := (m.frozen.filter (fun a => s.initiators.contains a && decide (a ≠ m.oldHome))) ++ home
  (((s.modMig pl m.page (fun m => { m with step := 7, toFreeze := ends, acks := [], pin := false })).migPump pl).migAdvance pl m.page).sbIssue pl

/-- FREEZE_LIMIT of the page's owner in slots (R144). -/
def State.freezeLimit (s : State) (pl : Pl) (page : Nat) : Nat := s.pf pl (rPlcOwner (eOwner (s.entry pl page))) 2 12

/-- The freeze timer of a migration has reached the limit (R144). The manual gives the limit in slots and does not say whether
slot boundaries or whole slot times count: the model counts whole slot times of W fc from the first FREEZE (log 39). -/
def State.freezeOver (s : State) (pl : Pl) (m : Mig) : Bool :=
  match m.fzFc with | some f => decide (s.freezeLimit pl m.page * s.img.w ≤ s.fc - f) | none => false

/-- MIGRATION_RECOPY_DONE (R140 step 5): the frozen recopy is complete. An abort that is due goes first (R146). -/
def execMigrationRecopyDone (pl : Pl) (e : Nat) (s : State) : Out :=
  inPlane s pl (fun s =>
    match (s.sb pl).migs.find? (fun m => decide (m.engine = e ∧ m.step = 5) && m.acks.isEmpty && m.toFreeze.isEmpty && !m.stopping) with
    | none => s
    | some m =>
      if s.chanState pl e 3 ≠ 3 then s
      else if s.freezeOver pl m then (s.setChan pl e 3 0 0).migAbort pl m.page 3 0x7F
      else (s.setChan pl e 3 0 0).migSwitch pl m)

/-- FREEZE_LIMIT_REACHED (R144). -/
def execFreezeLimitReached (pl : Pl) (page : Nat) (s : State) : Out :=
  inPlane s pl (fun s =>
    match s.migOf pl page with
    | none => s
    | some m =>
      if (m.step = 4 ∨ m.step = 5) ∧ !m.stopping ∧ s.freezeOver pl m then
        s.migAbort pl page 3 0x7F
      else s)

/-- SILENT_INITIATOR (R147): a live end has left a FREEZE or RELEASE unacknowledged for 4,096 fc; one that is not live counts as
having acknowledged. -/
def execSilentInitiator (pl : Pl) (agent page : Nat) (s : State) : Out :=
  inPlane s pl (fun s =>
    match s.migOf pl page with
    | none => s
    | some m =>
      if m.acks.any (fun x => decide (x.1 = agent ∧ x.2 + 4096 ≤ s.fc)) ∧ (m.step = 4 ∨ m.step = 7 ∨ m.stopping) then
        let heard (s : State) : State := s.modMig pl page (fun m => { m with acks := m.acks.filter (fun x => decide (x.1 ≠ agent)) })
        if !s.initiators.contains agent then (heard s).migSettle pl
        else
        let s := heard (s.placeFault pl page 3)
        if m.step = 4 ∧ !m.stopping then s.migAbort pl page 7 agent
        else (s.pfset pl rLastAbort 25 7 agent).migSettle pl
      else s)

/-! ### Lookups and statistics -/

/-- Counts a sample in the hot-page table (R137). -/
def hotSample (l : List Hot) (page owner quire : Nat) (write : Bool) : List Hot :=
  let bump (h : Hot) : Hot := { h with
    counts := h.counts.zipIdx.map (fun (c, i) => if i = quire then satAdd 8 c 1 else c), writes := if write then satAdd 8 h.writes 1 else h.writes }
  if l.any (fun h => decide (h.page = page ∧ h.owner = owner)) then
    l.map (fun h => if h.page = page ∧ h.owner = owner then bump h else h)
  else
    let new : Hot := { page := page, owner := owner, counts := [0, 0, 0, 0], writes := 0 }
    let set := l.filter (fun h => decide (Config.hotSet h.page h.owner % 512 = Config.hotSet page owner % 512))
    if set.length < 8 then l ++ [bump new]
    else
      let least := (leastOf (set.map (fun h => h.counts.sum))).getD 0
      match set.find? (fun h => decide (h.counts.sum = least)) with
      | some v => (l.filter (fun h => decide (h ≠ v))) ++ [bump new]
      | none => l ++ [bump new]

/-- PLACEMENT_LOOKUP (R129, R132, R137): a lookup at the head of link `q` is answered. HELD stands while the requester's
RELEASE is still to be sent. -/
def execPlacementLookup (pl : Pl) (q : Nat) (s : State) : Out :=
  inPlane s pl (fun s =>
    match s.popSbIn pl q 6 with
    | none => s
    | some (k, t) =>
      if hKind k.hdr ≠ kMgmt ∨ hMop k.hdr ≠ 1 then s
      else
        let page := mgPage k.hdr
        let marg := BitVec.ofNat 20 (hMarg k.hdr)
        let e := t.entry pl page
        let t := t.countPlc pl 0x02
        let t := if bit marg 18 then t.countPlc pl 0x03 else t
        let t := if bit marg 18 && decide (hOwner k.hdr = eOwner e) then
            t.modSb pl (fun b => { b with hot := hotSample b.hot page (hOwner k.hdr) (quireOfEp (hSrc k.hdr)) (bit marg 19) })
          else t
        let bad := (t.sb pl).badPages.contains page
        let held := !bad && (t.sb pl).migs.any (fun m => decide (m.page = page ∧ m.step = 7) && m.toFreeze.contains (hSrc k.hdr))
        let t := if held then t.countPlc pl 0x09 else t
        t.sbMgmt pl (hSrc k.hdr) 2 (page + b2n held * 2 ^ 18 + b2n bad * 2 ^ 19) (hTag k.hdr) [BitVec.ofNat 512 e.toNat])

/-! ### The period boundary (R138) -/

/-- HOT(p) (R138). -/
def Sb.hotOf (b : Sb) (page owner : Nat) : Nat :=
  ((b.hot.find? (fun h => decide (h.page = page ∧ h.owner = owner))).map (fun h => h.counts.sum)).getD 0

/-- Count of quire `i` for a page. -/
def Sb.hotCount (b : Sb) (page owner i : Nat) : Nat :=
  ((b.hot.find? (fun h => decide (h.page = page ∧ h.owner = owner))).map (fun h => h.counts.getD i 0)).getD 0

/-- The tile a page is promoted to (R138): least cost, then most free frames, then lowest. None of a quire that is not in Run
or Idle, or on its way out of it (R149). -/
def State.pickTile (s : State) (pl : Pl) (page owner : Nat) : Option Nat :=
  let b := s.sb pl
  let cost (t : Nat) : Nat := ((List.range 4).map (fun q => b.hotCount page owner q * (if q = s.tileQuire t then 26 else 33))).sum
  let ts := (List.range s.variant.tiles).filter (fun t => s.quireUp (s.tileQuire t) && (s.qp (s.tileQuire t)).entry.isNone && !(s.freeFrames pl t).isEmpty)
  ts.foldl (fun a t => match a with
    | none => some t
    | some u =>
      if cost t < cost u ∨ (cost t = cost u ∧ (s.freeFrames pl u).length < (s.freeFrames pl t).length) then some t else some u) none

/-- The element of a list that ranks first; the earlier one on a tie. -/
def bestOf (l : List Nat) (better : Nat → Nat → Bool) : Option Nat :=
  l.foldl (fun a x => match a with | none => some x | some y => if better x y then some x else some y) none

/-- Promotion of one page that is hot enough (R138). -/
def State.promote (s : State) (pl : Pl) (page : Nat) : State :=
  let b := s.sb pl
  let e := s.entry pl page
  let o := eOwner e
  if s.pf pl (rPlcOwner o) 14 12 ≤ s.ownerFrames pl o then s
  else match s.pickTile pl page o with
    | some t => (match (s.freeFrames pl t).head? with | some f => s.startMig pl page true f false | none => s)
    | none =>
      let hot (v : Nat) : Nat := b.hotOf v (eOwner (s.entry pl v))
      match bestOf (s.framedHome pl) (fun x y => decide (hot x < hot y)) with
      | some v => if hot v + s.pf pl rPolicy0 24 8 ≤ b.hotOf page o then s.startMig pl v false 0 false else s
      | none => s

/-- A page cools (R138, R145). -/
def Sb.cools (b : Sb) (page : Nat) : Bool := decide (0 < b.cooling.rd page 0)

/-- Inserts a candidate in descending order of its count; the lower page first on a tie. -/
def insertHot (x : Nat × Nat) (l : List (Nat × Nat)) : List (Nat × Nat) :=
  match l with
  | [] => [x]
  | y :: rest => if y.2 < x.2 ∨ (y.2 = x.2 ∧ x.1 < y.1) then x :: y :: rest else y :: insertHot x rest

/-- The evaluation of R138. -/
def State.period (s : State) (pl : Pl) : State :=
  let s := s.modSb pl (fun b => { b with hot := b.hot.map (fun h => { h with counts := h.counts.map (· / 2), writes := h.writes / 2 }) })
  let b := s.sb pl
  let s := (s.framedHome pl).foldl (fun t p =>
    if !b.cools p ∧ b.hotOf p (eOwner (t.entry pl p)) < t.pf pl rPolicy0 16 8 then t.startMig pl p false 0 false else t) s
  let cand := ((b.hot.filter (fun h =>
    let e := s.entry pl h.page
    decide (eState e = 0 ∧ h.owner = eOwner e ∧ s.pf pl rPolicy0 8 8 ≤ h.counts.sum) && !eInframe e && !b.cools h.page
      && bit (s.p pl (rPlcOwner h.owner)) 0 && decide (h.page < s.regionPages pl))).map (fun h => (h.page, h.counts.sum)))
  let sorted := cand.foldl (fun l x => insertHot x l) []
  let s := sorted.foldl (fun t x => t.promote pl x.1) s
  s.modSb pl (fun b => { b with cooling := (b.cooling.map (fun x => (x.1, x.2 - 1))).filter (fun x => decide (x.2 ≠ 0)) })

/-- PERIOD_BOUNDARY (R138, R151): evaluated once at a period boundary; in timed mode nothing starts. -/
def execPeriodBoundary (pl : Pl) (s : State) : Out :=
  inPlane s pl (fun s =>
    if !bit (s.p pl rPlcCtrl) 0 ∨ s.now % 2 ^ (s.pf pl rPolicy0 4 4 + 10) ≠ 0 ∨ (s.sb pl).periodAt = some s.now
      ∨ s.pair.joining.isSome then s
    else ((s.modSb pl (fun b => { b with periodAt := some s.now, slotWait := [] })).period pl).tryDemotes pl)

/-! ### Timed mode (R150 to R152) -/

/-- An island of the plane that should be locked, or the control island, is not: cause LOCK. Islands of a quire that is not in
Run or Idle do not count. -/
def State.lockCause (s : State) (pl : Pl) : Bool :=
  s.done && ((List.range 21).any (fun i => s.islandOn i && !((s.pln pl).isl.rd i {}).locked)
    || !((s.pln .a).isl.rd 21 {}).locked)

/-- Cause PAIR: a plane is out, or a port delivers from one plane only. -/
def State.pairCause (s : State) : Bool :=
  s.variant.paired && s.done && (decide (s.pair.a ≠ .inService ∨ s.pair.b ≠ .inService) || s.pair.cmp.any (fun x => x.2.single || x.2.faultSeen.isSome))

/-- PLC.STATUS.CAUSE (R154): LOCK, PAIR, TABLE, REQUEST. -/
def State.timedCause (s : State) (pl : Pl) : Nat :=
  b2n (s.lockCause pl) + 2 * b2n s.pairCause + 4 * b2n (s.sb pl).causeTable + 8 * b2n (bit (s.p pl rPlcCtrl) 1)

/-- Enters timed mode when a cause holds; migrations in steps 1 to 3 abort (R146, R150, R151). -/
def State.timedCheck (s : State) (pl : Pl) : State :=
  if s.timedCause pl = 0 then s
  else
    let s := s.modSb pl (fun b => { b with slotDirty := true, clearSlots := 0 })
    if (s.sb pl).timed then s
    else ((s.modSb pl (fun b => { b with timed := true })).migAbortAll pl 5 (fun m => decide (m.step ≤ 3))).abortVacates pl

/-- Every plane in service looks at its causes. -/
def State.timedCheckAll (s : State) : State := s.eachPlane (fun pl t => t.timedCheck pl)

/-- At a slot boundary: the slot that ends counts when no cause held in any of it (R152). -/
def State.timedSlot (s : State) (pl : Pl) : State :=
  let dirty := decide (s.timedCause pl ≠ 0)
  s.modSb pl (fun b => { b with clearSlots := if b.slotDirty || dirty || !b.timed then 0 else b.clearSlots + 1, slotDirty := dirty })

/-- TIMED_MODE_END (R152). What waited goes on at the next period boundary. -/
def execTimedModeEnd (pl : Pl) (s : State) : Out :=
  inPlane s pl (fun s =>
    let n := s.pf pl rResume 0 24
    if (s.sb pl).timed ∧ s.timedCause pl = 0 ∧ n ≠ 0 ∧ n ≤ (s.sb pl).clearSlots then
      s.modSb pl (fun b => { b with timed := false })
    else s)

/-- A write of PLC.CTRL (R152, R154): TIMED_REQ first, then RESUME. RESUME acts while SLOTS is 0. -/
def State.plcCtrl (s : State) (v : W32) (pl : Pl) : State :=
  let s := s.pfset pl rPlcCtrl 1 1 (b2n (bit v 1))
  let s := s.timedCheck pl
  if bit v 2 && (s.sb pl).timed && decide (s.timedCause pl = 0) then
    s.modSb pl (fun b => { b with timed := false })
  else s

/-- TIMED_REQ (R152): a write of PLC.CTRL.TIMED_REQ. -/
def execTimedReq (r : CwReq) (value : Bool) (s : State) : Out :=
  s.cwWrite r rPlcCtrl (fun s => s.eachPlane (fun pl s => s.plcCtrl (if value then 2 else 0) pl))

/-- TIMED_RESUME (R152): a write of 1 to PLC.CTRL.RESUME with TIMED_REQ 0. -/
def execTimedResume (r : CwReq) (s : State) : Out :=
  s.cwWrite r rPlcCtrl (fun s => s.eachPlane (fun pl s => s.plcCtrl 4 pl))

/-- TABLE_ERROR (R129): the check of a page's entry finds a single-bit error, which it corrects and counts, or an uncorrectable
one. On the T96-P the latter is a plane checker's finding, and the owner of the entry the one that a second fault affects (R239,
R250). -/
def execTableError (pl : Pl) (err : EntryErr) (s : State) : Out :=
  inPlane s pl (fun s =>
    if err.corrected then s.pinc pl rTableErr 0 16 1
    else
    let page := err.page
    let s := s.modSb pl (fun b => { b with
      badPages := if b.badPages.contains page then b.badPages else b.badPages ++ [page], causeTable := true })
    let s := (s.pinc pl rTableErr 16 16 1).placeFault pl page 1
    let s := (s.migAbort pl page 9 0x7F).timedCheck pl
    s.planeFault pl 2 epService (some (BitVec.ofNat 16 (2 ^ eOwner (s.entry pl page)))))

/-! ### Page commands (R155) -/

/-- A command on a page (R155): 1 PIN, 2 UNPIN, 3 DEMOTE. -/
def State.pageCmd (s : State) (page op : Nat) (pl : Pl) : State :=
  if op = 0 ∨ bit (s.p pl rPlcCmdStatus) 0 then s
  else if s.regionPages pl ≤ page then s.cmdDone pl 1
  else
    let e := s.entry pl page
    if op = 1 then
      if eState e = 2 then s.cmdDone pl 1
      else match s.migOf pl page with
        | some m =>
          if m.stopping then (s.setEntry pl page (setFld e 0 2 2)).cmdDone pl 0
          else if m.step ≤ 3 then s.migAbort pl page 8 0x7F
          else (s.pset pl rPlcCmdStatus 1).modMig pl page (fun m => { m with pin := true })
        | none => (s.setEntry pl page (setFld e 0 2 2)).cmdDone pl 0
    else if op = 2 then
      if eState e = 2 then (s.setEntry pl page (setFld e 0 2 0)).cmdDone pl 0 else s.cmdDone pl 1
    else if eState e = 2 ∨ !eInframe e then s.cmdDone pl 1
    else ((s.pset pl rPlcCmdStatus 1).modSb pl (fun b => { b with cmdDemote := some page })).tryDemote pl page true

/-- PAGE_PIN (R146, R155). -/
def execPagePin (r : CwReq) (page : Nat) (s : State) : Out :=
  s.cwWrite r 0x20030 (fun s => s.eachPlane (fun pl s => s.pageCmd (page % 2 ^ 18) 1 pl))

/-- PAGE_UNPIN (R155). -/
def execPageUnpin (r : CwReq) (page : Nat) (s : State) : Out :=
  s.cwWrite r 0x20030 (fun s => s.eachPlane (fun pl s => s.pageCmd (page % 2 ^ 18) 2 pl))

/-- PAGE_DEMOTE (R155). -/
def execPageDemote (r : CwReq) (page : Nat) (s : State) : Out :=
  s.cwWrite r 0x20030 (fun s => s.eachPlane (fun pl s => s.pageCmd (page % 2 ^ 18) 3 pl))

/-! ### Effects of other units' events -/

/-- An end stops being live: aborts and acknowledgements of R146 and R147. -/
def State.bwEndDown (s : State) (agent : Nat) (pl : Pl) : State :=
  let s := s.modSb pl (fun b => { b with
    migs := b.migs.map (fun m => { m with
      toFreeze := m.toFreeze.filter (fun a => decide (a ≠ agent)), acks := m.acks.filter (fun x => decide (x.1 ≠ agent)),
      frozen := m.frozen.filter (fun a => decide (a ≠ agent)) }),
    invWait := b.invWait.filter (fun a => decide (a ≠ agent)), invSend := b.invSend.filter (fun a => decide (a ≠ agent)) })
  let s := s.migAbortAll pl 1 (fun m => decide (m.oldHome = agent ∧ m.step ≤ 5))
  let s := s.migAbortAll pl 2 (fun m => decide (s.newHome pl m = agent ∧ m.step ≤ 5))
  s.migSettle pl

/-- A port becomes live: frames withheld for its tile are free again (R146). -/
def State.bwPortUp (s : State) (p : Nat) (pl : Pl) : State :=
  s.modSb pl (fun b => { b with withheld := b.withheld.filter (fun f => decide (s.variant.firstTile + f / 64 ≠ p)) })

/-- The Bellwether's step of an owner reset (R148). -/
def State.bwClean (s : State) (o : Nat) (pl : Pl) : State :=
  let s := (s.framedHome pl).foldl (fun t page =>
    let e := t.entry pl page
    if eOwner e = o then t.setEntry pl page (mkEntry 0 false 0 o ((eEpoch e + 1) % 256)) else t) s
  let ends := s.initiators
  (s.modSb pl (fun b => { b with hot := b.hot.filter (fun h => decide (h.owner ≠ o)), invSend := b.invSend ++ ends })).migPump pl

end Sys2Proof.Machine
end

