-- ==== Sys2Proof/Machine/QueueBase.lean ====
section
/-!
DEFINITION. Queues and flocks: descriptors, admission, commit, doorbells, key slots and member loss (R157 to R179).
-/
namespace Sys2Proof.Machine

/-! ### Answers to the service block -/

/-- The response at the head of link `q`, `vc`, whose request's purpose a test picks: packet, request, status and the
state without both. -/
def State.sbResponse (s : State) (pl : Pl) (q vc : Nat) (f : SbPurpose → Bool) : Option (Packet × SbOut × Nat × State) :=
  match s.popSbIn pl q vc with
  | none => none
  | some (k, t) =>
    match (t.sb pl).outs.find? (fun o => decide (o.tag = some (hTag k.hdr))) with
    | none => none
    | some o =>
      if f o.purpose && decide (hKind k.hdr = kRack ∨ hKind k.hdr = kRdata) then
        let st := if k.poison then stFirst (hStatus k.hdr) stPoison else hStatus k.hdr
        let t := t.modSb pl (fun b => { b with outs := b.outs.erase o })
        let t := if k.poison then t.poisonOwner o.owner o.priv else t
        some (k, o, st, (t.sbIssue pl).migSettle pl)
      else none

/-! ### Descriptors (R159, R180, R181) -/

/-- A field of a queue's descriptor. -/
def State.qd (s : State) (pl : Pl) (n off lo len : Nat) : Nat := s.pf pl (bQds n + off) lo len

def State.qdset (s : State) (pl : Pl) (n off lo len v : Nat) : State := s.pfset pl (bQds n + off) lo len v

def State.qdyn (s : State) (pl : Pl) (n : Nat) : QDyn := (s.sb pl).queues.rd n {}

def State.modQ (s : State) (pl : Pl) (n : Nat) (f : QDyn → QDyn) : State :=
  s.modSb pl (fun b => { b with queues := b.queues.upd n {} f })

def State.qValid (s : State) (pl : Pl) (n : Nat) : Bool := decide (s.qd pl n 0 0 1 = 1)
def State.qOwner (s : State) (pl : Pl) (n : Nat) : Nat := s.qd pl n 0 1 4
/-- Slot size in flits (R158). -/
def State.qSlot (s : State) (pl : Pl) (n : Nat) : Nat := 2 ^ (s.qd pl n 0 5 3)
/-- Number of slots (R158). -/
def State.qCap (s : State) (pl : Pl) (n : Nat) : Nat := 2 ^ (s.qd pl n 0 8 5)
def State.qCons (s : State) (pl : Pl) (n : Nat) : Nat := s.qd pl n 0 13 7
def State.qIsMember (s : State) (pl : Pl) (n : Nat) : Bool := decide (s.qd pl n 4 0 1 = 1)
def State.qFlock (s : State) (pl : Pl) (n : Nat) : Nat := s.qd pl n 4 1 10
def State.qIndex (s : State) (pl : Pl) (n : Nat) : Nat := s.qd pl n 4 11 5
def State.qRing (s : State) (pl : Pl) (n : Nat) : Nat := s.qd pl n 0x10 6 26 * 64 + s.qd pl n 0x14 0 16 * 2 ^ 32
def State.qMeta (s : State) (pl : Pl) (n : Nat) : Nat := s.qd pl n 0x18 6 26 * 64 + s.qd pl n 0x1C 0 16 * 2 ^ 32
def State.qHead (s : State) (pl : Pl) (n : Nat) : Nat := s.qd pl n 0x2C 0 32
def State.qTail (s : State) (pl : Pl) (n : Nat) : Nat := s.qd pl n 0x30 0 32
def State.qResv (s : State) (pl : Pl) (n : Nat) : Nat := s.qd pl n 0x34 4 5
/-- A bit of QDS.STATE: 0 ARMED, 1 LEAVING, 2 LOST, 3 STOPPED, 9 DB_ERR, 10 LEFT. -/
def State.qBit (s : State) (pl : Pl) (n i : Nat) : Bool := bit (s.p pl (bQds n + 0x34)) i
def State.qSetBit (s : State) (pl : Pl) (n i : Nat) (v : Bool) : State := s.qdset pl n 0x34 i 1 (b2n v)

/-- Subtraction modulo 2^32 (R159). -/
def sub32 (a b : Nat) : Nat := (a + 2 ^ 32 - b % 2 ^ 32) % 2 ^ 32

/-- COUNT (R159). -/
def State.qCount (s : State) (pl : Pl) (n : Nat) : Nat := sub32 (s.qTail pl n) (s.qHead pl n)
/-- ADM (R159). -/
def State.qAdm (s : State) (pl : Pl) (n : Nat) : Nat := (s.qTail pl n + s.qResv pl n) % 2 ^ 32

/-- HEAD as it stood at the start of the fc (R169), or as it stands. -/
def State.qHeadAt (s : State) (pl : Pl) (n : Nat) (start : Bool) : Nat :=
  if start ∧ (s.qdyn pl n).headAt = some s.fc then (s.qdyn pl n).oldHead else s.qHead pl n

/-- Moves HEAD; the HEAD that the fc began with is kept (R169). -/
def State.setHead (s : State) (pl : Pl) (n v : Nat) : State :=
  let old := s.qHeadAt pl n true
  (s.modQ pl n (fun d => { d with headAt := some s.fc, oldHead := old })).qdset pl n 0x2C 0 32 v

/-- Nothing keeps an address from being written: its port is live, or it has none, and the write is answered with ERR_DECODE
(R166, R272). -/
def State.addrLive (s : State) (pl : Pl) (a : Nat) : Bool :=
  match (s.resolveSb pl a).2.1 with | some p => s.homeLive p | none => true

/-- Data slot and metadata record of the message with sequence number `q` (R159). -/
def State.slotAddr (s : State) (pl : Pl) (n q : Nat) : Nat := s.qRing pl n + q % s.qCap pl n * (64 * s.qSlot pl n)
def State.recAddr (s : State) (pl : Pl) (n q : Nat) : Nat := s.qMeta pl n + 8 * (q % s.qCap pl n)

/-- The ring target is live: the slot and the record that the next message takes (R166). -/
def State.ringLive (s : State) (pl : Pl) (n : Nat) : Bool :=
  s.addrLive pl (s.slotAddr pl n (s.qAdm pl n)) && s.addrLive pl (s.recAddr pl n (s.qAdm pl n))

/-- The members of flock `f`, as index and queue (R171). -/
def State.members (s : State) (pl : Pl) (f : Nat) : List (Nat × Nat) :=
  (s.pln pl).rf.filterMap (fun x =>
    if 0x400000 ≤ x.1 ∧ x.1 < 0x500000 ∧ x.1 % 0x40 = 4 ∧ bit x.2 0 ∧ fld x.2 1 10 = f
    then some (fld x.2 11 5, (x.1 - 0x400000) / 0x40) else none)

/-- The queue of member `idx`. -/
def State.memberQ (s : State) (pl : Pl) (f idx : Nat) : Option Nat :=
  ((s.members pl f).find? (fun m => decide (m.1 = idx))).map (·.2)

def State.fValid (s : State) (pl : Pl) (f : Nat) : Bool := bit (s.p pl (rFcfg f)) 0
def State.fOwner (s : State) (pl : Pl) (f : Nat) : Nat := s.pf pl (rFcfg f) 1 4

/-- A member may receive messages (R171). `start`: judged by HEAD at the start of the fc, as the gate judges (R169). -/
def State.eligibleQ (s : State) (pl : Pl) (n : Nat) (start : Bool) : Bool :=
  (s.port (s.qCons pl n)).live && !s.qBit pl n 2 && !s.qBit pl n 1 && !s.qBit pl n 3
    && decide (sub32 (s.qAdm pl n) (s.qHeadAt pl n start) < s.qCap pl n) && decide (s.qResv pl n < 16)

/-- The load that R172 compares. -/
def State.load (s : State) (pl : Pl) (n : Nat) (start : Bool) : Nat :=
  (sub32 (s.qAdm pl n) (s.qHeadAt pl n start) + 1) * 16 / s.qd pl n 4 16 4

/-- The eligible member with the least load, lowest index on a tie (R172), as index and queue. -/
def State.chooseMember (s : State) (pl : Pl) (f : Nat) (start : Bool) : Option (Nat × Nat) :=
  ((s.members pl f).filter (fun m => s.eligibleQ pl m.2 start)).foldl (fun a m => match a with
    | none => some m
    | some b => if s.load pl m.2 start < s.load pl b.2 start ∨ (s.load pl m.2 start = s.load pl b.2 start ∧ m.1 < b.1) then some m else some b) none

/-! ### Key map (R172) -/

/-- The key-map entry: [4:0] MEMBER, [5] MOVING, [7] ASSIGNED. -/
def State.kEntry (s : State) (pl : Pl) (f k : Nat) : BitVec 8 := (s.sb pl).kmap.rd (f * 4096 + k) 0

def State.setK (s : State) (pl : Pl) (f k v : Nat) : State :=
  s.modSb pl (fun b => { b with kmap := b.kmap.wr (f * 4096 + k) (BitVec.ofNat 8 v) 0 })

/-- Key slots of flock `f` mapped to member `idx`. -/
def State.keysOf (s : State) (pl : Pl) (f idx : Nat) : List Nat :=
  ((s.sb pl).kmap.filter (fun x => decide (x.1 / 4096 = f ∧ fld x.2 0 5 = idx) && bit x.2 7)).map (fun x => x.1 % 4096)

/-- Flits in the hold store (R174). -/
def Sb.holdFlits (b : Sb) : Nat := (b.held.map (fun h => h.flits.length)).sum

/-- Staging room in use (R167). -/
def Sb.stagingUsed (b : Sb) : Nat := (b.queues.flatMap (fun x => x.2.adm.map (·.room))).sum

/-- The last row but one of R166: there is no room in the queue or in the staging buffer. -/
def State.noRoom (s : State) (pl : Pl) (n head flits : Nat) : Bool :=
  decide (s.qCap pl n ≤ sub32 (s.qAdm pl n) head) || decide (16 ≤ s.qResv pl n)
    || decide (256 < (s.sb pl).stagingUsed + flits)

/-! ### Admission (R160, R166, R167) -/

/-- The metadata record of R160. -/
def metaWord (flits redel keyslot src owner seq : Nat) : Nat :=
  (flits - 1) % 64 + redel * 64 + keyslot % 4096 * 2 ^ 8 + src % 128 * 2 ^ 20 + owner % 16 * 2 ^ 27 + seq % 2 ^ 32 * 2 ^ 32

/-- Admits a message to queue `n`: RESV, and the BE writes of payload and record (R167). -/
def State.enqueue (s : State) (pl : Pl) (n src tag : Nat) (reply : Bool) (keyslot owner : Nat) (redel flock : Bool)
    (lines : List Line) : State :=
  let q := s.qAdm pl n
  let len := lines.length
  let data := s.slotAddr pl n q
  let rec? := s.recAddr pl n q
  let o := s.qOwner pl n
  let a : Adm := { seq := q, src := src, tag := tag, reply := reply, keyslot := keyslot, srcOwner := owner, redel := redel,
                   waits := if len = 64 then 3 else 2, flits := lines, room := len, flock := flock }
  let s := (s.qdset pl n 0x34 4 5 (s.qResv pl n + 1)).modQ pl n (fun d => { d with adm := d.adm ++ [a] })
  let s := s.countQ pl 0x02
  let s := if len = 64 then
      (s.sbAdd pl (.ring n q) true false o 1 data 32 benAll (lines.take 32)).sbAdd pl (.ring n q) true false o 1 (data + 2048) 32
        benAll (lines.drop 32)
    else s.sbAdd pl (.ring n q) true false o 1 data len benAll lines
  s.sbAdd pl (.record n q) true false o 1 rec? 1 (benRange (rec? % 64) 8)
    [BitVec.ofNat 512 (metaWord len (b2n redel) keyslot src owner q * 2 ^ (8 * (rec? % 64)))]

/-- The RACK to a producer. -/
def State.ackProducer (s : State) (pl : Pl) (src tag st : Nat) : State := s.sbReply pl src 5 tag st none

/-! ### Held messages (R173 items 3 and 4, R174) -/

/-- The first held message of a key slot. -/
def Sb.firstHeld (b : Sb) (f k : Nat) : Option Held := b.held.find? (fun h => decide (h.flock = f ∧ h.key = k))

/-- The key slot is moving and nothing it waits for is outstanding: no move record, and no leave or loss has taken it. -/
def State.keyReady (s : State) (pl : Pl) (f k : Nat) : Bool :=
  bit (s.kEntry pl f k) 5 && !(s.sb pl).moves.any (fun m => decide (m.flock = f ∧ m.key = k))
    && !(s.members pl f).any (fun m => (s.qdyn pl m.2).taken.contains k)

/-- The member that takes the next held message: the key slot's member while it is eligible, else a new choice. -/
def State.heldMember (s : State) (pl : Pl) (f k : Nat) : Option (Nat × Nat) :=
  let e := s.kEntry pl f k
  let cur := if bit e 7 then (s.memberQ pl f (fld e 0 5)).map (fun n => (fld e 0 5, n)) else none
  match cur with
  | some m => if s.eligibleQ pl m.2 false then some m else s.chooseMember pl f false
  | none => s.chooseMember pl f false

/-- A member can take a message that was admitted earlier: rows 4 and 7 of R166. -/
def State.takes (s : State) (pl : Pl) (n flits : Nat) : Bool :=
  !s.qBit pl n 3 && !s.closedOwner (s.qOwner pl n) && s.ringLive pl n && !s.noRoom pl n (s.qHead pl n) flits

/-- Admits a held message, if its key slot is ready and its member can take it: the key slot is assigned then (R172, R173). -/
def State.admitHeld (s : State) (pl : Pl) (h : Held) : Option State :=
  if !s.keyReady pl h.flock h.key then none
  else match s.heldMember pl h.flock h.key with
    | none => none
    | some m =>
      if s.takes pl m.2 h.flits.length then
        some (((s.setK pl h.flock h.key (m.1 + 32 + 128)).modSb pl (fun b => { b with held := b.held.erase h })).enqueue pl m.2
          h.src h.tag true h.key h.srcOwner false true h.flits)
      else none

/-- The last held message of a key slot has been admitted: MOVING clears (R172, R173). -/
def State.clearMoving (s : State) (pl : Pl) (f k : Nat) : State :=
  if s.keyReady pl f k && ((s.sb pl).firstHeld f k).isNone then s.setK pl f k ((s.kEntry pl f k).toNat - 32) else s

/-- LEAVING becomes LEFT once every key slot of a completed leave has drained (R176). -/
def State.settleLeft (s : State) (pl : Pl) (f : Nat) : State :=
  (s.members pl f).foldl (fun t m =>
    let ks := (t.qdyn pl m.2).leaving
    if ks ≠ [] ∧ ks.all (fun k => !bit (t.kEntry pl f k) 5) then
      (t.modQ pl m.2 (fun d => { d with leaving := [] })).qSetBit pl m.2 10 true
    else t) s

/-- Admits the held messages of key slots `ks` in order of arrival, as far as they can be taken; a message behind one of its key
slot that stays held stays too (R173, R176, R177). -/
def State.drain (s : State) (pl : Pl) (f : Nat) (ks : List Nat) : State :=
  let r := (s.sb pl).held.foldl (fun (a : State × List Nat) h =>
    if h.flock ≠ f ∨ !ks.contains h.key ∨ a.2.contains h.key then a
    else match a.1.admitHeld pl h with
      | some t => (t, a.2)
      | none => (a.1, a.2 ++ [h.key])) (s, [])
  (ks.foldl (fun t k => t.clearMoving pl f k) r.1).settleLeft pl f

/-! ### HEAD moves (R173 item 3, R176) -/

/-- HEAD has reached S (R173). -/
def reached (head seq : Nat) : Bool := decide (sub32 head seq < 2 ^ 31)

/-- Member `idx` of flock `f` is eligible (R171). -/
def State.eligibleIdx (s : State) (pl : Pl) (f idx : Nat) : Bool :=
  match s.memberQ pl f idx with | some n => s.eligibleQ pl n false | none => false

/-- A move is complete: the key slot has the member B, or, where B is not eligible, none, so that its first held message, or its
next one, chooses again (R173 items 3 and 4). -/
def State.moveDone (s : State) (pl : Pl) (m : Move) : State :=
  let e := if s.eligibleIdx pl m.flock m.target then m.target + 32 + 128 else 32
  let s := (s.modSb pl (fun b => { b with moves := b.moves.erase m })).setK pl m.flock m.key e
  (s.pinc pl (rFmoves m.flock) 0 32 1).countQ pl 0x06

/-- Completes the moves and the leave that wait for queue `n`'s HEAD, and admits what was held for them, in order of arrival. -/
def State.headMoved (s : State) (pl : Pl) (n : Nat) : State :=
  if !s.qIsMember pl n then s
  else
    let f := s.qFlock pl n
    let idx := s.qIndex pl n
    let h := s.qHead pl n
    let ms := (s.sb pl).moves.filter (fun m => decide (m.flock = f ∧ m.fromIdx = idx) && reached h m.atSeq)
    let s := (ms.foldl (fun t m => t.moveDone pl m) s).drain pl f (ms.map (·.key))
    match (s.qdyn pl n).leaveAt with
    | some at? =>
      if reached h at? then
        let ks := (s.qdyn pl n).taken
        let s := s.modQ pl n (fun d => { d with leaveAt := none, taken := [], leaving := ks })
        let s := if ks = [] then s.qSetBit pl n 10 true else s
        (ks.foldl (fun t k => t.setK pl f k 32) s).drain pl f ks
      else s
    | none => s

/-! ### Doorbells (R170) -/

/-- The doorbell test of R170. -/
def State.doorbell (s : State) (pl : Pl) (n : Nat) : State :=
  if s.qBit pl n 0 && decide (s.qd pl n 0xC 0 17 ≤ s.qCount pl n) then
    let a := s.qd pl n 0x20 2 30 * 4 + s.qd pl n 0x24 0 16 * 2 ^ 32
    ((s.qSetBit pl n 0 false).countQ pl 0x07).sbAdd pl (.doorbell n) true true (s.qOwner pl n) 1 a 1 (benRange (a % 64) 4)
      [BitVec.ofNat 512 ((s.p pl (bQds n + 0x28)).toNat * 2 ^ (8 * (a % 64)))]
  else s

/-! ### Member loss (R177) -/

/-- Key slots mapped to a member become moving and belong to its leave or loss; its move records end. -/
def State.takeKeys (s : State) (pl : Pl) (n : Nat) : State :=
  let f := s.qFlock pl n
  let idx := s.qIndex pl n
  let ks := s.keysOf pl f idx
  let s := s.modSb pl (fun b => { b with moves := b.moves.filter (fun m => decide (¬(m.flock = f ∧ m.fromIdx = idx))) })
  let s := ks.foldl (fun t k => t.setK pl f k ((t.kEntry pl f k).toNat ||| 32)) s
  s.modQ pl n (fun d => { d with taken := ks })

/-- Issues the read of the record of the next message to re-enqueue (R177 step 3). -/
def State.readRecord (s : State) (pl : Pl) (n : Nat) (l : Loss) : State :=
  let a := s.recAddr pl n l.next
  (s.modQ pl n (fun d => { d with loss := some { l with waitRec := true, recWord := none, flits := [], bad := false } })).sbAdd pl
    (.redeliverRec n l.next) false false (s.qOwner pl n) 1 (a / 64 * 64) 1 benAll []

/-- Fields of a record read back (R160). -/
def recFlits (w : BitVec 64) : Nat := fld w 0 6 + 1
def recKey (w : BitVec 64) : Nat := fld w 8 12
def recSrc (w : BitVec 64) : Nat := fld w 20 7
def recOwner (w : BitVec 64) : Nat := fld w 27 4

/-- The member that takes a re-enqueueted message (R177 step 3). -/
def State.lossMember (s : State) (pl : Pl) (f : Nat) (l : Loss) (k : Nat) : Option (Nat × Nat) :=
  match l.assigned.find k with
  | some idx => (s.memberQ pl f idx).bind (fun n => if s.eligibleQ pl n false then some (idx, n) else none)
  | none => s.chooseMember pl f false

/-- Re-admits the message that has been read, if a member can take it under R166. -/
def State.readmit (s : State) (pl : Pl) (n : Nat) (l : Loss) (w : BitVec 64) : State :=
  let f := s.qFlock pl n
  let k := recKey w
  match s.lossMember pl f l k with
  | none => s
  | some m =>
    if !s.takes pl m.2 l.flits.length then s
    else
      let l : Loss := { l with
        next := (l.next + 1) % 2 ^ 32, recWord := none, flits := [], assigned := l.assigned.ins k m.1 }
      let s := (s.modQ pl n (fun d => { d with loss := some l, taken := if d.taken.contains k then d.taken else d.taken ++ [k] })).setK
        pl f k (m.1 + 32 + 128)
      ((s.enqueue pl m.2 (recSrc w) 0 false k (recOwner w) true true l.flits).pinc pl rRedelivered 0 32 1).countQ pl 0x08

/-- Moves a loss on: once nothing is reserved, the messages are read and re-enqueueted one by one. -/
def State.lossStep (s : State) (pl : Pl) (n : Nat) : State :=
  match (s.qdyn pl n).loss with
  | none => s
  | some l =>
    if !(s.qdyn pl n).adm.isEmpty ∨ l.waitRec ∨ l.waitData then s
    else
      let l : Loss := if l.readsDone then l else { l with next := s.qHead pl n, finish := s.qTail pl n, readsDone := true }
      if l.next = l.finish then s.modQ pl n (fun d => { d with loss := some l })
      else match l.recWord with
        | some w =>
          if l.flits.isEmpty then s
          else
            let t := s.readmit pl n l w
            match (t.qdyn pl n).loss with
            | some l2 => if l2.next ≠ l.next ∧ l2.next ≠ l2.finish then t.readRecord pl n l2 else t
            | none => t
        | none => s.readRecord pl n l

/-- Every loss in progress looked at: a member may have become able to take a message. -/
def State.lossSettle (s : State) (pl : Pl) : State :=
  (((s.sb pl).queues.filter (fun x => x.2.loss.isSome)).map (·.1)).foldl (fun t n => t.lossStep pl n) s

/-- A member is lost (R177 steps 1 and 2). A leave that is under way ends; a member that has left stays LEFT (R176). -/
def State.loseMember (s : State) (pl : Pl) (n : Nat) : State :=
  if !s.qIsMember pl n || !s.qValid pl n || s.qBit pl n 2 then s
  else
    let s := s.qSetBit pl n 2 true
    let s := if s.qBit pl n 10 then s else s.qSetBit pl n 1 false
    let s := (s.pinc pl rLosses 0 32 1).occurP pl 379 n
    let s := (s.takeKeys pl n).modQ pl n (fun d => { d with
      leaveAt := none, leaving := [],
      loss := some { next := 0, finish := 0, flits := [], recWord := none, waitData := false, waitRec := false, bad := false,
                     assigned := [], joinAfter := false, readsDone := false } })
    s.lossStep pl n

/-! ### Commit and failure (R167, R168) -/

/-- Commits the messages whose writes and predecessors are done (R167). -/
def State.commit (fuel : Nat) (s : State) (pl : Pl) (n : Nat) : State :=
  match fuel with
  | 0 => s
  | fuel + 1 =>
    match (s.qdyn pl n).adm with
    | a :: rest =>
      if a.waits = 0 then
        let s := (s.qdset pl n 0x30 0 32 (s.qTail pl n + 1)).qdset pl n 0x34 4 5 (s.qResv pl n - 1)
        let s := s.modQ pl n (fun d => { d with
          adm := rest, recent := if s.qIsMember pl n then (d.recent ++ [a.keyslot]).drop ((d.recent.length + 1) - 8) else d.recent })
        let s := s.countQ pl 0x03
        State.commit fuel (if a.reply then s.ackProducer pl a.src a.tag stOk else s) pl n
      else s
    | [] => s

/-- Requests of the service block for messages of queue `n` from `q` on, or for all of it: those not issued are dropped,
the answers of the others no longer matter. -/
def Sb.voidWrites (b : Sb) (n : Nat) (f : Nat → Bool) : Sb :=
  let hit (o : SbOut) : Bool := match o.purpose with
    | SbPurpose.ring m q => decide (m = n) && f q
    | SbPurpose.record m q => decide (m = n) && f q
    | _ => false
  { b with outs := (b.outs.filter (fun o => !(hit o && o.tag.isNone))).map (fun o => if hit o then { o with purpose := .void } else o) }

/-- Answers and forgets reserved messages. -/
def State.dropAdms (s : State) (pl : Pl) (n st : Nat) (l : List Adm) : State :=
  let s := s.modQ pl n (fun d => { d with adm := d.adm.filter (fun a => !l.contains a) })
  let s := s.modSb pl (fun b => b.voidWrites n (fun q => l.any (fun a => decide (a.seq = q))))
  let s := s.qdset pl n 0x34 4 5 (s.qResv pl n - l.length)
  l.foldl (fun t a => if a.reply then t.ackProducer pl a.src a.tag st else t) s

/-- A ring write of message `q` failed (R168): the queue stops, and a member is lost (R177). -/
def State.ringFailed (s : State) (pl : Pl) (n q : Nat) : State :=
  let l := (s.qdyn pl n).adm.dropWhile (fun a => decide (a.seq ≠ q))
  let s := (s.qSetBit pl n 3 true).dropAdms pl n stPoison l
  (s.queueFault pl n false false).loseMember pl n

/-- After a commit, a HEAD move or a release of room: losses go on, and the doorbell test of the fc is due (R169). -/
def State.queueSettle (s : State) (pl : Pl) (n : Nat) : State :=
  (s.modSb pl (fun b => { b with dbTest := if b.dbTest.contains n then b.dbTest else b.dbTest ++ [n] })).lossSettle pl

/-- JOIN (R176). While the steps of a loss run, it is recorded. -/
def State.joinFlag (s : State) (pl : Pl) (n : Nat) : State :=
  if !s.qIsMember pl n || !(s.port (s.qCons pl n)).live then s
  else if (s.qdyn pl n).loss.isSome then
    s.modQ pl n (fun d => { d with loss := d.loss.map (fun l => { l with joinAfter := true }) })
  else if s.qBit pl n 10 || s.qBit pl n 2 then ((s.qSetBit pl n 1 false).qSetBit pl n 2 false).qSetBit pl n 10 false
  else s

/-- The end of an fc at the queue engine: the doorbell tests of the queues that a commit or a QOP has changed (R169, R170), and
the JOINs recorded during a loss whose steps have finished, for the next fc (R176). -/
def State.queueFcEnd (pl : Pl) (s : State) : State :=
  let qs := (s.sb pl).dbTest
  let js := ((s.sb pl).queues.filter (fun x => x.2.joinDue)).map (·.1)
  let s := qs.foldl (fun t n => t.doorbell pl n) (if qs = [] then s else s.modSb pl (fun b => { b with dbTest := [] }))
  js.foldl (fun t n => (t.modQ pl n (fun d => { d with joinDue := false })).joinFlag pl n) s

/-! ### Effects of other units' events -/

/-- A port stops being live: members that it consumes for are lost (R177). -/
def State.queuesPortDown (s : State) (p : Nat) (pl : Pl) : State :=
  let qs := (s.pln pl).rf.filterMap (fun x =>
    if 0x400000 ≤ x.1 ∧ x.1 < 0x500000 ∧ x.1 % 0x40 = 4 ∧ bit x.2 0 then some ((x.1 - 0x400000) / 0x40) else none)
  (qs.filter (fun n => decide (s.qCons pl n = p))).foldl (fun t n => t.loseMember pl n) s

/-- The queue-engine step of an owner reset (R179). -/
def State.queuesClean (s : State) (o : Nat) (pl : Pl) : State :=
  let qs := (s.pln pl).rf.filterMap (fun x =>
    if 0x400000 ≤ x.1 ∧ x.1 < 0x500000 ∧ x.1 % 0x40 = 0 ∧ bit x.2 0 ∧ fld x.2 1 4 = o then some ((x.1 - 0x400000) / 0x40) else none)
  let fs := (s.pln pl).rf.filterMap (fun x =>
    if 0x30000 ≤ x.1 ∧ x.1 < 0x34000 ∧ x.1 % 0x10 = 0 ∧ bit x.2 0 ∧ fld x.2 1 4 = o then some ((x.1 - 0x30000) / 0x10) else none)
  let s := qs.foldl (fun t n =>
    let t := t.dropAdms pl n stRetry (t.qdyn pl n).adm
    let t := t.setHead pl n (t.qTail pl n)
    let t := ((t.qSetBit pl n 1 false).qSetBit pl n 2 false).qSetBit pl n 10 false
    t.modQ pl n (fun d => { d with loss := none, leaveAt := none, taken := [], leaving := [], joinDue := false, recent := [] })) s
  let hs := (s.sb pl).held.filter (fun h => fs.contains h.flock)
  let s := s.modSb pl (fun b => { b with
    held := b.held.filter (fun h => !fs.contains h.flock), moves := b.moves.filter (fun m => !fs.contains m.flock),
    kmap := b.kmap.filter (fun x => !fs.contains (x.1 / 4096)) })
  hs.foldl (fun t h => t.ackProducer pl h.src h.tag stRetry) s

end Sys2Proof.Machine
end

