-- ==== Sys2Proof/Machine/Queues.lean ====
section
/-!
DEFINITION. The queue engine's commands: the queue-tail gate (R166), ring and doorbell answers (R167, R168, R170), QOPs
(R165, R169, R176), held messages (R173), rebalancing (R175), member loss (R177) and QDS.CTRL (R180).
-/
namespace Sys2Proof.Machine

/-! ### The queue-tail gate (R166) -/

/-- The gate object of a MESSAGE or QOP: flock or queue, and its number. -/
def State.gateObj (s : State) (f : Flit) : Bool × Nat :=
  if hKind f.hdr = kMessage then (hTflock f.hdr, if hTflock f.hdr then hFlock f.hdr else hQueue f.hdr)
  else (false, (cPaddr f.data - s.img.qap) / 256)

/-- Another link holds a request of the same kind for the same object that arrived in the same fc from a lower port (R84). -/
def State.gateBehind (s : State) (pl : Pl) (key : Nat) (f : Flit) : Bool :=
  (s.sb pl).rx.any (fun x => match x.2.head? with
    | some g => decide (x.1 ≠ key ∧ hKind g.hdr = hKind f.hdr ∧ g.idx = 0 ∧ g.since = f.since ∧ hSrc g.hdr < hSrc f.hdr
        ∧ s.gateObj g = s.gateObj f)
    | none => false)

/-- The answer to a MESSAGE (RACK); a refusal by the gate counts. -/
def State.msgAnswer (s : State) (pl : Pl) (k : Packet) (st : Nat) : State :=
  let s := if st = stRetry then s.countQ pl 0x04 else s
  s.ackProducer pl (hSrc k.hdr) (hTag k.hdr) st

/-- A sender may send to queue `n` (R166 row 2). -/
def State.mayNotSend (s : State) (pl : Pl) (n : Nat) (h : BitVec 64) : Bool :=
  decide (hPriv h ≠ 3) && !bit (s.p pl (bQds n + 8)) (hOwner h)

/-- A message addressed to a queue (R166). A poisoned one that passes rows 1 to 3 is answered with POISON (R16, R254). -/
def State.gateQueue (s : State) (pl : Pl) (n : Nat) (k : Packet) : State :=
  let flits := hLen k.hdr + 1
  let other (st : Nat) : State := (s.pinc pl (bQds n + 0x38) 16 16 1).msgAnswer pl k st
  if !s.qValid pl n || s.qIsMember pl n then other stDecode
  else if s.mayNotSend pl n k.hdr then other stProt
  else if s.qSlot pl n < flits then other stAlign
  else if k.poison then s.msgAnswer pl k stPoison
  else if s.qBit pl n 3 || s.closedOwner (s.qOwner pl n) || !s.ringLive pl n then s.msgAnswer pl k stRetry
  else if s.noRoom pl n (s.qHeadAt pl n true) flits then (s.pinc pl (bQds n + 0x38) 0 16 1).msgAnswer pl k stRetry
  else s.enqueue pl n (hSrc k.hdr) (hTag k.hdr) true 0 (hOwner k.hdr) false false k.flits

/-- A message addressed to a flock (R166, R172, R174). No member is chosen for a key slot that is moving, and every message for it
joins the hold store (R172): row 4 looks at a queue only where R172 selects one (log 39). -/
def State.gateFlock (s : State) (pl : Pl) (f : Nat) (k : Packet) : State :=
  let flits := hLen k.hdr + 1
  let slot := hKeyslot k.hdr
  let ms := s.members pl f
  let e := s.kEntry pl f slot
  if !s.fValid pl f then s.msgAnswer pl k stDecode
  else if ms.any (fun m => s.mayNotSend pl m.2 k.hdr) then s.msgAnswer pl k stProt
  else if ms.any (fun m => decide (s.qSlot pl m.2 < flits)) then s.msgAnswer pl k stAlign
  else if k.poison then s.msgAnswer pl k stPoison
  else if s.closedOwner (s.fOwner pl f) then s.msgAnswer pl k stRetry
  else if bit e 5 then
    if 512 < (s.sb pl).holdFlits + flits then s.msgAnswer pl k stRetry
    else (s.countQ pl 0x05).modSb pl (fun b => { b with held := b.held ++
      [{ flock := f, key := slot, src := hSrc k.hdr, tag := hTag k.hdr, srcOwner := hOwner k.hdr, flits := k.flits }] })
  else
    match (if bit e 7 then (s.memberQ pl f (fld e 0 5)).map (fun n => (fld e 0 5, n)) else s.chooseMember pl f true) with
    | none => s.msgAnswer pl k stRetry
    | some m =>
      if s.qBit pl m.2 3 || !s.ringLive pl m.2 then s.msgAnswer pl k stRetry
      else if s.noRoom pl m.2 (s.qHeadAt pl m.2 true) flits then (s.pinc pl (bQds m.2 + 0x38) 0 16 1).msgAnswer pl k stRetry
      else (s.setK pl f slot (m.1 + 128)).enqueue pl m.2 (hSrc k.hdr) (hTag k.hdr) true slot (hOwner k.hdr) false true k.flits

/-- QUEUE_TAIL_GATE (R166): the MESSAGE at the head of link `q` is decided. -/
def execQueueTailGate (pl : Pl) (q : Nat) (s : State) : Out :=
  inPlane s pl (fun s =>
    match ((s.sb pl).rx.rd (q * 8 + 5) []).head? with
    | none => s
    | some g =>
      if hKind g.hdr ≠ kMessage ∨ s.gateBehind pl (q * 8 + 5) g = true then s
      else match s.popSb pl q 5 with
        | none => s
        | some (k, t) =>
          let t := if k.poison then t.poisonOwner (hOwner k.hdr) (hPriv k.hdr) else t
          if hTflock k.hdr then t.gateFlock pl (hFlock k.hdr) k else t.gateQueue pl (hQueue k.hdr) k)

/-! ### Answers to ring writes and doorbells -/

/-- The answer to a ring write of message `seq` (R167, R168). -/
def State.ringAnswered (s : State) (pl : Pl) (n seq st : Nat) : State :=
  if !(s.qdyn pl n).adm.any (fun a => decide (a.seq = seq)) then s
  else if st ≠ stOk then (s.ringFailed pl n seq).queueSettle pl n
  else
    let s := s.modQ pl n (fun d => { d with adm := d.adm.map (fun a => if a.seq = seq then { a with waits := a.waits - 1 } else a) })
    (State.commit ((s.qdyn pl n).adm.length + 1) s pl n).queueSettle pl n

/-- The purpose is a ring write, a record write, or one that no longer matters. -/
def isRing : SbPurpose → Bool
  | .ring _ _ => true | .record _ _ => true | .void => true | .plt => true | _ => false

/-- RING_WRITE_RACK (R167, R168). Answers to the writes of the path latency table come the same way (R72). -/
def execRingWriteRack (pl : Pl) (q : Nat) (s : State) : Out :=
  inPlane s pl (fun s =>
    match s.sbResponse pl q 4 isRing with
    | none => s
    | some (_, o, st, t) =>
      match o.purpose with
      | .ring n m => t.ringAnswered pl n m st
      | .record n m => t.ringAnswered pl n m st
      | _ => t)

/-- DOORBELL_RACK (R170). -/
def execDoorbellRack (pl : Pl) (q : Nat) (s : State) : Out :=
  inPlane s pl (fun s =>
    match s.sbResponse pl q 2 (fun p => match p with | .doorbell _ => true | _ => false) with
    | none => s
    | some (_, o, st, t) =>
      match o.purpose with
      | .doorbell n => if st = stOk then t else (t.qSetBit pl n 9 true).queueFault pl n true false
      | _ => t)

/-! ### QOPs (R164, R165, R169) -/

/-- The answer to a QOP. -/
def State.qopReply (s : State) (pl : Pl) (h : BitVec 64) (st : Nat) (d : Line) : State :=
  s.sbReply pl (hSrc h) (hVc h) (hTag h) st (some d)

/-- The tests of R165: the status that refuses the QOP, or OK. -/
def State.qopTest (s : State) (pl : Pl) (n : Nat) (h : BitVec 64) : Nat :=
  if !s.qValid pl n then stDecode
  else if hPriv h = 3 then stOk
  else if hSrc h ≠ s.qCons pl n ∨ hOwner h ≠ s.qOwner pl n then stProt
  else if s.closedOwner (hOwner h) then stProt
  else stOk

/-- The flags byte of STATUS (R165). -/
def State.qFlags (s : State) (pl : Pl) (n : Nat) : Nat :=
  b2n (s.qBit pl n 0) + 2 * b2n (s.qBit pl n 1) + 4 * b2n (s.qBit pl n 2) + 8 * b2n (s.qBit pl n 3) + 16 * b2n (s.qBit pl n 10)

/-- LEAVE (R176). -/
def State.leaveFlag (s : State) (pl : Pl) (n : Nat) : State :=
  if !s.qIsMember pl n || s.qBit pl n 1 || s.qBit pl n 2 then s
  else
    let seq := s.qAdm pl n
    ((s.qSetBit pl n 1 true).takeKeys pl n).modQ pl n (fun d => { d with leaveAt := some seq, leaveSlot := s.now })

/-- CONSUME (R169, R170, R176): HEAD, then ARM, JOIN and LEAVE, then what waited for HEAD; the doorbell test ends the fc. -/
def State.consume (s : State) (pl : Pl) (n : Nat) (h : BitVec 64) (cnt : Nat) (flags : BitVec 8) : State :=
  let got := if s.qBit pl n 2 then 0 else min cnt (s.qCount pl n)
  let head := (s.qHead pl n + got) % 2 ^ 32
  let s := s.setHead pl n head
  let s := if bit flags 0 then s.qSetBit pl n 0 true else s
  let s := if bit flags 2 then s.joinFlag pl n else s
  let s := if bit flags 1 then s.leaveFlag pl n else s
  let x := ((s.headMoved pl n).queueSettle pl n).stated pl 8 (BitVec.ofNat 512 (head + got * 2 ^ 32))
  x.2.qopReply pl h stOk x.1

/-- A QOP at the head of link `q`, `vc` whose operation and flags a test picks (R165, R169, R84): the tests of R165, POISON for a
poisoned one (R16, R254), RETRY for a second one of the fc. -/
def State.qop (s : State) (pl : Pl) (q vc : Nat) (pick : Nat → BitVec 8 → Bool) : State :=
  match ((s.sb pl).rx.rd (q * 8 + vc) []).head? with
  | none => s
  | some g =>
    let op := cPaddr g.data / 64 % 4
    let flags := BitVec.ofNat 8 (byteAt g.data 36)
    if hKind g.hdr ≠ kQop ∨ pick op flags = false ∨ s.gateBehind pl (q * 8 + vc) g = true then s
    else match s.popSb pl q vc with
      | none => s
      | some (k, t) =>
        let n := (s.gateObj g).2
        let t := if k.poison then t.poisonOwner (hOwner k.hdr) (hPriv k.hdr) else t
        let st := stFirst (t.qopTest pl n k.hdr) (if k.poison then stPoison else stOk)
        if st ≠ stOk then t.qopReply pl k.hdr st 0
        else if (t.qdyn pl n).qopAt = some t.fc then t.qopReply pl k.hdr stRetry 0
        else
            let t := t.modQ pl n (fun d => { d with qopAt := some t.fc })
            if op = 1 then
              let x := t.stated pl 9 (BitVec.ofNat 512 (t.qHead pl n + t.qTail pl n * 2 ^ 32 + t.qFlags pl n * 2 ^ 64))
              x.2.qopReply pl k.hdr stOk x.1
            else t.consume pl n k.hdr (cOpA g.data % 2 ^ 32) flags

/-- QUEUE_STATUS (R165). -/
def execQueueStatus (pl : Pl) (q vc : Nat) (s : State) : Out :=
  inPlane s pl (fun s => s.qop pl q vc (fun op _ => decide (op = 1)))

/-- QUEUE_CONSUME (R169): a CONSUME without flags. -/
def execQueueConsume (pl : Pl) (q vc : Nat) (s : State) : Out :=
  inPlane s pl (fun s => s.qop pl q vc (fun op f => decide (op = 2) && !bit f 0 && !bit f 1 && !bit f 2))

/-- CONSUME_ARM (R170): a CONSUME with ARM alone. -/
def execConsumeArm (pl : Pl) (q vc : Nat) (s : State) : Out :=
  inPlane s pl (fun s => s.qop pl q vc (fun op f => decide (op = 2) && bit f 0 && !bit f 1 && !bit f 2))

/-- MEMBER_LEAVE (R176): a CONSUME with LEAVE and without JOIN. -/
def execMemberLeave (pl : Pl) (q vc : Nat) (s : State) : Out :=
  inPlane s pl (fun s => s.qop pl q vc (fun op f => decide (op = 2) && bit f 1 && !bit f 2))

/-- MEMBER_JOIN (R176): a CONSUME with JOIN. -/
def execMemberJoin (pl : Pl) (q vc : Nat) (s : State) : Out :=
  inPlane s pl (fun s => s.qop pl q vc (fun op f => decide (op = 2) && bit f 2))

/-! ### Held messages, rebalancing, key wait -/

/-- HELD_MESSAGE_ADMIT (R173). -/
def execHeldMessageAdmit (pl : Pl) (f k : Nat) (s : State) : Out :=
  inPlane s pl (fun s => if s.keyReady pl f k then s.drain pl f [k] else s)

/-- A member may give keys away (R175). -/
def State.giverQ (s : State) (pl : Pl) (n : Nat) : Bool :=
  (s.port (s.qCons pl n)).live && !s.qBit pl n 1 && !s.qBit pl n 2 && !s.qBit pl n 3

/-- Starts moves from member A to member B (R173 item 1, R175): the key slots committed last, oldest first. -/
def State.startMoves (s : State) (pl : Pl) (f : Nat) (a b : Nat × Nat) : State :=
  let seq := s.qAdm pl a.2
  ((s.qdyn pl a.2).recent.foldl (fun (x : State × Nat) k =>
    let t := x.1
    let e := t.kEntry pl f k
    if x.2 = 0 ∨ 16 ≤ ((t.sb pl).moves.filter (fun m => decide (m.flock = f))).length ∨ bit e 5 = true ∨ bit e 7 = false
      ∨ fld e 0 5 ≠ a.1 then x
    else
      ((t.setK pl f k (e.toNat + 32)).modSb pl (fun y => { y with moves := y.moves ++
        [{ flock := f, key := k, fromIdx := a.1, target := b.1, atSeq := seq, slot := s.now }] }), x.2 - 1))
    (s, s.pf pl (rFpolicy f) 0 8)).1

/-- The rebalancing of one flock (R175). -/
def State.rebalance (s : State) (pl : Pl) (f : Nat) : State :=
  let ms := s.members pl f
  let a := (ms.filter (fun m => s.giverQ pl m.2)).foldl (fun (a : Option (Nat × Nat)) m => match a with
    | none => some m
    | some b => if s.qCount pl b.2 < s.qCount pl m.2 ∨ (s.qCount pl b.2 = s.qCount pl m.2 ∧ m.1 < b.1) then some m else some b) none
  match a with
  | none => s
  | some a =>
    let b := (ms.filter (fun m => s.eligibleQ pl m.2 false && decide (m.1 ≠ a.1))).foldl (fun (c : Option (Nat × Nat)) m => match c with
      | none => some m
      | some b => if s.qCount pl m.2 < s.qCount pl b.2 ∨ (s.qCount pl m.2 = s.qCount pl b.2 ∧ m.1 < b.1) then some m else some b) none
    match b with
    | none => s
    | some b =>
      let high := s.pf pl (rFcfg f) 16 16
      if high ≤ s.qCount pl a.2 ∧ s.qCount pl b.2 ≤ high / 2 then (s.startMoves pl f a b).headMoved pl a.2 else s

/-- REBALANCE_BOUNDARY (R175): once at each rebalance boundary, every flock with REBAL. -/
def execRebalanceBoundary (pl : Pl) (s : State) : Out :=
  inPlane s pl (fun s =>
    if s.now % 2 ^ (s.pf pl rFlkPolicy 0 4 + 10) ≠ 0 ∨ (s.sb pl).rebalAt = some s.now ∨ s.pair.joining.isSome then s
    else
      let fs := (s.pln pl).rf.filterMap (fun x =>
        if 0x30000 ≤ x.1 ∧ x.1 < 0x34000 ∧ x.1 % 0x10 = 0 ∧ bit x.2 0 ∧ bit x.2 10 then some ((x.1 - 0x30000) / 0x10) else none)
      fs.foldl (fun t f => t.rebalance pl f) (s.modSb pl (fun b => { b with rebalAt := some s.now })))

/-- A move or leave that waits on queue `n` has lasted KEYWAIT slots (R177). -/
def State.keyWaited (s : State) (pl : Pl) (n : Nat) : Bool :=
  let w := s.pf pl rFlkPolicy 8 24
  decide (w ≠ 0) && ((s.sb pl).moves.any (fun m => decide (m.flock = s.qFlock pl n ∧ m.fromIdx = s.qIndex pl n ∧ m.slot + w ≤ s.now))
    || (decide ((s.qdyn pl n).leaveSlot + w ≤ s.now) && (s.qdyn pl n).leaveAt.isSome))

/-- KEYWAIT_EXPIRY (R177). -/
def execKeywaitExpiry (pl : Pl) (n : Nat) (s : State) : Out :=
  inPlane s pl (fun s => if s.qIsMember pl n && s.keyWaited pl n then s.loseMember pl n else s)

/-! ### Redelivery (R177 steps 3 and 4) -/

/-- The message that was being read is skipped: a ring read failed. -/
def State.skipMessage (s : State) (pl : Pl) (n : Nat) (l : Loss) : State :=
  let s := s.queueFault pl n false true
  let l : Loss := { l with next := (l.next + 1) % 2 ^ 32, recWord := none, flits := [], waitRec := false, waitData := false }
  (s.modQ pl n (fun d => { d with loss := some l })).lossStep pl n

/-- The record of message `seq` has been read: the payload is read next. -/
def State.recordRead (s : State) (pl : Pl) (n seq : Nat) (d : Line) (l : Loss) : State :=
  let a := s.recAddr pl n seq
  let w : BitVec 64 := BitVec.ofNat 64 (fld d (8 * (a % 64)) 64)
  let span := min (recFlits w) (s.qSlot pl n)
  (s.modQ pl n (fun x => { x with loss := some { l with waitRec := false, recWord := some w, waitData := true } })).sbAdd pl
    (.redeliver n seq) false false (s.qOwner pl n) 1 (s.slotAddr pl n seq) span benAll []

/-- REDELIVERY_READ (R177 step 3). -/
def execRedeliveryRead (pl : Pl) (q : Nat) (s : State) : Out :=
  inPlane s pl (fun s =>
    match s.sbResponse pl q 4 (fun p => match p with | .redeliver _ _ => true | .redeliverRec _ _ => true | _ => false) with
    | none => s
    | some (k, o, st, t) =>
      match o.purpose with
      | .redeliverRec n seq =>
        (match (t.qdyn pl n).loss with
        | some l => if l.next ≠ seq ∨ !l.waitRec then t
            else if st = stOk then t.recordRead pl n seq k.line0 l else t.skipMessage pl n l
        | none => t)
      | .redeliver n seq =>
        (match (t.qdyn pl n).loss with
        | some l => if l.next ≠ seq ∨ !l.waitData then t
            else if st = stOk then
              (t.modQ pl n (fun x => { x with loss := some { l with waitData := false, flits := k.flits } })).lossStep pl n
            else t.skipMessage pl n l
        | none => t)
      | _ => t)

/-- LOSS_FINISH (R177 step 4): every message has been re-admitted or skipped. A JOIN that was recorded takes effect in the next fc
(R176). -/
def execLossFinish (pl : Pl) (n : Nat) (s : State) : Out :=
  inPlane s pl (fun s =>
    let s := s.lossStep pl n
    match (s.qdyn pl n).loss with
    | none => s
    | some l =>
      if !l.readsDone ∨ l.next ≠ l.finish ∨ l.waitRec ∨ l.waitData then s
      else
        let f := s.qFlock pl n
        let ks := (s.qdyn pl n).taken
        let s := s.setHead pl n (s.qTail pl n)
        let s := s.modQ pl n (fun d => { d with loss := none, taken := [], joinDue := l.joinAfter })
        (ks.foldl (fun t k => if (l.assigned.find k).isNone then t.setK pl f k 32 else t) s).drain pl f ks)

/-! ### QDS.CTRL (R180) -/

/-- A write of QDS.CTRL: STOP first, then FLUSH. -/
def State.qCtrl (s : State) (n : Nat) (v : W32) (pl : Pl) : State :=
  let s := if bit v 0 then (s.qSetBit pl n 3 true).loseMember pl n else (s.qSetBit pl n 3 false).qSetBit pl n 9 false
  if bit v 1 && s.qBit pl n 3 then ((s.setHead pl n (s.qTail pl n)).headMoved pl n).lossSettle pl else s

/-- QUEUE_STOP (R168, R177, R180): a write of QDS.CTRL with FLUSH 0. -/
def execQueueStop (r : CwReq) (n : Nat) (stop : Bool) (s : State) : Out :=
  s.cwWrite r (bQds (n % 16384) + 0x3C) (fun s => s.eachPlane (fun pl s => s.qCtrl (n % 16384) (if stop then 1 else 0) pl))

/-- QUEUE_FLUSH (R180): a write of QDS.CTRL with FLUSH 1. -/
def execQueueFlush (r : CwReq) (n : Nat) (stop : Bool) (s : State) : Out :=
  s.cwWrite r (bQds (n % 16384) + 0x3C) (fun s => s.eachPlane (fun pl s => s.qCtrl (n % 16384) (if stop then 3 else 2) pl))

end Sys2Proof.Machine
end

