-- ==== Sys2Proof/Machine/Ports.lean ====
section
/-!
DEFINITION. Port-live and the port reset handshake (R80 to R82, R134, R305, R362 to R365, R375).
-/
namespace Sys2Proof.Machine

/-! ### The fall of port-live -/

/-- The initiator side has nothing open (R363 step 3). -/
def Ni.initIdle (n : Ni) : Bool :=
  n.reqs.isEmpty && n.wait.isEmpty && n.out.isEmpty && n.fences.isEmpty && n.gtq.all (fun x => x.2.isEmpty)

/-- Every accepted request has been answered and every packet has left the NI (R81). -/
def Ni.sideIdle (n : Ni) : Bool :=
  n.jobs.isEmpty && n.pfences.isEmpty && n.rx.all (fun x => x.2.isEmpty) && n.tx.all (fun x => x.2.isEmpty)
    && n.rets.all (fun x => x.queue.isEmpty) && (n.inbox.rd 6 []).isEmpty && (n.inbox.rd 7 []).isEmpty
    && (n.inbox.rd 8 []).isEmpty

/-- What is left of a buffer when its input falls: the rest of a packet whose head has been granted (R82). -/
def keepBegun (l : List Flit) : List Flit :=
  match l with
  | [] => []
  | f :: _ => if f.idx = 0 then [] else l.take (hLen f.hdr + 1 - f.idx)

/-- A router's side of a link whose far end stops being live, for one VC: input `n`'s buffer (R82), the credits of output
`n` and what waits to be resent on the link (R375). -/
def Router.linkDownVc (n : Nat) (r : Router) (vc : Nat) : Router :=
  let k := n * 8 + vc
  let kept := keepBegun (r.buf.rd k [])
  { r with
    buf := r.buf.wr k kept [], completing := r.completing.wr k (!kept.isEmpty) false,
    used := r.used.wr k 0 0, cred := r.cred.wr k 0 0, sent := r.sent.wr k [] [],
    retryWait := (r.retryWait.wr k [] []).wr ((32 + n) * 8 + vc) [] [] }

/-- A router's side of a link whose far end stops being live: for each VC, and for the retry requests (VC number 7). -/
def Router.linkDown (n : Nat) (r : Router) : Router :=
  let r := (List.range 8).foldl (Router.linkDownVc n) r
  { r with hist := (r.hist.wr n [] []).wr (32 + n) [] [] }

/-- An NI whose port-live has fallen: an empty lookaside and empty buffers, with full credits (R134, R375). -/
def Ni.fall (n : Ni) : Ni :=
  { n with
    look := [], lookups := [], frozen := [], watch := [], tombs := [], inbox := [], rx := [], tx := [], txUsed := [], txCred := [],
    reqs := [], wait := [], chHeld := none, out := [], gtq := [], jobs := [], pres := [], pfences := [], fences := [], recOut := false }

/-- The fall in one plane: buffers and credits, the Bellwether's aborts (R146, R147) and lost members (R177). -/
def State.portDown (s : State) (p : Nat) (pl : Pl) : State :=
  let s := s.modNi pl p Ni.fall
  let s := s.modRouter pl false (p / 6) (Router.linkDown (p % 6))
  (s.bwEndDown p pl).queuesPortDown p pl

/-- Port-live falls in every plane; PRST_ACK follows while PRST_REQ is high (R365). -/
def State.fallPort (s : State) (p : Nat) : State :=
  let s := s.modPort p (fun x => { x with
    live := false, ready := false, draining := false, poisoning := false, prstAck := x.prstAck || x.prstReq, gtRel := [], ingress := [] })
  let s : State := { s with pair := { s.pair with cmp := s.pair.cmp.upd p {} Cmp.flush } }
  s.eachPlane (fun pl t => t.portDown p pl)

/-- The port may fall now (R81, R363, R365): a draining port has nothing open on either side; a port that answers with
POISON has answered everything, 16 fc or more after the reset. -/
def State.mayFall (s : State) (p : Nat) : Bool :=
  let x := s.port p
  x.live && x.gtRel.isEmpty && x.ingress.isEmpty && (s.pair.cmp.rd p {}).idle &&
    (if x.poisoning then decide (x.poisonFrom + 16 ≤ s.fc) && s.planes.all (fun pl => (s.ni pl p).sideIdle)
     else x.draining && s.planes.all (fun pl => (s.ni pl p).initIdle && (s.ni pl p).sideIdle))

/-- PORT_LIVE_FALL (R80 to R82, R363 step 3, R365, R375). -/
def execPortLiveFall (p : Nat) (s : State) : Out :=
  .next (if s.isPort p && s.mayFall p then s.fallPort p else s)

/-! ### The rise of port-live -/

/-- The ports that the address map gives for the bytes of the path latency table (R99, R283). -/
def State.pltPorts (s : State) : List Nat :=
  let n := s.variant.ports + s.variant.mules + 1
  let size := 64 + 8 * n * n
  ((List.range (size / 4096 + 1)).filterMap (fun i => s.mapPort (s.img.plt + 4096 * i)) ++
    (match s.mapPort (s.img.plt + size - 1) with | some p => [p] | none => [])).eraseDups

/-- Start-up has come far enough for port `p` (R283, R285, R362, R365). -/
def State.phaseAllows (s : State) (p : Nat) : Bool :=
  s.done || (decide (s.phase = 7) && s.pltPorts.contains p) || (s.minimal && decide (p = s.boot.bootPort))

/-- A permitted owner of the port is closed (R200 step 1, R362). -/
def State.portOwnerClosed (s : State) (p : Nat) : Bool :=
  (List.range 16).any (fun o => s.closedOwner o && bit (s.p s.lead (bNi p)) o)

/-- The conditions of R362, but for UNIT_UP and the boundary. -/
def State.mayRise (s : State) (p : Nat) : Bool :=
  let x := s.port p
  s.isPort p && !x.live && !x.inReset && !x.prstReq && !x.prstAck && s.quireUp (p / 24) && (s.qp (p / 24)).entry.isNone
    && s.phaseAllows p && !s.portOwnerClosed p && !s.test.mode && !s.boot.inReset

/-- Port-live rises; READY stays low until phase 8 at the ports of R283. -/
def State.risePort (s : State) (p : Nat) : State :=
  let s := s.modPort p (fun x => { x with
    unitUp := true, live := true, ready := s.done || s.minimal, draining := false, poisoning := false })
  s.eachPlane (fun pl t => t.bwPortUp p pl)

/-- PORT_LIVE_RISE (R362): at a slot boundary, with UNIT_UP high. -/
def execPortLiveRise (p : Nat) (s : State) : Out :=
  .next (if s.fcInSlot = 0 ∧ s.mayRise p then s.risePort p else s)

/-! ### The reset handshake -/

/-- The quire's entry has closed its ports (R298 E1). -/
def State.quireClosed (s : State) (q : Nat) : Bool :=
  match (s.qp q).entry with | some e => decide (e.step ≠ .close) | none => false

/-- PORT_RESET_REQUEST: PRST_REQ rises (R363 steps 1, 2 and 4). -/
def execPortResetRequest (p : Nat) (s : State) : Out :=
  .next (if s.isPort p then
    s.modPort p (fun x => { x with prstReq := true, ready := false, draining := x.live, prstAck := !x.live })
  else s)

/-- The accepted requests of an NI are answered with POISON, without being presented (R81, R365). -/
def State.poisonJobs (s : State) (p : Nat) (pl : Pl) : State :=
  let js := (s.ni pl p).jobs
  let s := s.modNi pl p (fun n => { n with pres := [] })
  js.foldl (fun t j =>
    let a := State.freeLines pl (answerFlits j.kind j.span) t
    a.2.finishJob pl p j stPoison a.1) s

/-- What the unit had asked for is forgotten; later responses to it find nothing (R365). -/
def Ni.dropInit (n : Ni) : Ni :=
  { n with reqs := [], wait := [], chHeld := none, out := [], gtq := [], fences := [], irsp := [], kept := [], recOut := false }

/-- The endpoint side resets: the counts of R162 and R190 start again. -/
def Ni.resetEnd (n : Ni) : Ni := { n.dropInit with unkeyed := 0, recSeq := 0, beTurn := false }

/-- A live port loses its unit: from now on it answers with POISON (R365). -/
def State.startPoison (s : State) (p : Nat) : State :=
  if (s.port p).live then
    let s := s.modPort p (fun x => { x with ready := false, draining := false, poisoning := true, poisonFrom := s.fc })
    s.eachPlane (fun pl t => t.poisonJobs p pl)
  else s

/-- PORT_RESET_ASSERT: PRST_N asserts (R363 step 5, R365). -/
def execPortResetAssert (p : Nat) (s : State) : Out :=
  .next (if s.isPort p then
    let s := s.modPort p (fun x => { x with inReset := true })
    let s := s.eachPlane (fun pl t => t.modNi pl p Ni.resetEnd)
    if (s.port p).prstAck then s else s.startPoison p
  else s)

/-- PORT_RESET_RELEASE: PRST_N is released and PRST_REQ falls (R363 steps 6 and 7). -/
def execPortResetRelease (p : Nat) (s : State) : Out :=
  .next (if s.isPort p then s.modPort p (fun x => { x with inReset := false, prstReq := false, prstAck := false }) else s)

/-- PORT_RESET_WITHDRAW: PRST_REQ falls (R365). -/
def execPortResetWithdraw (p : Nat) (s : State) : Out :=
  .next (if s.isPort p && (s.port p).prstReq then
    let closed := s.quireClosed (p / 24)
    s.modPort p (fun x => { x with
      prstReq := false, prstAck := false, draining := x.draining && closed,
      ready := x.live && !x.poisoning && !closed && (s.done || s.minimal) })
  else s)

/-- UNIT_DOWN: UNIT_UP falls (R365). -/
def execUnitDown (p : Nat) (s : State) : Out :=
  .next (if s.isPort p then
    let s := s.modPort p (fun x => { x with unitUp := false })
    if (s.port p).prstAck || !(s.port p).live then s
    else (s.eachPlane (fun pl t => t.modNi pl p Ni.dropInit)).startPoison p
  else s)

end Sys2Proof.Machine
end

