-- ==== Sys2Proof/Machine/Latency.lean ====
section
/-!
DEFINITION. Paths through the fabric: islands and crossings (R22, R23, R97), unloaded latency and GT deadline (R101, R102,
R108), and the path latency table (R99, R100).
-/
namespace Sys2Proof.Machine

/-! ### Islands on a path -/

/-- Endpoints of the path latency table: N of R99. -/
def State.pltN (s : State) : Nat := s.variant.ports + s.variant.mules + 1

/-- An endpoint of the table (R100). -/
inductive TabEnd where
  | port (p : Nat)
  | mule (e : Nat)
  | service
  deriving DecidableEq, Repr

/-- The endpoint with index `i` (R100). -/
def State.tabEnd (s : State) (i : Nat) : TabEnd :=
  if i < s.variant.ports then .port i
  else if i < s.variant.ports + s.variant.mules then .mule (i - s.variant.ports) else .service

/-- Quire of an endpoint; none for the service block. -/
def endQuire (e : TabEnd) : Option Nat :=
  match e with | .port p => some (p / 24) | .mule e => some (e / 2) | .service => none

/-- 1 for a port: its folio router and up-link lie on every path that leaves its folio. -/
def endUp (e : TabEnd) : Nat := match e with | .port _ => 1 | _ => 0

/-- Endpoint code (R34). -/
def endCode (e : TabEnd) : Nat := match e with | .port p => p | .mule e => epMule e | .service => epService

/-- Both endpoints are ports of one folio. -/
def sameFolio (x y : TabEnd) : Bool :=
  match x, y with | .port a, .port b => decide (a / 6 = b / 6) | _, _ => false

/-- Islands of an endpoint's side of a path: folio, quire. -/
def sideIslands (e : TabEnd) : List Nat :=
  match e with | .port p => [p / 6, 16 + p / 24] | .mule e => [16 + e / 2] | .service => [20]

/-- The islands that a path passes through (R22); the spine-link island on paths between quires and to the service block. -/
def tabIslands (x y : TabEnd) : List Nat :=
  if sameFolio x y then (sideIslands x).take 1
  else (sideIslands x ++ (if endQuire x = endQuire y then [] else [20]) ++ sideIslands y).eraseDups

/-- The islands on the path between two ports. -/
def pathIslands (src dst : Nat) : List Nat := tabIslands (.port src) (.port dst)

def State.islLocked (s : State) (pl : Pl) (i : Nat) : Bool := ((s.pln pl).isl.rd i {}).locked

def State.modIsl (s : State) (pl : Pl) (i : Nat) (f : Island → Island) : State :=
  s.modPln pl (fun x => { x with isl := x.isl.upd i {} f })

/-- Every island of a list is locked in a plane. -/
def State.allLocked (s : State) (pl : Pl) (l : List Nat) : Bool := l.all (fun i => s.islLocked pl i)

/-! ### Latency -/

/-- Routers, links and crossings of a path (R101, R102). -/
def pathParts (x y : TabEnd) : Nat × Nat × Nat :=
  let ups := endUp x + endUp y
  match endQuire x, endQuire y with
  | none, none => (0, 0, 0)
  | some a, some b =>
    if sameFolio x y then (1, 0, 0) else if a = b then (1 + ups, ups, ups) else (2 + ups, 1 + ups, 1 + ups)
  | _, _ => (1 + ups, 1 + ups, 1 + ups)

/-- Unloaded head-flit latency of a path without the pair's D (R101). -/
def pathLatency (x y : TabEnd) : Nat :=
  let r := pathParts x y
  (match x with | .port _ => 5 | .mule _ => 2 | .service => 0) + 3 * r.1 + r.2.1 + 3 * r.2.2
    + (match y with | .port _ => 4 | .mule _ => 2 | .service => 0)

/-- ⌈a / b⌉. -/
def ceilDiv (a b : Nat) : Nat := (a + b - 1) / b

/-- Deadline L of a path between two ports, from W and D (R108). -/
def gtDeadline (src dst w d : Nat) : Nat :=
  let x := TabEnd.port src
  let y := TabEnd.port dst
  ceilDiv (pathLatency x y + 3 * (pathParts x y).1 + 4) w + ceilDiv d w

/-! ### Crossings (R97, R99) -/

/-- Index of a pair of quires among the spine links (R23). -/
def pairIndex (a b : Nat) : Nat := spineLink a b 0 / 4

/-- The crossings of a path in order, without plane, each as the codes of the links that it may take: those of a spine group are
alternatives (R66). Bit 8 of a code is the direction; of a spine link, 0 is from the lower to the higher quire (R99; log 18). -/
def pathSteps (x y : TabEnd) : List (List Nat) :=
  if sameFolio x y then []
  else
    let u := (endCode x + endCode y) % 2
    let up := match x with | .port p => [[2 * (p / 6) + u]] | _ => []
    let down := match y with | .port p => [[2 * (p / 6) + u + 256]] | _ => []
    let mid := match endQuire x, endQuire y with
      | some a, some b =>
        if a = b then [] else [(List.range 4).map (fun i => 0x20 + 4 * pairIndex a b + i + (if b < a then 256 else 0))]
      | some a, none => [[0x40 + a]]
      | none, some b => [[0x40 + b + 256]]
      | none, none => []
    up ++ mid ++ down

/-- The crossing codes on a path. -/
def pathCrossings (x y : TabEnd) : List Nat := (pathSteps x y).flatten

/-- The islands on both sides of a crossing (R98); 21 is the control island. -/
def crossingIslands (code : Nat) : List Nat :=
  let c := code % 256
  if c < 0x20 then [c / 2, 16 + c / 8]
  else if c < 0x38 then
    match [(0, 1), (0, 2), (0, 3), (1, 2), (1, 3), (2, 3)][(c - 0x20) / 4]? with
    | some (a, b) => [16 + a, 16 + b]
    | none => []
  else if 0x40 ≤ c ∧ c < 0x44 then [16 + (c - 0x40), 20]
  else if c = 0x48 then [20, 21] else []

/-- A crossing is off-nominal: a result differs from 3 receiver cycles (R98). -/
def offNominal (m : Crossing) : Bool := m.results.any (fun r => decide (r ≠ 3))

/-- The largest of a crossing's results (R100). -/
def largestResult (m : Crossing) : Nat := m.results.foldl max 0

/-- The islands of the part (R22, R30). -/
def State.islands (s : State) : List Nat := List.range s.variant.folios ++ (List.range s.variant.quires).map (16 + ·) ++ [20]

/-- The islands that stand in a plane's table: its own, and the control island beside plane A's (R121). -/
def State.islandsIn (s : State) (pl : Pl) : List Nat := s.islands ++ (match pl with | .a => [21] | .b => [])

/-- The island exists in this part (R22, R30). -/
def State.isIsland (s : State) (pl : Pl) (i : Nat) : Bool := s.allPlanes.contains pl && (s.islandsIn pl).contains i

/-- Number of crossings measured at start-up, all planes (R97). -/
def State.crossings (s : State) : Nat :=
  let v := s.variant
  (2 * (2 * v.folios + v.spineLinks + v.quires) + 2) * (if v.paired then 2 else 1)

/-! ### The table -/

/-- The path crosses an off-nominal crossing of some plane (FLAGS[0]). -/
def State.pathOff (s : State) (x y : TabEnd) : Bool :=
  (pathCrossings x y).any (fun c => s.boot.offList.any (fun o => decide (o.1 % 512 = c)))

/-- The receiver cycles of a crossing: the largest measured in any plane (R100), 3 where every result was nominal. -/
def State.crossingCycles (s : State) (c : Nat) : Nat :=
  (s.allPlanes.map (fun pl =>
    ((s.boot.offList.find? (fun o => decide (o.1 = c + (match pl with | .a => 0 | .b => 512)))).map (·.2)).getD 3)).foldl max 0

/-- BE of an entry (R100): the sum of R101, with what was measured in place of 3 at each crossing. -/
def State.pathBe (s : State) (x y : TabEnd) : Nat :=
  let steps := pathSteps x y
  pathLatency x y + s.img.skew + (steps.map (fun l => (l.map s.crossingCycles).foldl max 0)).sum - 3 * steps.length

/-- An island of the path is unlocked in some plane in service (FLAGS[1]). -/
def State.pathUnlocked (s : State) (x y : TabEnd) : Bool :=
  s.planes.any (fun pl => !s.allLocked pl ((tabIslands x y).filter s.islandOn))

/-- FLAGS of an entry (R100). -/
def State.tabFlags (s : State) (i j : Nat) : Nat :=
  let x := s.tabEnd i
  let y := s.tabEnd j
  let off := s.pathOff x y
  b2n off + 2 * b2n (off || s.pathUnlocked x y) + 4 * b2n (match y with | .port p => s.encrypts p | _ => false)

/-- Entry for source `i` and destination `j` as 8 bytes (R100). -/
def State.tabEntry (s : State) (i j : Nat) : Nat :=
  let x := s.tabEnd i
  let y := s.tabEnd j
  let r := pathParts x y
  let xts := match y with | .port p => if s.encrypts p then 4 else 0 | _ => 0
  let gt := match x, y with | .port p, .port q => gtDeadline p q s.img.w s.img.skew | _, _ => 0
  r.1 + r.2.2 * 2 ^ 8 + s.pathBe x y % 2 ^ 16 * 2 ^ 16 + xts * 2 ^ 32 + gt * 2 ^ 40 + s.tabFlags i j * 2 ^ 48

/-- The 64 bytes with entries `8*k` to `8*k + 7` of the table. -/
def State.tabLine (s : State) (k : Nat) : Line :=
  let n := s.pltN
  BitVec.ofNat 512 ((List.range 8).foldl (fun a m =>
    let e := 8 * k + m
    if n * n ≤ e then a else a + s.tabEntry (e / n) (e % n) * 2 ^ (64 * m)) 0)

/-- A write of one granule of the table by the service block, at M level (R72, R99). -/
def pltOut (addr : Nat) (ben : BitVec 64) (d : Line) : SbOut :=
  { tag := none, purpose := .plt, write := true, ll := false, owner := 0, priv := 3, addr := addr, span := 1, ben := ben,
    data := [d], page := none }

/-- Adds writes of the table in every plane in service, and issues what may go. -/
def State.pltAdd (s : State) (l : List SbOut) : State :=
  s.eachPlane (fun pl t => (t.modSb pl (fun b => { b with outs := b.outs ++ l })).sbIssue pl)

/-- The writes of all entries (R99). -/
def State.pltEntries (s : State) : State :=
  let n := s.pltN * s.pltN
  s.pltAdd ((List.range (ceilDiv n 8)).map (fun k =>
    pltOut (s.img.plt + 64 + 64 * k) (if 8 * k + 8 ≤ n then benAll else benRange 0 (8 * (n - 8 * k))) (s.tabLine k)))

/-- No write of the table is unanswered in a plane in service (R99). -/
def State.pltWritten (s : State) : Bool := s.planes.all (fun pl => (s.sb pl).outs.all (fun o => decide (o.purpose ≠ .plt)))

/-- The header (R99); SLOT is the slot in which it is written. -/
def State.pltHeader (s : State) : Line :=
  BitVec.ofNat 512 (1 + s.pltN * 2 ^ 32 + s.img.w * 2 ^ 48 + s.img.skew * 2 ^ 56 + s.now * 2 ^ 64
    + s.boot.measured * 2 ^ 128 + s.boot.offList.length * 2 ^ 144 + s.boot.firstOff * 2 ^ 160)

/-- Writes FLAGS again in every entry whose path a test picks, once the table has been written (R119, R120). -/
def State.pltFlags (s : State) (hit : TabEnd → TabEnd → Bool) : State :=
  if !s.pltDone then s
  else
    let n := s.pltN
    let line (k : Nat) : Option SbOut :=
      let es := (List.range 8).filter (fun m => decide (8 * k + m < n * n) && hit (s.tabEnd ((8 * k + m) / n)) (s.tabEnd ((8 * k + m) % n)))
      if es.isEmpty then none
      else some (pltOut (s.img.plt + 64 + 64 * k) (BitVec.ofNat 64 (es.foldl (fun a m => a + 2 ^ (8 * m + 6)) 0))
        (BitVec.ofNat 512 (es.foldl (fun a m => a + s.tabFlags ((8 * k + m) / n) ((8 * k + m) % n) * 2 ^ (64 * m + 48)) 0)))
    s.pltAdd ((List.range (ceilDiv (n * n) 8)).filterMap line)

end Sys2Proof.Machine
end

