-- ==== Sys2Proof/Machine/Tick.lean ====
section
/-!
DEFINITION. What happens in a plane in every fc whatever is commanded (log 3).
-/
namespace Sys2Proof.Machine

/-- The lock with HOLD one fc on, not beyond its group's LIMIT (R56). -/
def Lock.tick (l : Lock) (limit : Nat) : Lock :=
  if l.state = .held then { l with hold := min (l.hold + 1) limit } else l

/-- Number of tags an NI has in use for class `c`, any class when `any?`, for pieces that `f` picks (R323 code 0x0B). -/
def Ni.tagsInUse (n : Ni) (c : Nat) (any? : Bool) (f : Piece → Bool) : Nat :=
  ((n.out ++ n.gtq.flatMap (·.2)).filter (fun q => q.tag.isSome && (any? || decide (q.cls = c)) && f q)).length

/-- The channels of an engine that wait for their rate limiter (R218, R323 code 0x04). -/
def State.rateWaits (s : State) (pl : Pl) (e : Nat) (hit : Nat → Bool) : Nat :=
  ((s.mul pl e).chans.filter (fun (c, x) =>
    hit c && decide (s.pf pl (bChan e c + 0x44) 0 3 = 1 ∧ s.fc < x.nextOk) && !x.listing
      && decide (x.pos < (if x.dirtyLines.isEmpty then (s.p pl (bChan e c + 0x10)).toNat else 64 * x.dirtyLines.length)))).length

/-- READY is low on a port's Stitch request channel: the port takes nothing, or a request is held there (R43, R44, R305). -/
def State.readyLow (s : State) (pl : Pl) (p : Nat) : Bool :=
  let n := s.ni pl p
  !((s.port p).live && (s.port p).ready) || n.chHeld.isSome || n.wait.any (fun q => q.posted && !q.inBuf)

/-- The kettle link carries a word in this fc: the sweep runs, or the copy before a join ends (R247, R248). -/
def State.kettleBusy (s : State) : Bool :=
  decide (s.pair.a = .sweep ∨ s.pair.b = .sweep) || (s.pair.resumeWait && decide (s.fc < s.pair.sinceFc + 512))

/--
How much a counter adds in one fc for the codes that count fc (R323, R324). Code 0x0C of an NI counts the fc in which
the unit's VALID waits for READY; the unit's pins are outside the block, so whether VALID is high while READY is low is
free (log 9).
-/
def State.perFc (s : State) (pl : Pl) (idx : Nat) : Nat :=
  let sel := s.p pl (ctrBase idx)
  let code := fld sel 0 8
  let mine (q : Piece) : Bool := !bit sel 24 || decide (ownerIf q.priv q.owner = some (fld sel 20 4))
  if code = 1 then b2n (768 ≤ idx || !bit sel 24)
  else if idx < 768 then
    let n := s.ni pl (idx / 8)
    (if code = 0x0B then n.tagsInUse (fld sel 8 5) (bit sel 13) mine
     else if code = 0x07 then b2n (n.entered.any (fun q => n.held4546 q && mine q))
     else if code = 0x0C then b2n (s.readyLow pl (idx / 8) && bit (Config.freeWord (s.freeNo pl)) 0) else 0)
  else if 928 ≤ idx ∧ idx < 960 then
    let e := (idx - 928) / 4
    (if code = 4 then s.rateWaits pl e (fun c => bit sel 13 || decide (c = fld sel 8 5))
     else if code = 5 then b2n (64 ≤ (s.mul pl e).reserved) else 0)
  else if 960 ≤ idx ∧ idx < 976 then
    (if code = 0x07 then ((s.sb pl).migs.filter (fun m => decide (4 ≤ m.step ∧ m.step ≤ 5))).length
     else if code = 0x08 then b2n (s.sb pl).timed else 0)
  else if 984 ≤ idx ∧ idx < 992 then
    (if code = 0x06 then ((s.sb pl).locks.filter (fun l => decide (l.2.state = .held))).length else 0)
  else if 992 ≤ idx then (if code = 0x04 then b2n s.kettleBusy else 0)
  else 0

/-- The host of a counter is in Run or Idle (R323). -/
def State.ctrHostUp (s : State) (idx : Nat) : Bool :=
  if idx < 768 then s.quireUp (idx / 192) else if idx < 896 then s.quireUp ((idx - 768) / 32)
  else if idx < 928 then s.quireUp ((idx - 896) / 8) else if idx < 960 then s.quireUp ((idx - 928) / 8)
  else decide (s.pw.dev = .run ∨ s.pw.dev = .idle)

/-- The free value that a counter's fc used is used up (log 9). -/
def State.useFree (s : State) (pl : Pl) (idx : Nat) : State :=
  if idx < 768 ∧ fld (s.p pl (ctrBase idx)) 0 8 = 0x0C then s.usedFree pl else s

/-- The counters of a plane that a fc adds to: those with a listed selection word that enables them. -/
def State.tickCounters (s : State) (pl : Pl) : State :=
  ((s.pln pl).rf.filterMap (fun x => match ctrOf x.1 with
      | some (idx, 0) => if bit x.2 16 then some idx else none
      | _ => none)).foldl
    (fun t idx =>
      let n := t.perFc pl idx
      let u := if 0 < n ∧ t.ctrHostUp idx ∧ !t.ctrChained pl idx then t.ctrAdd 16 pl idx n else t
      u.useFree pl idx) s

/-- One fc of a plane. Lock HOLD counters stop during a join pause (R248). -/
def State.tickPlane (pl : Pl) (s : State) : State :=
  let s := if s.pair.joining.isSome then s
    else s.modSb pl (fun b => { b with locks := b.locks.map (fun x => (x.1, x.2.tick (s.pf pl (rLockLimit (x.1 / 64)) 0 13))) })
  s.tickCounters pl

end Sys2Proof.Machine
end

