-- ==== Sys2Proof/Machine/Timing.lean ====
section
/-!
DEFINITION. The slot boundary and its per-slot work (R76, R92, R106, R119, R152, R252, R295), island lock (R91, R92, R98,
R119, R120), and the GT release buffer (R109, R110, R242).
-/
namespace Sys2Proof.Machine

/-! ### Loss of lock -/

/-- The pieces of a disabled stream that wait for admission go on LL (R105, R119). -/
def State.gtReturn (s : State) (pl : Pl) (p n : Nat) : State :=
  let qs := (s.ni pl p).gtq.rd n []
  let s := s.modNi pl p (fun x => { x with gtq := x.gtq.wr n [] [] })
  let a := qs.foldl (fun (a : State × List Piece) q =>
    let r := a.1.demote pl p { q with tag := none }
    (r.1, a.2 ++ [r.2])) (s, [])
  (a.1.modNi pl p (fun x => { x with wait := a.2 ++ x.wait })).niSettle pl p

/-- A stream's return reservation is disabled, or enabled again (R119, R120). -/
def State.gtReserve (s : State) (pl : Pl) (r : GtRec) (off : Bool) : State :=
  s.modNi pl r.dest (fun n => { n with
    rets := n.rets.map (fun x => if x.src = r.src ∧ x.stream = r.stream then { x with off := off } else x) })

/-- Disables a stream at its source NI, and its return reservation (R119, R298). -/
def State.gtDisable (s : State) (pl : Pl) (r : GtRec) : State :=
  let s := s.gtReserve pl r true
  if bit (s.p pl (bNi r.src + 0x508)) r.stream then s
  else (s.por pl (bNi r.src + 0x508) (bitMask r.stream)).gtReturn pl r.src r.stream

/-- At a slot boundary: streams and reservations whose path passes an unlocked island are disabled (R119, R282). -/
def State.gtDisableUnlocked (s : State) (pl : Pl) : State :=
  if !s.done then s
  else (s.img.gt.filter (fun r => !s.allLocked pl (pathIslands r.src r.dest))).foldl (fun t r => t.gtDisable pl r) s

/-- FLAGS[1] is set in the entries of paths through islands that have become unlocked (R119). -/
def State.markUnlocked (s : State) (pl : Pl) : State :=
  let new := (List.range 21).filter (fun i =>
    s.islandOn i && !s.islLocked pl i && !((s.pln pl).isl.rd i {}).marked)
  if new.isEmpty || !s.pltDone then s
  else
    let s := new.foldl (fun t i => t.modIsl pl i (fun x => { x with marked := true })) s
    s.pltFlags (fun x y => (tabIslands x y).any (fun i => new.contains i))

/-- An island loses its lock (R119): lock bit, count, event, and the Bellwether's degraded state (R150). Its 256 slots of R91
start again. -/
def State.unlock (s : State) (pl : Pl) (i : Nat) : State :=
  let t := s.modIsl pl i (fun x => { x with locked := false, disagree := 0, coin := 0 })
  if !s.islLocked pl i then t
  else ((t.ginc rTiming 16 16 1).occurInfo 372 (i + (match pl with | .a => 0 | .b => 256))).timedCheck pl

/-- ISLAND_UNLOCK (R119): the phase detector has missed its window, or the slot copies disagree. -/
def execIslandUnlock (pl : Pl) (i : Nat) (s : State) : Out :=
  .next (if s.isIsland pl i then s.unlock pl i else s)

/-- A return that began at `x` has brought the clocks back (R293). -/
def clocksBack (x : Option Nat) (now : Nat) : Bool := match x with | some b => decide (b + 600 ≤ now) | none => false

/-- The island's clocks run: the fabric is out of reset, the plane has not failed, and the island's quire has not stopped or
returns (R281, R292, R293). -/
def State.islandRuns (s : State) (pl : Pl) (i : Nat) : Bool :=
  (decide (i = 21) || ((s.fabricUp || decide (s.phase = 6)) && decide (s.plState pl ≠ .failed)))
    && (s.islandOn i || clocksBack (if i < 16 then (s.qp (i / 4)).exitAt
      else if i < 20 then (s.qp (i - 16)).exitAt else s.pw.devExitAt) s.now)

/-- The slot that a plane is in: plane B has not yet received the latest edges (R233). -/
def State.planeSlot (s : State) (pl : Pl) : BitVec 64 :=
  match pl with | .a => s.slot | .b => s.slot - BitVec.ofNat 64 s.pair.edges.length

/-- An island becomes locked and loads its slot copy (R92). -/
def State.lockIsland (s : State) (pl : Pl) (i : Nat) : State :=
  s.modIsl pl i (fun x => { x with locked := true, copy := s.planeSlot pl, disagree := 0 })

/-- Crossing codes of a plane that touch an island (R99). -/
def codeTouches (pl : Pl) (i code : Nat) : Bool :=
  (crossingIslands code).contains i && (decide (i = 21) || decide (code / 512 % 2 = (match pl with | .a => 0 | .b => 1)))

/-- The off-nominal crossings on record; the first stands in the table's header (R99). -/
def State.setOff (s : State) (l : List (Nat × Nat)) : State :=
  { s with boot := { s.boot with offList := l, firstOff := (l.head?.map (·.1)).getD 0 } }

/-- What was on record of an island's crossings is superseded by a new measurement (R120). -/
def State.forgetOff (s : State) (pl : Pl) (i : Nat) : State := s.setOff (s.boot.offList.filter (fun o => !codeTouches pl i o.1))

/-- The island is locked again, and FLAGS[1] goes where no other island of the path is unlocked (R120). -/
def State.relocked (s : State) (pl : Pl) (i : Nat) : State :=
  let marked := ((s.pln pl).isl.rd i {}).marked
  let s := (s.lockIsland pl i).modIsl pl i (fun x => { x with marked := false, gaveUp := false })
  if marked then s.pltFlags (fun x y => (tabIslands x y).contains i) else s

/-- R91 is met: 256 consecutive slots with an edge in the window. -/
def State.lockDue (s : State) (pl : Pl) (i : Nat) : Bool := decide (256 ≤ ((s.pln pl).isl.rd i {}).coin)

/-- A crossing of the island is on record as off-nominal (R98). -/
def State.offAt (s : State) (pl : Pl) (i : Nat) : Bool := s.boot.offList.any (fun o => codeTouches pl i o.1)

/-- The islands of a list that meet R91 are locked, but for those with an off-nominal crossing: what was measured of them has
come with ISLAND_RELOCK (R120, R246, R293; log 18). -/
def State.lockDueIn (s : State) (pl : Pl) (l : List Nat) : State :=
  (l.filter (fun i => s.lockDue pl i && !s.offAt pl i)).foldl (fun t i => t.relocked pl i) s

/-- ISLAND_LOCK (R91, R92): the first lock, of the control island in phase 0 and of the fabric islands in phase 6 (R281); in
the minimal window the islands run unlocked (R285). -/
def execIslandLock (pl : Pl) (i : Nat) (s : State) : Out :=
  .next (if s.isIsland pl i && (if i = 21 then decide (s.phase ≤ 6) else decide (s.phase = 6)) && s.lockDue pl i && !s.islLocked pl i
    then s.lockIsland pl i else s)

/-- A measurement (R97, R98): the off-nominal crossings are recorded and counted, and unlock the islands on both sides. The
crossings that the list does not name gave 3 each time. -/
def State.recordOff (s : State) (m : List Crossing) : State :=
  let off := m.filter offNominal
  let s := s.setOff (s.boot.offList.filter (fun o => off.all (fun c => decide (c.code ≠ o.1))) ++ off.map (fun c => (c.code, largestResult c)))
  let s := s.ginc rTiming 8 8 off.length
  off.foldl (fun t c =>
    let pl : Pl := if c.code / 512 % 2 = 1 then .b else .a
    (crossingIslands c.code).foldl (fun t i => t.unlock (if i = 21 then .a else pl) i) t) s

/-- ISLAND_RELOCK (R120): R91 is met again and the crossings have been measured. -/
def execIslandRelock (pl : Pl) (i : Nat) (measured : List Crossing) (s : State) : Out :=
  .next (if s.isIsland pl i && s.islandRuns pl i && s.lockDue pl i && !s.islLocked pl i && decide (s.phase ≠ 6) && !s.minimal then
    let s := s.forgetOff pl i
    if measured.any offNominal then s.recordOff measured else s.relocked pl i
  else s)

/-! ### GT admission (R106) -/

/-- Refills the buckets of an NI. -/
def State.gtRefill (s : State) (pl : Pl) (p : Nat) : State :=
  let out := s.img.gt.filter (fun r => decide (r.src = p))
  s.modNi pl p (fun n =>
    { n with
      tok := out.foldl (fun t r => t.wr r.stream (min (t.rd r.stream 0 + r.rate) (256 * r.burst)) 0) n.tok,
      rets := n.rets.map (fun x => match s.gtRec x.src x.stream with
        | some r => { x with tok := min (x.tok + r.rate) (256 * r.burst) } | none => x) })

/-- The header of a GT packet with its ISLOT (R35). -/
def withIslot (h : BitVec 64) (slot : Nat) : BitVec 64 := setFld h 48 4 (slot % 16)

/-- Number of a return reservation in the rotating order of its NI, which the manual does not give: by source, then by stream
(DESIGN CHOICE, log 39). -/
def RetRes.key (r : RetRes) : Nat := r.src * 32 + r.stream

/-- The head packet of a reservation is ready and has tokens, and the reservation is enabled (R119). -/
def RetRes.fits (r : RetRes) : Bool :=
  match r.queue with | f :: _ => !r.off && decide (256 * f.length ≤ r.tok) | [] => false

/-- Flits of a GT request piece (R105). -/
def gtFlits (q : Piece) : Nat := if q.kind = kWrite then 2 else 1

/-- The head packet of a stream is waiting, enabled, and has tokens. -/
def State.streamFits (s : State) (pl : Pl) (p n : Nat) : Bool :=
  let x := s.ni pl p
  match x.gtq.rd n [] with
  | q :: _ => decide (256 * gtFlits q ≤ x.tok.rd n 0) && !bit (s.p pl (bNi p + 0x508)) n
  | [] => false

/-- The packet at the head of a reservation enters NI ingress. -/
def State.admitRet (s : State) (pl : Pl) (p : Nat) (r : RetRes) : State :=
  match r.queue with
  | [] => s
  | fs :: rest =>
    let fs := fs.map (fun f => { f with hdr := withIslot f.hdr s.now, since := s.fc })
    (s.modNi pl p (fun n => { n with
      rets := n.rets.map (fun x => if x.key = r.key then { x with tok := x.tok - 256 * fs.length, queue := rest } else x),
      rptr := r.key + 1 })).niPass pl p 0 fs

/-- The piece at the head of a stream enters NI ingress. -/
def State.admitStream (s : State) (pl : Pl) (p n : Nat) : State :=
  match (s.ni pl p).gtq.rd n [] with
  | [] => s
  | q :: rest =>
    let q : Piece := { q with sent := true }
    let s := s.modNi pl p (fun x => { x with
      gtq := x.gtq.wr n rest [], out := x.out ++ [q], tok := x.tok.upd n 0 (· - 256 * gtFlits q), gptr := n + 1 })
    (s.countNi pl p 0x02 0 (ownerIf q.priv q.owner)).sendPiece pl p q

/-- Admission at NI `p`: return reservations first, then request streams; at most one packet (R106). None during a join
pause (R248). -/
def State.gtAdmit (s : State) (pl : Pl) (p : Nat) : State :=
  let s := s.gtRefill pl p
  if s.pair.joining.isSome || !(s.port p).live then s
  else
    let n := s.ni pl p
    match rotatePick ((n.rets.filter RetRes.fits).map RetRes.key) n.rptr 3072 with
    | some k => (match n.rets.find? (fun r => decide (r.key = k)) with | some r => s.admitRet pl p r | none => s)
    | none =>
      match rotatePick ((List.range 32).filter (s.streamFits pl p)) n.gptr 32 with
      | some m => s.admitStream pl p m
      | none => s

/-- Admission at every NI at which a stream starts or ends. -/
def State.gtAdmitAll (s : State) (pl : Pl) : State :=
  if !s.done then s
  else ((s.img.gt.flatMap (fun r => [r.src, r.dest])).eraseDups).foldl
    (fun t p => if t.quireUp (p / 24) then t.gtAdmit pl p else t) s

/-! ### The slot boundary -/

/-- The window of a router ends (R76): shares are refilled, and an input that asked and got no tier-2 grant is aged. -/
def Router.window (r : Router) : Router :=
  { r with
    aged := (r.asked.filter (fun x => !r.won.rd x.1 false)), spent := [], asked := [], won := [] }

/-- The slot edge of an island: the slots of R91, the copy, and its check against the master's event counter (R92). -/
def Island.slotEdge (v : Island) (runs : Bool) (slot : BitVec 64) : Island :=
  let v := { v with coin := if runs then min 256 (v.coin + 1) else 0 }
  if v.locked then
    let c := v.copy + 1
    { v with copy := c, disagree := if fld c 0 8 = fld slot 0 8 then 0 else v.disagree + 1 }
  else v

/-- The slot edge of the islands of a plane; two disagreements in a row unlock an island (R92). -/
def State.slotIslands (s : State) (pl : Pl) (slot : BitVec 64) : State :=
  let s := s.modPln pl (fun x => { x with isl := (s.islandsIn pl).foldl (fun t i =>
    t.upd i {} (fun v => v.slotEdge (s.islandRuns pl i) slot)) x.isl })
  (((s.pln pl).isl.filter (fun x => decide (2 ≤ x.2.disagree))).map (·.1)).foldl (fun t i => t.unlock pl i) s

/-- The per-slot work of a plane in service inside the plane: its routers and its Bellwether. -/
def State.slotInside (pl : Pl) (s : State) : State :=
  (s.modPln pl (fun x => { x with
    frt := x.frt.map (fun y => (y.1, y.2.window)), qrt := x.qrt.map (fun y => (y.1, y.2.window)) })).timedSlot pl

/-- The per-slot work of a plane in service at the halves of its NIs. -/
def State.slotEnds (pl : Pl) (s : State) : State := (s.gtDisableUnlocked pl).markUnlocked pl |>.gtAdmitAll pl

/-- The slot edge, with slot `slot`, comes to the islands of a plane. -/
def State.planeEdge (s : State) (pl : Pl) (slot : BitVec 64) : State :=
  let s := s.slotIslands pl slot
  if s.pw.dev = .run ∧ s.runs pl then s.slotInside pl else s

/-- The slot edges that plane B receives in this fc, D fc after plane A (R233). -/
def State.lateEdges (s : State) : State :=
  let due := s.pair.edges.filter (fun e => decide (e.1 ≤ s.fc))
  due.foldl (fun t e => t.planeEdge .b e.2)
    { s with pair := { s.pair with edges := s.pair.edges.filter (fun e => decide (s.fc < e.1)) } }

/-- The slot edge at every plane: at plane A now, at plane B after D fc (R233). -/
def State.slotEdges (s : State) : State :=
  let s := s.planeEdge .a s.slot
  if !s.variant.paired then s
  else if s.img.skew = 0 then s.planeEdge .b s.slot
  else { s with pair := { s.pair with edges := s.pair.edges ++ [(s.fc + s.img.skew, s.slot)] } }

/-- Flits of half B that leave the ingress delay register of port `p` in this fc (R234). -/
def State.ingressPass (s : State) (p : Nat) : State :=
  let l := (s.port p).ingress
  let s := s.modPort p (fun x => { x with ingress := l.filter (fun e => decide (s.fc < e.1)) })
  s.modNi .b p (fun n => { n with
    tx := (l.filter (fun e => decide (e.1 ≤ s.fc))).foldl (fun t e => pushAt t (hVc e.2.hdr) [e.2]) n.tx })

/-- What reaches plane B in this fc, D fc after it came to the shared edge (R233, R234). -/
def State.skewed (s : State) : State :=
  let s := if s.pair.edges.isEmpty then s else s.lateEdges
  ((s.ports.filter (fun x => !x.2.ingress.isEmpty)).map (·.1)).foldl State.ingressPass s

/-- The slots for which nothing has entered a quire, and those for which it has stayed in Idle (R295). -/
def QPower.slotPass (x : QPower) : QPower :=
  { x with
    quiet := if x.flitSeen then 0 else x.quiet + 1, flitSeen := false,
    idleSlots := if x.state = .idle then x.idleSlots + 1 else 0 }

/-- Groups that machine software has released reach their operational level, unless a cause or the pad hold stands
against it (R252, R308). -/
def Pads.release (p : Pads) (cause : BitVec 4) : Pads :=
  { p with safe := p.safe ||| (p.releasePend &&& ~~~cause &&& ~~~p.safePend), releasePend := 0 }

/-- The slot reference runs (R281, R292): not in device reset, in Off, or in Deep sleep before the return begins. -/
def State.referenceRuns (s : State) : Bool :=
  !s.boot.inReset && decide (s.pw.dev ≠ .off) && (decide (s.pw.dev ≠ .deep) || s.pw.devExitAt.isSome)

/-- Every island of every plane loses its lock (R120). -/
def State.unlockAll (s : State) : State :=
  s.allPlanes.foldl (fun t pl => (s.islandsIn pl).foldl (fun t i => t.unlock pl i) t) s

/-- One fc of the block; while the device sleeps, no clock of an island runs (R292, R300). A slot has W fc (R90): when they are
over and no slot edge has come, the slot reference is lost and every island unlocks (R119, R120). -/
def State.tick (s : State) : State :=
  if !s.referenceRuns then { s with fc := s.fc + 1 }
  else
    let s := if s.boot.slotSeen && decide (s.img.w ≤ s.fcInSlot) then s.unlockAll else s
    let s := if s.pw.dev = .run then s.eachPlane State.queueFcEnd else s
    let s := ({ s with fc := s.fc + 1, fcInSlot := s.fcInSlot + 1 } : State).skewed
    if s.pw.dev = .run then s.eachPlane State.tickPlane else s

/-- The fc that remain of the slot pass (R90). -/
def State.runFc (n : Nat) (s : State) : State :=
  match n with
  | 0 => s
  | n + 1 => State.runFc n s.tick

/-- SLOT_BOUNDARY (R92, R106, R76): the slot counter becomes 0 at the first edge after reset and counts from then on. What
is left of the old slot's W fc passes first (log 18). No slot passes while the slot reference is off (R292). -/
def execSlotBoundary (s : State) : Out :=
  .next (if !s.referenceRuns then s
    else if !s.boot.slotSeen then { s with slot := 0, fcInSlot := 0, boot := { s.boot with slotSeen := true } }
    else
      let s := (State.runFc (s.img.w - s.fcInSlot) s).beginHolds
      let s : State := { s with slot := s.slot + 1, fcInSlot := 0 }
      let s := s.slotEdges
      let s := if s.pw.dev = .run then s.eachPlane State.slotEnds else s
      { s with
        pads := { s.pads.release (BitVec.ofNat 4 (s.gf rSafeState 8 4)) with snapOut := false },
        pw := { s.pw with q := (List.range s.variant.quires ++ [4]).foldl (fun t q => t.upd q {} QPower.slotPass) s.pw.q } })

/-! ### Streams enabled again (R120, R302) -/

/-- A stream's ends are live and its path is locked. -/
def State.gtMayRun (s : State) (pl : Pl) (r : GtRec) : Bool :=
  (s.port r.src).live && (s.port r.dest).live && s.allLocked pl (pathIslands r.src r.dest)

/-- Buckets of a stream and its reservation are full (R106, R120). -/
def State.gtFill (s : State) (pl : Pl) (r : GtRec) : State :=
  (s.modNi pl r.src (fun n => { n with tok := n.tok.wr r.stream (256 * r.burst) 0 })).modNi pl r.dest (fun n => { n with
    rets := n.rets.map (fun x => if x.src = r.src ∧ x.stream = r.stream then { x with tok := 256 * r.burst, off := false } else x) })

/-- GT_STREAM_ENABLE: at a boundary k with k mod 16 = 0 (R120, R302). -/
def execGtStreamEnable (s : State) : Out :=
  .next (if s.fcInSlot = 0 ∧ s.now % 16 = 0 ∧ s.done then
    s.eachPlane (fun pl s =>
      (s.img.gt.filter (fun r => bit (s.p pl (bNi r.src + 0x508)) r.stream && s.gtMayRun pl r)).foldl
        (fun t r => (t.pfset pl (bNi r.src + 0x508) r.stream 1 0).gtFill pl r) s)
  else s)

/-! ### The GT release buffer (R109, R110, R242) -/

/-- The number of the fc now, counted from slot 0. -/
def State.absFc (s : State) : Nat := s.now * s.img.w + s.fcInSlot

/-- The fc in which a flit arrived, on the same count. -/
def State.arrivedAt (s : State) (f : Flit) : Nat := s.absFc - (s.fc - f.since)

/-- Offset of flit `j` of a packet from fc 0 of the slot with age L: LANE + 2 + j, and 4 more for a request at an encrypting
port of the T96-P (R242). -/
def State.laneOffset (s : State) (p : Nat) (g : GtPkt) (j : Nat) : Nat :=
  g.lane + 2 + j + (if s.variant.paired && s.encrypts p && g.request then 4 else 0)

/-- The release fc of flit `j` (R109), and whether the flit is late for it (R110). -/
def State.releaseAt (s : State) (p : Nat) (g : GtPkt) (j : Nat) (f : Flit) : Nat × Bool :=
  let w := max s.img.w 1
  let arr := s.arrivedAt f
  let age := (arr / w + 16 - g.islot % 16) % 16
  let offArr := age * w + arr % w
  let offRel := g.limit * w + s.laneOffset p g j
  (arr + offRel - offArr, decide (offRel < offArr))

/-- The next flit of a packet, if it has arrived: its release fc and whether it is late. -/
def State.nextGt (s : State) (p : Nat) (g : GtPkt) : Option (Nat × Bool) :=
  (g.flits[g.nextFlit]?).map (fun f => s.releaseAt p g g.nextFlit f)

/-- A release is due: the packet's next flit arrived in time and its release fc has come. -/
def State.gtDue (s : State) (p : Nat) (g : GtPkt) : Bool :=
  match s.nextGt p g with | some (t, late) => !late && decide (t ≤ s.absFc) | none => false

/-- The packet's next flit is late. -/
def State.gtLate (s : State) (p : Nat) (g : GtPkt) : Bool :=
  match s.nextGt p g with | some (_, late) => late | none => false

/-- Inbox of a released packet: requests 7, late ones 8; responses 0, late ones 9. -/
def GtPkt.box (g : GtPkt) : Nat := if g.request then (if g.late then 8 else 7) else (if g.late then 9 else 0)

/-- The packet's next flit passes; after the last flit the packet is at the NI. -/
def State.gtPass (s : State) (p : Nat) (g : GtPkt) (late : Bool) : State :=
  let h := (g.flits.head?.map (·.hdr)).getD 0
  let g2 : GtPkt := { g with nextFlit := g.nextFlit + 1, late := g.late || late }
  let last := decide (hLen h < g2.nextFlit)
  let s := s.modPort p (fun x => { x with
    gtRel := if last then x.gtRel.erase g else x.gtRel.map (fun y => if y = g then g2 else y) })
  s.eachPlane (fun pl t =>
    let t := if late then (t.pinc pl (bNi p + 0x500) 0 32 1).niEvent pl p 1
      else t.countNi pl p 0x0D 0 (ownerIf (hPriv h) (hOwner h))
    if last then t.modNi pl p (fun n => { n with inbox := pushAt n.inbox g2.box g2.flits }) else t)

/-- GT_RELEASE (R109): the first flit in the buffer whose release is due. -/
def execGtRelease (p : Nat) (s : State) : Out :=
  .next (match (s.port p).gtRel.find? (fun g => s.gtDue p g) with
    | some g => s.gtPass p g false
    | none => s)

/-- GT_LATE_DELIVERY (R110): the first late flit, when no release is due on its channel. -/
def execGtLateDelivery (p : Nat) (s : State) : Out :=
  .next (match (s.port p).gtRel.find? (fun g => s.gtLate p g) with
    | some g => if (s.port p).gtRel.any (fun x => decide (x.request = g.request) && s.gtDue p x) then s else s.gtPass p g true
    | none => s)

end Sys2Proof.Machine
end

