-- ==== Sys2Proof/Machine/MuleBase.lean ====
section
/-!
DEFINITION. The Mule engines (R206 to R231): register access, walks, bursts, requests, and the ends of a channel.
-/
namespace Sys2Proof.Machine

/-! ### Registers of a channel -/

/-- A register word of a channel. -/
def State.creg (s : State) (pl : Pl) (e c off : Nat) : W32 := s.p pl (bChan e c + off)

def State.csetN (s : State) (pl : Pl) (e c off v : Nat) : State := s.pset pl (bChan e c + off) (BitVec.ofNat 32 v)

/-- A 48-bit address in two registers of a channel. -/
def State.caddr (s : State) (pl : Pl) (e c off : Nat) : Nat :=
  (s.creg pl e c off).toNat + fld (s.creg pl e c (off + 4)) 0 16 * 2 ^ 32

/-- Channel 3 belongs to the Bellwether (R143, R207). -/
def State.bellwetherChan (s : State) (pl : Pl) (c : Nat) : Bool := decide (c = 3) && bit (s.p pl rPlcCtrl) 0

/-- The migration that engine `e` serves. -/
def State.engineMig (s : State) (pl : Pl) (e : Nat) : Option Mig := (s.sb pl).migs.find? (fun m => decide (m.engine = e))

/-- OWNER of a channel's traffic (R143, R224). -/
def State.chOwner (s : State) (pl : Pl) (e c : Nat) : Nat :=
  if s.bellwetherChan pl c then (match s.engineMig pl e with | some m => eOwner (s.entry pl m.page) | none => 0)
  else fld (s.creg pl e c 0x5C) 0 4

/-- LEVEL of a channel's traffic (R143, R224). -/
def State.chLevel (s : State) (pl : Pl) (e c : Nat) : Nat :=
  if s.bellwetherChan pl c then 1 else fld (s.creg pl e c 0x5C) 4 2

/-- The frozen recopy of step 5 runs at priority 3 and share 256 (R140). -/
def State.recopying (s : State) (pl : Pl) (e c : Nat) : Bool :=
  s.bellwetherChan pl c && (match s.engineMig pl e with | some m => decide (m.step = 5) && !m.stopping | none => false)

def State.chPrio (s : State) (pl : Pl) (e c : Nat) : Nat := if s.recopying pl e c then 3 else fld (s.creg pl e c 0x5C) 8 2

def State.chShare (s : State) (pl : Pl) (e c : Nat) : Nat := if s.recopying pl e c then 256 else fld (s.creg pl e c 0x5C) 16 9

/-- A field of CH_MODE. -/
def State.chMode (s : State) (pl : Pl) (e c lo len : Nat) : Nat := fld (s.creg pl e c 0x34) lo len

/-- Sets IGNORED (R209, R210). -/
def State.setIgnored (s : State) (pl : Pl) (e c : Nat) : State := s.por pl (bChan e c + 0x44) (bitMask 15)

/-! ### Walks (R212) -/

/-- One side of a walk. -/
structure Walk where
  mode : Nat
  base : Nat
  len : Nat
  stride : Nat
  lines : Nat
  list : List (Nat × Nat)

/-- The source or destination walk of a channel. -/
def State.walk (s : State) (pl : Pl) (e c : Nat) (dst : Bool) : Walk :=
  let x := s.chan pl e c
  let o := if dst then 0x20 else 0x14
  { mode := s.chMode pl e c (if dst then 4 else 2) 2, base := s.caddr pl e c (if dst then 8 else 0),
    len := (s.creg pl e c o).toNat, stride := (s.creg pl e c (o + 4)).toNat, lines := fld (s.creg pl e c (o + 8)) 0 16,
    list := if dst then x.dstList else x.srcList }

/-- A 32-bit stride as a signed number. -/
def signed32 (v : Nat) : Int := if v < 2 ^ 31 then (v : Int) else (v : Int) - 2 ^ 32

/-- First byte of line `i` of a 2-D side. -/
def Walk.lineAddr (w : Walk) (i : Nat) : Int := (w.base : Int) + (i : Int) * signed32 w.stride

/-- The entry that holds stream byte `n` of a LIST side: address of the byte, bytes left in the entry. -/
def listAt (l : List (Nat × Nat)) (n : Nat) : Option (Nat × Nat) :=
  match l with
  | [] => none
  | (a, len) :: rest => if n < len then some (a + n, len - n) else listAt rest (n - len)

/-- Address of stream byte `n`, and the bytes left in its line or entry. -/
def Walk.at (w : Walk) (n : Nat) : Option (Nat × Nat) :=
  if w.mode = 0 then some (w.base + n, 2 ^ 33)
  else if w.mode = 1 then
    if w.len = 0 then none else some ((w.lineAddr (n / w.len) + (n % w.len : Nat)).toNat, w.len - n % w.len)
  else if w.mode = 2 then listAt w.list n else none

/-- Stream length of what the channel moves: COUNT, or the dirty lines of a recopy. -/
def State.chTotal (s : State) (pl : Pl) (e c : Nat) : Nat :=
  let l := (s.chan pl e c).dirtyLines
  if l.isEmpty then (s.creg pl e c 0x10).toNat else 64 * l.length

/-- Address of stream byte `n` of a side, and the bytes left in its line. -/
def State.sideAt (s : State) (pl : Pl) (e c : Nat) (dst : Bool) (n : Nat) : Option (Nat × Nat) :=
  let x := s.chan pl e c
  match x.dirtyLines[n / 64]? with
  | some line => some (s.caddr pl e c (if dst then 8 else 0) + 64 * line + n % 64, 64 - n % 64)
  | none => if x.dirtyLines.isEmpty then (s.walk pl e c dst).at n else none

/-- Operation of a channel (R215). -/
def State.chOp (s : State) (pl : Pl) (e c : Nat) : Nat := s.chMode pl e c 0 2

/-- The next burst: offset, length, source and destination address (R214). -/
def State.nextBurst (s : State) (pl : Pl) (e c : Nat) : Option (Nat × Nat × Nat × Nat) :=
  let pos := (s.chan pl e c).pos
  let total := s.chTotal pl e c
  if total ≤ pos then none
  else
    match s.sideAt pl e c true pos with
    | none => none
    | some (d, dLeft) =>
      let room := min (min (min 256 (total - pos)) dLeft) (256 - d % 256)
      if s.chOp pl e c = 1 then some (pos, room, 0, d)
      else match s.sideAt pl e c false pos with
        | none => none
        | some (a, aLeft) => some (pos, min (min room aLeft) (65536 - a % 65536), a, d)

/-- The requests that cover `len` bytes at `addr`: address and bytes of each (R214). -/
def sideReqs (addr len : Nat) : List (Nat × Nat) :=
  let head := if addr % 64 ≠ 0 ∨ len < 64 then min (64 - addr % 64) len else 0
  let mid := (len - head) / 64 * 64
  let tail := len - head - mid
  (if head = 0 then [] else [(addr, head)]) ++ (if mid = 0 then [] else [(addr + head, mid)])
    ++ (if tail = 0 then [] else [(addr + head + mid, tail)])

/-- Granules that `len` bytes at `addr` touch. -/
def touched (addr len : Nat) : Nat := if len = 0 then 0 else (addr + len - 1) / 64 - addr / 64 + 1

/-- A request for `n` bytes at `addr`. -/
def mkSub (dst write : Bool) (addr n : Nat) : SubReq :=
  let whole := decide (addr % 64 = 0 ∧ n % 64 = 0)
  { tag := none, dst := dst, write := write, addr := addr, span := if whole then n / 64 else 1,
    ben := if whole then benAll else benRange (addr % 64) n, done := false, status := stOk, data := [] }

/-- Bytes of a request. -/
def SubReq.bytes (q : SubReq) : Nat :=
  if q.ben = benAll then 64 * q.span else ((List.range 64).filter (fun i => q.ben.getLsbD i)).length

/-! ### Where requests go (R130, R131, R224, R226) -/

/-- Where an address of a channel leads. `none`: its placement is not known yet. `some none`: no target (R223). -/
def State.resolveMul (s : State) (pl : Pl) (e c a : Nat) : Option (Option Place) :=
  if s.bellwetherChan pl c then some ((s.mapPort a).map (fun p => { dest := p, taddr := a, placed := false, epoch := 0 }))
  else match s.target a with
    | .port p =>
      (match s.pageOf pl a with
      | none => some (some { dest := p, taddr := a, placed := false, epoch := 0 })
      | some page =>
        if holdsPage (s.mul pl e).frozen page then none
        else match (s.mul pl e).look.find? (fun x => decide (x.page = page)) with
          | some x =>
            let h := s.home a x.inframe x.frame
            some (some { dest := h.2.getD epService, taddr := h.1, placed := true, epoch := x.epoch })
          | none => none)
    | _ => some none

/-- Sends a lookup of engine `e`, if none for the page is in flight and fewer than 4 in all (R73, R131). -/
def State.mulLookup (s : State) (pl : Pl) (e page owner priv : Nat) (sample write : Bool) : State :=
  let m := s.mul pl e
  if m.lookups.any (fun x => decide (x.1 = page)) ∨ 4 ≤ m.lookups.length + m.dumpOut then s
  else
    let tag := (lowestFree 64 (m.lookups.map (·.2))).getD 0
    (s.modMul pl e (fun m => { m with lookups := m.lookups ++ [(page, tag)] })).mulSend pl e
      (lookupHdr (epMule e) tag page owner priv sample write) [0]

/-- `k` requests of a channel meet the placement of address `a`: they are counted once, with a sample on every 2^S-th, and a miss
is looked up (R131, R136, R226). A held page is looked at after its RELEASE. `mark`: as `SubReq.mark`; answered with the new
one. -/
def State.mulMeet (s : State) (pl : Pl) (e c a k : Nat) (write : Bool) (mark : Option Bool) : State × Option Bool :=
  match s.pageOf pl a with
  | none => (s, mark)
  | some page =>
    let m := s.mul pl e
    if s.bellwetherChan pl c || holdsPage m.frozen page then (s, mark)
    else
      let n := 2 ^ (s.pf pl rPolicy0 0 4)
      let sample := mark.getD (decide (m.sampleCount / n < (m.sampleCount + k) / n))
      let s := if mark.isNone then s.modMul pl e (fun m => { m with sampleCount := m.sampleCount + k }) else s
      if m.look.any (fun x => decide (x.page = page)) then
        (if sample then s.mulLookup pl e page (s.chOwner pl e c) (s.chLevel pl e c) true write else s, some false)
      else
        let s := if mark.isNone then (s.pinc pl (bMul e + 0x2010) 0 32 1).countMul pl e 0x07 c 1 else s
        let t := s.mulLookup pl e page (s.chOwner pl e c) (s.chLevel pl e c) sample write
        (t, some (sample && decide ((t.mul pl e).lookups.length = (s.mul pl e).lookups.length)))

/-- The lookaside entry of an address has been used. -/
def State.mulUse (s : State) (pl : Pl) (e c a : Nat) : State :=
  match s.pageOf pl a with
  | some page => if s.bellwetherChan pl c then s else s.modMul pl e (fun m => { m with look := lookTouch m.look page })
  | none => s

/-- Sends one request of a channel with a tag (R224); `r` is where address `base` leads. A request names its first granule. -/
def State.mulSendSub (s : State) (pl : Pl) (e c base : Nat) (r : Place) (tag : Nat) (q : SubReq) : State :=
  let g := q.addr / 64 * 64
  let lines := cmdFlit g (r.taddr + g - base) q.ben q.span 0 0 0 :: (if q.write then q.data else [])
  s.mulSend pl e (mkHdr r.dest (epMule e) 3 (if q.write then kWrite else kRead) (s.chLevel pl e c) (s.chOwner pl e c) tag
    (lines.length - 1) ||| reqHi r.epoch r.placed 0 0) lines

/-- Gives tags to those requests of a list that have none and sends them in order, while tags are free. -/
def State.mulIssue (s : State) (pl : Pl) (e c base : Nat) (r : Place) (l : List SubReq) : State × List SubReq :=
  l.foldl (fun (a : State × List SubReq) q =>
    match q.tag, (a.1.mul pl e).freeTag with
    | none, some t =>
      ((a.1.modMul pl e (fun m => { m with tags := m.tags ++ [t] })).mulSendSub pl e c base r t q, a.2 ++ [{ q with tag := some t }])
    | _, _ => (a.1, a.2 ++ [q])) (s, [])

/-! ### Checks of a burst (R223, R225) -/

/-- The address of the first granule of a side that the Mule regions deny. -/
def State.mulDenied (s : State) (pl : Pl) (e c addr len need : Nat) : Option Nat :=
  let level := s.chLevel pl e c
  if level = 3 || s.bellwetherChan pl c then none
  else ((List.range (touched addr len)).map (fun i => (addr / 64 + i) * 64)).find? (fun a =>
    (s.regionCheck pl (bMul e + 0x3000) (s.chOwner pl e c) level a need).isSome)

/-- What refuses a side of a burst at stream offset `off`, with the address of the granule refused. -/
def State.sideRefused (s : State) (pl : Pl) (e c off addr len need : Nat) (write : Bool) : List Failed :=
  (match s.mulDenied pl e c addr len need with
    | some a => [{ off := off + (a - addr), addr := a, status := stProt, write := write }] | none => [])
  ++ (match s.resolveMul pl e c addr with
    | some none => [{ off := off, addr := addr / 64 * 64, status := stDecode, write := write }] | _ => [])

/-! ### Ends of a channel (R220 to R223) -/

/-- STATE, CODE, REASON and CAUSE of a channel; IGNORED stays. -/
def State.endChan (s : State) (pl : Pl) (e c st code reason cause : Nat) : State :=
  let b := bChan e c + 0x44
  (((s.pfset pl b 0 3 st).pfset pl b 4 4 code).pfset pl b 8 4 reason).pfset pl b 12 3 cause

/-- The failure of a set that lies lowest in the stream. -/
def lowestFailed (l : List Failed) : Option Failed :=
  l.foldl (fun a x => match a with | none => some x | some y => if x.off < y.off then some x else some y) none

/-- CH_ERR of a channel. -/
def State.setErrAddr (s : State) (pl : Pl) (e c a : Nat) : State :=
  (s.csetN pl e c 0x4C a).csetN pl e c 0x50 (a / 2 ^ 32 % 65536)

/-- A channel of the Bellwether has failed: its migration aborts, with cause 2 for a write and 1 for a read (R146). -/
def State.bellwetherFailed (s : State) (pl : Pl) (e c : Nat) (write : Bool) : State :=
  if s.bellwetherChan pl c then
    match s.engineMig pl e with
    | some m => s.migAbort pl m.page (if write then 2 else 1) 0x7F
    | none => s
  else s

/-- A stopping channel whose last response has come (R222, R223). -/
def State.finishStop (s : State) (pl : Pl) (e c : Nat) : State :=
  let x := s.chan pl e c
  if s.chanState pl e c ≠ 2 || x.outstanding then s
  else
    let s := s.modChan pl e c (fun x => { x with bursts := [], listReads := [], listing := false })
    match lowestFailed x.failed with
    | some f =>
      let code := stFirstOf (x.failed.map (·.status))
      let s := ((s.endChan pl e c 5 code 0 0).setErrAddr pl e c f.addr).chanEvent pl e c 2
      s.bellwetherFailed pl e c f.write
    | none => s.endChan pl e c 4 stOk 0 x.stopCause

/-- A failure is noted; the channel starts nothing more (R223). -/
def State.chanFail (s : State) (pl : Pl) (e c : Nat) (l : List Failed) : State :=
  if l.isEmpty then s
  else
    let s := s.modChan pl e c (fun x => { x with failed := x.failed ++ l })
    let s := if s.chanState pl e c = 1 then s.pfset pl (bChan e c + 0x44) 0 3 2 else s
    s.finishStop pl e c

/-- The half mark (R220). -/
def halfMark (total : Nat) : Nat := total / 32 * 16

/-- DONE reaches `d`: half-completion event (R220). -/
def State.setDone (s : State) (pl : Pl) (e c d : Nat) : State :=
  let s := s.csetN pl e c 0x48 d
  if halfMark (s.chTotal pl e c) ≤ d ∧ !(s.chan pl e c).halfSeen then
    let s := s.modChan pl e c (fun x => { x with halfSeen := true })
    if s.chMode pl e c 6 1 = 1 then s.chanEvent pl e c 0 else s
  else s

/-- DONE of a RUNNING channel has reached COUNT: completion, or the next cycle of an AUTO channel (R220, R221). -/
def State.reachedCount (s : State) (pl : Pl) (e c : Nat) : State :=
  let s := if s.chMode pl e c 7 1 = 1 then s.chanEvent pl e c 1 else s
  if s.chMode pl e c 8 1 = 1 then
    ((s.pinc pl (bChan e c + 0x58) 0 32 1).csetN pl e c 0x48 0).modChan pl e c (fun x => { x with pos := 0, halfSeen := false })
  else s.endChan pl e c 3 stOk 0 0

/-- Bytes of a list of answered reads, from the first: least significant byte first, as a number with its length. -/
def readBytes (l : List SubReq) : Nat × Nat :=
  l.foldl (fun (a : Nat × Nat) q =>
    let v := (q.data.zipIdx.map (fun (d, i) => d.toNat * 2 ^ (512 * i))).sum
    (a.1 + v / 2 ^ (8 * (q.addr % 64)) % 2 ^ (8 * q.bytes) * 2 ^ (8 * a.2), a.2 + q.bytes)) (0, 0)

/-- The data flits of a write of `n` bytes at `addr` that carries the number `v`. -/
def writeLines (addr n v : Nat) : List Line :=
  (List.range (touched addr n)).map (fun i => BitVec.ofNat 512 (v * 2 ^ (8 * (addr % 64)) / 2 ^ (512 * i)))

/-- The write requests of a burst whose bytes are `v`. -/
def burstWrites (d len v : Nat) : List SubReq :=
  (sideReqs d len).map (fun (a, n) => { mkSub true true a n with data := writeLines a n (v / 2 ^ (8 * (a - d)) % 2 ^ (8 * n)) })

/-- The fill constant over `len` bytes from `addr` (R215). -/
def fillBytes (fill addr len : Nat) : Nat :=
  ((List.range len).map (fun i => fill / 2 ^ (8 * ((addr + i) % 8)) % 256 * 2 ^ (8 * i))).sum

/-- Every read of a burst has been answered. -/
def Burst.readDone (b : Burst) : Bool := b.reads.all (·.done)

/-- The first byte in which two numbers differ, below `n`. -/
def firstDiff (n x y : Nat) : Option Nat := (List.range n).find? (fun i => x / 2 ^ (8 * i) % 256 ≠ y / 2 ^ (8 * i) % 256)

/-- Bytes of the answered requests of a list, from the first up to one that is unanswered or has failed. -/
def okBytes (l : List SubReq) : Nat :=
  match l with
  | [] => 0
  | q :: rest => if q.done ∧ q.status = stOk then q.bytes + okBytes rest else 0

/-- Takes the bursts whose writes are all acknowledged off the front: what remains, and the bytes that DONE gains, the front
burst's acknowledged bytes among them (R220). -/
def writtenScan (l : List Burst) : List Burst × Nat :=
  match l with
  | [] => ([], 0)
  | b :: rest =>
    let n := if b.writing then okBytes b.writes else 0
    if n < b.len then (b :: rest, n) else ((writtenScan rest).1, b.len + (writtenScan rest).2)

/-- What COMPARE has judged (R216): bursts that remain, bytes that agree from the first burst on, granules of the bursts judged
whole, and whether the next byte differs. -/
structure Judged where
  left : List Burst
  bytes : Nat
  granules : Nat
  differs : Bool

/-- Judges the bytes of a COMPARE in stream order, as far as both sides have been read (R216). -/
def compareScan (l : List Burst) : Judged :=
  match l with
  | [] => { left := [], bytes := 0, granules := 0, differs := false }
  | b :: rest =>
    let src := b.reads.filter (fun q => !q.dst)
    let dst := b.reads.filter (·.dst)
    let n := min (okBytes src) (okBytes dst)
    match firstDiff n (readBytes src).1 (readBytes dst).1 with
    | some i => { left := [], bytes := i, granules := 0, differs := true }
    | none =>
      if n < b.len then { left := b :: rest, bytes := n, granules := 0, differs := false }
      else
        let r := compareScan rest
        { r with bytes := b.len + r.bytes, granules := touched b.sAddr b.len + r.granules }

/-- A channel compares: COMPARE, and no recopy of the Bellwether. -/
def State.comparing (s : State) (pl : Pl) (e c : Nat) : Bool :=
  decide (s.chOp pl e c = 2) && (s.chan pl e c).dirtyLines.isEmpty

/-- A channel's bytes have been judged. A difference ends a RUNNING channel; a STOPPING one drops what it still reads. -/
def State.judged (s : State) (pl : Pl) (e c off : Nat) (j : Judged) : State :=
  let s := ((s.countMul pl e 0x03 c j.granules).modChan pl e c (fun x => { x with bursts := j.left })).setDone pl e c (off + j.bytes)
  if j.differs then
    let s := s.csetN pl e c 0x54 (off + j.bytes)
    if s.chanState pl e c = 1 then s.endChan pl e c 3 stOk 0 0 else s
  else s

/-- Takes completed bursts off the front and moves DONE (R216, R220). -/
def State.chanAdvance (s : State) (pl : Pl) (e c : Nat) : State :=
  match (s.chan pl e c).bursts with
  | [] => s
  | b :: rest =>
    if s.chanState pl e c ≠ 1 ∧ s.chanState pl e c ≠ 2 then s
    else if s.comparing pl e c then s.judged pl e c b.off (compareScan (b :: rest))
    else
      let r := writtenScan (b :: rest)
      (s.modChan pl e c (fun x => { x with bursts := r.1 })).setDone pl e c (b.off + r.2)

/-- A running channel whose stream is complete, and a stopping one whose responses have come: a stopping channel ends STOPPED or
in ERROR, whatever DONE says (R222, R223, R227, R228). -/
def State.chanSettle (s : State) (pl : Pl) (e c : Nat) : State :=
  let s := s.chanAdvance pl e c
  let x := s.chan pl e c
  if s.chanState pl e c = 1 ∧ x.bursts.isEmpty ∧ !x.listing ∧ x.failed.isEmpty ∧ 0 < s.chTotal pl e c
      ∧ (s.creg pl e c 0x48).toNat = s.chTotal pl e c then s.reachedCount pl e c
  else s.finishStop pl e c

/-! ### Writes of a COPY (R215, R217) -/

/-- Changes the burst of a channel that begins at stream offset `off`. -/
def State.modBurst (s : State) (pl : Pl) (e c off : Nat) (f : Burst → Burst) : State :=
  s.modChan pl e c (fun x => { x with bursts := x.bursts.map (fun y => if y.off = off then f y else y) })

/-- The writes of a burst may go, as every earlier burst has sent its own (R217), or is held by a freeze of another page (R141). -/
def State.mayWrite (s : State) (pl : Pl) (e c : Nat) (b : Burst) : Bool :=
  (s.chan pl e c).bursts.all (fun x => decide (b.off ≤ x.off) || x.sent
    || (x.dRoute.isNone && decide (s.pageOf pl x.dAddr ≠ s.pageOf pl b.dAddr)))

/-- Where the writes of a burst go, resolved again after a freeze (R141, R226). -/
def State.routeBurst (s : State) (pl : Pl) (e c : Nat) (b : Burst) : State × Option Place :=
  match b.dRoute with
  | some r => (s, some r)
  | none =>
    match s.resolveMul pl e c b.dAddr with
    | some (some r) => ((s.mulUse pl e c b.dAddr).modBurst pl e c b.off (fun y => { y with dRoute := some r }), some r)
    | _ => ((s.mulMeet pl e c b.dAddr 0 true (some false)).1, none)

/-- Sends writes of the burst at stream offset `off`, once its data is complete: as many as tags are free. -/
def State.pumpBurst (s : State) (pl : Pl) (e c off : Nat) : State :=
  match (s.chan pl e c).bursts.find? (fun b => decide (b.off = off)) with
  | none => s
  | some b =>
    if s.comparing pl e c || decide (s.chanState pl e c ≠ 1) || !b.readDone || b.sent || !s.mayWrite pl e c b then s
    else
      let r := s.routeBurst pl e c b
      match r.2 with
      | none => r.1
      | some place =>
        let a := r.1.mulIssue pl e c b.dAddr place (if b.writing then b.writes else burstWrites b.dAddr b.len (readBytes b.reads).1)
        a.1.modBurst pl e c off (fun y => { y with writes := a.2, writing := true })

/-- Sends the writes of a channel that may go, in stream order; a stopping channel sends none (R222, R223). -/
def State.pumpChan (s : State) (pl : Pl) (e c : Nat) : State :=
  ((s.chan pl e c).bursts.map (·.off)).foldl (fun t off => t.pumpBurst pl e c off) s

/-- Sends the writes that wait at an engine, lower channels first. -/
def State.mulPump (s : State) (pl : Pl) (e : Nat) : State :=
  (((s.mul pl e).chans.map (·.1))).foldl (fun t c => t.pumpChan pl e c) s

end Sys2Proof.Machine
end

