-- ==== Sys2Proof/Machine/MuleCh.lean ====
section
/-!
DEFINITION. The commands of the Mule engines: register access, start, stop, bursts, responses and parity errors (R207
to R229).
-/
namespace Sys2Proof.Machine

/-! ### Words of an access (R343) -/

/-- The words of a granule of which a byte is enabled. -/
def wordsOf (ben : BitVec 64) : List Nat := (List.range 16).filter (fun i => decide (fld ben (4 * i) 4 ≠ 0))

/-- Some word of the granule is enabled in part. -/
def partWord (ben : BitVec 64) : Bool := (List.range 16).any (fun i => decide (fld ben (4 * i) 4 ≠ 0 ∧ fld ben (4 * i) 4 ≠ 15))

/-! ### Stop (R222, R227, R228) -/

/-- STOP with a cause; a channel with nothing outstanding is STOPPED at once. -/
def State.mulStop (s : State) (pl : Pl) (e c cause : Nat) : State :=
  if s.chanState pl e c = 1 then (s.stopChan pl e c cause).finishStop pl e c else s

/-- STOP of every channel of an engine that a test picks. -/
def State.mulStopAll (s : State) (pl : Pl) (e cause : Nat) (f : Nat → Bool) : State :=
  (List.range 32).foldl (fun t c => if f c then t.mulStop pl e c cause else t) s

/-! ### Start (R210, R213) -/

/-- A side that the operation uses (R210, R215). -/
def State.sidesUsed (s : State) (pl : Pl) (e c : Nat) : List Bool := if s.chOp pl e c = 1 then [true] else [false, true]

/-- Check 4 on a side. -/
def Walk.misaligned (w : Walk) : Bool :=
  decide (w.base % 16 ≠ 0) || (decide (w.mode = 1) && decide (w.len % 16 ≠ 0 ∨ w.stride % 16 ≠ 0))

/-- Check 5 on a side. -/
def Walk.badShape (w : Walk) (count : Nat) : Bool :=
  (decide (w.mode = 1) && decide (w.len = 0 ∨ w.lines = 0 ∨ w.len * w.lines ≠ count))
    || (decide (w.mode = 2) && decide (w.lines = 0 ∨ 64 < w.lines))

/-- Check 6 on a side. -/
def Walk.outside (w : Walk) (count : Nat) : Bool :=
  (decide (w.mode = 0) && decide (2 ^ 48 < w.base + count))
    || (decide (w.mode = 1) && [w.lineAddr 0, w.lineAddr (w.lines - 1)].any (fun a =>
      decide (a < 0 ∨ (2 ^ 48 : Int) < a + (w.len : Int))))

/-- The first of checks 1 to 7 that fails: CODE and REASON (R210). -/
def State.startCheck (s : State) (pl : Pl) (e c : Nat) : Option (Nat × Nat) :=
  let count := (s.creg pl e c 0x10).toNat
  let sides := (s.sidesUsed pl e c).map (s.walk pl e c)
  if s.closedOwner (s.chOwner pl e c) then some (stProt, 1)
  else if 4 ≤ c ∧ sides.any (fun w => decide (w.mode = 2)) then some (stProt, 2)
  else if s.chOp pl e c = 3 ∨ sides.any (fun w => decide (w.mode = 3)) then some (stAlign, 3)
  else if count = 0 ∨ count % 16 ≠ 0 ∨ sides.any Walk.misaligned then some (stAlign, 4)
  else if sides.any (fun w => w.badShape count) then some (stAlign, 5)
  else if sides.any (fun w => w.outside count) then some (stAlign, 6)
  else if (s.mul pl e).fault then some (stPoison, 7)
  else none

/-- The channel starts to move data (R210). -/
def State.runChan (s : State) (pl : Pl) (e c : Nat) : State :=
  ((((s.endChan pl e c 1 stOk 0 0).csetN pl e c 0x48 0).csetN pl e c 0x54 0xFFFFFFFF)).modChan pl e c (fun x => { x with listing := false })

/-- A start that fails: ERROR with its event (R210). -/
def State.startFails (s : State) (pl : Pl) (e c code reason : Nat) : State :=
  ((s.endChan pl e c 5 code reason 0).chanEvent pl e c 2).modChan pl e c (fun x => { x with listing := false, listReads := [] })

/-- The reads of a LIST side: one for each granule that the list touches (R213). -/
def Walk.listReads (w : Walk) (dst : Bool) : List SubReq :=
  if w.mode = 2 then (List.range (touched w.base (16 * w.lines))).map (fun i => mkSub dst false ((w.base / 64 + i) * 64) 64) else []

/-- START (R210): the checks, then the list reads, then RUNNING. STATE reads RUNNING during the list reads. -/
def State.startChan (s : State) (pl : Pl) (e c : Nat) : State :=
  let st := s.chanState pl e c
  if st = 1 ∨ st = 2 then s.setIgnored pl e c
  else match s.startCheck pl e c with
    | some (code, reason) => s.startFails pl e c code reason
    | none =>
      let reads := (s.sidesUsed pl e c).flatMap (fun d => (s.walk pl e c d).listReads d)
      let s := s.modChan pl e c (fun x => { nextOk := x.nextOk, listReads := reads, listing := !reads.isEmpty })
      if reads.isEmpty then s.runChan pl e c else s.endChan pl e c 1 stOk 0 0

/-- A write of CH_CTRL: STOP goes before START (R210, R222). -/
def State.chanCtrl (s : State) (pl : Pl) (e c : Nat) (v : W32) : State :=
  if bit v 1 then s.mulStop pl e c 1 else if bit v 0 then s.startChan pl e c else s

/-! ### Register access (R207, R209) -/

/-- The requester may use the channel's registers (R209): U < S < M. -/
def State.chanMine (s : State) (pl : Pl) (r : CwReq) (e c : Nat) : Bool :=
  decide (r.priv = 3) || (decide (r.priv ≠ 2 ∧ r.owner = fld (s.creg pl e c 0x5C) 0 4) && decide (fld (s.creg pl e c 0x5C) 4 2 ≤ r.priv))

/-- The status of a write to a channel's registers (R207, R209). -/
def State.chanWriteStatus (s : State) (pl : Pl) (r : CwReq) (e c : Nat) (ben : BitVec 64) : Nat :=
  if s.bellwetherChan pl c || !s.chanMine pl r e c then stProt else if partWord ben then stAlign else stOk

/-- A write of one register of a channel (R209, R231). -/
def State.chanWord (s : State) (pl : Pl) (e c off : Nat) (v : W32) : State :=
  let st := s.chanState pl e c
  if off < 0x40 then
    (if st = 1 ∨ st = 2 then s.setIgnored pl e c
     else match rowOf (bChan e c + off) with
       | some row => s.csetN pl e c off (v.toNat &&& row.rw)
       | none => s)
  else if off = 0x40 then s.chanCtrl pl e c v
  else if off = 0x44 then (if bit v 15 then s.pclear pl (bChan e c + 0x44) (bitMask 15) else s)
  else s

/-- The words of a write in ascending order (R343). -/
def State.chanBeat (s : State) (pl : Pl) (e c off : Nat) (b : Beat) : State :=
  (wordsOf b.ben).foldl (fun t i => t.chanWord pl e c (off / 64 * 64 + 4 * i) (lineWord b.data i)) s

/-- The engine answers an aperture request (R208, R209). -/
def State.mulReply (s : State) (pl : Pl) (e : Nat) (r : CwReq) (status : Nat) (data : Option Line) : State :=
  let kind := match data with | some _ => kRdata | none => kRack
  s.mulSend pl e (mkHdr r.src (epMule e) (rspVc r.vc) kind 3 0 r.tag 0 ||| rspHi status 0) [data.getD 0]

/-- The command flit names the granule at offset `off` of channel `c`'s cell in the aperture, and the bytes `ben` of it (R37,
R208). -/
def State.aperAt (s : State) (e c off : Nat) (ben : BitVec 64) (cmd : Line) : Bool :=
  decide (cPaddr cmd / 64 = (s.img.mulAper + 0x2000 * e + 0x100 * c + off) / 64 ∧ cBen cmd = ben)

/-- The aperture request `r` of kind `kind` at the head of engine `e`'s buffer, if it names the register granule and bytes
given and its data flit passes `hit`; with the state once it has been taken up (R208). -/
def State.aperTake (s : State) (pl : Pl) (e : Nat) (r : CwReq) (kind c off : Nat) (ben : BitVec 64) (hit : Line → Bool) : Taken :=
  if cwIsHead r (headHdr ((s.mul pl e).rx.rd r.vc [])) then
    match s.popMul pl e r.vc with
    | some (k, t) =>
      if hKind k.hdr = kind ∧ s.aperAt e c off ben (k.flits.getD 0 0) = true ∧ hit (k.flits.getD 1 0) = true then some (k, t) else none
    | none => none
  else none

/-- An aperture write in one plane: `f` is what it does when it is allowed. A poisoned one does nothing, and counts for its
owner (R16, R251, R254). -/
def State.aperWrite (r : CwReq) (e c off : Nat) (ben : BitVec 64) (hit : Line → Bool) (f : Pl → State → State) (pl : Pl)
    (s : State) : State :=
  match s.aperTake pl e r kWrite c off ben hit with
  | none => s
  | some (k, t) =>
    let st := stFirst (t.chanWriteStatus pl { r with owner := hOwner k.hdr, priv := hPriv k.hdr } e c ben)
      (if k.poison then stPoison else stOk)
    let t := if k.poison then t.poisonOwner (hOwner k.hdr) (hPriv k.hdr) else t
    let t : State := if pl = s.lead then { t with answers := t.answers ++ [{ src := r.src, tag := r.tag, status := st, data := 0 }] } else t
    (if st = stOk then f pl t else t).mulReply pl e r st none

/-- A window write to a channel's registers (R209, R230, R344). -/
def State.chanWindow (s : State) (r : CwReq) (e c off : Nat) (ben : BitVec 64) (f : Pl → State → State) : State :=
  if !s.windowTakes r then s
  else
    let st := stFirst (s.accessStatus r (bChan e c + off) true) (s.chanWriteStatus s.lead r e c ben)
    (if st = stOk ∧ !s.minimal then (s.touch (bChan e c)).eachPlane f else s).answer r st none

/-- A write to a channel's registers by either way; `hit` is the data that the command stands for. -/
def State.chanWrite (s : State) (aperture : Bool) (r : CwReq) (e c off : Nat) (ben : BitVec 64) (hit : Line → Bool)
    (f : Pl → State → State) : Out :=
  .next (if ¬(e < s.variant.mules ∧ c < 32 ∧ off < 0x100) then s
    else if aperture then s.eachPlane (State.aperWrite r e c off ben hit f) else s.chanWindow r e c off ben f)

/-- CHANNEL_REGISTER_WRITE (R207, R209): one beat at offset `off` of channel `c`'s cell. -/
def execChannelRegisterWrite (aperture : Bool) (r : CwReq) (e c off : Nat) (b : Beat) (s : State) : Out :=
  s.chanWrite aperture r e c off b.ben (fun d => decide (d = b.data)) (fun pl t => t.chanBeat pl e c off b)

/-- CHANNEL_START (R210): a write of START to CH_CTRL. -/
def execChannelStart (aperture : Bool) (r : CwReq) (e c : Nat) (s : State) : Out :=
  s.chanWrite aperture r e c 0x40 (benRange 0 4) (fun d => bit d 0 && !bit d 1) (fun pl t => t.chanCtrl pl e c 1)

/-- CHANNEL_STOP (R222): a write of STOP to CH_CTRL. -/
def execChannelStop (aperture : Bool) (r : CwReq) (e c : Nat) (s : State) : Out :=
  s.chanWrite aperture r e c 0x40 (benRange 0 4) (fun d => bit d 1) (fun pl t => t.chanCtrl pl e c 2)

/-! ### List reads (R210 checks 8 and 9, R213) -/

/-- The list reads of a channel that wait are sent; a refused one is answered at the engine (R223, R225, R226). -/
def State.sendLists (s : State) (pl : Pl) (e c : Nat) : State :=
  let x := s.chan pl e c
  if !x.listing || decide (s.chanState pl e c ≠ 1) then s
  else
    let a := x.listReads.foldl (fun (a : State × List SubReq) q =>
      if q.tag.isSome || q.done then (a.1, a.2 ++ [q])
      else
        let m := a.1.mulMeet pl e c q.addr 1 false q.mark
        let t := m.1
        let q : SubReq := { q with mark := m.2 }
        let bad := t.sideRefused pl e c 0 q.addr 64 1 false
        if !bad.isEmpty then
          let st := stFirstOf (bad.map (·.status))
          let t := if (bad.map (·.status)).contains stProt then
            (t.pinc pl (bMul e + 0x200C) 0 32 1).countMul pl e 0x06 c 1 else t
          (t, a.2 ++ [{ q with done := true, status := st }])
        else match t.resolveMul pl e c q.addr with
          | some (some place) =>
            let r := (t.mulUse pl e c q.addr).mulIssue pl e c q.addr place [q]
            (r.1, a.2 ++ r.2)
          | _ => (t, a.2 ++ [q])) (s, [])
    a.1.modChan pl e c (fun x => { x with listReads := a.2 })

/-- The bytes of a side's list, as a number from its first granule. -/
def listNumber (l : List SubReq) (dst : Bool) : Nat :=
  (((l.filter (fun q => q.dst == dst)).zipIdx).map (fun (q, i) => (q.data.headD 0).toNat * 2 ^ (512 * i))).sum

/-- The entries of a list: bytes 0 to 7, 8 to 11 and 12 to 15 of each (R213). -/
def listEntries (v base n : Nat) : List (Nat × Nat × Nat) :=
  (List.range n).map (fun j =>
    let w := v / 2 ^ (8 * (base % 64 + 16 * j)) % 2 ^ 128
    (w % 2 ^ 64, w / 2 ^ 64 % 2 ^ 32, w / 2 ^ 96))

/-- An entry breaks the rules of R213. -/
def badEntry (x : Nat × Nat × Nat) : Bool :=
  decide (x.1 % 16 ≠ 0 ∨ 2 ^ 48 ≤ x.1 ∨ x.2.1 = 0 ∨ x.2.1 % 16 ≠ 0 ∨ 2 ^ 48 < x.1 + x.2.1 ∨ x.2.2 ≠ 0)

/-- Check 9 on a side: the address that CH_ERR receives, if an entry fails. -/
def Walk.listFault (w : Walk) (l : List (Nat × Nat × Nat)) : Option Nat :=
  if w.mode = 2 then (l.findIdx? badEntry).map (fun j => w.base + 16 * j) else none

/-- Every list read has been answered: checks 8 and 9, then the channel runs (R210, R213). -/
def State.judgeLists (s : State) (pl : Pl) (e c : Nat) : State :=
  let x := s.chan pl e c
  if !x.listing || decide (s.chanState pl e c ≠ 1) || x.listReads.any (fun q => !q.done) then s
  else match x.listReads.find? (fun q => decide (q.status ≠ stOk)) with
    | some q => (s.startFails pl e c q.status 8).setErrAddr pl e c q.addr
    | none =>
      let count := (s.creg pl e c 0x10).toNat
      let sides := (s.sidesUsed pl e c).map (fun d =>
        let w := s.walk pl e c d
        (d, w, listEntries (listNumber x.listReads d) w.base w.lines))
      match sides.findSome? (fun (_, w, l) => w.listFault l) with
      | some a => (s.startFails pl e c stAlign 9).setErrAddr pl e c a
      | none =>
        if sides.any (fun (_, w, l) => decide (w.mode = 2 ∧ (l.map (fun x => x.2.1)).sum ≠ count)) then
          let lo := s.freeWord pl
          let hi := lo.2.freeWord pl
          (hi.2.startFails pl e c stAlign 9).setErrAddr pl e c (lo.1.toNat + hi.1.toNat % 65536 * 2 ^ 32)
        else
          let keep (d : Bool) : List (Nat × Nat) :=
            match sides.find? (fun x => x.1 == d && decide (x.2.1.mode = 2)) with
            | some (_, _, l) => l.map (fun x => (x.1, x.2.1)) | none => []
          (s.modChan pl e c (fun x => { x with srcList := keep false, dstList := keep true, listReads := [] })).runChan pl e c

/-- A response to an engine: request, channel and kind are found by its tag. -/
def Mule.ownerOf (m : Mule) (t : Nat) : Option (Nat × Bool) :=
  let mine (q : SubReq) : Bool := decide (q.tag = some t) && !q.done
  match m.chans.find? (fun (_, x) => x.listReads.any mine) with
  | some (c, _) => some (c, true)
  | none => match m.chans.find? (fun (_, x) => x.bursts.any (fun b => (b.reads ++ b.writes).any mine)) with
    | some (c, _) => some (c, false)
    | none => none

/-- The answer written into the request it belongs to. -/
def SubReq.answerBy (q : SubReq) (t st : Nat) (data : List Line) : SubReq :=
  if q.tag = some t ∧ !q.done then { q with done := true, status := st, data := if q.write then q.data else data } else q

/-- Status of a response (R16, R253). -/
def Packet.status (k : Packet) : Nat := if k.poison then stFirst (hStatus k.hdr) stPoison else hStatus k.hdr

/-- The owner of a poisoned packet of the engine's channel goes safe (R251). -/
def State.mulPoison (s : State) (pl : Pl) (e c : Nat) (k : Packet) : State :=
  if k.poison then s.poisonOwner (s.chOwner pl e c) (s.chLevel pl e c) else s

/-- LIST_READ_ANSWER (R210, R213): the response at the head of the engine's inbox answers a list read. -/
def execListReadAnswer (pl : Pl) (e : Nat) (s : State) : Out :=
  inPlane s pl (fun s =>
    match s.popMulIn pl e 4 with
    | none => s
    | some (k, t) =>
      match (t.mul pl e).ownerOf (hTag k.hdr) with
      | some (c, true) =>
        let t := t.modMul pl e (fun m => { m with tags := m.tags.erase (hTag k.hdr) })
        let t := t.modChan pl e c (fun x => { x with
          listReads := x.listReads.map (fun q => q.answerBy (hTag k.hdr) k.status k.flits) })
        (((t.mulPoison pl e c k).judgeLists pl e c).finishStop pl e c).mulPump pl e
      | _ => s)

/-! ### Bursts (R214, R218, R219) -/

/-- The requests of the next burst: reads and writes (R214, R215). -/
def State.burstReqs (s : State) (pl : Pl) (e c : Nat) (len a d : Nat) : List SubReq × List SubReq :=
  let op := s.chOp pl e c
  let rd (dst : Bool) (x : Nat) : List SubReq := (sideReqs x len).map (fun (b, n) => mkSub dst false b n)
  if op = 1 then
    let v := fillBytes ((s.creg pl e c 0x2C).toNat + (s.creg pl e c 0x30).toNat * 2 ^ 32) d len
    ([], burstWrites d len v)
  else if op = 2 ∧ (s.chan pl e c).dirtyLines.isEmpty then (rd false a ++ rd true d, [])
  else (rd false a, [])

/-- What refuses the next burst (R223, R225). -/
def State.burstRefused (s : State) (pl : Pl) (e c off len a d : Nat) : List Failed :=
  let op := s.chOp pl e c
  (if op = 1 then [] else s.sideRefused pl e c off a len 1 false)
    ++ s.sideRefused pl e c off d len (if op = 2 then 1 else 2) (decide (op ≠ 2))

/-- Channel `c` could start its next burst, but for its limiter and the resolution of its sides (R218). -/
def State.burstFormed (s : State) (pl : Pl) (e c : Nat) : Option (Nat × Nat × Nat × Nat) :=
  let x := s.chan pl e c
  if s.chanState pl e c ≠ 1 ∨ x.listing then none
  else if 8 ≤ (x.bursts.filter (fun b => !b.readDone)).length then none
  else match s.nextBurst pl e c with
    | none => none
    | some (off, len, a, d) =>
      let q := s.burstReqs pl e c len a d
      let room := (q.1.map (·.span)).sum
      if 64 < (s.mul pl e).reserved + room then none
      else if 64 < (s.mul pl e).tags.length + q.1.length + q.2.length then none
      else some (off, len, a, d)

/-- The sides of a burst that need a target. -/
def State.burstSides (s : State) (pl : Pl) (e c a d : Nat) : List Nat := if s.chOp pl e c = 1 then [d] else [a, d]

/-- The channel is ready (R218): its limiter allows it and its sides are resolved. -/
def State.burstReady (s : State) (pl : Pl) (e c : Nat) : Bool :=
  decide ((s.chan pl e c).nextOk ≤ s.fc) && (match s.burstFormed pl e c with
    | some (_, _, a, d) => (s.burstSides pl e c a d).all (fun x => (s.resolveMul pl e c x).isSome)
    | none => false)

/-- The placement of the sides of the burst a channel has formed is looked at, and looked up where it is missing (R131, R136,
R226). -/
def State.burstMeets (s : State) (pl : Pl) (e c : Nat) : State :=
  match s.burstFormed pl e c with
  | some (_, len, a, d) =>
    let x := s.chan pl e c
    let op := s.chOp pl e c
    let t := if op = 1 then (s, x.markS) else s.mulMeet pl e c a (sideReqs a len).length false x.markS
    let u := t.1.mulMeet pl e c d (sideReqs d len).length (decide (op ≠ 2)) x.markD
    u.1.modChan pl e c (fun x => { x with markS := t.2, markD := u.2 })
  | none => s

/-- Starts the next burst of a channel (R214, R218, R223, R225). -/
def State.startBurst (s : State) (pl : Pl) (e c : Nat) : State :=
  match s.burstFormed pl e c with
  | none => s
  | some (off, len, a, d) =>
    let bad := s.burstRefused pl e c off len a d
    if !bad.isEmpty then
      let s := if bad.any (fun f => decide (f.status = stProt)) then
        (s.pinc pl (bMul e + 0x200C) 0 32 1).countMul pl e 0x06 c 1 else s
      s.chanFail pl e c bad
    else
      let op := s.chOp pl e c
      let q := s.burstReqs pl e c len a d
      let f := if op = 2 then touched a len else touched d len
      match (if op = 1 then s.resolveMul pl e c d else s.resolveMul pl e c a), s.resolveMul pl e c d with
      | some (some from_), some (some place) =>
        let s := (if op = 1 then s else s.mulUse pl e c a).mulUse pl e c d
        let r := s.mulIssue pl e c a from_ (q.1.filter (fun x => !x.dst))
        let v := r.1.mulIssue pl e c d place (q.1.filter (·.dst))
        let w := v.1.mulIssue pl e c d place q.2
        let b : Burst := { off := off, len := len, sAddr := a, dAddr := d, reads := r.2 ++ v.2, writes := w.2,
                           writing := decide (op = 1), dRoute := some place }
        let n := ceilDiv (f * 256) (w.1.chShare pl e c)
        (w.1.modChan pl e c (fun x => { x with
          bursts := x.bursts ++ [b], pos := x.pos + len, nextOk := w.1.fc + n, markS := none, markD := none })).countMul pl e 0x02 c 1
      | _, _ => s

/-- The channel that R218 picks in this fc, with its level. -/
def State.pickBurst (s : State) (pl : Pl) (e : Nat) : Option (Nat × Nat) :=
  let ready := (List.range 32).filter (s.burstReady pl e)
  [3, 2, 1, 0].findSome? (fun l =>
    (rotatePick (ready.filter (fun c => decide (s.chPrio pl e c = l))) ((s.mul pl e).rr.rd l 0) 32).map (fun c => (l, c)))

/-- BURST_START (R218): writes, list reads and lookups that wait are sent, then at most one burst starts. Only the writes of
bursts that have started go during a join pause (R248). -/
def execBurstStart (pl : Pl) (e : Nat) (s : State) : Out :=
  inPlane s pl (fun s =>
    if ¬(e < s.variant.mules) ∨ !s.quireRuns (e / 2) then s
    else if s.pair.joining.isSome then s.mulPump pl e
    else
      let cs := List.range 32
      let s := cs.foldl (fun t c => ((t.sendLists pl e c).judgeLists pl e c).burstMeets pl e c) (s.mulPump pl e)
      match s.pickBurst pl e with
      | none => s
      | some (l, c) => (s.startBurst pl e c).modMul pl e (fun m => { m with rr := m.rr.wr l ((c + 1) % 32) 0 }))

/-! ### Responses (R220 to R223, R141) -/

/-- The response to a request of a burst: the request is answered, or a failure is noted at its granule (R223). -/
def State.burstAnswer (s : State) (pl : Pl) (e c : Nat) (k : Packet) : State :=
  let tag := hTag k.hdr
  let mine (q : SubReq) : Bool := decide (q.tag = some tag) && !q.done
  match (s.chan pl e c).bursts.find? (fun b => (b.reads ++ b.writes).any mine) with
  | none => s
  | some b =>
    match (b.reads ++ b.writes).find? mine with
    | none => s
    | some q =>
      let st := k.status
      let b2 : Burst := { b with reads := b.reads.map (fun x => x.answerBy tag st k.flits),
                                 writes := b.writes.map (fun x => x.answerBy tag st k.flits) }
      let s := s.modBurst pl e c b.off (fun _ => b2)
      let s := s.mulPoison pl e c k
      if st = stOk then
        let s := if q.write then s.countMul pl e 0x03 c q.span else s
        s.chanSettle pl e c
      else
        let base := if q.dst then b.dAddr else b.sAddr
        (s.chanFail pl e c [{ off := b.off + (q.addr - base), addr := q.addr / 64 * 64, status := st, write := q.write }]).chanSettle pl e c

/-- MULE_RESPONSE (R220 to R223): the response at the head of the engine's inbox answers a request of a burst, or the path
fence of a freeze (R141). -/
def execMuleResponse (pl : Pl) (e : Nat) (s : State) : Out :=
  inPlane s pl (fun s =>
    match s.popMulIn pl e 4 with
    | none => s
    | some (k, t) =>
      let tag := hTag k.hdr
      let free (t : State) : State := t.modMul pl e (fun m => { m with tags := m.tags.erase tag })
      if (t.mul pl e).frozen.any (fun f => f.gtTags.contains tag) then
        (free t).modMul pl e (fun m => { m with
          frozen := m.frozen.map (fun f => if f.gtTags.contains tag then { f with gtTags := [], fence3 := true } else f) })
      else match (t.mul pl e).ownerOf tag with
        | some (_, true) => s
        | some (c, false) => ((free t).burstAnswer pl e c k).mulPump pl e
        | none => free t)

/-! ### Answers to lookups (R129, R133) -/

/-- What of a channel waits for the placement of a page: the sides of its next burst, and the writes of bursts that a freeze held.
Each as the failure it becomes when the page's entry is lost. -/
def State.waitsFor (s : State) (pl : Pl) (e c page : Nat) : List Failed :=
  let hit (a : Nat) : Bool := decide (s.pageOf pl a = some page)
  let fail (off a : Nat) (w : Bool) : Failed := { off := off, addr := a / 64 * 64, status := stPoison, write := w }
  let x := s.chan pl e c
  (x.bursts.filter (fun b => b.dRoute.isNone && !b.sent && hit b.dAddr)).map (fun b => fail b.off b.dAddr true)
    ++ (match s.burstFormed pl e c with
      | some (off, _, a, d) =>
        (if s.chOp pl e c ≠ 1 ∧ x.markS.isSome ∧ hit a ∧ s.resolveMul pl e c a = none then [fail off a false] else [])
          ++ (if x.markD.isSome ∧ hit d ∧ s.resolveMul pl e c d = none then [fail off d (decide (s.chOp pl e c ≠ 2))] else [])
      | none => [])

/-- An engine's requests that wait for a page whose entry is lost complete with POISON (R129, R133). -/
def State.mulPoisoned (s : State) (pl : Pl) (e page : Nat) : State :=
  ((s.mul pl e).chans.map (·.1)).foldl (fun t c =>
    if t.bellwetherChan pl c ∨ t.chanState pl e c ≠ 1 then t
    else
      let l := t.waitsFor pl e c page
      let t := t.modChan pl e c (fun x => { x with listReads := x.listReads.map (fun q =>
        if q.tag.isNone && !q.done && q.mark.isSome && decide (t.pageOf pl q.addr = some page) then
          { q with done := true, status := stPoison } else q) })
      ((t.chanFail pl e c l).judgeLists pl e c)) s

/-- LOOKUP_REPLY (R133): fills the lookaside, holds the page, or poisons what waits for it. A reply for a page held frozen
is discarded. -/
def execLookupReply (pl : Pl) (agent : Nat) (s : State) : Out :=
  inPlane s pl (fun s =>
    match s.takeMgmt pl agent 2 none with
    | none => s
    | some (k, t) =>
      let page := mgPage k.hdr
      let e : W32 := lineWord k.line0 0
      let t := t.modPlacement pl agent (fun (l, u, f) => (l, u.filter (fun x => decide (x ≠ (page, hTag k.hdr))), f))
      if bit (BitVec.ofNat 20 (hMarg k.hdr)) 19 then
        (match muleOf agent with | some m => t.mulPoisoned pl m page | none => t.poisonWaiting pl agent page).settleAgent pl agent
      else if holdsPage (t.frozenOf pl agent) page then t
      else if bit (BitVec.ofNat 20 (hMarg k.hdr)) 18 then
        (t.modPlacement pl agent (fun (l, u, f) =>
          (l, u, f ++ [{ page := page, home := 0, fence1 := true, fence3 := true, gtTags := [], acked := true }]))).settleAgent pl agent
      else
        (t.modPlacement pl agent (fun (l, u, f) => (lookInsert (lookSets agent) l (lookOf page e), u, f))).settleAgent pl agent)

/-! ### Parity errors, owner resets, power (R227 to R229) -/

/-- A RUNNING or STOPPING channel of a faulty engine ends in ERROR (R229). -/
def State.faultChan (s : State) (pl : Pl) (e c : Nat) : State :=
  let st := s.chanState pl e c
  if st = 1 ∨ st = 2 then
    (s.modChan pl e c (fun x => { x with bursts := [], listReads := [], listing := false })).endChan pl e c 5 stPoison 0 4
  else s

/-- MULE_PARITY_ERROR (R146, R229): migrations of the engine abort with cause 6. On the T96-P the plane is faulty (R239). -/
def execMuleParityError (pl : Pl) (e : Nat) (s : State) : Out :=
  inPlane s pl (fun s =>
    if ¬(e < s.variant.mules) then s
    else
      let s := s.modMul pl e (fun m => { m with fault := true })
      let s := (s.por pl (bMul e + 0x2180) 1).occurP pl (386 + e) 1
      let s := (List.range 32).foldl (fun t c => t.faultChan pl e c) s
      let s := s.modSb pl (fun b => { b with badEngines := if b.badEngines.contains e then b.badEngines else b.badEngines ++ [e] })
      (s.migAbortAll pl 6 (fun m => decide (m.engine = e ∧ m.step ≤ 5))).planeFault pl 2 (epMule e) none)

/-- Engines of this part. -/
def State.engines (s : State) : List Nat := List.range s.variant.mules

/-- STOP of every RUNNING channel of an owner, at every engine (R227). -/
def State.mulStopOwner (s : State) (o : Nat) (pl : Pl) : State :=
  s.engines.foldl (fun t e => t.mulStopAll pl e 2 (fun c =>
    !t.bellwetherChan pl c && decide (fld (t.creg pl e c 0x5C) 0 4 = o))) s

/-- The registers of a channel that an owner reset clears: all but CH_CFG (R227, R230). -/
def chanOffs : List Nat := [0, 4, 8, 0xC, 0x10, 0x14, 0x18, 0x1C, 0x20, 0x24, 0x28, 0x2C, 0x30, 0x34, 0x44, 0x48, 0x4C, 0x50, 0x54, 0x58]

/-- A channel returns to its reset state (R227). -/
def State.chanReset (s : State) (pl : Pl) (e c : Nat) : State :=
  let s := s.modChan pl e c (fun _ => {})
  chanOffs.foldl (fun t o => t.pset pl (bChan e c + o) (resetWord (bChan e c + o))) s

/-- Step 4 of an owner reset: every channel of the owner is IDLE (R227). -/
def State.mulClean (s : State) (o : Nat) (pl : Pl) : State :=
  s.engines.foldl (fun t e => (List.range 32).foldl (fun t c =>
    if !t.bellwetherChan pl c && decide (fld (t.creg pl e c 0x5C) 0 4 = o) then t.chanReset pl e c else t) t) s

/-- ENG_STATUS as it is read: FAULT, BELLWETHER, RUNNING (R231). -/
def State.engStatus (s : State) (pl : Pl) (e : Nat) : Nat :=
  let n := ((List.range 32).filter (fun c => decide (s.chanState pl e c = 1 ∨ s.chanState pl e c = 2))).length
  b2n (s.mul pl e).fault + 2 * b2n (bit (s.p pl rPlcCtrl) 0) + n * 256

end Sys2Proof.Machine
end

