-- ==== Sys2Proof/Machine/Owners.lean ====
section
/-!
DEFINITION. Owner resets and key derivation (R196 to R202).
-/
namespace Sys2Proof.Machine

/-! ### Owner reset, steps 1 and 2 (R200) -/

/-- SYS.OWNER_RESET_STATUS with STEP, BUSY and RESULT set; OWNER and the stall fields stay. -/
def State.oresetStep (s : State) (step : Nat) (busy : Bool) (result : Nat) : State :=
  ((s.gfset rOResetStatus 0 1 (b2n busy)).gfset rOResetStatus 1 3 step).gfset rOResetStatus 8 3 result

/-- BUSY (R204). -/
def State.ownerBusy (s : State) : Bool := bit (s.g rOResetStatus) 0

/-- A write of SYS.OWNER_RESET with GO 1. -/
def State.ownerGo (s : State) (o : Nat) : State :=
  if s.ownerBusy then s
  else
    let s := s.gset rOResetStatus (BitVec.ofNat 32 (o * 16))
    if !bit (s.g (rOwner o)) 0 then s.oresetStep 0 false 1
    else if s.gf (rEpoch o) 0 16 = 0xFFFF then s.oresetStep 0 false 2
    else { s.oresetStep 1 true 0 with oreset := { step := 1, owner := o, slot := s.now } }

/-- OWNER_RESET_GO (R200). -/
def execOwnerResetGo (r : CwReq) (o : Nat) (s : State) : Out :=
  s.cwWrite r 0x1080 (fun s => s.ownerGo (o % 16))

/-- A piece of owner `o` at U or S level. -/
def Piece.ofOwner (q : Piece) (o : Nat) : Bool := decide (q.priv ≠ 3 ∧ q.owner = o ∧ q.kind ≠ kFence) && !q.recWrite

/-- The refusal of one unissued piece: its request is answered with ERR_PROT, once if it is a posted write; a line of a posted
write that has completed is in error. `unanswered`: the requests that had not completed at the close. -/
def State.refusePiece (s : State) (pl : Pl) (p : Nat) (unanswered : List Nat) (q : Piece) : State :=
  match (s.ni pl p).reqs.find? (fun r => decide (r.ord = q.ord)) with
  | some r =>
    if r.posted then s.modNi pl p (fun n => { n with
      irsp := n.irsp ++ [{ ord := r.ord, kind := r.kind, status := stProt, beats := [] }],
      reqs := n.reqs.filter (fun x => decide (x.ord ≠ r.ord)) })
    else s.modNi pl p (fun n => n.answerPiece q.ord q.pidx stProt 0)
  | none => if q.posted && !unanswered.contains q.ord then s.postedError pl p q stProt else s

/-- The violation record of a request of which piece `q` is unissued: it names the request's first byte, its length and the right
that it needs (R190, R200). -/
def State.closeRecord (s : State) (pl : Pl) (p : Nat) (q : Piece) : State :=
  let kind := match (s.ni pl p).reqs.find? (fun r => decide (r.ord = q.ord)) with | some r => r.kind | none => q.kind
  s.violation pl p q.owner q.priv q.raddr q.kind 4 0xFF (needOf kind) q.rlen

/-- The first piece of each request. -/
def firstPieces (l : List Piece) : List Piece :=
  l.foldl (fun a q => if a.any (fun x => decide (x.ord = q.ord)) then a else a ++ [q]) []

/-- Step 1 at an initiator NI: unissued requests of `o`, those that wait for tags, tokens or reissue among them, are
refused (R200). -/
def State.closeNi (s : State) (o p : Nat) (pl : Pl) : State :=
  let n := s.ni pl p
  let hit (q : Piece) : Bool := q.ofOwner o
  let gone := n.wait.filter hit ++ n.gtq.flatMap (fun x => x.2.filter hit) ++ n.out.filter (fun q => hit q && q.retryAt.isSome)
  if gone.isEmpty then s
  else
    let tags := gone.filterMap (·.tag)
    let s := s.modNi pl p (fun n => { n with
      wait := n.wait.filter (fun q => !hit q),
      gtq := (n.gtq.map (fun x => (x.1, x.2.filter (fun q => !hit q)))).filter (fun x => !x.2.isEmpty),
      out := n.out.filter (fun q => !(hit q && q.retryAt.isSome)),
      frozen := n.frozen.map (fun f => { f with gtTags := f.gtTags.filter (fun t => !tags.contains t) }) })
    let s := (firstPieces gone).foldl (fun t q => t.closeRecord pl p q) s
    (gone.foldl (fun t q => t.refusePiece pl p (n.reqs.map (·.ord)) q) s).niSettle pl p

/-- Step 1 in a plane: initiator NIs, the Bellwether's migrations (R146) and the Mule channels (R227). -/
def State.closePlane (s : State) (o : Nat) (pl : Pl) : State :=
  let s := ((s.pln pl).ni.map (·.1)).foldl (fun t p => t.closeNi o p pl) s
  let s := s.migAbortAll pl 4 (fun m => decide (m.step ≤ 5 ∧ eOwner (s.entry pl m.page) = o))
  s.mulStopOwner o pl

/-- OWNER_CLOSE (R200 step 1): at the fourth slot boundary after the write. -/
def execOwnerClose (s : State) : Out :=
  .next (if s.oreset.step = 1 ∧ s.oreset.slot + 4 ≤ s.now ∧ s.fcInSlot = 0 then
    let o := s.oreset.owner
    let s := s.gor rOClosed (bitMask o)
    let s := s.eachPlane (fun pl t => t.closePlane o pl)
    { s.oresetStep 2 true 0 with oreset := { s.oreset with step := 2, slot := s.now } }
  else s)

/-- The ports whose target NI still has a request of `o` to answer (R200 step 2). -/
def State.drainPorts (s : State) (o : Nat) : List Nat :=
  (List.range s.variant.ports).filter (fun p => s.planes.any (fun pl => (s.ni pl p).jobs.any (fun j =>
    decide (j.priv ≠ 3 ∧ j.owner = o ∧ (j.src ≤ 95 ∨ (0x70 ≤ j.src ∧ j.src ≤ 0x77))))))

/-- The service block still has a request of `o` outstanding, or a migration of `o` past its switch (R200 step 2). -/
def State.drainService (s : State) (o : Nat) : Bool :=
  s.planes.any (fun pl => (s.sb pl).outs.any (fun x => decide (x.priv ≠ 3 ∧ x.owner = o))
    || (s.sb pl).migs.any (fun m => decide (6 ≤ m.step ∧ eOwner (s.entry pl m.page) = o) && !m.stopping))

/-- OWNER_DRAIN_DONE (R200 steps 2 and 3): the epoch moves on and Vigen starts on the new key. -/
def execOwnerDrainDone (s : State) : Out :=
  .next (let o := s.oreset.owner
    if s.oreset.step = 2 ∧ s.drainPorts o = [] ∧ !s.drainService o then
      let s := s.gfset (rEpoch o) 0 16 (s.gf (rEpoch o) 0 16 + 1)
      { s.oresetStep 3 true 0 with oreset := { s.oreset with step := 3, ready := false } }
    else s)

/-- OWNER_RESET_STALL (R201). -/
def execOwnerResetStall (s : State) : Out :=
  .next (let o := s.oreset.owner
    let limit := s.gf rResetLimit 0 24
    if s.oreset.step = 2 ∧ limit ≠ 0 ∧ s.oreset.slot + limit ≤ s.now ∧ !bit (s.g rOResetStatus) 11
        ∧ (s.drainPorts o ≠ [] ∨ s.drainService o) then
      let p := (s.drainPorts o).headD 0x7F
      ((s.gfset rOResetStatus 11 1 1).gfset rOResetStatus 16 7 p).occurInfo 377 (o + p * 256)
    else s)

/-! ### Keys (R196 to R198) -/

/-- The epoch under which key `k` is derived: 0x0000 for the machine key (R196). -/
def State.keyEpoch (s : State) (k : Nat) : Nat := if k = 16 then 0 else s.gf (rEpoch k) 0 16

/-- Key `k` derived at its current epoch. -/
def State.newKey (s : State) (k : Nat) : BitVec 512 := deriveKey s.boot.root k (s.keyEpoch k)

/-- A key is loaded into every XTS engine (R197). -/
def State.loadKey (s : State) (k : Nat) (v : BitVec 512) : State :=
  { s with keys := { s.keys with keys := s.keys.keys.wr k v 0, epochs := s.keys.epochs.wr k (s.keyEpoch k + 1) 0 } }

/-- All 17 keys are loaded. -/
def State.allKeys (s : State) : Bool := (List.range 17).all (fun k => decide (s.keys.epochs.rd k 0 ≠ 0))

/-- One derivation is counted (R204). -/
def State.countKey (s : State) : State := s.ginc rKeyStatus 16 16 1

/-- KEY_DERIVATION_DONE (R196 to R198): the new key of an owner reset, which waits for the switch; or one of the 17 keys of
start-up or of an exit from Deep sleep. -/
def execKeyDerivationDone (k : Nat) (s : State) : Out :=
  .next (if 16 < k then s
    else if s.oreset.step = 3 ∧ s.oreset.owner = k ∧ !s.oreset.ready then
      { s.countKey with keys := { s.keys with next := some (k, s.newKey k) }, oreset := { s.oreset with ready := true } }
    else if (s.phase = 6 ∨ s.pw.devExitAt.isSome) ∧ s.keys.epochs.rd k 0 = 0 ∧ !s.test.mode then
      let s := (s.countKey).loadKey k (s.newKey k)
      if s.allKeys then s.gfset rKeyStatus 0 1 1 else s
    else s)

/-! ### Steps 3 to 5 (R200) -/

/-- Step 4 in a plane: locks, placement, queues and Mule channels (R58, R148, R179, R227). -/
def State.cleanPlane (s : State) (o : Nat) (pl : Pl) : State :=
  let held := (s.sb pl).locks.filter (fun x => decide (x.2.state = .held ∧ x.2.holderOwner = o) && !x.2.holderM)
  let s := held.foldl (fun t x => t.breakLock pl x.1 4) s
  (((s.bwClean o pl).queuesClean o pl).mulClean o pl)

/-- OWNER_KEY_SWITCH (R200 steps 3 and 4): at a slot boundary, every engine switches; the clean-up begins. -/
def execOwnerKeySwitch (s : State) : Out :=
  .next (match s.keys.next with
    | none => s
    | some (k, v) =>
      if s.oreset.step = 3 ∧ s.oreset.ready ∧ s.fcInSlot = 0 then
        let s := s.loadKey k v
        let s : State := { s.oresetStep 4 true 0 with
          keys := { s.keys with next := none }, oreset := { s.oreset with step := 4 } }
        s.eachPlane (fun pl t => t.cleanPlane k pl)
      else s)

/-- The reports of step 4 are in: the last INVALIDATE has been acknowledged (R148, R200). -/
def State.cleanDone (s : State) : Bool :=
  s.planes.all (fun pl => (s.sb pl).invWait.isEmpty && (s.sb pl).invSend.isEmpty)

/-- OWNER_CLEAN_DONE (R200 step 4). -/
def execOwnerCleanDone (s : State) : Out :=
  .next (if s.oreset.step = 4 ∧ s.cleanDone then
    { s.oresetStep 5 true 0 with oreset := { s.oreset with step := 5, doneSlot := s.now } }
  else s)

/-- OWNER_OPEN (R200 step 5): 4 slots after step 4. -/
def execOwnerOpen (s : State) : Out :=
  .next (let o := s.oreset.owner
    if s.oreset.step = 5 ∧ s.oreset.doneSlot + 4 ≤ s.now ∧ s.fcInSlot = 0 then
      let s := s.gset rOClosed (s.g rOClosed &&& ~~~bitMask o)
      let s : State := { s.oresetStep 0 false 0 with oreset := {} }
      (s.ginc rOResets 0 32 1).occurInfo 376 o
    else s)

end Sys2Proof.Machine
end

