-- ==== Sys2Proof/Machine/Router.lean ====
section
/-!
DEFINITION. Routers: output arbitration (R75 to R79, R376), draining (R83), credits (R69), link retry (R253, R254).
-/
namespace Sys2Proof.Machine

/-- LL_BURST of a router (R77, R88, R89). -/
def State.llBurst (s : State) (pl : Pl) (quire : Bool) (i : Nat) : Nat :=
  s.pf pl (if quire then bQrt i else bFrt i) 0 6

/-- SHARE of input `n` (R65, R88, R89). -/
def State.share (s : State) (pl : Pl) (quire : Bool) (i n : Nat) : Nat :=
  if quire then (if n = 23 then 1 else s.pf pl (bQrt i + 4 + 4 * (n / 8)) (4 * (n % 8)) 4)
  else (if n = 8 then 1 else s.pf pl (bFrt i + 4) (4 * n) 4)

/-- A packet that an output discards needs an answer (R83): any request kind but FENCE's own RACK included. -/
def answered (kind : Nat) : Bool := decide (kind ≤ kQop)

/-- The answer a draining output's response generator forms: ERR_DECODE to the source (R32, R83). -/
def drainAnswer (h : BitVec 64) (cmd : Line) (now : Nat) : List Flit :=
  let kind := hKind h
  let data := decide (kind = kRead ∨ kind = kFetch ∨ kind = kAtomic ∨ kind = kQop ∨ (kind = kLock ∧ cSubop cmd = 0))
  let n := if kind = kRead ∨ kind = kFetch then cSpan cmd else 1
  let hdr := mkHdr (hSrc h) (hDest h) (rspVc (hVc h)) (if data then kRdata else kRack) (hPriv h) (hOwner h) (hTag h) (n - 1)
    ||| rspHi stDecode (if hVc h = 0 then now % 16 else 0)
  mkFlits hdr (List.replicate n 0) now

/-- Output `o` is draining: its far end is not live, or it is still in the middle of a packet it discards (R83). -/
def State.draining (s : State) (pl : Pl) (quire : Bool) (i o : Nat) : Bool :=
  !s.liveEnd quire i o || (List.range 7).any (fun v => (s.router pl quire i).drains.rd (o * 8 + v) false)

/-- The flit at the head of input `n`, `vc` may go to its output this fc (R75): the output it goes to. -/
def State.eligible (s : State) (pl : Pl) (quire : Bool) (i n vc : Nat) : Option Nat :=
  let r := s.router pl quire i
  match (r.buf.rd (n * 8 + vc) []).head? with
  | none => none
  | some f =>
    match r.flitOut quire i n f with
    | none => none
    | some o =>
      let local? := decide (n = nOut quire)
      let al := r.alloc.rd (o * 8 + vc) 0
      let allocOk := if f.idx = 0 then decide (al = 0) else decide (al = n + 1)
      let inputOk := local? || s.liveEnd quire i n || r.completing.rd (n * 8 + vc) false
      let room := if s.draining pl quire i o then
          f.idx ≠ 0 || !answered (hKind f.hdr) || decide ((r.gen.rd (rspVc vc) []).length < 4)
        else s.farRuns quire i o && decide (0 < r.credits o vc) && (r.retryWait.rd (o * 8 + vc) []).isEmpty
      if allocOk && inputOk && room then some o else none

/-- The candidate that input `n` offers in a tier: VC and output (R75). -/
def State.candidate (s : State) (pl : Pl) (quire : Bool) (i n tier : Nat) : Option (Nat × Nat) :=
  let vcs := (tierVcs tier).filter (fun v => (s.eligible pl quire i n v).isSome)
  match rotatePick vcs ((s.router pl quire i).inPtr.rd (n * 4 + tier) 0) 7 with
  | some v => (s.eligible pl quire i n v).map (fun o => (v, o))
  | none => none

/-- The sender of a link keeps its last 8 flits (R253); the T96-P performs no retry (R243). `k`: the link's number at the router
that keeps its records. -/
def State.keepSent (s : State) (pl : Pl) (quire : Bool) (i k : Nat) (f : Flit) : State :=
  if s.variant.paired then s
  else s.modRouter pl quire i (fun r => { r with hist := r.hist.upd k [] (fun l => (l ++ [f]).drop (l.length - 7)) })

/-- The effect of granting the head flit of input `n` on `vc` at output `o` (R67, R69, R70, R83, R110). Room at the response
generator is judged when a packet's head is taken; two draining outputs that have each taken one may bring it above 4 (DESIGN
CHOICE, log 39). -/
def State.grantFlit (s : State) (pl : Pl) (quire : Bool) (i n vc o : Nat) : State :=
  let r := s.router pl quire i
  match r.buf.rd (n * 8 + vc) [] with
  | [] => s
  | f :: rest =>
    let h := f.hdr
    let head := decide (f.idx = 0)
    let tail := decide (f.idx = hLen h)
    let spine := decide (routeAt quire i h ≠ .out o)
    let j := (o - 8) / 4
    let key := j * 1024 + bucketOf h
    let held := head && spine && decide (vc ≠ 0 ∧ 0 < (r.ord.rd key {}).pend ∧ r.credits o vc < r.credits (r.freest j vc) vc)
    let drain := s.draining pl quire i o
    let late := decide (vc = 0 ∧ s.img.w < s.fc - f.since)
    let s := s.modRouter pl quire i (fun r =>
      let r := { r with
        buf := r.buf.wr (n * 8 + vc) rest [],
        alloc := r.alloc.wr (o * 8 + vc) (if tail then 0 else n + 1) 0,
        drains := r.drains.wr (o * 8 + vc) (drain && !tail) false,
        completing := if tail then r.completing.wr (n * 8 + vc) false false else r.completing,
        pick := if spine && head then r.pick.wr (n * 8 + vc) o 0 else r.pick }
      let r := if spine && head && !drain then
          { r with ord := r.ord.wr key { link := (o - 8) % 4, pend := (r.ord.rd key {}).pend + 1 } {},
                   sent := r.sent.upd (o * 8 + vc) [] (· ++ [{ left := hLen h + 1, bucket := key }]) } else r
      let r := if head then { r with retried := r.retried.wr (o * 8 + vc) 0 0, poisonRun := r.poisonRun.wr (o * 8 + vc) false false } else r
      if drain then r else { r with used := r.used.upd (o * 8 + vc) 0 (· + 1) })
    let s := match inputSender quire i n with
      | some q => if s.liveEnd quire i n then s.giveCredit pl q vc 1 else s
      | none => s
    let s := (s.countRtr pl quire i 0x02 o).countRtr pl quire i 0x03 vc
    let s := if held then ((if quire then s.pinc pl (bQrt i + 0x1C) 0 32 1 else s)).countRtr pl quire i 0x0A o else s
    let s := if late then (s.countRtr pl quire i 0x06 o).rtrEvent pl quire i 0 else s
    if drain then
      let s := s.modRouter pl quire i (fun r => if head then { r with lastTx := r.lastTx.wr (o * 8 + vc) [f] [] } else r)
      if tail then
        let cmd := (((s.router pl quire i).lastTx.rd (o * 8 + vc) []).head?.map (·.data)).getD f.data
        let s := s.pinc pl (if quire then bQrt i + 0x14 else bFrt i + 0xC) 0 32 1
        if answered (hKind h) then
          s.modRouter pl quire i (fun r => { r with gen := r.gen.upd (rspVc vc) [] (· ++ [s.checked pl (drainAnswer h cmd s.now)]) })
        else s
      else s
    else
      let bad := f.poison || (s.router pl quire i).poisonRun.rd (o * 8 + vc) false
      (s.keepSent pl quire i o { f with poison := bad }).leaveRouter pl quire i o { f with poison := bad }

/-- What one fc of arbitration has decided so far: the state, inputs granted with their tier, outputs granted. -/
structure ArbStep where
  st : State
  ins : List (Nat × Nat)
  outs : List Nat

/-- Inputs, not yet granted, whose candidate of a tier is for output `o`, with its VC. The manual does not say whether candidates,
and the link choice of R66, are fixed at the start of the fc: they are judged on what the grants so far have left (DESIGN
CHOICE, log 39). -/
def ArbStep.asks (a : ArbStep) (pl : Pl) (quire : Bool) (i tier o : Nat) (barred : List Nat) : List (Nat × Nat) :=
  (List.range (nOut quire + 1)).filterMap (fun n =>
    if a.ins.any (fun x => decide (x.1 = n)) || barred.contains n then none
    else match a.st.candidate pl quire i n tier with
      | some (v, q) => if q = o then some (n, v) else none
      | none => none)

/-- Grants input `w` with `vc` at output `o`, and moves the pointers (R75, R76). -/
def ArbStep.grant (a : ArbStep) (pl : Pl) (quire : Bool) (i tier o w vc : Nat) : ArbStep :=
  let s := a.st.modRouter pl quire i (fun r => { r with
    rp := r.rp.wr (o * 4 + tier) (w + 1) 0, inPtr := r.inPtr.wr (w * 4 + tier) (vc + 1) 0 })
  { st := s.grantFlit pl quire i w vc o, ins := a.ins ++ [(w, tier)], outs := a.outs ++ [o] }

/-- Picks by the rotating pointer of output `o` and tier (R76). -/
def ArbStep.pickRot (a : ArbStep) (pl : Pl) (quire : Bool) (i tier o : Nat) (l : List (Nat × Nat)) : Option (Nat × Nat) :=
  match rotatePick (l.map (·.1)) ((a.st.router pl quire i).rp.rd (o * 4 + tier) 0) (nOut quire + 1) with
  | some w => l.find? (fun x => decide (x.1 = w))
  | none => none

/-- Round 0 at output `o` (R75). -/
def ArbStep.round0 (pl : Pl) (quire : Bool) (i : Nat) (a : ArbStep) (o : Nat) : ArbStep :=
  match a.pickRot pl quire i 0 o (a.asks pl quire i 0 o []) with
  | some (w, v) => a.grant pl quire i 0 o w v
  | none => a

/-- Round 1 at output `o`; `c2` holds the outputs that had an eligible tier-2 candidate at the start of the round, and
`barred` the inputs that offer no tier-1 candidate in this fc (R75, R77). -/
def ArbStep.round1 (pl : Pl) (quire : Bool) (i : Nat) (c2 barred : List Nat) (a : ArbStep) (o : Nat) : ArbStep :=
  let burst := a.st.llBurst pl quire i
  if a.outs.contains o || (c2.contains o && decide (burst ≤ (a.st.router pl quire i).run.rd o 0)) then a
  else match a.pickRot pl quire i 1 o (a.asks pl quire i 1 o barred) with
    | some (w, v) =>
      let a := if c2.contains o then
          { a with st := a.st.modRouter pl quire i (fun r => { r with run := r.run.upd o 0 (· + 1) }) } else a
      a.grant pl quire i 1 o w v
    | none => a

/-- Round 2 at output `o` (R75, R76). -/
def ArbStep.round2 (pl : Pl) (quire : Bool) (i : Nat) (a : ArbStep) (o : Nat) : ArbStep :=
  if a.outs.contains o then a
  else
    let r := a.st.router pl quire i
    let c := a.asks pl quire i 2 o []
    let aged := c.filter (fun x => r.aged.rd (o * 32 + x.1) false)
    let cnt (n : Nat) : Nat := a.st.share pl quire i n - r.spent.rd (o * 32 + n) 0
    let best := c.foldl (fun m x => max m (cnt x.1)) 0
    let pool := if aged.isEmpty then c.filter (fun x => decide (cnt x.1 = best)) else aged
    match a.pickRot pl quire i 2 o pool with
    | some (w, v) =>
      let forced := decide (a.st.llBurst pl quire i ≤ r.run.rd o 0)
      let s := a.st.modRouter pl quire i (fun r => { r with
        run := r.run.wr o 0 0,
        spent := if 0 < cnt w then r.spent.upd (o * 32 + w) 0 (· + 1) else r.spent,
        won := r.won.wr (o * 32 + w) true false, aged := r.aged.wr (o * 32 + w) false false })
      let s := if aged.isEmpty then s
        else (s.pinc pl (if quire then bQrt i + 0x18 else bFrt i + 0x10) 0 32 1).countRtr pl quire i 0x08 o
      let s := if forced then s.countRtr pl quire i 0x07 o else s
      ({ a with st := s } : ArbStep).grant pl quire i 2 o w v
    | none => a

/-- The inputs with an eligible flit for each output, as input and output. -/
def State.askers (s : State) (pl : Pl) (quire : Bool) (i : Nat) : List (Nat × Nat) :=
  ((List.range (nOut quire + 1)).flatMap (fun n => ((List.range 7).filterMap (s.eligible pl quire i n)).map (fun o => (n, o)))).eraseDups

/-- The outputs for which a flit waits without credit (R323 code 0x05). -/
def State.starved (s : State) (pl : Pl) (quire : Bool) (i : Nat) : List Nat :=
  let r := s.router pl quire i
  (r.buf.filterMap (fun x => match x.2.head? with
    | some f => (match r.flitOut quire i (x.1 / 8) f with
      | some o => if r.credits o (x.1 % 8) = 0 ∧ !s.draining pl quire i o then some o else none
      | none => none)
    | none => none)).eraseDups

/-- Counts the eligible inputs not granted and the outputs without credit (R323 codes 0x04, 0x05). -/
def State.countWaits (s : State) (pl : Pl) (quire : Bool) (i : Nat) (asks grants : List (Nat × Nat)) (dry : List Nat) : State :=
  let s := (asks.filter (fun x => !grants.contains x)).foldl (fun t x => t.countRtr pl quire i 0x04 x.2) s
  dry.foldl (fun t o => t.countRtr pl quire i 0x05 o) s

/-- One fc of a router: three rounds over its outputs (R75 to R79). -/
def State.arbitrate (s : State) (pl : Pl) (quire : Bool) (i : Nat) : State :=
  let outs := List.range (nOut quire)
  let ins := List.range (nOut quire + 1)
  let has2 := ins.filter (fun n => (s.candidate pl quire i n 2).isSome)
  let burst := s.llBurst pl quire i
  let barred := ins.filter (fun n => decide (burst ≤ (s.router pl quire i).inRun.rd n 0) && decide (0 < burst))
  let a := outs.foldl (ArbStep.round0 pl quire i) { st := s, ins := [], outs := [] }
  let c2 := (outs.filter (fun o => !a.outs.contains o)).map (fun o => (o, a.asks pl quire i 2 o []))
  let a := { a with st := a.st.modRouter pl quire i (fun r => { r with
    asked := c2.foldl (fun t x => x.2.foldl (fun t y => t.wr (x.1 * 32 + y.1) true false) t) r.asked }) }
  let c2o := (c2.filter (fun x => !x.2.isEmpty)).map (·.1)
  let a := outs.foldl (ArbStep.round1 pl quire i c2o barred) a
  let a := outs.foldl (ArbStep.round2 pl quire i) a
  let t := a.st.modRouter pl quire i (fun r => { r with
    inRun := ins.foldl (fun t n =>
      if a.ins.contains (n, 1) && has2.contains n then t.upd n 0 (· + 1) else t.wr n 0 0) r.inRun })
  t.countWaits pl quire i (s.askers pl quire i) ((a.ins.map (·.1)).zip a.outs) (s.starved pl quire i)

/-- The router that keeps the retry records of a link, with the key of the link's VC there: its sending router, or the
receiving router of an attachment (log 15). -/
def keeperOf (o : OutPort) (vc : Nat) : Bool × Nat × Nat :=
  match o with
  | .folio g k => (false, g, k * 8 + vc)
  | .quire q k => (true, q, k * 8 + vc)
  | .niLink p => (false, p / 6, (32 + p % 6) * 8 + vc)
  | .service q => (true, q, (32 + 22) * 8 + vc)
  | .mule e => (true, e / 2, (32 + 20 + e % 2) * 8 + vc)

/-- A flit passes onto an attachment link: the records of R254 start again with a packet's head, and a poisoned packet
stays poisoned. -/
def State.ontoLink (s : State) (pl : Pl) (o : OutPort) (vc : Nat) (f : Flit) : State × Flit :=
  let k := keeperOf o vc
  let a : State × Flit :=
    if f.idx = 0 then
      (s.modRouter pl k.1 k.2.1 (fun r => { r with retried := r.retried.wr k.2.2 0 0, poisonRun := r.poisonRun.wr k.2.2 false false }), f)
    else (s, { f with poison := f.poison || (s.router pl k.1 k.2.1).poisonRun.rd k.2.2 false })
  (a.1.keepSent pl k.1 k.2.1 (k.2.2 / 8) a.2, a.2)

/-- A flit of the VC waits to be resent on the link (R253). -/
def State.resending (s : State) (pl : Pl) (o : OutPort) (vc : Nat) : Bool :=
  let k := keeperOf o vc
  !((s.router pl k.1 k.2.1).retryWait.rd k.2.2 []).isEmpty

/-- One fc of an NI's link to its folio router (R376). -/
def State.niLinkStep (s : State) (pl : Pl) (p : Nat) : State :=
  let n := s.ni pl p
  let ok (v : Nat) : Bool := !(n.tx.rd v []).isEmpty && decide (n.txUsed.rd v 0 < vcDepth v) && !s.resending pl (.niLink p) v
  let t1 := [1, 2, 6].filter ok
  let t2 := [3, 4, 5].filter ok
  let burst := s.llBurst pl false (p / 6)
  let hold1 := !t2.isEmpty && decide (burst ≤ n.txRun)
  let pick : Option (Nat × Nat) :=
    if ok 0 then some (0, 0)
    else match (if hold1 then none else rotatePick t1 n.txPtr1 7) with
      | some v => some (v, 1)
      | none => (rotatePick t2 n.txPtr2 7).map (fun v => (v, 2))
  match pick with
  | none => s
  | some (v, tier) =>
    match n.tx.rd v [] with
    | [] => s
    | f :: rest =>
      let s := s.modNi pl p (fun n => { n with
        tx := n.tx.wr v rest [], txUsed := n.txUsed.upd v 0 (· + 1),
        txPtr1 := if tier = 1 then v + 1 else n.txPtr1, txPtr2 := if tier = 2 then v + 1 else n.txPtr2,
        txRun := if tier = 2 then 0 else if tier = 1 ∧ !t2.isEmpty then n.txRun + 1 else n.txRun })
      let (s, f) := s.ontoLink pl (.niLink p) v f
      (s.countNi pl p 0x04 (vcClass v) (ownerIf (hPriv f.hdr) (hOwner f.hdr))).arriveRouter pl false (p / 6) (p % 6) f

/-- The staging room that a ring WRITE's data flit gives back as it leaves the service block (R167). -/
def Sb.freeStaging (b : Sb) (f : Flit) : Sb :=
  if hKind f.hdr ≠ kWrite ∨ f.idx = 0 then b
  else match (b.outs.find? (fun x => decide (x.tag = some (hTag f.hdr)))).map (·.purpose) with
    | some (SbPurpose.ring q n) => { b with queues := b.queues.upd q {} (fun d =>
        { d with adm := d.adm.map (fun a => if a.seq = n then { a with room := a.room - 1 } else a) }) }
    | _ => b

/-- One fc of service link `q` on `vc` while its quire is not live: the flit is discarded, and a request is answered with
ERR_DECODE, as an output of a router does under R83 (log 23). -/
def State.sbLinkDrain (s : State) (pl : Pl) (q vc : Nat) : State :=
  match (s.sb pl).tx.rd (q * 8 + vc) [] with
  | [] => s
  | f :: rest =>
    let s := s.modSb pl (fun b => { b.freeStaging f with tx := b.tx.wr (q * 8 + vc) rest [] })
    if f.idx = hLen f.hdr ∧ answered (hKind f.hdr) ∧ hKind f.hdr ≠ kMessage then
      let fs := mkFlits (mkHdr epService (hDest f.hdr) (rspVc vc) kRack 3 0 (hTag f.hdr) 0 ||| rspHi stDecode 0) [0] s.fc
      s.modSb pl (fun b => { b with inbox := pushAt b.inbox (q * 8 + rspVc vc) fs })
    else s

/-- One fc of service link `q` on `vc` (R64). -/
def State.sbLinkStep (s : State) (pl : Pl) (q vc : Nat) : State :=
  let b := s.sb pl
  match b.tx.rd (q * 8 + vc) [] with
  | [] => s
  | f :: rest =>
    if b.txUsed.rd (q * 8 + vc) 0 < vcDepth vc ∧ !s.resending pl (.service q) vc then
      let (s, f) := s.ontoLink pl (.service q) vc f
      ((s.modSb pl (fun b => { b.freeStaging f with
        tx := b.tx.wr (q * 8 + vc) rest [], txUsed := b.txUsed.upd (q * 8 + vc) 0 (· + 1) })).countSpine pl 0x03 q).arriveRouter
          pl true q 22 f
    else s

/-- One fc of Mule engine `e`'s router port on `vc` (R64, R218). -/
def State.muleLinkStep (s : State) (pl : Pl) (e vc : Nat) : State :=
  let m := s.mul pl e
  match m.tx.rd vc [] with
  | [] => s
  | f :: rest =>
    if m.txUsed.rd vc 0 < vcDepth vc ∧ !s.resending pl (.mule e) vc then
      let (s, f) := s.ontoLink pl (.mule e) vc f
      (s.modMul pl e (fun m => { m with tx := m.tx.wr vc rest [], txUsed := m.txUsed.upd vc 0 (· + 1) })).arriveRouter
        pl true (e / 2) (20 + e % 2) f
    else s

/-- OUTPUT_ARBITRATION (R75): one fc of one sender. A sender or receiver whose island is gated waits (R296). -/
def execOutputArbitration (pl : Pl) (node : Node) (s : State) : Out :=
  inPlane s pl (fun s =>
    match node with
    | .niLink p => if s.isPort p && s.quireRuns (p / 24) && (s.port p).live then s.niLinkStep pl p else s
    | .folio g => if decide (g < s.variant.folios) && s.quireRuns (g / 4) then s.arbitrate pl false g else s
    | .quire q => if decide (q < s.variant.quires) && s.quireRuns q then s.arbitrate pl true q else s
    | .service q vc =>
      if s.variant.quires ≤ q ∨ 7 ≤ vc ∨ (s.qp 4).state ≠ .run then s
      else if s.quireRuns q then s.sbLinkStep pl q vc else if s.fabricUp && !s.quireUp q then s.sbLinkDrain pl q vc else s
    | .mule e vc => if decide (e < s.variant.mules ∧ vc < 7) && s.quireRuns (e / 2) then s.muleLinkStep pl e vc else s)

/-- A router that a node names. -/
def nodeRouter (n : Node) (v : Variant) : Option (Bool × Nat) :=
  match n with
  | .folio g => if g < v.folios then some (false, g) else none
  | .quire q => if q < v.quires then some (true, q) else none
  | _ => none

/-- DRAIN_ANSWER (R83): the response generator moves its oldest answer on `vc` into the local input, as far as the
buffer has space. -/
def execDrainAnswer (pl : Pl) (node : Node) (vc : Nat) (s : State) : Out :=
  inPlane s pl (fun s =>
    match nodeRouter node s.variant with
    | none => s
    | some (quire, i) =>
      s.modRouter pl quire i (fun r =>
        match r.gen.rd vc [] with
        | [] => r
        | a :: rest =>
          let key := nOut quire * 8 + vc
          let room := vcDepth vc - (r.buf.rd key []).length
          let put := (a.take room).map (fun f => { f with since := s.fc })
          { r with buf := pushAt r.buf key put,
                   gen := r.gen.wr vc (if a.length ≤ room then rest else a.drop room :: rest) [] }))

/-- The order-table effect of a credit of output `o` that returns (R67). -/
def Router.creditSent (r : Router) (o vc : Nat) : Router :=
  match r.sent.rd (o * 8 + vc) [] with
  | [] => r
  | x :: rest =>
    if x.left ≤ 1 then
      { r with sent := r.sent.wr (o * 8 + vc) rest [],
               ord := r.ord.upd x.bucket {} (fun b => { b with pend := b.pend - 1 }) }
    else { r with sent := r.sent.wr (o * 8 + vc) ({ x with left := x.left - 1 } :: rest) [] }

/-- One returning credit at a sender's tables: taken off the credits under way, and free again. -/
def takeCredit (cred used : Tab Nat) (k : Nat) : Option (Tab Nat × Tab Nat) :=
  if 0 < cred.rd k 0 then some (cred.upd k 0 (· - 1), used.upd k 0 (· - 1)) else none

/-- CREDIT_RETURN (R69): a credit under way reaches the sender. -/
def execCreditReturn (pl : Pl) (out : OutPort) (vc : Nat) (s : State) : Out :=
  inPlane s pl (fun s =>
    if 7 ≤ vc then s
    else match out with
    | .niLink p => s.modNi pl p (fun n =>
        match takeCredit n.txCred n.txUsed vc with | some (c, u) => { n with txCred := c, txUsed := u } | none => n)
    | .mule e => s.modMul pl e (fun n =>
        match takeCredit n.txCred n.txUsed vc with | some (c, u) => { n with txCred := c, txUsed := u } | none => n)
    | .service q => s.modSb pl (fun n =>
        match takeCredit n.txCred n.txUsed (q * 8 + vc) with | some (c, u) => { n with txCred := c, txUsed := u } | none => n)
    | .folio g o => s.modRouter pl false g (fun n =>
        match takeCredit n.cred n.used (o * 8 + vc) with | some (c, u) => { n with cred := c, used := u } | none => n)
    | .quire q o => s.modRouter pl true q (fun n =>
        match takeCredit n.cred n.used (o * 8 + vc) with
        | some (c, u) => ({ n with cred := c, used := u } : Router).creditSent o vc
        | none => n))

/-! ### Link retry (R253, R254) -/

/-- Where the flits of a link lie at the far end: in a router buffer, at an NI, a Mule engine or the service block. -/
inductive FarEnd where
  | router (quire : Bool) (i n : Nat)
  | ni (p : Nat)
  | mule (e : Nat)
  | service (q : Nat)
  deriving DecidableEq, Repr

/-- The far end of a link. -/
def farOf (o : OutPort) : FarEnd :=
  match o with
  | .niLink p => .router false (p / 6) (p % 6)
  | .folio g k => if k ≤ 5 then .ni (6 * g + k) else .router true (g / 4) (2 * (g % 4) + (k - 6))
  | .quire q k =>
    if k ≤ 7 then .router false (4 * q + k / 2) (6 + k % 2)
    else if k ≤ 19 then .router true (spinePeer q ((k - 8) / 4)) (8 + 4 * spineGroup (spinePeer q ((k - 8) / 4)) q + (k - 8) % 4)
    else if k ≤ 21 then .mule (2 * q + (k - 20)) else .service q
  | .service q => .router true q 22
  | .mule e => .router true (e / 2) (20 + e % 2)

/-- The flits of a VC that wait at a far end, oldest first. GT flits at an NI are in the release buffer, and on the T96-P flits
for the unit at the comparator. -/
def State.farFlits (s : State) (pl : Pl) (e : FarEnd) (vc : Nat) : List Flit :=
  match e with
  | .router q i n => (s.router pl q i).buf.rd (n * 8 + vc) []
  | .ni p =>
    if s.variant.paired ∧ vc ≠ 6 then
      (((s.pair.cmp.rd p ({} : Cmp)).arrived pl).filter (fun f => decide (hVc f.hdr = vc)))
    else if vc = 0 then (s.port p).gtRel.flatMap (·.flits)
    else if onArrival vc then (s.ni pl p).inbox.rd vc [] else (s.ni pl p).rx.rd vc []
  | .mule m => if onArrival vc then (s.mul pl m).inbox.rd vc [] else (s.mul pl m).rx.rd vc []
  | .service q => if onArrival vc then (s.sb pl).inbox.rd (q * 8 + vc) [] else (s.sb pl).rx.rd (q * 8 + vc) []

/-- Changes the list of the flits of a VC at a far end, in the buffers of routers and of the ends inside a plane. -/
def State.modFar (s : State) (pl : Pl) (e : FarEnd) (vc : Nat) (g : List Flit → List Flit) : State :=
  match e with
  | .router q i n => s.modRouter pl q i (fun r => { r with buf := r.buf.upd (n * 8 + vc) [] g })
  | .ni p => s.modNi pl p (fun x => if onArrival vc then { x with inbox := x.inbox.upd vc [] g } else { x with rx := x.rx.upd vc [] g })
  | .mule m => s.modMul pl m (fun x => if onArrival vc then { x with inbox := x.inbox.upd vc [] g } else { x with rx := x.rx.upd vc [] g })
  | .service q => s.modSb pl (fun x => if onArrival vc then { x with inbox := x.inbox.upd (q * 8 + vc) [] g }
      else { x with rx := x.rx.upd (q * 8 + vc) [] g })

/-- Flit `f` at a far end is as `g` says. -/
def State.changeFar (s : State) (pl : Pl) (e : FarEnd) (vc : Nat) (f g : Flit) : State :=
  let one (x : Flit) : Flit := if x = f then g else x
  match e with
  | .ni p =>
    if s.variant.paired ∧ vc ≠ 6 then
      { s with pair := { s.pair with cmp := s.pair.cmp.upd p {} (fun c => match pl with
          | .a => { c with delay := c.delay.map (fun x => (x.1, one x.2)) }
          | .b => { c with inB := c.inB.map one }) } }
    else if vc = 0 then
      s.modPort p (fun x => { x with gtRel := x.gtRel.map (fun y => { y with flits := y.flits.map one }) })
    else s.modFar pl e vc (·.map one)
  | _ => s.modFar pl e vc (·.map one)

/-- The receiver takes the last `n` flits of the VC out again (R253). -/
def State.cutFar (s : State) (pl : Pl) (e : FarEnd) (vc n : Nat) : State :=
  let keep := (s.farFlits pl e vc).take ((s.farFlits pl e vc).length - n)
  match e with
  | .ni p =>
    if vc = 0 then
      s.modPort p (fun x => { x with gtRel :=
        (x.gtRel.map (fun y => { y with flits := y.flits.filter keep.contains })).filter (fun y => !y.flits.isEmpty) })
    else s.modFar pl e vc (fun _ => keep)
  | _ => s.modFar pl e vc (fun _ => keep)

/-- Flits that have been resent come to the far end (R253). -/
def State.resendFar (s : State) (pl : Pl) (e : FarEnd) (vc : Nat) (fs : List Flit) : State :=
  let fs := fs.map (fun f => { f with since := s.fc })
  match e with
  | .ni p => if vc = 0 then fs.foldl (fun t f => t.gtArrive p f) s else s.modFar pl e vc (· ++ fs)
  | _ => s.modFar pl e vc (· ++ fs)

/-- The router whose LINK_ERR and event a check failure at the far end belongs to (R261, R314). -/
def FarEnd.reporter (e : FarEnd) (keeper : Bool × Nat × Nat) : Bool × Nat :=
  match e with | .router q i _ => (q, i) | _ => (keeper.1, keeper.2.1)

/-- The port of that router at which the link ends, as QUAL of R323 names it. -/
def farPort (o : OutPort) : Nat :=
  match farOf o with
  | .router _ _ n => n
  | _ => match o with | .folio _ k => k | .quire _ k => k | _ => 0

/-- The retry requests, credit words with VC number 7, on their way to the sender of a link (R253). -/
def State.retryWords (s : State) (pl : Pl) (out : OutPort) : Nat :=
  match out with
  | .niLink p => (s.ni pl p).txCred.rd 7 0
  | .mule e => (s.mul pl e).txCred.rd 7 0
  | .service q => (s.sb pl).txCred.rd (q * 8 + 7) 0
  | .folio g o => (s.router pl false g).cred.rd (o * 8 + 7) 0
  | .quire q o => (s.router pl true q).cred.rd (o * 8 + 7) 0

/-- What the retry adds to a flit, in fc: on a link that crosses islands, and on an attachment inside one (R253). The manual
gives the figure of an NI's attachment; a Mule engine's is taken to be the same (log 15). -/
def retryFc (o : OutPort) : Nat :=
  match o with
  | .niLink _ => 3
  | .mule _ => 3
  | .service _ => 9
  | .folio _ k => if k ≤ 5 then 3 else 9
  | .quire _ k => if k = 20 ∨ k = 21 then 3 else 9

/-- The receiver reports a check failure (R253, R261, R314, R323). -/
def State.reportLink (s : State) (pl : Pl) (out : OutPort) (vc : Nat) : State :=
  let rep := (farOf out).reporter (keeperOf out vc)
  ((s.pinc pl (if rep.1 then bQrt rep.2 + 0x20 else bFrt rep.2 + 0x14) 0 16 1).rtrEvent pl rep.1 rep.2 1).countRtr pl rep.1 rep.2 0x09
    (farPort out)

/-- A check failure on the T96-P: the plane is faulty, and the flit goes on as it came, to meet its end-to-end check (R243). -/
def State.failPaired (s : State) (pl : Pl) (out : OutPort) (got : LinkFlit) (f : Flit) : State :=
  ((s.changeFar pl (farOf out) got.vc f { f with data := got.data }).reportLink pl out got.vc).planeFault pl 3 epService
    (some (ownerBits f.hdr))

/-- The first check failure of a packet on a link: the receiver discards the flit and the later ones of its VC, and asks for
them with a credit word of VC 7; they are to come out of the sender's history (R253). -/
def State.failFirst (s : State) (pl : Pl) (out : OutPort) (got : LinkFlit) : State :=
  let k := keeperOf out got.vc
  let sent := ((s.router pl k.1 k.2.1).hist.rd (k.2.2 / 8) []).filter (fun f => decide (hVc f.hdr = got.vc))
  if sent.length ≤ got.back then s
  else
    (((s.cutFar pl (farOf out) got.vc (got.back + 1)).reportLink pl out got.vc).giveCredit pl out 7 1).modRouter pl k.1 k.2.1
      (fun r => { r with
        retried := r.retried.wr k.2.2 1 0,
        retryWait := r.retryWait.wr k.2.2 ((sent.drop (sent.length - 1 - got.back)).map (fun f => { f with since := s.fc })) [] })

/-- The second: the flit is accepted with the poison bit, and so are the later ones of the packet (R254). -/
def State.failSecond (s : State) (pl : Pl) (out : OutPort) (got : LinkFlit) (f : Flit) : State :=
  let k := keeperOf out got.vc
  let rep := (farOf out).reporter k
  let s := s.changeFar pl (farOf out) got.vc f { f with data := got.data, poison := true }
  let s := (s.pinc pl (if rep.1 then bQrt rep.2 + 0x20 else bFrt rep.2 + 0x14) 16 16 1).rtrEvent pl rep.1 rep.2 1
  ((s.rtrEvent pl rep.1 rep.2 2).countRtr pl rep.1 rep.2 0x09 (farPort out)).modRouter pl k.1 k.2.1 (fun r => { r with
    poisonRun := r.poisonRun.wr k.2.2 (decide (f.idx < hLen f.hdr)) false })

/-- LINK_CHECK_FAILURE (R243, R253, R254): a flit of the VC on the link fails its check. In a recovering plane it starts the
recovery again (R246, R250). -/
def execLinkCheckFailure (pl : Pl) (out : OutPort) (got : LinkFlit) (s : State) : Out :=
  .next (if s.variant.paired ∧ !s.runs pl then s.planeFault pl 3 epService none
    else if !s.runs pl then s
    else
      let l := s.farFlits pl (farOf out) got.vc
      match l[l.length - 1 - got.back]? with
      | none => s
      | some f =>
        let k := keeperOf out got.vc
        if l.length ≤ got.back ∨ linkCheck f.hdr got.data = got.word then s
        else if s.variant.paired then s.failPaired pl out got f
        else if (s.router pl k.1 k.2.1).retried.rd k.2.2 0 = 0 then s.failFirst pl out got
        else s.failSecond pl out got f)

/-- LINK_RETRY_REQUEST (R253): the request has reached the sender, and the flits that it resends reach the far end. -/
def execLinkRetryRequest (pl : Pl) (out : OutPort) (vc : Nat) (s : State) : Out :=
  inPlane s pl (fun s =>
    let k := keeperOf out vc
    match (s.router pl k.1 k.2.1).retryWait.rd k.2.2 [] with
    | [] => s
    | f :: rest =>
      if s.fc < f.since + retryFc out ∨ s.retryWords pl out = 0 then s
      else
        ((s.modRouter pl k.1 k.2.1 (fun r => { r with retryWait := r.retryWait.wr k.2.2 [] [] })).modCredit pl out 7 (· - 1)).resendFar
          pl (farOf out) vc (f :: rest))

end Sys2Proof.Machine
end

