-- ==== Sys2Proof/Machine/Pair.lean ====
section
/-!
DEFINITION. The redundant pair of the T96-P: comparators, plane faults, recovery and join (R232 to R250, R259).
-/
namespace Sys2Proof.Machine

/-! ### Comparators (R237 to R242) -/

/-- The two copies carry the same flit. -/
def sameFlit (x y : Flit) : Bool := decide (x.hdr = y.hdr ∧ x.data = y.data)

def State.cmpOf (s : State) (p : Nat) : Cmp := s.pair.cmp.rd p {}

def State.modCmp (s : State) (p : Nat) (f : Cmp → Cmp) : State :=
  { s with pair := { s.pair with cmp := s.pair.cmp.upd p {} f } }

/-- The plane opposite. -/
def otherPl (pl : Pl) : Pl := match pl with | .a => .b | .b => .a

/-- The one plane from which a port delivers; none while it compares both (R238, R240, R244, R245). -/
def State.cmpSingle (s : State) (p : Nat) : Option Pl :=
  let c := s.cmpOf p
  if !s.runs .a then some .b
  else if !s.runs .b then some .a
  else match c.faultSeen with
    | some pl => some (otherPl pl)
    | none => if c.single then some (if c.fromB then .b else .a) else none

/-- A flit that the comparator releases enters the port: the release buffer when it is a GT flit, and both halves of the NI
(R237, R242). -/
def State.edgeEnter (s : State) (p : Nat) (f : Flit) : State := (s.edgeGt p f).eachPlane (fun pl t => t.enterNi pl p f)

/-- A flit is delivered; one with POISON is counted, and may make a group safe (R251, R259). -/
def State.deliver (s : State) (p : Nat) (f : Flit) (poison : Bool) : State :=
  if poison then ((s.ginc rPairPoisoned 0 32 1).poisonOwner (hOwner f.hdr) (hPriv f.hdr)).edgeEnter p { f with poison := true }
  else s.edgeEnter p f

/-- A port finds a plane faulty and delivers from the other from now on (R238); the Bellwether learns of it (R150). -/
def State.cmpFault (s : State) (p : Nat) (pl : Pl) (f : Flit) : State :=
  ((s.planeFault pl 1 p (some (ownerBits f.hdr))).modCmp p (fun c => { c with faultSeen := some pl })).timedCheckAll

/-- The port is marked SUSPECT and delivers from plane B (R240). -/
def State.suspectPort (s : State) (p : Nat) : State :=
  (s.modCmp p (fun c => { c with suspect := true, single := true, fromB := true })).timedCheckAll

/-- The half's flit is there and its check word passes in its plane. -/
def seenOk (pl : Pl) (x : Option Seen) : Bool := match x with | some x => checkPass pl x.copy | none => false

/-- What R238 decides on two realigned flits: deliver A's; deliver the flit of a plane, the other being faulty; the flit with
POISON, both planes being faulty; a replay; nothing. -/
inductive Verdict where
  | equal (f : Flit)
  | only (pl : Pl) (x : Seen)
  | both (f : Flit)
  | replay (a b : Seen)
  | nothing
  deriving DecidableEq, Repr

/-- The table of R238. A failing copy beside an absent one counts as two failing copies. -/
def verdict (fa fb : Option Seen) : Verdict :=
  match fa, fb, seenOk .a fa, seenOk .b fb with
  | some x, some y, true, true => if sameFlit x.flit y.flit then .equal x.flit else .replay x y
  | _, some y, false, true => .only .b y
  | some x, _, true, false => .only .a x
  | none, none, _, _ => .nothing
  | some x, _, _, _ => .both x.flit
  | none, some y, _, _ => .both y.flit

/-- Delivery from plane A alone: the flit out of the egress delay register is compared with half A's comparator copy (R241). A
register that is faulty makes the port switch to plane B, once B is in service (R250). -/
def State.decideA (s : State) (p : Nat) (fa : Option Seen) : State :=
  match fa with
  | none => s
  | some x =>
    let pass := checkPass .a x.copy
    if pass && sameFlit x.flit x.copy then s.deliver p x.flit false
    else
      let s := if pass then s.suspectPort p else s
      let s := if pass && s.runs .b then s else s.planeFault .a 1 p (some (ownerBits x.copy.hdr))
      s.deliver p x.flit true

/-- Delivery from plane B alone (R241). -/
def State.decideB (s : State) (p : Nat) (fb : Option Seen) : State :=
  match fb with
  | none => s
  | some y =>
    if checkPass .b y.copy then s.deliver p y.flit false
    else (s.planeFault .b 1 p (some (ownerBits y.copy.hdr))).deliver p y.flit true

/-- The decision on one pair of realigned flits while the port compares (R238). -/
def State.decidePair (s : State) (p : Nat) (fa fb : Option Seen) : State :=
  match verdict fa fb with
  | .equal f => s.deliver p f false
  | .only .a x => (s.cmpFault p .b x.copy).decideA p (some x)
  | .only .b y => (s.cmpFault p .a y.copy).decideB p (some y)
  | .both f => ((s.affectOwners (ownerBits f.hdr)).occurInfo 381 p).deliver p f true
  | .replay x y => s.modCmp p (fun c => { c with copyA := some x.copy, copyB := some y.copy, waitAt := some s.fc })
  | .nothing => s

/-- The decision in one fc. -/
def State.decideAt (s : State) (p : Nat) (fa fb : Option Seen) : State :=
  match s.cmpSingle p with
  | some .a => s.decideA p fa
  | some .b => s.decideB p fb
  | none => s.decidePair p fa fb

/-- The comparator holds flits behind a replay. -/
def Cmp.stalled (c : Cmp) : Bool := c.waitAt.isSome || c.diverged.isSome

/-- The wait at a comparator ends with the flit of a plane delivered. -/
def State.endWait (s : State) (p : Nat) (pl : Pl) (poison : Bool) : State :=
  let c := s.cmpOf p
  let s := s.modCmp p (fun c => { c with waitAt := none, diverged := none, copyA := none, copyB := none })
  match (match pl with | .a => c.copyA | .b => c.copyB) with | some f => s.deliver p f poison | none => s

/-- The flit that a fault puts in a half's place. -/
def faultFlit (x : CmpFlit) (h : Option Flit) (fc : Nat) : Flit :=
  { hdr := x.hdr, data := x.data, check := x.check, idx := (h.map (·.idx)).getD 0, poison := (h.map (·.poison)).getD false,
    since := fc }

/-- What the comparator has of a half whose flit is `h`, after a fault: of its plane, or of the delay register between the copy
register and the comparison. -/
def seenOf (h : Option Flit) (fault : Option HalfFault) (fc : Nat) : Option Seen :=
  match fault with
  | none => h.map (fun f => { copy := f, flit := f })
  | some .lost => none
  | some (.plane x) => some { copy := faultFlit x h fc, flit := faultFlit x h fc }
  | some (.delay x) => h.map (fun f => { copy := f, flit := faultFlit x h fc })

/-- Half A's flit that leaves the egress delay register in this fc, or has left it and waits. -/
def State.headA (s : State) (p : Nat) : Option Flit :=
  match (s.cmpOf p).delay with | e :: _ => if e.1 ≤ s.fc then some e.2 else none | [] => none

/-- Half B's flit that has arrived. -/
def State.headB (s : State) (p : Nat) : Option Flit := (s.cmpOf p).inB.head?

/-- The two flits of this fc are taken from the registers. -/
def State.takeHeads (s : State) (p : Nat) : State :=
  let a := (s.headA p).isSome
  s.modCmp p (fun c => { c with delay := if a then c.delay.drop 1 else c.delay, inB := c.inB.drop 1 })

/-- Every flit behind a replay leaves D + 1 fc after its own (R240); until it does, it waits in the replay queue. -/
def State.cmpQueue (s : State) (p : Nat) : State :=
  let c := s.cmpOf p
  if c.stalled then s
  else match c.queue with
    | [] => s
    | (t, fa, fb) :: rest =>
      if t + s.img.skew + 1 ≤ s.fc then (s.modCmp p (fun c => { c with queue := rest })).decideAt p fa fb else s

/-- A comparator that waits on a divergence delivers from the healthy plane once it learns of a plane fault (R239, R240). -/
def State.wakeComparator (s : State) (p : Nat) : State :=
  match s.pair.faulty, (s.cmpOf p).diverged with
  | some bad, some _ => (s.modCmp p (fun c => { c with faultSeen := some bad })).endWait p (otherPl bad) false
  | _, _ => s

/-- The realigned flits of this fc are decided on at once, or go behind a replay: into the replay queue of 8 flits per half, and
while that is full they stay where they are, with their credits (R240). -/
def State.cmpFlits (s : State) (p : Nat) (fa fb : Option HalfFault) : State :=
  let c := s.cmpOf p
  let a := seenOf (s.headA p) fa s.fc
  let b := seenOf (s.headB p) fb s.fc
  if c.stalled || !c.queue.isEmpty then
    (if c.queue.length < 8 ∧ (a.isSome ∨ b.isSome) then
      (s.takeHeads p).modCmp p (fun c => { c with queue := c.queue ++ [(s.fc, a, b)] })
    else s).cmpQueue p
  else (s.takeHeads p).decideAt p a b

/-- COMPARATOR_DECISION (R237, R238, R240, R241): the comparator of port `p` decides on the realigned flits of this fc. `fa`, `fb`:
what a fault has made of a half's flit. A proof test holds the flit for its fc (R244). -/
def execComparatorDecision (p : Nat) (fa fb : Option HalfFault) (s : State) : Out :=
  .next (if !s.variant.paired || !s.isPort p || decide ((s.cmpOf p).testAt = some s.fc) then s
    else (s.wakeComparator p).cmpFlits p fa fb)

/-- A replay that agrees (R240): counted; too many within 2^20 slots mark the port SUSPECT. -/
def State.transient (s : State) (p : Nat) : State :=
  let s := (s.ginc rPairTransients 0 32 1).occurInfo 382 p
  let s := s.modCmp p (fun c => { c with transients := c.transients.filter (fun t => decide (s.now < t + 2 ^ 20)) ++ [s.now] })
  let limit := s.gf rPairCfg 4 4
  if limit ≠ 0 ∧ limit ≤ (s.cmpOf p).transients.length then s.suspectPort p else s

/-- COMPARATOR_REPLAY (R240): half A's copy has passed the egress delay register again, D + 1 fc later, and has left it as
`delayed`. -/
def execComparatorReplay (p : Nat) (delayed : CmpFlit) (s : State) : Out :=
  .next (let c := s.cmpOf p
    match c.waitAt, c.copyA, c.copyB with
    | some t, some x, some y =>
      let d := faultFlit delayed c.copyA s.fc
      if s.fc < t + s.img.skew + 1 then s
      else if sameFlit d y then (s.transient p).endWait p .b false
      else if !sameFlit d x then (s.suspectPort p).endWait p .b false
      else s.modCmp p (fun c => { c with waitAt := none, diverged := some s.fc })
    | _, _, _ => s)

/-- DIVERGE_TIMEOUT (R240): 64 fc without an indication. Plane B is taken out. -/
def execDivergeTimeout (p : Nat) (s : State) : Out :=
  .next (match (s.cmpOf p).diverged with
    | some t =>
      if t + 64 ≤ s.fc then
        let owners := match (s.cmpOf p).copyA with | some f => some (ownerBits f.hdr) | none => none
        ((((s.ginc rPairDiverge 0 32 1).planeFault .b 4 p owners).modCmp p (fun c => { c with faultSeen := some .b })).endWait
          p .a true).timedCheckAll
      else s
    | none => s)

/-- All comparators that wait on a divergence learn of a plane fault (R239). -/
def State.wakeComparators (s : State) : State :=
  (s.pair.cmp.filter (fun x => x.2.diverged.isSome)).foldl (fun t x => t.wakeComparator x.1) s

/-- PLANE_CHECKER_FIRE (R239, R250). -/
def execPlaneCheckerFire (pl : Pl) (site : CheckSite) (s : State) : Out :=
  .next (if s.variant.paired then
    (s.planeFault pl 2 site.port site.owners).wakeComparators
  else s)

/-! ### Taking a plane out (R245) -/

def State.setPlState (s : State) (pl : Pl) (st : PlState) : State :=
  { s with pair := match pl with | .a => { s.pair with a := st } | .b => { s.pair with b := st } }

/-- The plane that is out of service. -/
def State.outPlane (s : State) : Option Pl :=
  if !s.variant.paired then none
  else if s.pair.a ≠ .inService then some .a else if s.pair.b ≠ .inService then some .b else none

/-- PLANE_OUT (R245): boundary d + 4. -/
def execPlaneOut (s : State) : Out :=
  .next (match s.pair.faulty with
    | none => s
    | some pl =>
      if s.pair.slot + 4 ≤ s.now ∧ s.fcInSlot = 0 ∧ s.runs pl then
        let s := s.setPlState pl .reset
        let s : State := { s with pair := { s.pair with
          window := true, restarts := 0, faulty := none, since := s.now, sinceFc := s.fc, rejoin := false, kfails := 0 } }
        let s := (s.ginc rPairFaults 0 32 1).occurInfo 380 s.pair.port
        let s := (s.gset rPairSlotLo (BitVec.ofNat 32 s.pair.slot)).gset rPairSlotHi (BitVec.ofNat 32 (s.pair.slot / 2 ^ 32))
        let waits := s.pair.cmp.filter (fun x => x.2.stalled)
        let s := waits.foldl (fun t x => t.endWait x.1 (otherPl pl) false) s
        let unseen := s.pair.cmp.foldl (fun t x => t.upd x.1 {} (fun c => { c with faultSeen := none })) s.pair.cmp
        (({ s with pair := { s.pair with cmp := unseen } } : State).resetPlane pl).timedCheckAll
      else s)

/-- A forced removal (R245, R259). -/
def State.forceOut (s : State) (pl : Pl) : State :=
  if s.runs .a && s.runs .b && s.pair.faulty.isNone then s.planeFault pl 5 epService none else s

/-- FORCE_OUT_A (R245). -/
def execForceOutA (r : CwReq) (s : State) : Out := s.cwWrite r rPairCtrl (fun s => s.forceOut .a)

/-- FORCE_OUT_B (R245). -/
def execForceOutB (r : CwReq) (s : State) : Out := s.cwWrite r rPairCtrl (fun s => s.forceOut .b)

/-! ### Recovery (R246, R247) -/

/-- The state of the plane that is out changes, if it was as expected. -/
def State.recover (s : State) (was next : PlState) (f : Pl → State → State) : State :=
  match s.outPlane with
  | some pl =>
    if s.plState pl = was then
      f pl { s.setPlState pl next with pair := { (s.setPlState pl next).pair with since := s.now, sinceFc := s.fc } }
    else s
  | none => s

/-- PLANE_RESET_DONE (R246): after 2,048 slots the islands of the plane that meet R91 are locked, and its crossings have been
measured (R97, R98). -/
def execPlaneResetDone (s : State) : Out :=
  .next (if s.pair.since + 2048 ≤ s.now then s.recover .reset .selftest (fun pl t => t.lockDueIn pl s.islands) else s)

/-- SELFTEST_DONE (R246): after 2,400,000 slots. -/
def execSelftestDone (passed : Bool) (s : State) : Out :=
  .next (if s.pair.since + 2400000 ≤ s.now then s.recover .selftest (if passed then .sweep else .failed)
    (fun _ t => { t with pair := { t.pair with kfails := 0, resent := 0 } }) else s)

/-- A kettle word is received (R247): one whose CRC fails is resent; after 16 failures in a row the sweep starts again. The
manual gives a restart for the sweep alone. -/
def State.kettleWord (s : State) (pl : Pl) (w : KettleWord) : State :=
  let st := s.plState pl
  if w.crc = kettleCrc w.data then { s with pair := { s.pair with kfails := 0 } }
  else
    let s := s.ginc rPairKettle 0 16 1
    let s : State := { s with pair := { s.pair with kfails := s.pair.kfails + 1, resent := s.pair.resent + 1 } }
    if 16 ≤ s.pair.kfails ∧ st ≠ .join then
      (s.ginc rPairKettle 16 4 1).recover st .sweep (fun _ t => { t with pair := { t.pair with kfails := 0, resent := 0 } })
    else s

/-- KETTLE_WORD_ERROR (R247): a word of the kettle link while it carries the state of the plane in service. -/
def execKettleWordError (w : KettleWord) (s : State) : Out :=
  .next (match s.outPlane with
    | none => s
    | some pl => if s.plState pl = .sweep ∨ s.plState pl = .ready ∨ s.plState pl = .join then s.kettleWord pl w else s)

/-- A router without the flits that are in it. -/
def Router.noFlight (r : Router) : Router := { r with buf := [], gen := [], lastTx := [], retryWait := [] }

/-- The healthy plane's state but for flits in flight, with the islands of the plane that receives it (R247). -/
def Plane.copyTo (x y : Plane) : Plane :=
  { x with
    isl := y.isl,
    ni := x.ni.map (fun e => (e.1, { e.2 with tx := [], rx := [], inbox := e.2.inbox.filter (fun b => decide (7 ≤ b.1 ∨ b.1 = 0)) })),
    frt := x.frt.map (fun e => (e.1, e.2.noFlight)), qrt := x.qrt.map (fun e => (e.1, e.2.noFlight)),
    mule := x.mule.map (fun e => (e.1, { e.2 with tx := [], rx := [], inbox := [] })),
    sb := { x.sb with tx := [], rx := [], inbox := [] } }

/-- The kettle link has brought plane `pl` the state of the other. -/
def State.copyPlane (s : State) (pl : Pl) : State := s.setPln pl ((s.pln (otherPl pl)).copyTo (s.pln pl))

/-- SWEEP_DONE (R246, R247): 212,992 words, and those that were resent, one in each fc at most. -/
def execSweepDone (s : State) : Out :=
  .next (if s.pair.sinceFc + 212992 + s.pair.resent ≤ s.fc then s.recover .sweep .ready (fun pl t => t.copyPlane pl) else s)

/-! ### Join (R248, R249) -/

/-- The conditions of a join. -/
def State.mayJoin (s : State) : Bool :=
  match s.outPlane with
  | none => false
  | some pl =>
    decide (s.plState pl = .ready ∧ s.fcInSlot = 0 ∧ s.now % 16 = 0 ∧ s.pair.notBefore ≤ s.now)
      && s.pair.joining.isNone && (bit (s.g rPairCfg) 0 || s.pair.rejoin)
      && (s.sb (otherPl pl)).migs.isEmpty && !s.ownerBusy

/-- JOIN_START (R248). -/
def execJoinStart (s : State) : Out :=
  .next (if s.mayJoin then
    s.recover .ready .join (fun _ t => { t with pair := { t.pair with joining := some t.now, resumeWait := false, aborted := false } })
  else s)

/-- Every flit list of a table is empty. -/
def noFlits (t : Tab (List Flit)) : Bool := t.all (fun x => x.2.isEmpty)

/-- Every buffer of a plane is empty and no tag is outstanding (R248). -/
def Plane.drained (x : Plane) : Bool :=
  x.ni.all (fun y => y.2.out.isEmpty && y.2.gtq.all (fun z => z.2.isEmpty) && noFlits y.2.tx && noFlits y.2.rx && noFlits y.2.inbox
      && y.2.jobs.isEmpty && y.2.pfences.isEmpty && y.2.lookups.isEmpty && y.2.rets.all (fun z => z.queue.isEmpty))
    && (x.frt ++ x.qrt).all (fun y => noFlits y.2.buf && y.2.gen.all (fun z => z.2.isEmpty) && noFlits y.2.retryWait)
    && x.mule.all (fun y => y.2.tags.isEmpty && y.2.lookups.isEmpty && noFlits y.2.tx && noFlits y.2.rx && noFlits y.2.inbox)
    && noFlits x.sb.rx && noFlits x.sb.tx && noFlits x.sb.inbox && x.sb.outs.all (fun o => o.tag.isNone)
    && x.sb.queues.all (fun y => y.2.adm.isEmpty)

/-- The unissued and refused pieces of an NI keep no buffer of the plane busy: only sent ones hold tags (R43). -/
def Ni.backOff (n : Ni) (d : Nat) : Ni :=
  { n with out := n.out.map (fun q => { q with retryAt := q.retryAt.map (· + d) }) }

/-- The plane is drained, but for requests that back off after RETRY (R248). -/
def Plane.joinDrained (x : Plane) : Bool :=
  Plane.drained { x with ni := x.ni.map (fun y => (y.1, { y.2 with out := y.2.out.filter (fun q => q.retryAt.isNone), gtq := [] })) }

/-- The registers of the shared edge hold no flit. -/
def State.edgeDrained (s : State) : Bool := s.ports.all (fun x => x.2.ingress.isEmpty) && s.pair.cmp.all (fun x => x.2.idle)

/-- JOIN_DRAIN_DONE (R248): the copy of counters, levels and timers begins. -/
def execJoinDrainDone (s : State) : Out :=
  .next (match s.outPlane with
    | some pl =>
      if s.plState pl = .join ∧ s.pair.joining.isSome ∧ !s.pair.aborted ∧ !s.pair.resumeWait ∧ (s.pln (otherPl pl)).joinDrained
          ∧ s.edgeDrained then
        { s with pair := { s.pair with resumeWait := true, sinceFc := s.fc } }
      else s
    | none => s)

/-- What resumes in a plane: back-off timers have stood still, and held service requests go (R248). -/
def State.resumePlane (d : Nat) (pl : Pl) (s : State) : State :=
  (s.modPln pl (fun x => { x with ni := x.ni.map (fun y => (y.1, y.2.backOff d)) })).sbIssue pl

/-- JOIN_RESUME (R248, R249): at a boundary k with k mod 16 = 0, 512 fc after the drain, or after an abort. -/
def execJoinResume (s : State) : Out :=
  .next (match s.pair.joining, s.outPlane with
    | some j, some pl =>
      if s.fcInSlot ≠ 0 ∨ s.now % 16 ≠ 0 then s
      else if s.pair.aborted then
        let s := if s.plState pl = .join then s.setPlState pl .ready else s
        let s : State := { s with pair := { s.pair with joining := none, resumeWait := false, aborted := false, since := s.now, sinceFc := s.fc } }
        s.eachPlane (fun q t => t.resumePlane (s.now - j) q)
      else if s.pair.resumeWait ∧ s.pair.sinceFc + 512 ≤ s.fc then
        let s := (s.copyPlane pl).setPlState pl .inService
        let s : State := { s with pair := { s.pair with
          joining := none, resumeWait := false, window := false, restarts := 0, rejoin := false } }
        let s := (s.ginc rPairRejoins 0 32 1).gset rPairRecovery (BitVec.ofNat 32 (s.now - s.pair.slot))
        s.eachPlane (fun q t => t.resumePlane (s.now - j) q)
      else s
    | _, _ => s)

/-- JOIN_ABORT (R249): JOIN_LIMIT slots after j without a drain. -/
def execJoinAbort (s : State) : Out :=
  .next (match s.pair.joining with
    | some j => if j + s.gf rPairCfg 16 16 ≤ s.now ∧ !s.pair.resumeWait then s.abortJoin else s
    | none => s)

/-- PAIR_REJOIN (R248). -/
def execPairRejoin (r : CwReq) (s : State) : Out :=
  s.cwWrite r rPairCtrl (fun s => { s with pair := { s.pair with rejoin := true } })

/-- SUSPECT is cleared at every port; a latent fault keeps its port on plane A (R240, R244). -/
def Cmp.clearSuspect (c : Cmp) : Cmp :=
  if c.suspect then { c with suspect := false, single := c.latent, fromB := false, transients := [] } else c

/-- SUSPECT is cleared everywhere (R240). -/
def State.clearSuspects (s : State) : State :=
  let cmp := s.pair.cmp.foldl (fun t x => t.upd x.1 {} Cmp.clearSuspect) s.pair.cmp
  { s with pair := { s.pair with cmp := cmp } }

/-- CLEAR_SUSPECT (R240, R259). -/
def execClearSuspect (r : CwReq) (s : State) : Out := s.cwWrite r rPairCtrl State.clearSuspects

/-- A write of PAIR.CTRL with several bits (R259): VIEW, then the actions in bit order. -/
def State.pairCtrl (s : State) (v : W32) : State :=
  let s := s.gset rPairCtrl (v &&& 0x100)
  let s : State := if bit v 0 then { s with pair := { s.pair with rejoin := true } } else s
  let s := if bit v 1 then s.clearSuspects else s
  let s := if bit v 4 then s.forceOut .a else s
  if bit v 5 then s.forceOut .b else s

/-- The two test flits of a pattern (R244): equal; A's check failing; B's; differing with both checks passing. -/
def testFlits (pattern : Nat) : Option Seen × Option Seen :=
  let f (pl : Pl) (data : Line) (fail : Bool) : Option Seen :=
    let w := checkWord pl 0 data
    let x : Flit := { hdr := 0, data := data, idx := 0, poison := false, since := 0, check := if fail then ~~~w else w }
    some { copy := x, flit := x }
  (f .a 0 (decide (pattern = 1)), f .b (if pattern = 3 then 1 else 0) (decide (pattern = 2)))

/-- The decision that R238 expects on a pattern. -/
def testExpects (pattern : Nat) (v : Verdict) : Bool :=
  match v with
  | .equal _ => decide (pattern = 0)
  | .only .b _ => decide (pattern = 1)
  | .only .a _ => decide (pattern = 2)
  | .replay _ _ => decide (3 ≤ pattern)
  | _ => false

/-- The comparator's decision on its test flit is the expected one. -/
def Cmp.testRight (c : Cmp) : Bool := testExpects c.pattern (verdict (testFlits c.pattern).1 (testFlits c.pattern).2)

/-- The number of the last due slot of the proof test: one every 250,000 slots (R244). -/
def State.testDue (s : State) : Nat := s.now / 250000

/-- The comparator may run its test flit in this fc (R244): neither plane presents a flit, or 4,096 fc have passed since the due
slot began and what waits is no GT flit. -/
def State.testSlot (s : State) (p : Nat) : Bool :=
  (s.headA p).isNone && (s.headB p).isNone
    || (decide ((s.testDue * 250000) * s.img.w + 4096 ≤ s.absFc)
        && !(match (s.headA p), (s.headB p) with
          | some f, _ => decide (hVc f.hdr = 0) | none, some f => decide (hVc f.hdr = 0) | none, none => false))

/-- PROOF_TEST (R244): the test flit of a due slot runs through the comparator of port `p`; `railsOk`: no rail alarm, and the
decision logic does as it should. -/
def execProofTest (p : Nat) (railsOk : Bool) (s : State) : Out :=
  .next (if !s.variant.paired || !s.isPort p || decide (s.testDue ≤ (s.cmpOf p).tests) || !s.testSlot p then s
    else
      let passed := railsOk && (s.cmpOf p).testRight
      let s := s.modCmp p (fun c => { c with
        pattern := (c.pattern + 1) % 4, tests := s.testDue, testAt := some s.fc })
      if passed then s.ginc rPairProof 0 32 1
      else ((s.modCmp p (fun c => { c with latent := true, single := true, fromB := false })).occurInfo 383 p).timedCheckAll)

/-! ### What the PAIR registers read (R259) -/

/-- Code of a plane state. -/
def PlState.code : PlState → Nat
  | .inService => 0 | .reset => 1 | .selftest => 2 | .sweep => 3 | .ready => 4 | .join => 5 | .failed => 6

/-- PAIR.STATE as it is read. -/
def State.pairState (s : State) : Nat :=
  s.pair.a.code + s.pair.b.code * 16 + b2n s.pair.window * 256 + s.pair.restarts * 512 + s.pair.cause * 4096 + s.pair.port * 65536

/-- Word `i` of a per-port bit table of the PAIR block. -/
def State.pairBits (s : State) (i : Nat) (f : Nat → Bool) : Nat :=
  ((List.range 32).map (fun k => if s.isPort (32 * i + k) && f (32 * i + k) then 2 ^ k else 0)).sum

/-- PAIR_OK is high (R245, R306, R308). -/
def State.pairOk (s : State) : Bool :=
  s.variant.paired && s.runs .a && s.runs .b && s.done && !s.pads.pairOkHeld && !s.pads.held

end Sys2Proof.Machine
end

