-- ==== Sys2Proof/Machine/Pads.lean ====
section
/-!
DEFINITION. The pads: safe-state outputs (R251, R252), MP pads and the pad hold (R306 to R310).
-/
namespace Sys2Proof.Machine

/-! ### SAFE_OUT (R251, R252) -/

/-- PAD.SAFE_STATE.CAUSE. -/
def State.safeCause (s : State) : BitVec 4 := BitVec.ofNat 4 (s.gf rSafeState 8 4)

/-- SAFE_OUT_ASSERT (R252): at the slot boundary after a cause. -/
def execSafeOutAssert (s : State) : Out :=
  .next (if s.fcInSlot = 0 ∧ s.pads.safePend ≠ 0 then
    let m := s.pads.safePend
    { (s.gor rSafeState (BitVec.ofNat 32 (m.toNat * 256))) with
      pads := { s.pads with safe := s.pads.safe &&& ~~~m, releasePend := s.pads.releasePend &&& ~~~m, safePend := 0 } }
  else s)

/-- A write of PAD.SAFE_RELEASE: groups without a cause reach their operational level at the next slot boundary (R252). -/
def State.safeRelease (s : State) (groups : BitVec 4) : State :=
  if s.pads.held ∨ s.test.mode then s
  else { s with pads := { s.pads with releasePend := s.pads.releasePend ||| (groups &&& ~~~s.safeCause &&& ~~~s.pads.safePend) } }

/-- SAFE_RELEASE (R252, R308). -/
def execSafeRelease (r : CwReq) (groups : BitVec 4) (s : State) : Out := s.cwWrite r 0x210C (fun s => s.safeRelease groups)

/-! ### MP pads (R309, R310) -/

/-- The pad's edges count: its function `fn` is in effect and no hold is in force. -/
def State.mpArmed (s : State) (m fn : Nat) : Bool :=
  decide (m < 2 ∧ (s.mp m).active = fn) && (s.mp m).holdFrom.isNone && !s.pads.held

/-- A change of a pad's function in slot w: HOLD begins with slot w + 1 (R310). -/
def State.switchPad (s : State) (m fn : Nat) : State :=
  if 5 ≤ fn ∨ s.mpFn m = fn then s
  else
    let s := s.gfset rMpFn (4 * m) 3 fn
    if s.pads.held then s else s.modMp m (fun x => { x with switchAt := some s.now })

/-- A write of PAD.MP_FN (R310). -/
def State.writeMpFn (s : State) (v : W32) : State := (s.switchPad 0 (fld v 0 3)).switchPad 1 (fld v 4 3)

/-- PAD_FUNCTION_SWITCH (R309, R310): a write of PAD.MP_FN. -/
def execPadFunctionSwitch (r : CwReq) (v : W32) (s : State) : Out := s.cwWrite r rMpFn (fun s => s.writeMpFn v)

/-- PAD_HOLD_END (R310): boundary w + 5. -/
def execPadHoldEnd (m : Nat) (s : State) : Out :=
  .next (match (s.mp m).holdFrom with
    | some w =>
      if w + 5 ≤ s.now ∧ s.fcInSlot = 0 then s.modMp m (fun _ => { active := s.mpFn m }) else s
    | none => s)

/-! ### The pad hold (R307) -/

/-- The hold latches the levels of both MP pads; PAIR_OK and SAFE_OUT are low (R300, R306, R307). -/
def State.holdPads (s : State) : State :=
  let l (m : Nat) : Option Bool := s.mpOut m
  let x := l 0
  let y := l 1
  let s := (s.modMp 0 (fun p => { p with latched := x, switchAt := none, holdFrom := none })).modMp 1 (fun p =>
    { p with latched := y, switchAt := none, holdFrom := none })
  { s with pads := { s.pads with held := true, pairOkHeld := true, safe := 0, releasePend := 0 } }

/-- PAD_HOLD_RELEASE (R307): each MP pad starts its function as after a switch. -/
def State.releasePads (s : State) : State :=
  if s.pads.held then
    let s := (s.modMp 0 (fun p => { p with holdFrom := some s.now })).modMp 1 (fun p => { p with holdFrom := some s.now })
    { s with pads := { s.pads with held := false, pairOkHeld := false } }
  else s

/-- PAD_HOLD_RELEASE (R307, R308): a write of PAD.HOLD_RELEASE. -/
def execPadHoldRelease (r : CwReq) (s : State) : Out := s.cwWrite r 0x200C State.releasePads

/-- ALWAYS_ON_SUPPLY_REMOVED (R306, R307): the hold is lost and every SAFE_OUT is safe. -/
def execAlwaysOnSupplyRemoved (s : State) : Out := .next { s with pads := {} }

/-- MP pad `m` is in function-switch HOLD: from the slot after the switch (R310). -/
def State.mpHeld (s : State) (m : Nat) : Bool := match (s.mp m).holdFrom with | some w => decide (w < s.now) | none => false

/-! ### The flash pads (R306) -/

/-- What a flash pad does: high impedance, driven high, or driven by the flash controller as its command needs. -/
inductive FlDrive where
  | highZ | high | driven
  deriving DecidableEq, Repr

/-- The flash controller works: in phases 1 to 3 of start-up, or on a command of R288. -/
def State.flActive (s : State) : Bool :=
  !s.boot.inReset && decide (s.pw.dev = .run) && (decide (1 ≤ s.phase ∧ s.phase ≤ 3) || bit (s.g rFlStat) 0)

/-- FL_CLK, FL_DQ[7:0] and FL_DQS. -/
def State.flBusPads (s : State) : FlDrive := if s.flActive then .driven else .highZ

/-- FL_CS_N: high outside commands; high impedance, and not held, in Deep sleep and Off. -/
def State.flCsPad (s : State) : FlDrive :=
  if s.pw.dev = .deep ∨ s.pw.dev = .off then .highZ else if s.flActive then .driven else .high

/-- PAD.STATUS as it is read (R313). The input levels of the pads come from outside (log 8). -/
def State.padStatus (s : State) : Nat × State :=
  let w := s.freshWord
  let isIn (m : Nat) : Bool := ((s.mp m).active = 0 ∨ (s.mp m).active = 2 ∨ (s.mp m).active = 4) && (s.mp m).holdFrom.isNone && !s.pads.held
  (b2n s.pads.held + 2 * b2n (s.mpHeld 0) + 4 * b2n (s.mpHeld 1)
    + 16 * b2n (isIn 0 && bit w.1 0) + 32 * b2n (isIn 1 && bit w.1 1), w.2)

end Sys2Proof.Machine
end

