-- ==== Sys2Proof/Machine/Image.lean ====
section
/-!
DEFINITION. The binding image: header rules, sections, records and the value check (R267 to R278), and the configuration
that an image gives.
-/
namespace Sys2Proof.Machine

/-! ### Bytes -/

/-- `n` bytes at offset `off` as a number, least significant first (R267). -/
def le (b : List (BitVec 8)) (off n : Nat) : Nat := ((b.drop off).take n).foldr (fun x a => x.toNat + 256 * a) 0

/-- `n` bytes at offset `off` are zero. -/
def zeroBytes (b : List (BitVec 8)) (off n : Nat) : Bool := ((b.drop off).take n).all (fun x => decide (x = 0))

/-- The bytes as numbers. -/
def natBytes (b : List (BitVec 8)) : List Nat := b.map BitVec.toNat

/-! ### Header (R267, R268) -/

def hdrSeq (h : List (BitVec 8)) : Nat := le h 8 4
def hdrLength (h : List (BitVec 8)) : Nat := le h 12 4

/-- RESULT of the header checks: 0 when they pass (R268, R291). -/
def hdrResult (v : Variant) (h : List (BitVec 8)) : Nat :=
  if le h 0 4 ≠ 0x49424C58 then 2
  else if le h 4 2 ≠ 1 then 3
  else if le h 6 1 ≠ v.ident.toNat % 256 then 4
  else if le h 7 1 ≠ 1 then 3
  else if hdrLength h % 64 ≠ 0 ∨ hdrLength h < 128 ∨ 0x3FFFC0 < hdrLength h then 5 else 0

/-! ### Sections (R269) -/

/-- A section: place among the sections, TYPE, offsets of its header and its body, LENGTH and COUNT. -/
structure Sect where
  idx : Nat
  typ : Nat
  hdr : Nat
  off : Nat
  len : Nat
  count : Nat
  deriving DecidableEq, Repr

/-- Where a section rule failed: index of the section and image offset, where there is one (log 21). -/
abbrev ImgErr := Option Nat × Option Nat

/-- A failure in record or section `off` of a section. -/
def Sect.err (x : Sect) (off : Nat) : Option ImgErr := some (some x.idx, some off)

/-- The section whose header lies at `pos`. -/
def sectAt (b : List (BitVec 8)) (pos idx : Nat) : Sect :=
  { idx := idx, typ := le b pos 2, hdr := pos, off := pos + 16, len := le b (pos + 4) 4, count := le b (pos + 8) 4 }

/-- End of a section with its padding. -/
def Sect.stop (x : Sect) : Nat := x.off + (x.len + 15) / 16 * 16

/-- A section header breaks a rule of R269. -/
def Sect.bad (v : Variant) (b : List (BitVec 8)) (limit : Nat) (seen : List Sect) (x : Sect) : Bool :=
  decide (limit < x.off) || decide (le b (x.hdr + 2) 1 ≠ 1) || !zeroBytes b (x.hdr + 3) 1 || !zeroBytes b (x.hdr + 12) 4
    || decide (x.typ = 0 ∨ 0x11 < x.typ) || seen.any (fun y => decide (y.typ = x.typ))
    || (decide (x.typ = 0x11) && !v.paired) || decide (limit < x.stop) || !zeroBytes b (x.off + x.len) (x.stop - x.off - x.len)

/-- Reads `n` sections from `pos` on. -/
def readSects (v : Variant) (b : List (BitVec 8)) (limit n pos : Nat) (seen : List Sect) : List Sect × Option ImgErr :=
  match n with
  | 0 => if pos = limit then (seen, none) else (seen, some ((seen.getLast?).map (·.idx), (seen.getLast?).map (·.hdr)))
  | n + 1 =>
    let x := sectAt b pos seen.length
    if x.bad v b limit seen then (seen, x.err x.hdr) else readSects v b limit n x.stop (seen ++ [x])

/-! ### An image as it is checked -/

/-- Variant, bytes and sections. -/
structure ImgSrc where
  v : Variant
  b : List (BitVec 8)
  sects : List Sect
  deriving DecidableEq, Repr

def ImgSrc.sec (i : ImgSrc) (t : Nat) : Option Sect := i.sects.find? (fun x => decide (x.typ = t))

/-- Number `n` bytes long at offset `off` of the body of section `t`; 0 when it is absent. -/
def ImgSrc.body (i : ImgSrc) (t off n : Nat) : Nat :=
  match i.sec t with | some x => le i.b (x.off + off) n | none => 0

/-- Offsets of the records of a section. -/
def Sect.recs (x : Sect) (size : Nat) : List Nat := (List.range x.count).map (fun k => x.off + size * k)

/-- LENGTH agrees with COUNT records of `size` bytes. -/
def Sect.fits (x : Sect) (size : Nat) : Bool := decide (x.len = size * x.count)

/-- The first record that breaks a rule. -/
def Sect.firstBad (x : Sect) (size : Nat) (bad : Nat → Bool) : Option ImgErr :=
  if !x.fits size then x.err x.hdr
  else match (x.recs size).find? bad with | some o => x.err o | none => none

/-! ### TOPOLOGY (R271) -/

def ImgSrc.w (i : ImgSrc) : Nat := i.body 1 0 1
def ImgSrc.skew (i : ImgSrc) : Nat := i.body 1 1 1

/-- A clock word of R271 is well formed (R93). -/
def clockBad (v : Variant) (p word : Nat) : Bool :=
  let m := word / 16 % 8
  let n := word / 256 % 256
  if word % 2 = 1 then
    decide (v.ports ≤ p) || decide (word ≠ 1 + m * 16 + n * 256) || decide (m < 1 ∨ 4 < m ∨ n < m ∨ 10 * m < n)
  else decide (word ≠ 0)

def ImgSrc.topoErr (i : ImgSrc) (x : Sect) : Option ImgErr :=
  if x.len ≠ 400 then x.err x.hdr
  else if ¬(i.w = 8 ∨ i.w = 6 ∨ i.w = 4) ∨ ¬(if i.v.paired then 2 ≤ i.skew ∧ i.skew ≤ 7 else i.skew = 0)
      ∨ !zeroBytes i.b (x.off + 2) 14 then x.err x.off
  else match (List.range 96).find? (fun p => clockBad i.v p (le i.b (x.off + 16 + 4 * p) 4)) with
    | some p => x.err (x.off + 16 + 4 * p)
    | none => none

/-! ### WINDOWS and extents (R273) -/

def ImgSrc.cw (i : ImgSrc) : Nat := le i.b 24 8
def ImgSrc.plt (i : ImgSrc) : Nat := i.body 3 0 8
def ImgSrc.lap (i : ImgSrc) : Nat := i.body 3 8 8
def ImgSrc.qap (i : ImgSrc) : Nat := i.body 3 16 8
def ImgSrc.fap (i : ImgSrc) : Nat := i.body 3 24 8
def ImgSrc.aper (i : ImgSrc) : Nat := i.body 3 32 8
def ImgSrc.tile (i : ImgSrc) : Nat := i.body 3 40 8

/-- Bytes of the path latency table (R99). -/
def ImgSrc.pltSize (i : ImgSrc) : Nat :=
  let n := i.v.ports + i.v.mules + 1
  64 + 8 * n * n

/-- Two extents, base and size, overlap; an empty one overlaps nothing (R273). -/
def overlap (x y : Nat × Nat) : Bool := decide (0 < x.2 ∧ 0 < y.2 ∧ x.1 < y.1 + y.2 ∧ y.1 < x.1 + x.2)

/-- The control window and the four apertures. -/
def ImgSrc.fixedExtents (i : ImgSrc) : List (Nat × Nat) :=
  [(i.cw, 0x1000000), (i.lap, 0x10000), (i.qap, 0x400000), (i.fap, 0x10000), (i.aper, 0x10000)]

/-- The word a register section of type `t` gives an offset. -/
def ImgSrc.regWord (i : ImgSrc) (t off : Nat) : Option Nat :=
  match i.sec t with
  | some x => (((x.recs 8).find? (fun o => decide (le i.b o 4 = off))).map (fun o => le i.b (o + 4) 4))
  | none => none

def ImgSrc.enable (i : ImgSrc) : Bool := decide ((i.regWord 8 rPlcCtrl).getD 0 % 2 = 1)
def ImgSrc.pages (i : ImgSrc) : Nat := if i.enable then (i.regWord 8 rRegionPages).getD 0 % 2 ^ 19 else 0
def ImgSrc.region (i : ImgSrc) : Nat :=
  (i.regWord 8 rRegionHi).getD 0 % 2 ^ 16 * 2 ^ 32 + (i.regWord 8 rRegionLo).getD 0 / 2 ^ 16 * 2 ^ 16
/-- POOL of tile `t`. -/
def ImgSrc.pool (i : ImgSrc) (t : Nat) : Nat := if i.enable then (i.regWord 8 (rTilePool t)).getD 0 % 128 else 0

/-- Each pair of a list's extents that overlaps. -/
def anyOverlap (l : List (Nat × Nat)) : Bool :=
  match l with
  | [] => false
  | x :: rest => rest.any (overlap x) || anyOverlap rest

/-- The tile window; the path latency table may lie in it, outside every pool (R273). -/
def ImgSrc.windowsOverlap (i : ImgSrc) : Bool :=
  let tiles := (i.tile, i.v.tiles * 0x400000)
  let plt := (i.plt, i.pltSize)
  let inTiles := decide (i.tile ≤ i.plt ∧ i.plt + i.pltSize ≤ i.tile + i.v.tiles * 0x400000)
  anyOverlap (tiles :: i.fixedExtents) || i.fixedExtents.any (overlap plt) || (overlap tiles plt && !inTiles)
    || (List.range i.v.tiles).any (fun t => overlap plt (i.tile + t * 0x400000, i.pool t * 0x10000))

/-- A base of WINDOWS: 48 bits and aligned. -/
def baseBad (a align : Nat) : Bool := decide (2 ^ 48 ≤ a ∨ a % align ≠ 0)

def ImgSrc.windowsErr (i : ImgSrc) (x : Sect) : Option ImgErr :=
  if x.len ≠ 64 then x.err x.hdr
  else if baseBad i.plt 64 || baseBad i.lap 0x10000 || baseBad i.qap 0x400000 || baseBad i.fap 0x10000 || baseBad i.aper 0x10000
      || baseBad i.tile 0x8000000 || !zeroBytes i.b (x.off + 48) 16 || i.windowsOverlap then x.err x.off
  else none

/-! ### ADDRESS_MAP (R272) -/

/-- The record at offset `o`. -/
def mapRecAt (b : List (BitVec 8)) (o : Nat) : MapRec :=
  { base := le b o 8, limit := le b (o + 8) 8, port := le b (o + 16) 1, ports := le b (o + 17) 1, ilv := le b (o + 18) 1 }

def ImgSrc.map (i : ImgSrc) : List MapRec :=
  match i.sec 2 with | some x => (x.recs 32).map (mapRecAt i.b) | none => []

/-- Extent of a range. -/
def MapRec.extent (r : MapRec) : Nat × Nat := (r.base, r.limit + 1 - r.base)

/-- A record breaks a rule of its own, or overlaps an earlier one, the control window or an aperture. -/
def ImgSrc.mapBad (i : ImgSrc) (x : Sect) (o : Nat) : Bool :=
  let r := mapRecAt i.b o
  decide (2 ^ 48 ≤ r.limit ∨ r.limit < r.base ∨ r.base % 65536 ≠ 0 ∨ (r.limit + 1) % 65536 ≠ 0)
    || !([1, 2, 4, 8, 16, 32].contains r.ports) || decide (i.v.ports < r.port + r.ports)
    || decide (1 < r.ports ∧ (r.ilv < 12 ∨ 22 < r.ilv)) || !zeroBytes i.b (o + 19) 13
    || (x.recs 32).any (fun p => decide (p < o) && overlap (mapRecAt i.b p).extent r.extent)
    || i.fixedExtents.any (overlap r.extent)

/-- The bytes from `a` to before `stop` lie in ranges that a test picks. -/
def coveredBy (fuel : Nat) (map : List MapRec) (ok : MapRec → Bool) (a stop : Nat) : Bool :=
  match fuel with
  | 0 => decide (stop ≤ a)
  | fuel + 1 =>
    if stop ≤ a then true
    else match map.find? (fun r => decide (r.base ≤ a ∧ a ≤ r.limit) && ok r) with
      | some r => coveredBy fuel map ok (r.limit + 1) stop
      | none => false

/-- The range's ports are all DRAM ports. -/
def MapRec.dram (v : Variant) (r : MapRec) : Bool := decide (v.firstDram ≤ r.port ∧ r.port + r.ports ≤ v.firstTile)

/-- The rules on the map as a whole: the tile record, the path latency table and the placed region. -/
def ImgSrc.mapSetBad (i : ImgSrc) : Bool :=
  !i.map.any (fun r => decide (r.base = i.tile ∧ r.port = i.v.firstTile ∧ r.ports = i.v.tiles ∧ r.ilv = 22
      ∧ r.limit + 1 = i.tile + i.v.tiles * 0x400000))
    || !coveredBy 65 i.map (fun _ => true) i.plt (i.plt + i.pltSize)
    || !coveredBy 65 i.map (MapRec.dram i.v) i.region (i.region + i.pages * 65536)

def ImgSrc.mapErr (i : ImgSrc) (x : Sect) : Option ImgErr :=
  if x.count = 0 ∨ 64 < x.count then x.err x.hdr
  else match x.firstBad 32 (i.mapBad x) with
    | some e => some e
    | none => if i.mapSetBad then x.err x.hdr else none

/-! ### GT_STREAMS (R274) -/

/-- The record at offset `o`. -/
def gtRecAt (b : List (BitVec 8)) (o : Nat) : GtRec :=
  { src := le b o 1, stream := le b (o + 1) 1, dest := le b (o + 2) 1, kinds := le b (o + 3) 1, rate := le b (o + 4) 2,
    burst := le b (o + 6) 1, lane := le b (o + 7) 1, rlane := le b (o + 8) 1, limit := le b (o + 9) 1, flags := le b (o + 10) 1 }

def ImgSrc.gtBad (i : ImgSrc) (x : Sect) (o : Nat) : Bool :=
  let r := gtRecAt i.b o
  decide (i.v.ports ≤ r.src ∨ i.v.ports ≤ r.dest ∨ 32 ≤ r.stream ∨ r.kinds = 0 ∨ 8 ≤ r.kinds)
    || decide (r.rate < 1 ∨ 256 < r.rate ∨ r.burst < 2 ∨ 64 < r.burst)
    || decide (i.w < r.lane + (if 4 ≤ r.kinds then 4 else 3) ∨ i.w < r.rlane + 3)
    || decide (r.limit ≠ gtDeadline r.src r.dest i.w i.skew)
    || decide (2 ≤ r.flags ∨ (r.flags = 1 ∧ r.stream ≠ 31)) || !zeroBytes i.b (o + 11) 5
    || (x.recs 16).any (fun p => decide (p < o ∧ le i.b p 2 = le i.b o 2))

/-! ### PAGE_TABLE (R275) -/

/-- The record at offset `o`. -/
def pageRecAt (b : List (BitVec 8)) (o : Nat) : PageRec :=
  { first := le b o 4, count := le b (o + 4) 4, entry := BitVec.ofNat 32 (le b (o + 8) 4) }

/-- The frames a record takes: first and number. -/
def PageRec.frames (r : PageRec) : Nat × Nat := if eInframe r.entry then (eFrame r.entry, r.count) else (0, 0)

/-- Every frame from `f` on, `n` of them, is a pool frame of its tile (R125). -/
def ImgSrc.poolFrames (i : ImgSrc) (f n : Nat) : Bool :=
  decide (f + n ≤ 64 * i.v.tiles) && (List.range n).all (fun k => decide ((f + k) % 64 < i.pool ((f + k) / 64)))

def ImgSrc.pageBad (i : ImgSrc) (x : Sect) (o : Nat) : Bool :=
  let r := pageRecAt i.b o
  let st := eState r.entry
  let start := if o = x.off then 0 else (pageRecAt i.b (o - 16)).first + (pageRecAt i.b (o - 16)).count
  decide (r.first ≠ start ∨ r.count = 0 ∨ i.pages < r.first + r.count ∨ ¬(st = 0 ∨ st = 2) ∨ fld r.entry 26 6 ≠ 0)
    || (eInframe r.entry && (decide (st ≠ 2) || !i.poolFrames (eFrame r.entry) r.count))
    || (!eInframe r.entry && decide (eFrame r.entry ≠ 0)) || !zeroBytes i.b (o + 12) 4
    || (x.recs 16).any (fun p => decide (p < o) && overlap (pageRecAt i.b p).frames r.frames)

def ImgSrc.pageErr (i : ImgSrc) (x : Sect) : Option ImgErr :=
  if !i.enable then x.err x.hdr
  else match x.firstBad 16 (i.pageBad x) with
    | some e => some e
    | none =>
      let l := (x.recs 16).getLast?
      let stop := match l with | some o => (pageRecAt i.b o).first + (pageRecAt i.b o).count | none => 0
      if stop ≠ i.pages then x.err x.hdr else none

/-! ### QUEUES and LOCKS (R276) -/

/-- The bits of each of the eleven words of a descriptor (R180). -/
def qdsMask : List Nat :=
  [0xFFFFF, 0xFFFFF, 0xFFFF, 0x1FFFF, 0xFFFFFFC0, 0xFFFF, 0xFFFFFFC0, 0xFFFF, 0xFFFFFFFC, 0xFFFF, 0xFFFFFFFF]

/-- The word has no bit outside a mask. -/
def within (v mask : Nat) : Bool := decide ((BitVec.ofNat 32 v &&& ~~~(BitVec.ofNat 32 mask)) = 0)

def ImgSrc.queueBad (i : ImgSrc) (x : Sect) (o : Nat) : Bool :=
  decide (16384 ≤ le i.b o 4) || (qdsMask.zipIdx).any (fun (m, k) => !within (le i.b (o + 4 + 4 * k) 4) m)
    || (x.recs 48).any (fun p => decide (p < o ∧ le i.b p 4 = le i.b o 4))

def ImgSrc.lockErr (i : ImgSrc) (x : Sect) : Option ImgErr :=
  if x.len ≠ 1056 then x.err x.hdr
  else match (List.range 16).find? (fun k => decide (le i.b (x.off + 2 * k) 2 < 1 ∨ 4096 < le i.b (x.off + 2 * k) 2)) with
    | some k => x.err (x.off + 2 * k)
    | none =>
      match (List.range 1024).find? (fun n => let v := le i.b (x.off + 32 + n) 1; decide (16 ≤ v ∧ v ≠ 0xFF)) with
      | some n => x.err (x.off + 32 + n)
      | none => none

/-! ### Register sections (R277) -/

/-- The types whose kind is Register (R270), ascending. -/
def regTypes : List Nat := [4, 5, 6, 8, 0xB, 0xD, 0xE, 0xF, 0x10, 0x11]

/-- Offsets of the records of every register section. -/
def ImgSrc.regRecs (i : ImgSrc) : List Nat := regTypes.flatMap (fun t => match i.sec t with | some x => x.recs 8 | none => [])

def ImgSrc.regBad (i : ImgSrc) (x : Sect) (o : Nat) : Bool :=
  let off := le i.b o 4
  decide (off % 4 ≠ 0) || !inBlock i.v off || (match rowOf off with
      | some r => decide (r.sec ≠ x.typ) || !within (le i.b (o + 4) 4) r.img
      | none => true)
    || i.regRecs.any (fun p => decide (p ≠ o ∧ le i.b p 4 = off) && (i.sects.any (fun y => decide (y.off ≤ p ∧ p < y.stop ∧
        (y.typ < x.typ ∨ (y.typ = x.typ ∧ p < o))))))

/-! ### All section rules -/

/-- The rules of one section. -/
def ImgSrc.sectErr (i : ImgSrc) (x : Sect) : Option ImgErr :=
  match x.typ with
  | 1 => i.topoErr x
  | 2 => i.mapErr x
  | 3 => i.windowsErr x
  | 7 => x.firstBad 16 (i.gtBad x)
  | 9 => i.pageErr x
  | 0xA => x.firstBad 48 (i.queueBad x)
  | 0xC => i.lockErr x
  | _ => x.firstBad 8 (i.regBad x)

/-- A required section is missing (R269, R275). -/
def ImgSrc.missing (i : ImgSrc) : Bool :=
  (i.sec 1).isNone || (i.sec 2).isNone || (i.sec 3).isNone || (i.v.paired && (i.sec 0x11).isNone) || (i.enable && (i.sec 9).isNone)

/-- The remaining header rules of R267. -/
def headBad (b : List (BitVec 8)) : Bool :=
  decide (le b 16 2 < 1 ∨ 64 < le b 16 2) || !zeroBytes b 18 6 || !zeroBytes b 96 32 || baseBad (le b 24 8) 0x1000000

/-- The image of bytes, and the first section error: header rules, sections in the order of the image, missing sections,
then the contents in ascending TYPE (R267 to R277; log 21). -/
def readImage (v : Variant) (b : List (BitVec 8)) : ImgSrc × Option ImgErr :=
  let r := readSects v b (hdrLength b) (le b 16 2) 128 []
  let i : ImgSrc := { v := v, b := b, sects := r.1 }
  (i, if headBad b then some (none, none)
    else match r.2 with
      | some e => some e
      | none =>
        if i.missing then some (none, none)
        else (List.range 18).findSome? (fun t => match i.sec t with | some x => i.sectErr x | none => none))

/-! ### The words an image gives -/

/-- The 16-bit upper part and 32-bit lower part of an address at two registers. -/
def addrWords (lo hi a : Nat) : List (Nat × Nat) := [(lo, a % 2 ^ 32), (hi, a / 2 ^ 32)]

/-- Every register word that the image sets (R273, R276, R277, R278): base addresses, defaults, queues, lock limits, and
register records. -/
def ImgSrc.wordList (i : ImgSrc) : List (Nat × Nat) :=
  (List.range 16).map (fun o => (rPlcOwner o, 500 * 4))
    ++ addrWords rTileBaseLo rTileBaseHi i.tile ++ addrWords 0x34000 0x34004 i.qap ++ addrWords 0x34008 0x3400C i.fap
    ++ addrWords 0x39050 0x39054 i.lap
    ++ (List.range i.v.mules).flatMap (fun e => addrWords (bMul e + 0x2004) (bMul e + 0x2008) i.aper)
    ++ (match i.sec 0xA with
      | some x => (x.recs 48).flatMap (fun o => (List.range 11).map (fun k => (bQds (le i.b o 4) + 4 * k, le i.b (o + 4 + 4 * k) 4)))
      | none => [])
    ++ (match i.sec 0xC with | some x => (List.range 16).map (fun k => (rLockLimit k, le i.b (x.off + 2 * k) 2)) | none => [])
    ++ i.regRecs.map (fun o => (le i.b o 4, le i.b (o + 4) 4))

def ImgSrc.words (i : ImgSrc) : Tab W32 := i.wordList.foldl (fun t x => t.wr x.1 (BitVec.ofNat 32 x.2) 0) []

/-! ### The value check (R278) -/

/-- Offsets of the registers of a row that exist in a variant. -/
def RegRow.offsets (r : RegRow) (v : Variant) : List Nat :=
  ((List.range r.n1).flatMap (fun i => (List.range r.n2).map (fun j => r.base + i * r.s1 + j * r.s2))).filter (inBlock v)

/-- A word is outside a range of its row. -/
def RegRow.outside (r : RegRow) (w : W32) : Bool :=
  r.ranges.any (fun x => decide (fld w x.lo x.len < x.min ∨ x.max < fld w x.lo x.len))

/-- Rules over fields of one block beside the ranges of single fields. `f` reads a word. -/
def crossBad (v : Variant) (f : Nat → W32) : List Nat :=
  (if fld (f rPolicy0) 8 8 ≤ fld (f rPolicy0) 16 8 then [rPolicy0] else [])
    ++ (if bit (f rPlcCtrl) 0 then [] else (List.range 32).filterMap (fun t => if fld (f (rTilePool t)) 0 7 ≠ 0 then some (rTilePool t) else none))
    ++ (List.range 8).filterMap (fun g => if 1000 < fld (f (bDg g + 4)) 0 10 + fld (f (bDg g + 4)) 16 10 then some (bDg g + 4) else none)
    ++ (List.range 8).filterMap (fun g => if fld (f (bDg g + 8)) 0 24 ≤ fld (f (bDg g + 12)) 0 24 then some (bDg g + 12) else none)
    ++ (List.range v.mules).flatMap (fun e => (List.range 32).filterMap (fun c =>
        if fld (f (bChan e c + 0x5C)) 4 2 = 2 then some (bChan e c + 0x5C) else none))

/-- Offsets of a valid queue's words that are out of range (R180, R278). -/
def queueValues (f : Nat → W32) (n : Nat) : List Nat :=
  let cfg := f (bQds n)
  if !bit cfg 0 then []
  else
    (if fld cfg 5 3 = 7 ∨ fld cfg 8 5 < 4 ∨ 16 < fld cfg 8 5 ∨ 95 < fld cfg 13 7 then [bQds n] else [])
      ++ (if fld (f (bQds n + 4)) 16 4 = 0 then [bQds n + 4] else [])
      ++ (if fld (f (bQds n + 12)) 0 17 < 1 ∨ 2 ^ fld cfg 8 5 < fld (f (bQds n + 12)) 0 17 then [bQds n + 12] else [])

/-- Offsets of a valid flock's words that are out of range (R181, R278). -/
def flockValues (f : Nat → W32) (k : Nat) : List Nat :=
  if !bit (f (rFcfg k)) 0 then []
  else (if fld (f (rFcfg k)) 16 16 = 0 then [rFcfg k] else []) ++ (if fld (f (rFpolicy k)) 0 8 = 0 then [rFpolicy k] else [])

/-- The lowest offset whose value breaks a rule, over the words an image gives. -/
def valueErr (v : Variant) (words : Tab W32) : Option Nat :=
  let f (o : Nat) : W32 := words.rd o 0
  let queues := (words.map (·.1)).filterMap (fun o => if 0x400000 ≤ o ∧ o < 0x500000 ∧ o % 0x40 = 0 then some ((o - 0x400000) / 0x40) else none)
  let flocks := (words.map (·.1)).filterMap (fun o => if 0x30000 ≤ o ∧ o < 0x34000 ∧ o % 0x10 = 0 then some ((o - 0x30000) / 0x10) else none)
  leastOf ((regRows.filter (fun r => !r.ranges.isEmpty)).flatMap (fun r => (r.offsets v).filter (fun o => r.outside (f o)))
    ++ crossBad v f ++ queues.flatMap (queueValues f) ++ flocks.flatMap (flockValues f))

/-! ### The configuration (R283) -/

/-- The configuration that an accepted image gives. -/
def ImgSrc.config (i : ImgSrc) : Img :=
  { w := i.w, skew := i.skew, map := i.map, plt := i.plt, lap := i.lap, qap := i.qap, fap := i.fap, mulAper := i.aper,
    tileBase := i.tile, cwBase := i.cw, seq := hdrSeq i.b, words := i.words, ok := true,
    clocks := (List.range 96).foldl (fun t p => t.wr p (BitVec.ofNat 32 (i.body 1 (16 + 4 * p) 4)) 0) [],
    gt := (match i.sec 7 with | some x => (x.recs 16).map (gtRecAt i.b) | none => []),
    pages := (match i.sec 9 with | some x => (x.recs 16).map (pageRecAt i.b) | none => []),
    lockOwner := (match i.sec 0xC with
      | some x => (List.range 1024).foldl (fun t n =>
          let v := le i.b (x.off + 32 + n) 1
          t.wr n (if v = 0xFF then 0 else v + 1) 0) []
      | none => []) }

/-- Words of the blocks of a plane. -/
def Plane.loadWords (x : Plane) (ws : Tab W32) : Plane := ws.foldl (fun t w => if planeBlock w.1 then t.wset w.1 w.2 else t) x

/-- Writes the image's words: those of a plane's block in both planes (R277). -/
def State.loadWords (s : State) (ws : Tab W32) : State :=
  let s := ws.foldl (fun t w => if planeBlock w.1 then t else t.gset w.1 w.2) s
  { s with pa := s.pa.loadWords ws, pb := if s.variant.paired then s.pb.loadWords ws else s.pb }

end Sys2Proof.Machine
end

