-- ==== Sys2Proof/Machine/Boot.lean ====
section
/-!
DEFINITION. Start-up from device reset to DONE, Vigen's verification, the minimal window, and the flash interface (R262 to
R266, R279 to R288, R368). None of its steps runs in device reset or in test mode.
-/
namespace Sys2Proof.Machine

/-! ### Device reset (R306, R346, R364, R373) -/

/-- The pads as device reset leaves them: every SAFE_OUT is safe and the pad hold stays (R251, R306, R307). -/
def Pads.atReset (p : Pads) : Pads :=
  if p.held then { held := true, pairOkHeld := true, mp := p.mp.map (fun x => (x.1, { latched := x.2.latched })) } else {}

/-- The device as a reset or the return of its supply leaves it; commands on their way, the free values and the tie-offs
stay. -/
def State.afresh (s : State) : State :=
  { State.resetOf s.variant with
    pending := s.pending, freeCtr := s.freeCtr, pads := s.pads.atReset,
    boot := { bootPort := s.boot.bootPort, bootBase := s.boot.bootBase } }

/-- DEVICE_RESET (R251, R346, R364): DEV_RST_N asserts. A device without its supply has nothing to reset. -/
def execDeviceReset (s : State) : Out :=
  .next (if s.pw.dev = .off then s
    else
      let t := s.afresh
      { t with test := s.test, boot := { t.boot with inReset := true } })

/-- DEVICE_RESET_RELEASE (R281, R373): DEV_RST_N is released, with TEST_MODE low (log 22). -/
def execDeviceResetRelease (s : State) : Out :=
  .next (if s.boot.inReset then { s with test := {}, boot := { s.boot with inReset := false } } else s)

/-- The start-up sequencer runs and stands in phase `n`. -/
def State.inPhase (s : State) (n : Nat) : Bool :=
  decide (s.phase = n) && !s.boot.inReset && !s.test.mode && decide (s.pw.dev = .run)

def State.setPhase (s : State) (n : Nat) : State := s.gfset rBootStatus 0 4 n

/-! ### Phases 0 and 1 -/

/-- All zeros or all ones. -/
def blank (v : BitVec 256) : Bool := decide (v = 0 ∨ v = BitVec.allOnes 256)

/-- FUSE_SAMPLE (R197, R281, R368): phase 0, in which the control island locks, ends. -/
def execFuseSample (valid : Bool) (root khash : BitVec 256) (s : State) : Out :=
  .next (if s.inPhase 0 ∧ s.islLocked .a 21 then
    let root := if valid then root else 0
    let s := { s with boot := { s.boot with root := root, khash := if valid then khash else 0 } }
    let s := if blank root then (s.gfset rKeyStatus 1 1 1).occurInfo 375 0 else s
    s.setPhase 1
  else s)

/-- The mode that the device selects, the highest reported, with its code in IMG.FLASH (R263, R290): no quad mode when it takes a
non-volatile write. -/
def discoveryMode (d : Discovery) : Nat :=
  if !d.signatureOk then 0
  else if d.octal then 3
  else if d.quadIo && !d.qeNonVolatile then 2
  else if d.quadOut && !d.qeNonVolatile then 1 else 0

/-- DISCOVERY_DONE (R263): phase 1 ends. Without the SFDP signature the device uses 1-1-1 and assumes 8 MiB. -/
def execDiscoveryDone (d : Discovery) (s : State) : Out :=
  .next (if s.inPhase 1 then
    let mode := discoveryMode d
    let dens := if d.signatureOk then d.densityLog2 % 256 else 23
    let minor := if d.signatureOk then d.minor % 256 else 0
    let s := s.gset rFlash (BitVec.ofNat 32 (mode + b2n d.signatureOk * 4 + minor * 256 + dens * 65536))
    { s.setPhase 2 with boot := { s.boot with dqsMode := decide (mode = 3), densityOk := decide (23 ≤ dens) } }
  else s)

/-! ### Candidates (R265, R266) -/

/-- Result register of a copy. -/
def copyReg (c : Nat) : Nat := if c = 0 then rCopyA else rCopyB

def State.setResult (s : State) (c v : Nat) : State := s.gfset (copyReg c) 0 4 v

/-- The copy being tried. -/
def State.copy (s : State) : Nat := s.boot.candidates.getD s.boot.tried 0

/-- The header of the copy being tried. -/
def State.copyHdr (s : State) : List (BitVec 8) := if s.copy = 0 then s.boot.hdrA else s.boot.hdrB

/-- Start-up fails (R285): the minimal window opens, and the fabric islands run unlocked with W = 8. -/
def State.startFailed (s : State) : State :=
  let s := ((s.setPhase 9).gfset rBootStatus 10 1 1).gset rBootTime (BitVec.ofNat 32 s.now)
  ({ s with img := {} }).occurInfo 384 0

/-- The copy being tried has failed: the next candidate is read, or start-up fails. -/
def State.nextCopy (s : State) : State :=
  if s.boot.tried + 1 < s.boot.candidates.length then
    { s.setPhase 3 with boot := { s.boot with tried := s.boot.tried + 1 } }
  else s.startFailed

/-- Checks the header of copy `c` (R268). -/
def State.checkHdr (s : State) (c : Nat) (h : List (BitVec 8)) : State :=
  (s.gset (if c = 0 then rSeqA else rSeqB) (BitVec.ofNat 32 (hdrSeq h))).setResult c (hdrResult s.variant h)

/-- HEADERS_READ (R263, R265, R268): phase 2 ends. Copy B is not read from a flash below 8 MiB. -/
def execHeadersRead (a b : List (BitVec 8)) (s : State) : Out :=
  .next (if s.inPhase 2 ∧ a.length = 128 ∧ b.length = 128 then
    let s := s.checkHdr 0 a
    let s := if s.boot.densityOk then s.checkHdr 1 b else s.setResult 1 6
    let okA := decide (hdrResult s.variant a = 0)
    let okB := s.boot.densityOk && decide (hdrResult s.variant b = 0)
    let cands := if okA && okB then (if hdrSeq a < hdrSeq b then [1, 0] else [0, 1]) else if okA then [0] else if okB then [1] else []
    let s := { s with boot := { s.boot with hdrA := a, hdrB := b, candidates := cands, tried := 0 } }
    if cands.isEmpty then s.startFailed else s.setPhase 3
  else s)

/-- FLASH_DQS_TIMEOUT (R264): the copy being read ends as FLASH_ERROR. -/
def execFlashDqsTimeout (s : State) : Out :=
  .next (if s.inPhase 3 ∧ s.boot.dqsMode then (s.setResult s.copy 6).nextCopy else s)

/-! ### Digest and Vigen (R279, R280) -/

/-- IMAGE_READ_DONE (R279, R281): the candidate has been read in full, signature included; phase 3 ends. -/
def execImageReadDone (bytes : List (BitVec 8)) (s : State) : Out :=
  .next (if s.inPhase 3 ∧ bytes.length = hdrLength s.copyHdr + 64 then
    let d := ofBytesBE (sha256 (natBytes (bytes.take (hdrLength s.copyHdr))))
    { s.setPhase 4 with boot := { s.boot with bytes := bytes, digest := BitVec.ofNat 256 d } }
  else s)

/-- Vigen's outcome code: the first check that fails (R279). -/
def vigenCode (b : List (BitVec 8)) (len digest : Nat) (khash : BitVec 256) (selfOk : Bool) : Nat :=
  let x := le b 32 32
  let y := le b 64 32
  let r := le b len 32
  let t := le b (len + 32) 32
  if blank khash then 0x31
  else if ofBytesLE (sha256 (natBytes ((b.drop 32).take 64))) ≠ khash.toNat then 0x32
  else if p256P ≤ x ∨ p256P ≤ y then 0x33
  else if x = 0 ∧ y = 0 then 0x34
  else if !onCurve x y then 0x35
  else if r = 0 ∨ t = 0 then 0x36
  else if p256N ≤ r ∨ p256N ≤ t then 0x37
  else if !ecdsaOk x y r t digest then 0x38
  else if !selfOk then 0x39
  else 0xA5

/-- VIGEN_OUTCOME (R280, R281): the outcome is written; phase 4 ends. -/
def execVigenOutcome (selfCheckOk : Bool) (s : State) : Out :=
  .next (if s.inPhase 4 then
    let code := vigenCode s.boot.bytes (hdrLength s.copyHdr) s.boot.digest.toNat s.boot.khash selfCheckOk
    let s := s.gfset (copyReg s.copy) 8 8 code
    if code = 0xA5 then s.setPhase 5 else (s.setResult s.copy 7).nextCopy
  else s)

/-! ### Application (R266 to R278, R283) -/

/-- A copy has already failed its sections or values, so IMG.ERR_LOC holds the first error. -/
def State.errLocked (s : State) : Bool :=
  [0, 1].any (fun c => decide (s.gf (copyReg c) 0 4 = 8 ∨ s.gf (copyReg c) 0 4 = 9))

def State.setErrLoc (s : State) (v : Nat) : State := if s.errLocked then s else s.gset rErrLoc (BitVec.ofNat 32 v)

/-- The copy fails a section rule. An index or offset that the manual does not state is free (log 21). -/
def State.sectionFailed (s : State) (e : ImgErr) : State :=
  let i : Nat × State := match e.1 with | some k => (k, s) | none => (let f := s.freshWord; (f.1.toNat % 256, f.2))
  let o : Nat × State := match e.2 with | some k => (k, i.2) | none => (let f := i.2.freshWord; (f.1.toNat % 2 ^ 24, f.2))
  let s := o.2.setErrLoc (o.1 % 2 ^ 24)
  ((s.setResult s.copy 8).gfset (copyReg s.copy) 16 8 i.1).nextCopy

/-- Every source whose occurrences wait becomes PENDING, in ascending number (R317). -/
def State.kickAll (s : State) : State := (List.range 512).foldl (fun t i => t.evtKick i) s

/-- The copy is accepted: its configuration is in force from here on (R283); BOOT_PORT falls under R81 (R287). -/
def State.acceptImage (s : State) (i : ImgSrc) (words : Tab W32) : State :=
  let c := s.copy
  let other := s.boot.candidates.drop (s.boot.tried + 1)
  let s := other.foldl (fun t d => t.setResult d 10) (s.setResult c 1)
  let s := s.gfset rBootStatus 8 1 c
  let s := if s.boot.tried = 0 then s else (s.gfset rBootStatus 9 1 1).occurInfo 385 0
  let wasMinimal := s.minimal
  let s := if wasMinimal then (s.gfset rBootStatus 10 1 0).modPort s.boot.bootPort (fun x => { x with ready := false, draining := x.live })
    else s
  let s : State := { s.loadWords words with img := i.config, boot := { s.boot with store := s.boot.bytes, phase6At := s.now, tableHdr := false } }
  (s.setPhase 6).kickAll

/-- APPLY_DONE (R266 to R278): phase 5 ends with the section checks, the application and the value check. -/
def execApplyDone (s : State) : Out :=
  .next (if s.inPhase 5 then
    let r := readImage s.variant s.boot.bytes
    match r.2 with
    | some e => s.sectionFailed e
    | none =>
      let words := r.1.words
      match valueErr s.variant words with
      | some off =>
        let s := s.setErrLoc (off % 2 ^ 24 + 2 ^ 24)
        (s.setResult s.copy 9).nextCopy
      | none => s.acceptImage r.1 words
  else s)

/-! ### Phases 6 to 8 -/

/-- Every island is locked, or start-up has given it up (R282). -/
def State.islandsSettled (s : State) : Bool :=
  s.allPlanes.all (fun pl => (s.islandsIn pl).all (fun i => s.islLocked pl i || ((s.pln pl).isl.rd i {}).gaveUp))

/-- ISLAND_LOCK_TIMEOUT (R282): an island is left unlocked 65,536 slots after phase 6 begins. -/
def execIslandLockTimeout (pl : Pl) (i : Nat) (s : State) : Out :=
  .next (if s.inPhase 6 ∧ s.isIsland pl i ∧ !s.islLocked pl i ∧ s.boot.phase6At + 65536 ≤ s.now then s.modIsl pl i (fun x => { x with gaveUp := true }) else s)

/-- FABRIC_DONE (R97, R98, R281): the crossings have been measured and all 17 keys are loaded; the table entries are written
from here on. -/
def execFabricDone (measured : List Crossing) (s : State) : Out :=
  .next (if s.inPhase 6 ∧ s.islandsSettled ∧ s.allKeys then
    let s := { s with boot := { s.boot with measured := s.crossings } }
    (((s.recordOff measured).setPhase 7).pltEntries)
  else s)

/-- TABLE_DONE (R99, R281): once the writes of the entries are answered the header is written, with the slot in which writing
finished; once that is answered too, PLT_DONE is set. -/
def execTableDone (s : State) : Out :=
  .next (if s.inPhase 7 ∧ !bit (s.g rTiming) 0 ∧ s.pltWritten then
    if s.boot.tableHdr then s.gfset rTiming 0 1 1
    else ({ s with boot := { s.boot with tableHdr := true } } : State).pltAdd [pltOut s.img.plt benAll s.pltHeader]
  else s)

/-- A stream's return reservation at its destination, with a full bucket (R104, R106). -/
def GtRec.reservation (r : GtRec) : RetRes := { src := r.src, stream := r.stream, tok := 256 * r.burst, queue := [] }

/-- Streams and reservations of a plane at the boundary of phase 8 (R106, R283). -/
def State.gtOpen (s : State) (pl : Pl) : State :=
  s.img.gt.foldl (fun t r => (t.modNi pl r.dest (fun n => { n with rets := n.rets ++ [r.reservation] })).modNi pl r.src
    (fun n => { n with tok := n.tok.wr r.stream (256 * r.burst) 0 })) s

/-- The MP pads take the function that the image gives them, unless the pad hold is in force (R306). -/
def State.startPads (s : State) : State :=
  if s.pads.held then s
  else [0, 1].foldl (fun t m => t.modMp m (fun x => { x with active := t.mpFn m })) s

/-- Every port that may leave endpaper does, and the ports of R283 raise READY. -/
def State.openPorts (s : State) : State :=
  (List.range s.variant.ports).foldl (fun t p =>
    if (t.port p).live then t.modPort p (fun x => { x with ready := !x.draining && !x.poisoning })
    else if (t.port p).unitUp && t.mayRise p then t.risePort p else t) s

/-- STARTUP_DONE (R281, R283, R306, R336): at the slot boundary after phase 7. -/
def execStartupDone (s : State) : Out :=
  .next (if s.inPhase 7 ∧ bit (s.g rTiming) 0 ∧ s.fcInSlot = 0 then
    let s := ((s.setPhase 8).gfset rBootStatus 4 1 1).gset rBootTime (BitVec.ofNat 32 s.now)
    let s := s.allPlanes.foldl (fun t pl => t.gtOpen pl) s
    let s : State := { s.startPads with snp := { s.snp with armed := true } }
    s.openPorts
  else s)

/-! ### After a failed start-up (R287) -/

/-- A write of 1 to IMG.CTRL.REBOOT (R287): start-up again from phase 1; the results of the last one are gone (log 22). -/
def State.reboot (s : State) : State :=
  if s.inPhase 9 then
    let s := [rCopyA, rCopyB, rSeqA, rSeqB, rErrLoc, rFlash].foldl (fun t o => t.gset o 0) s
    let s : State := { s with boot := { s.boot with candidates := [], tried := 0, hdrA := [], hdrB := [], bytes := [] } }
    s.setPhase 1
  else s

/-- IMG_REBOOT (R287). -/
def execImgReboot (r : CwReq) (s : State) : Out := s.cwWrite r 0x4020 State.reboot

/-! ### Flash access (R288) -/

/-- BUSY (R291). -/
def State.flBusy (s : State) : Bool := bit (s.g rFlStat) 0

/-- A command ends. -/
def State.flEnd (s : State) (err : Nat) : State := s.gset rFlStat (BitVec.ofNat 32 (err * 2))

/-- FL_ADDR. -/
def State.flAddr (s : State) : Nat := s.gf rFlAddr 0 23

/-- The errors of R288 that a command meets before it runs: 5 BOOTING, 4 BAD_OP, 2 ALIGN, 1 PROTECTED. -/
def State.flErrs (s : State) (op : Nat) : List Nat :=
  let size := if op = 3 then 4096 else 64
  (if 1 ≤ s.phase ∧ s.phase ≤ 7 then [5] else []) ++ (if op = 0 ∨ 3 < op then [4] else [])
    ++ (if s.flAddr % size ≠ 0 then [2] else [])
    ++ (if 2 ≤ op ∧ op ≤ 3 ∧ s.done ∧ (s.flAddr / 2 ^ 22 = s.copy ∨ (s.flAddr + size - 1) / 2 ^ 22 = s.copy)
        then [1] else [])

/-- A write of FL_CMD. Where several errors apply, the manual does not state which one is reported: a free choice (log 9). -/
def State.flStart (s : State) (op : Nat) : State :=
  if s.flBusy then s
  else match s.flErrs op with
    | [] => { s.gset rFlStat 1 with boot := { s.boot with flOp := op } }
    | [e] => s.flEnd e
    | l =>
      let f := s.freshWord
      f.2.flEnd (l.getD (f.1.toNat % l.length) 0)

/-- FLASH_READ (R288). -/
def execFlashRead (r : CwReq) (s : State) : Out := s.cwWrite r 0x4030 (fun s => s.flStart 1)

/-- FLASH_PROGRAM (R288): FL_DATA goes to the flash outside. -/
def execFlashProgram (r : CwReq) (s : State) : Out := s.cwWrite r 0x4030 (fun s => s.flStart 2)

/-- FLASH_ERASE (R288). -/
def execFlashErase (r : CwReq) (s : State) : Out := s.cwWrite r 0x4030 (fun s => s.flStart 3)

/-- FLASH_COMMAND_DONE (R288): the flash is no longer busy; a READ has filled FL_DATA with `data`. -/
def execFlashCommandDone (data : List W32) (s : State) : Out :=
  .next (if s.flBusy then
    let s := if s.boot.flOp = 1 then (List.range 16).foldl (fun t i => t.gset (rFlData i) (data.getD i 0)) s else s
    s.flEnd 0
  else s)

/-- FLASH_TIMEOUT (R288): the flash has stayed busy for 2^28 cc. -/
def execFlashTimeout (s : State) : Out := .next (if s.flBusy then s.flEnd 3 else s)

end Sys2Proof.Machine
end

