-- ==== Sys2Proof/Machine/Events.lean ====
section
/-!
DEFINITION. The event block: acknowledges, configuration, the emitter and its deliveries (R314 to R321).
-/
namespace Sys2Proof.Machine

/-! ### Sources (R315, R317) -/

def State.evState (s : State) (src : Nat) : EvState := s.evt.st.rd src .idle

def State.evCount (s : State) (src : Nat) : Nat := s.evt.count.rd src 0

/-- A source changes its delivery state and leaves the order of emission. -/
def State.evLeave (s : State) (src : Nat) (st : EvState) : State :=
  { s with evt := { s.evt with st := s.evt.st.wr src st .idle, queue := s.evt.queue.filter (fun x => decide (x ≠ src)) } }

/-- A source becomes PENDING at the tail of its level, or at its head. -/
def State.evPend (s : State) (src : Nat) (front : Bool) : State :=
  let s := s.evLeave src .pending
  if front then { s with evt := { s.evt with queue := src :: s.evt.queue } } else s.evTail src

/-- A write of EVT.ACK (R317): COUNT falls by N, at least 1 and at most COUNT. -/
def State.evtAck (s : State) (src n : Nat) : State :=
  let c := s.evCount src
  if c = 0 then s
  else
    let left := c - min (max n 1) c
    let s : State := { s with evt := { s.evt with count := s.evt.count.wr src left 0 } }
    match s.evState src with
    | .pending => if left = 0 then s.evLeave src .idle else s
    | .sent => if left = 0 then s.evLeave src .idle else s.evPend src true
    | .idle => s
    | .hold => s

/-- An occurrence that machine software raises (R315). An INFO word that the manual does not give for it is free (log 9). -/
def State.evtRaise (s : State) (src : Nat) : State :=
  if src = 375 ∨ src = 384 ∨ src = 385 then s.occurInfo src 0
  else if 372 ≤ src ∧ src ≤ 404 then
    let f := s.freshWord
    f.2.occurInfo src f.1.toNat
  else s.occur src

/-- A write of EVT.SRC_CFG (R317): a PENDING source without ENABLE or MSG becomes IDLE; an IDLE one may become PENDING. -/
def State.evtConfig (s : State) (src : Nat) (v : W32) : State :=
  let s := s.gset (rSrcCfg src) (v &&& 0xFFFF7FFF)
  if s.evState src = .pending ∧ (!bit v 0 ∨ !bit v 1) then s.evLeave src .idle else s.evtKick src

/-- EVENT_RAISE (R315): a write of EVT.RAISE. -/
def execEventRaise (r : CwReq) (src : Nat) (s : State) : Out := s.cwWrite r 0x9204 (fun s => s.evtRaise (src % 512))

/-- EVENT_ACK (R317): a write of EVT.ACK. -/
def execEventAck (r : CwReq) (src n : Nat) (s : State) : Out := s.cwWrite r 0x9200 (fun s => s.evtAck (src % 512) (n % 256))

/-! ### The emitter (R316, R318) -/

def State.evPrio (s : State) (src : Nat) : Nat := s.gf (rSrcCfg src) 2 3

/-- The PENDING source of highest PRIO that stands first. -/
def State.evPick (s : State) : Option Nat :=
  s.evt.queue.foldl (fun a x => match a with
    | none => some x
    | some y => if s.evPrio y < s.evPrio x then some x else some y) none

/-- EMITTER_SELECT (R318, R321): the emitter is free, fewer than 8 deliveries are unanswered, and the device is in Run. -/
def execEmitterSelect (s : State) : Out :=
  .next (if s.done ∧ s.pw.dev = .run ∧ s.evt.forming = none ∧ s.evt.inflight < 8 then
    match s.evPick with
    | none => s
    | some src =>
      let cfg := s.g (rSrcCfg src)
      let s := s.evLeave src .sent
      { s with evt := { s.evt with forming := some src, toSend := s.evt.toSend ++ [(src, fld cfg 5 5, fld cfg 16 16)] } }
  else s)

/-- The address of a target (R316, R337). -/
def State.evTarget (s : State) (t : Nat) : Nat := s.gf (rTgtLo t) 2 30 * 4 + s.gf (rTgtHi t) 0 16 * 2 ^ 32

/-- The four bytes of a message at their place in the granule (R316). -/
def evLine (addr src vector : Nat) : Line := BitVec.ofNat 512 ((vector + src * 2 ^ 16) * 2 ^ (8 * (addr % 64)))

/-- EVENT_HANDOFF (R316, R318): the message formed last becomes an LL WRITE of the service block. -/
def execEventHandoff (s : State) : Out :=
  .next (match s.evt.forming with
    | none => s
    | some src =>
      if s.pw.dev ≠ .run then s
      else match s.evt.toSend.getLast? with
        | none => s
        | some (_, tgt, vector) =>
          let a := s.evTarget tgt
          let s := s.ginc rEvtSent 0 32 1
          let s : State := { s with evt := { s.evt with forming := none, inflight := s.evt.inflight + 1 } }
          s.eachPlane (fun pl t => t.sbAdd pl (.event src) true true 0 3 a 1 (benRange (a % 64) 4) [evLine a src vector]))

/-- The purpose is an event delivery. -/
def isEvent : SbPurpose → Bool
  | .event _ => true
  | _ => false

/-- A delivery has been answered (R317, R318, R337). -/
def State.evAnswered (s : State) (src st : Nat) : State :=
  let sent := s.evt.toSend.find? (fun x => decide (x.1 = src))
  let s : State := { s with evt := { s.evt with
    inflight := s.evt.inflight - 1, toSend := match sent with | some x => s.evt.toSend.erase x | none => s.evt.toSend } }
  if st = stOk then s
  else
    let tgt := match sent with | some (_, t, _) => t | none => 0
    let s := ((s.ginc rDelivErr 0 32 1).gor rEvtStatus (bitMask 16)).gset rErrTgt (BitVec.ofNat 32 (tgt + st * 2 ^ 8 + src * 2 ^ 16))
    let s := s.evLeave src .hold
    { s with evt := { s.evt with holdTill := s.evt.holdTill.wr src (s.now + 256) 0 } }

/-- EVENT_DELIVERY_RACK (R317, R318): the RACK at the head of link `q`. Both planes take it; it counts once. -/
def execEventDeliveryRack (pl : Pl) (q : Nat) (s : State) : Out :=
  inPlane s pl (fun s =>
    match s.sbResponse pl q 2 isEvent with
    | some (_, o, st, t) => (match o.purpose with
      | .event src => if pl = t.lead then t.evAnswered src st else t
      | _ => t)
    | none => s)

/-- EVENT_HOLD_EXPIRY (R317): 256 slots in HOLD have passed. -/
def execEventHoldExpiry (src : Nat) (s : State) : Out :=
  .next (if s.evState src = .hold ∧ s.evt.holdTill.rd src 0 ≤ s.now then s.evPend src false else s)

/-! ### What the EVT registers read (R319, R337) -/

/-- Codes of the delivery states. -/
def EvState.code : EvState → Nat
  | .idle => 0 | .pending => 1 | .sent => 2 | .hold => 3

/-- SUMMARY[7:0] (R319). -/
def State.summary (s : State) : Nat :=
  ((List.range 8).map (fun n =>
    if s.evt.count.any (fun x => decide (0 < s.evCount x.1) && (let c := s.g (rSrcCfg x.1); bit c 0 && bit c 10 && decide (fld c 11 3 = n)))
    then 2 ^ n else 0)).sum

end Sys2Proof.Machine
end

