-- ==== Sys2Proof/Machine/Dumps.lean ====
section
/-!
DEFINITION. The owner mirror and the dump groups (R327 to R334): what the hosts latch and send, the mirror store, the
records and their ring.
-/
namespace Sys2Proof.Machine

/-! ### Entries and hosts (R322, R331) -/

/-- The host of a counter exists in this part (R31, R322). -/
def State.ctrExists (s : State) (idx : Nat) : Bool :=
  if idx < 768 then decide (idx / 8 < s.variant.ports) else if idx < 896 then decide ((idx - 768) / 8 < s.variant.folios)
  else if idx < 928 then decide ((idx - 896) / 8 < s.variant.quires)
  else if idx < 960 then decide ((idx - 928) / 4 < s.variant.mules) else decide (idx < 1000)

/-- The counter's host exists and is in Run or Idle. -/
def State.ctrPresent (s : State) (idx : Nat) : Bool := s.ctrExists idx && s.ctrHostUp idx

/-- The entry of a counter (R331): value, OVF, ABSENT. -/
def State.ctrEntry (s : State) (pl : Pl) (idx : Nat) : BitVec 64 :=
  if s.ctrPresent idx then
    BitVec.ofNat 64 (((s.pln pl).ctr.rd idx 0).toNat + b2n (bit (s.p pl (ctrBase idx)) 31) * 2 ^ 48)
  else BitVec.ofNat 64 (2 ^ 49)

/-- Endpoint code of the host that sends a counter; none for those in the service block's own island (R331). -/
def hostEp (idx : Nat) : Option Nat :=
  if idx < 768 then some (idx / 8) else if idx < 896 then some (epFolio ((idx - 768) / 8))
  else if idx < 928 then some (epQuire ((idx - 896) / 8)) else if idx < 960 then some (epMule ((idx - 928) / 4)) else none

/-- The first indices of the runs that a range gives its hosts, one packet each. -/
def chunks (first count : Nat) : List Nat :=
  ((List.range count).map (first + ·)).filter (fun i => decide (i = first ∨ i = (hostOf i).1))

/-- Number of entries of the run at `i` in a range that ends before `stop`. -/
def chunkLen (i stop : Nat) : Nat := min ((hostOf i).1 + (hostOf i).2) stop - i

/-! ### Packets (R65, R73, R331) -/

/-- VC6 requests of a host that the service block has not answered. -/
def State.hostOut (s : State) (pl : Pl) (ep : Nat) : Nat :=
  if ep ≤ 95 then (s.ni pl ep).lookups.length + (s.ni pl ep).dumpOut
  else match muleOf ep with
    | some e => (s.mul pl e).lookups.length + (s.mul pl e).dumpOut
    | none => if ep < 0x70 then (s.router pl false (ep - 0x60)).dumpOut else (s.router pl true (ep - 0x78)).dumpOut

/-- Changes the number of dump packets that a host has outstanding. -/
def State.modDumpOut (s : State) (pl : Pl) (ep : Nat) (f : Nat → Nat) : State :=
  if ep ≤ 95 then s.modNi pl ep (fun n => { n with dumpOut := f n.dumpOut })
  else match muleOf ep with
    | some e => s.modMul pl e (fun m => { m with dumpOut := f m.dumpOut })
    | none =>
      if ep < 0x70 then s.modRouter pl false (ep - 0x60) (fun r => { r with dumpOut := f r.dumpOut })
      else s.modRouter pl true (ep - 0x78) (fun r => { r with dumpOut := f r.dumpOut })

/-- MARG of a dump packet: GROUP, first index, entries minus one (R331). -/
def dumpMarg (g first n : Nat) : Nat := g % 16 + first % 1024 * 16 + (n - 1) % 8 * 2 ^ 14

/-- Up to eight entries as a flit. -/
def entryLine (l : List (BitVec 64)) : Line := BitVec.ofNat 512 ((l.zipIdx.map (fun (e, i) => e.toNat * 2 ^ (64 * i))).sum)

/-- A host sends a dump packet: an NI or an engine on its link, a router's agent through its local input (R65). Its tag is
the group (log 25). -/
def State.sendDump (s : State) (pl : Pl) (ep g first : Nat) (l : List (BitVec 64)) : State :=
  let h := mkHdr epService ep 6 kMgmt 3 0 g 0 ||| mgmtHi 5 (dumpMarg g first l.length)
  let s := s.modDumpOut pl ep (· + 1)
  if ep ≤ 95 ∨ (muleOf ep).isSome then s.epSend pl ep h [entryLine l]
  else
    let quire := decide (0x78 ≤ ep)
    s.modRouter pl quire (if quire then ep - 0x78 else ep - 0x60) (fun r =>
      { r with buf := pushAt r.buf (nOut quire * 8 + 6) (s.flits pl h [entryLine l]) })

/-- The waiting mirror transfer of an NI goes, if R73 allows it. -/
def State.pumpMirror (s : State) (pl : Pl) (p : Nat) : State :=
  let n := s.ni pl p
  if n.mirrorLatch.isEmpty || n.mirrorSent || decide (4 ≤ s.hostOut pl p) then s
  else (s.sendDump pl p 8 (8 * p) n.mirrorLatch).modNi pl p (fun n => { n with mirrorSent := true })

/-- A group's dump work. -/
def State.dumpG (s : State) (pl : Pl) (g : Nat) : DumpG := (s.sb pl).dumps.rd g {}

def State.modDump (s : State) (pl : Pl) (g : Nat) (f : DumpG → DumpG) : State :=
  s.modSb pl (fun b => { b with dumps := b.dumps.upd g {} f })

/-- One run of a group goes, if R73 allows its host to send. -/
def State.pumpRun (s : State) (pl : Pl) (g i : Nat) : State :=
  match hostEp i with
  | none => s
  | some ep =>
    if 4 ≤ s.hostOut pl ep then s
    else
      let d := s.dumpG pl g
      let l := (List.range (chunkLen i (d.first + d.count))).map (fun k => d.latch.rd (i + k) 0)
      (s.modDump pl g (fun d => { d with toSend := d.toSend.filter (fun x => decide (x ≠ i)) })).sendDump pl ep g i l

/-- What waits at a host goes as far as R73 allows; nothing does during a join pause (R248). -/
def State.pumpHost (s : State) (pl : Pl) (ep : Nat) : State :=
  if s.pair.joining.isSome then s
  else
    let s := if ep ≤ 95 then s.pumpMirror pl ep else s
    (List.range 8).foldl (fun t g =>
      ((t.dumpG pl g).toSend.filter (fun i => decide (hostEp i = some ep))).foldl (fun t i => t.pumpRun pl g i) t) s

/-! ### The mirror (R327) -/

/-- The mirror boundary at one NI: the latch, or the skip. -/
def State.mirrorNi (s : State) (pl : Pl) (p : Nat) : State :=
  if !s.quireUp (p / 24) then s
  else if !(s.ni pl p).mirrorLatch.isEmpty then s.pinc pl rMirrorLost 0 32 1
  else
    let l := (List.range 8).map (fun i => s.ctrEntry pl (8 * p + i))
    (s.modNi pl p (fun n => { n with mirrorLatch := l, mirrorSent := false })).pumpHost pl p

/-- A mirror boundary has come and has not been handled. -/
def State.mirrorDue (s : State) (pl : Pl) : Bool :=
  let period := s.pf pl rMirror 8 24
  bit (s.p pl rMirror) 0 && decide (s.fcInSlot = 0 ∧ s.pw.dev = .run ∧ period ≠ 0 ∧ s.now % period = 0 ∧ (s.sb pl).mirrorAt ≠ some s.now)

/-- MIRROR_REFRESH (R327). -/
def execMirrorRefresh (pl : Pl) (s : State) : Out :=
  inPlane s pl (fun s =>
    if s.done ∧ s.mirrorDue pl then
      (List.range s.variant.ports).foldl (fun t p => t.mirrorNi pl p) (s.modSb pl (fun b => { b with mirrorAt := some s.now }))
    else s)

/-! ### Dump boundaries (R330, R331, R333, R334) -/

/-- DG_HEAD minus DG_TAIL. -/
def State.dgUsed (s : State) (pl : Pl) (g : Nat) : Nat := (s.p pl (bDg g + 0x1C) - s.p pl (bDg g + 0x20)).toNat

/-- Slots of the ring. -/
def State.dgSlots (s : State) (pl : Pl) (g : Nat) : Nat := 2 ^ (s.pf pl (bDg g + 0x18) 0 5)

/-- A dump is skipped (R333). -/
def State.dumpSkip (s : State) (pl : Pl) (g : Nat) : State :=
  let s := if s.dgUsed pl g = s.dgSlots pl g then s.por pl (bDg g) (bitMask 1) else s
  let s := (s.pinc pl (bDg g + 0x28) 0 32 1).pset pl (bDg g + 0x24) (s.p pl (bDg g + 0x24) + 1)
  (s.modDump pl g (fun d => { d with lostSince := d.lostSince + 1 })).occurP pl (395 + g) 1

/-- A dump is taken (R331): every host latches; the service block's own counters are there at once, as are the entries of
hosts that are absent. -/
def State.dumpTake (s : State) (pl : Pl) (g : Nat) : State :=
  let first := s.pf pl (bDg g + 4) 0 10
  let count := s.pf pl (bDg g + 4) 16 10
  let range := (List.range count).map (first + ·)
  let remote (i : Nat) : Bool := (hostEp i).isSome && s.ctrPresent i
  let all : Tab (BitVec 64) := range.foldl (fun t i => t.wr i (s.ctrEntry pl i) 0) []
  let runs := (chunks first count).filter remote
  let seq := (s.p pl (bDg g + 0x24)).toNat
  let s := s.pset pl (bDg g + 0x24) (s.p pl (bDg g + 0x24) + 1)
  let s := s.modDump pl g (fun d => { d with
    slot := s.now, seq := seq, first := first, count := count, latch := all, toSend := runs, need := runs,
    entries := all.filter (fun x => !remote x.1), active := true, writing := false, writes := 0, bad := false })
  (runs.filterMap hostEp).foldl (fun t ep => t.pumpHost pl ep) s

/-- A dump of the group falls due at this slot. -/
def State.dumpFalls (s : State) (pl : Pl) (g : Nat) : Bool :=
  let period := s.pf pl (bDg g + 8) 0 24
  decide (period ≠ 0 ∧ s.now % period = s.pf pl (bDg g + 12) 0 24)

/-- DUMP_BOUNDARY (R330, R331, R333, R334): once at a slot boundary. While the device sleeps, the first dump waits. -/
def execDumpBoundary (pl : Pl) (g : Nat) (s : State) : Out :=
  inPlane s pl (fun s =>
    let d := s.dumpG pl g
    if ¬(g < 8 ∧ s.done) ∨ !bit (s.p pl (bDg g)) 0 ∨ s.fcInSlot ≠ 0 ∨ d.doneAt = some s.now then s
    else if !d.owed ∧ !s.dumpFalls pl g then s
    else
      let s := s.modDump pl g (fun d => { d with doneAt := some s.now })
      if s.pw.dev ≠ .run then
        (if !s.dumpFalls pl g then s else if d.owed then s.dumpSkip pl g else s.modDump pl g (fun d => { d with owed := true }))
      else
        let s := s.modDump pl g (fun d => { d with owed := false })
        if s.dgUsed pl g = s.dgSlots pl g ∨ bit (s.p pl (bDg g)) 2 ∨ d.active then s.dumpSkip pl g else s.dumpTake pl g)

/-! ### Packets at the service block and their acknowledgements (R331) -/

/-- The entries of a packet, from its first index. -/
def Packet.dumpEntries (k : Packet) : List (Nat × BitVec 64) :=
  let m := hMarg k.hdr
  (List.range (m / 2 ^ 14 % 8 + 1)).map (fun i =>
    (m / 16 % 1024 + i, BitVec.ofNat 64 (fld ((k.flits.head?).getD 0) (64 * i) 64)))

/-- DUMP_PACKET (R327, R331): the service block takes the entries and acknowledges them. -/
def execDumpPacket (pl : Pl) (q : Nat) (s : State) : Out :=
  inPlane s pl (fun s =>
    match s.popSbIn pl q 6 with
    | none => s
    | some (k, t) =>
      if hKind k.hdr ≠ kMgmt ∨ hMop k.hdr ≠ 5 then s
      else
        let m := hMarg k.hdr
        let g := m % 16
        let l := k.dumpEntries
        let t := if g = 8 then t.modSb pl (fun b => { b with mirror := l.foldl (fun a x => a.wr x.1 x.2 0) b.mirror })
          else if g < 8 then t.modDump pl g (fun d =>
            if d.active && d.need.contains (m / 16 % 1024) then
              { d with need := d.need.filter (fun x => decide (x ≠ m / 16 % 1024)), entries := l.foldl (fun a x => a.wr x.1 x.2 0) d.entries }
            else d)
          else t
        t.sbMgmt pl (hSrc k.hdr) 6 m (hTag k.hdr) [0])

/-- The acknowledgement at the head of a router input, for the router's own agent. -/
def State.takeAgent (s : State) (pl : Pl) (quire : Bool) (i : Nat) : Taken :=
  let r := s.router pl quire i
  match (List.range (nOut quire)).find? (fun n => match (r.buf.rd (n * 8 + 6) []).head? with
      | some f => decide (routeAt quire i f.hdr = .agent ∧ hMop f.hdr = 6) | none => false) with
  | none => none
  | some n =>
    match r.buf.rd (n * 8 + 6) [] with
    | [] => none
    | f :: rest =>
      let t := s.modRouter pl quire i (fun r => { r with buf := r.buf.wr (n * 8 + 6) rest [] })
      let t := match inputSender quire i n with | some o => t.giveCredit pl o 6 1 | none => t
      some ({ hdr := f.hdr, flits := [f.data], poison := f.poison }, t)

/-- DUMP_ACKNOWLEDGE (R327, R331): a host takes an acknowledgement, and what waits for it goes. -/
def execDumpAcknowledge (pl : Pl) (agent : Nat) (s : State) : Out :=
  inPlane s pl (fun s =>
    let take : Taken :=
      if agent ≤ 95 ∨ (muleOf agent).isSome then s.takeMgmt pl agent 6 none
      else if 0x60 ≤ agent ∧ agent < 0x70 then s.takeAgent pl false (agent - 0x60)
      else if 0x78 ≤ agent ∧ agent < 0x7C then s.takeAgent pl true (agent - 0x78) else none
    match take with
    | none => s
    | some (k, t) =>
      let t := t.modDumpOut pl agent (· - 1)
      let t := if hMarg k.hdr % 16 = 8 then t.modNi pl agent (fun n => { n with mirrorLatch := [], mirrorSent := false }) else t
      t.pumpHost pl agent)

/-! ### Records (R332, R333) -/

/-- The header of a record (R332). -/
def State.dumpHeader (s : State) (g : Nat) (d : DumpG) : Line :=
  BitVec.ofNat 512 (d.slot % 2 ^ 64 + d.seq % 2 ^ 32 * 2 ^ 64 + d.first * 2 ^ 96 + d.count * 2 ^ 112 + g * 2 ^ 128
    + s.img.w * 2 ^ 136 + d.lostSince % 2 ^ 32 * 2 ^ 160)

/-- The granules of a record: header and entries (R332). An entry that never came reads as absent (log 25). -/
def State.dumpLines (s : State) (g : Nat) (d : DumpG) : List Line :=
  let entry (i : Nat) : BitVec 64 :=
    if d.count ≤ i then 0
    else if d.need.any (fun r => decide (r ≤ d.first + i ∧ d.first + i < r + chunkLen r (d.first + d.count))) then BitVec.ofNat 64 (2 ^ 49)
    else d.entries.rd (d.first + i) 0
  s.dumpHeader g d :: (List.range ((d.count + 7) / 8)).map (fun k => entryLine ((List.range 8).map (fun i => entry (8 * k + i))))

/-- DG_BASE. -/
def State.dgBase (s : State) (pl : Pl) (g : Nat) : Nat := s.pf pl (bDg g + 0x10) 6 26 * 64 + s.pf pl (bDg g + 0x14) 0 16 * 2 ^ 32

/-- Every entry has arrived; those of a host that is no longer up are not waited for (log 25). -/
def State.dumpComplete (s : State) (d : DumpG) : Bool := d.need.all (fun i => !s.ctrPresent i)

/-- DUMP_RECORD_WRITE (R332, R333): BE WRITEs of at most 63 granules, in ascending order. -/
def execDumpRecordWrite (pl : Pl) (g : Nat) (s : State) : Out :=
  inPlane s pl (fun s =>
    let d := s.dumpG pl g
    if d.active ∧ !d.writing ∧ s.dumpComplete d ∧ s.pw.dev = .run then
      let l := s.dumpLines g d
      let a := s.dgBase pl g + 64 * l.length * ((s.p pl (bDg g + 0x1C)).toNat % s.dgSlots pl g)
      let parts := [(a, l.take 63)] ++ (if 63 < l.length then [(a + 64 * 63, l.drop 63)] else [])
      let s := s.modDump pl g (fun d => { d with writing := true, writes := parts.length, lostSince := 0 })
      parts.foldl (fun t (x, y) => t.sbAdd pl (.dump g) true false 0 3 x y.length benAll y) s
    else s)

/-- The purpose is a dump record. -/
def isDump : SbPurpose → Bool
  | .dump _ => true
  | _ => false

/-- The WRITEs of a group that still wait are withdrawn: it writes nothing more (R333). -/
def State.dumpWithdraw (s : State) (pl : Pl) (g : Nat) : State :=
  let waits (o : SbOut) : Bool := o.tag.isNone && decide (o.purpose = .dump g)
  let n := ((s.sb pl).outs.filter waits).length
  (s.modSb pl (fun b => { b with outs := b.outs.filter (fun o => !waits o) })).modDump pl g (fun d => { d with writes := d.writes - n })

/-- A WRITE of a record has been answered (R333). -/
def State.dumpAnswered (s : State) (pl : Pl) (g st : Nat) : State :=
  let s := if st = stOk then s else (s.por pl (bDg g) (bitMask 2)).dumpWithdraw pl g
  let s := s.modDump pl g (fun d => { d with writes := d.writes - 1, bad := d.bad || decide (st ≠ stOk) })
  let d := s.dumpG pl g
  if d.writes = 0 then
    let s := s.modDump pl g (fun d => { d with active := false, writing := false, latch := [], entries := [], toSend := [], need := [] })
    if d.bad then s else (s.pset pl (bDg g + 0x1C) (s.p pl (bDg g + 0x1C) + 1)).occurP pl (395 + g) 0
  else s

/-- DUMP_WRITE_RACK (R333): the RACK at the head of link `q`. -/
def execDumpWriteRack (pl : Pl) (q : Nat) (s : State) : Out :=
  inPlane s pl (fun s =>
    match s.sbResponse pl q 4 isDump with
    | some (_, o, st, t) => (match o.purpose with | .dump g => t.dumpAnswered pl g st | _ => t)
    | none => s)

/-! ### Registers of the groups (R330, R333, R339) -/

/-- A write of DG_TAIL (R333). -/
def State.dgTail (s : State) (g : Nat) (v : W32) (pl : Pl) : State :=
  let d := (s.p pl (bDg g + 0x1C) - v).toNat
  if s.dgSlots pl g < d then s
  else
    let s := s.pset pl (bDg g + 0x20) v
    if d < s.dgSlots pl g then s.pfset pl (bDg g) 1 1 0 else s

/-- The ranges of two groups overlap (R330). -/
def State.dgOverlap (s : State) (pl : Pl) (g h : Nat) : Bool :=
  let a := s.pf pl (bDg g + 4) 0 10
  let b := s.pf pl (bDg h + 4) 0 10
  decide (a < b + s.pf pl (bDg h + 4) 16 10 ∧ b < a + s.pf pl (bDg g + 4) 16 10)

/-- A write of DG_CTRL (R330, R339): ENABLE, and WRITE_ERR cleared by a 1. -/
def State.dgCtrl (s : State) (g : Nat) (v : W32) (pl : Pl) : State :=
  let s := if bit v 2 then s.pclear pl (bDg g) (bitMask 2) else s
  if !bit v 0 then s.pfset pl (bDg g) 0 1 0
  else if (List.range 8).any (fun h => decide (h ≠ g) && bit (s.p pl (bDg h)) 0 && s.dgOverlap pl g h) then s
  else s.pfset pl (bDg g) 0 1 1

/-- DG_TAIL_WRITE (R333). -/
def execDgTailWrite (r : CwReq) (g : Nat) (v : W32) (s : State) : Out :=
  if g < 8 then s.cwWrite r (bDg g + 0x20) (fun s => s.eachPlane (fun pl s => s.dgTail g v pl)) else .next s

/-- DG_ENABLE (R330): a write of 1 to DG_CTRL.ENABLE. -/
def execDgEnable (r : CwReq) (g : Nat) (s : State) : Out :=
  if g < 8 then s.cwWrite r (bDg g) (fun s => s.eachPlane (fun pl s => s.dgCtrl g 1 pl)) else .next s

end Sys2Proof.Machine
end

