-- ==== Sys2Proof/Machine/Power.lean ====
section
/-!
DEFINITION. Power states, wake and return (R292 to R304, R346, R367). Unit 4 of the automatic policy is the spine-link
island; unit 4 of a commit or an exit is the device (log 24).
-/
namespace Sys2Proof.Machine

/-! ### Commands (R294, R297, R300, R304) -/

/-- The quires of the part that a mask names. -/
def State.quiresOf (s : State) (m : BitVec 4) : List Nat := (List.range s.variant.quires).filter (fun q => m.getLsbD q)

/-- A command for one quire; one in transition records it. -/
def State.quireOrPend (s : State) (target : PState) (q : Nat) : State :=
  if (s.qp q).moving then s.modQp q (fun x => { x with pending := some target }) else s.quireCmd q s.nextBoundary target false

/-- The quire is on its way back to Run. -/
def QPower.returning (x : QPower) : Bool := x.exitAt.isSome || (decide (x.state = .off) && x.supplyReq)

/-- A device-level entry (R297, R300): every quire in a shallower state, or on its way to one, enters; refused for all when a
quire must refuse. -/
def State.deviceEntry (s : State) (target : PState) : State :=
  let qs := (List.range s.variant.quires).filter (fun q => decide ((s.qp q).state.code < target.code) || (s.qp q).returning)
  match qs.findSome? (fun q => (s.refusal q).map (fun x => (q, x))) with
  | some (q, r, p) => s.pwrResult r q true false p
  | none =>
    let deeper := match s.pw.devTarget with | some t => decide (target.code < t.code) | none => false
    let s : State := if deeper then s
      else { s with pw := { s.pw with devTarget := some target, devSlot := s.now, devWake := false, wakeBits := 0 } }
    qs.foldl (fun t q =>
      if (t.qp q).moving then t.modQp q (fun x => { x with pending := some target }) else t.beginEntry q target false true) s

/-- A write of SYS.PWR_CMD. A device command RUN acts on every quire, and ends a device entry with a return (log 24). -/
def State.powerCmd (s : State) (quires : BitVec 4) (device : Bool) (target : PState) : State :=
  if !device then (s.quiresOf quires).foldl (fun t q => t.quireOrPend target q) s
  else if target = .run then
    let s : State := if s.pw.devTarget.isSome then { s with pw := { s.pw with devWake := true } } else s
    let s := (List.range s.variant.quires).foldl (fun t q => t.quireOrPend .run q) s
    if (s.qp 4).state = .idle ∧ (s.qp 4).exitAt = none then s.beginExit 4 s.nextBoundary false else s
  else s.deviceEntry target

/-- POWER_RUN (R294, R301). -/
def execPowerRun (r : CwReq) (quires : BitVec 4) (device : Bool) (s : State) : Out :=
  s.cwWrite r 0x1200 (fun s => s.powerCmd quires device .run)

/-- POWER_SLEEP (R294, R297, R298). -/
def execPowerSleep (r : CwReq) (quires : BitVec 4) (device : Bool) (s : State) : Out :=
  s.cwWrite r 0x1200 (fun s => s.powerCmd quires device .sleep)

/-- POWER_DEEP_SLEEP (R294, R297, R298). -/
def execPowerDeepSleep (r : CwReq) (quires : BitVec 4) (device : Bool) (s : State) : Out :=
  s.cwWrite r 0x1200 (fun s => s.powerCmd quires device .deep)

/-- POWER_OFF (R294, R297, R298). -/
def execPowerOff (r : CwReq) (quires : BitVec 4) (device : Bool) (s : State) : Out :=
  s.cwWrite r 0x1200 (fun s => s.powerCmd quires device .off)

/-! ### The automatic policy (R295, R296) -/

/-- Every valid owner votes at least `depth` for the quire. -/
def State.votes (s : State) (q depth : Nat) : Bool :=
  (List.range 16).all (fun o => !bit (s.g (rOwner o)) 0 || decide (depth ≤ s.gf (rVote o) (2 * q) 2))

/-- No flit waits in a buffer of quire `q`. -/
def State.quireEmpty (s : State) (q : Nat) : Bool :=
  (portsOf q).all (fun p => (s.port p).gtRel.isEmpty && (s.port p).ingress.isEmpty && (s.pair.cmp.rd p {}).idle) && s.planes.all (fun pl =>
    (portsOf q).all (fun p => let n := s.ni pl p; noFlits n.tx && noFlits n.rx && noFlits n.inbox
        && n.rets.all (fun r => r.queue.isEmpty) && n.jobs.all (fun j => decide (j.held = 0)))
      && (List.range 4).all (fun i => let r := s.router pl false (4 * q + i); noFlits r.buf && noFlits r.retryWait && r.gen.all (fun x => x.2.isEmpty))
      && (let r := s.router pl true q; noFlits r.buf && noFlits r.retryWait && r.gen.all (fun x => x.2.isEmpty))
      && [2 * q, 2 * q + 1].all (fun e => let m := s.mul pl e; noFlits m.tx && noFlits m.rx && noFlits m.inbox))

/-- An enabled stream or return reservation has an end in the quire. -/
def State.gtIn (s : State) (q : Nat) : Bool :=
  s.img.gt.any (fun r => decide (r.src / 24 = q ∨ r.dest / 24 = q) && s.planes.any (fun pl => !bit (s.p pl (bNi r.src + 0x508)) r.stream))

/-- The service block's buffers hold no flit. -/
def State.spineEmpty (s : State) : Bool :=
  s.planes.all (fun pl => let b := s.sb pl; noFlits b.tx && noFlits b.rx && noFlits b.inbox)

/-- AUTO_IDLE_ENTRY (R295). -/
def execAutoIdleEntry (q : Nat) (s : State) : Out :=
  .next (let x := s.qp q
    if bit (s.g rPwrPolicy) 0 ∧ s.done ∧ s.pw.dev = .run ∧ s.pw.devTarget = none ∧ x.state = .run ∧ !x.moving
        ∧ s.gf rPwrPolicy 4 8 ≤ x.quiet ∧ !x.flitSeen
        ∧ (if q = 4 then s.spineEmpty else decide (q < s.variant.quires) && s.quireEmpty q && !s.gtIn q && s.votes q 1) then
      s.modQp q (fun x => { x with state := .idle, idleSlots := 0 })
    else s)

/-- The flit at the head of a buffer of a quire router goes to an output that a test picks. -/
def State.headsTo (s : State) (pl : Pl) (q : Nat) (f : Nat → Bool) : Bool :=
  (s.router pl true q).buf.any (fun x => match x.2.head? with
    | some h => (match (s.router pl true q).flitOut true q (x.1 / 8) h with | some o => f o | none => false)
    | none => false)

/-- A flit is offered to an input of an Idle quire, or of the spine-link island. -/
def State.offered (s : State) (q : Nat) : Bool :=
  s.planes.any (fun pl =>
    if q = 4 then
      !noFlits (s.sb pl).tx || (List.range s.variant.quires).any (fun a => s.headsTo pl a (fun o => decide (8 ≤ o ∧ o ≠ 20 ∧ o ≠ 21)))
    else
      (portsOf q).any (fun p => !noFlits (s.ni pl p).tx) || [2 * q, 2 * q + 1].any (fun e => !noFlits (s.mul pl e).tx)
        || (s.sb pl).tx.any (fun x => decide (x.1 / 8 = q) && !x.2.isEmpty)
        || (List.range s.variant.quires).any (fun a => decide (a ≠ q) && s.headsTo pl a (fun o => decide (8 ≤ o ∧ o ≤ 19 ∧ spinePeer a ((o - 8) / 4) = q))))

/-- The wake is complete once nothing that it woke is still returning (R314 source 404); unit 4 marks that it woke the device. -/
def State.wakeDone (s : State) : State :=
  if s.pw.devExitAt.isSome ∨ (s.qp 4).exitAt.isSome ∨ (List.range s.variant.quires).any (fun q => (s.qp q).byWake) then s
  else (s.modQp 4 (fun p => { p with byWake := false })).occurInfo 404 (s.gf rWakeStatus 0 9)

/-- A return to Run from Idle is over: the quire's island runs (R293). An entry that has begun goes on, and with it what is
recorded until its commit (R304). -/
def State.idleOver (s : State) (q : Nat) : State :=
  let entering := (s.qp q).entry.isSome
  let wake := !entering && ((s.qp q).byWake || (s.qp 4).byWake)
  let s := s.modQp q (fun x => { x with
    state := .run, exitAt := none, byWake := x.byWake && (entering || decide (q = 4)), quiet := 0, idleSlots := 0 })
  let s := if wake then s.wakeDone else s
  if entering then s else s.runPending q

/-- IDLE_EXIT (R293, R295, R296): a flit is offered to an input of the quire, or a command or a wake has asked for Run. -/
def execIdleExit (q : Nat) (s : State) : Out :=
  .next (let x := s.qp q
    if x.state = .idle ∧ s.pw.dev = .run ∧ (s.offered q ∨ x.exitAt.isSome) then s.idleOver q else s)

/-- AUTO_SLEEP_ENTRY (R295, R297). -/
def execAutoSleepEntry (q : Nat) (s : State) : Out :=
  .next (let x := s.qp q
    if bit (s.g rPwrPolicy) 1 ∧ q < s.variant.quires ∧ s.pw.dev = .run ∧ x.state = .idle ∧ !x.moving
        ∧ 1024 * s.gf rPwrPolicy 16 16 ≤ x.idleSlots ∧ s.votes q 2 then s.quireCmd q s.nextBoundary .sleep true
    else s)

/-! ### Entry (R298, R299) -/

/-- Changes the entry of quire `q`. -/
def State.modEntry (s : State) (q : Nat) (f : Entry → Entry) : State := s.modQp q (fun x => { x with entry := x.entry.map f })

/-- The entry of quire `q` stands at a step. -/
def State.entryAt (s : State) (q : Nat) (st : EStep) : Option Entry :=
  match (s.qp q).entry with | some e => if e.step = st then some e else none | none => none

/-- Engine `e` still serves a migration. -/
def State.migEngine (s : State) (pl : Pl) (e : Nat) : Bool := (s.sb pl).migs.any (fun m => decide (m.engine = e))

/-- A page framed in the quire's tiles is still to be moved, or an engine of the quire still moves one (R149). -/
def State.vacating (s : State) (q : Nat) : Bool :=
  s.planes.any (fun pl => !(s.framedIn pl q).isEmpty || [2 * q, 2 * q + 1].any (s.migEngine pl)
    || (s.sb pl).migs.any (fun m => let e := s.entry pl m.page; eInframe e && decide (s.tileQuire (eFrame e / 64) = q)))

/-- STOP for the channels of the quire's engines but the Bellwether's (R228). -/
def State.stopQuire (s : State) (q : Nat) (pl : Pl) : State :=
  [2 * q, 2 * q + 1].foldl (fun t e => t.mulStopAll pl e 3 (fun c => !t.bellwetherChan pl c)) s

/-- A channel of the quire's engines is RUNNING or STOPPING. -/
def State.quireMoving (s : State) (q : Nat) : Bool :=
  s.planes.any (fun pl => [2 * q, 2 * q + 1].any (fun e => (List.range 32).any (fun c =>
    decide (s.chanState pl e c = 1 ∨ s.chanState pl e c = 2))))

/-- E2: demotions are asked for; once none is left, the channels are stopped. -/
def State.vacate (s : State) (q : Nat) : State :=
  let s := s.eachPlane (fun pl t =>
    let ps := (t.framedIn pl q).filter (fun p => !(t.sb pl).pendingDemotes.contains p)
    (t.modSb pl (fun b => { b with pendingDemotes := b.pendingDemotes ++ ps })).tryDemotes pl)
  if s.vacating q then s else s.eachPlane (fun pl t => t.stopQuire q pl)

/-- ENTRY_CLOSE (R298 E1): at boundary c + 1, or the first boundary after an owner reset or a join pause (R304). -/
def execEntryClose (q : Nat) (s : State) : Out :=
  .next (match s.entryAt q .close with
    | some e =>
      if s.fcInSlot = 0 ∧ e.slot < s.now ∧ !s.ownerBusy ∧ s.pair.joining = none then
        let s := (portsOf q).foldl (fun t p => t.modPort p (fun x => { x with ready := false, draining := x.live && !x.poisoning })) s
        (s.modEntry q (fun e => { e with step := .vacate, start := s.now })).vacate q
      else s
    | none => s)

/-- ENTRY_VACATE_DONE (R298 E2): the demotions are complete and every channel is STOPPED. -/
def execEntryVacateDone (q : Nat) (s : State) : Out :=
  .next (match s.entryAt q .vacate with
    | some _ =>
      let s := s.vacate q
      if s.vacating q || s.quireMoving q then s else s.modEntry q (fun e => { e with step := .drain })
    | none => s)

/-- The live ports of a quire. -/
def State.livePorts (s : State) (q : Nat) : List Nat := (portsOf q).filter (fun p => s.isPort p && (s.port p).live)

/-- ENTRY_DRAIN_DONE (R298 E3): every port-live is low. -/
def execEntryDrainDone (q : Nat) (s : State) : Out :=
  .next (match s.entryAt q .drain with
    | some _ => if s.livePorts q = [] then s.modEntry q (fun e => { e with step := .park, slot := s.now }) else s
    | none => s)

/-- The islands of a quire (R22). -/
def quireIslands (q : Nat) : List Nat := [4 * q, 4 * q + 1, 4 * q + 2, 4 * q + 3, 16 + q]

/-- The islands of a list lose their lock bits without an unlock (R298 E4); their crossings are measured again on return. -/
def State.parkIslands (s : State) (pl : Pl) (l : List Nat) : State :=
  l.foldl (fun t i => (t.forgetOff pl i).modIsl pl i (fun x => { x with locked := false, disagree := 0, coin := 0 })) s

/-- ENTRY_PARK (R298 E4): at the next boundary. -/
def execEntryPark (q : Nat) (s : State) : Out :=
  .next (match s.entryAt q .park with
    | some e =>
      if s.fcInSlot = 0 ∧ e.slot < s.now then
        let s := s.eachPlane (fun pl t =>
          ((t.img.gt.filter (fun r => decide (r.src / 24 = q ∨ r.dest / 24 = q))).foldl (fun t r => t.gtDisable pl r) t))
        let s := s.allPlanes.foldl (fun t pl => t.parkIslands pl (quireIslands q)) s
        s.modEntry q (fun e => { e with step := .commit, slot := s.now })
      else s
    | none => s)

/-- The links that cross the quire's edge start again with full credits (R375). -/
def State.quireLinksDown (s : State) (q : Nat) (pl : Pl) : State :=
  let s := ((List.range s.variant.quires).filter (fun a => decide (a ≠ q))).foldl (fun t a =>
    let j := spineGroup a q
    t.modRouter pl true a (fun r =>
      let r := (List.range 4).foldl (fun (r : Router) i => r.linkDown (8 + 4 * j + i)) r
      { r with ord := r.ord.filter (fun x => decide (x.1 / 1024 ≠ j)) })) s
  let s := s.modRouter pl true q (fun r =>
    let r := ((List.range 12).map (8 + ·) ++ [22]).foldl (fun (r : Router) n => r.linkDown n) r
    { r with ord := [], dumpOut := 0 })
  let s := (portsOf q).foldl (fun t p => t.modNi pl p (fun n => { n with dumpOut := 0, mirrorLatch := [], mirrorSent := false })) s
  let s := (List.range 4).foldl (fun t i => t.modRouter pl false (4 * q + i) (fun r => { r with dumpOut := 0 })) s
  let s := [2 * q, 2 * q + 1].foldl (fun t e => t.modMul pl e (fun m => { m with dumpOut := 0 })) s
  s.modSb pl (fun b => { b with
    rx := b.rx.filter (fun x => decide (x.1 / 8 ≠ q)), txUsed := b.txUsed.filter (fun x => decide (x.1 / 8 ≠ q)),
    txCred := b.txCred.filter (fun x => decide (x.1 / 8 ≠ q)) })

/-- The commit of a quire (R298, R304). -/
def State.quireCommit (s : State) (q : Nat) (e : Entry) : State :=
  let n := (s.gf (rQpwr q) 0 16 + 1) % 65536
  let s := (s.gfset (rQpwr q) 0 16 n).pwrResult 0 q e.device e.auto 0x7F
  let s := s.modQp q (fun x => { x with
    state := e.target, entry := none, exitAt := none, retained := n, idleSlots := 0,
    supplyReq := decide (e.target ≠ .off), supplyAck := decide (e.target ≠ .off) })
  let s := s.allPlanes.foldl (fun t pl => t.quireLinksDown q pl) s
  let s := s.eachPlane (fun pl t => (t.bwEndDown (epMule (2 * q)) pl).bwEndDown (epMule (2 * q + 1)) pl)
  { s with pw := { s.pw with devSlot := s.now } }.runPending q

/-- The device entry may commit: every quire is in the target state or a deeper one (R300). -/
def State.deviceReady (s : State) (t : PState) : Bool :=
  (List.range s.variant.quires).all (fun q => decide (t.code ≤ (s.qp q).state.code) && !(s.qp q).moving)

/-- The pair after Deep sleep: its registers are at their reset values; a latent comparator fault and a FAILED plane last until
device reset (R244, R246, R346; log 24). -/
def Pair.afterDeep (x : Pair) : Pair :=
  let st (y : PlState) : PlState := if y = .failed then .failed else .inService
  { a := st x.a, b := st x.b, window := decide (x.a = .failed ∨ x.b = .failed),
    cmp := x.cmp.filterMap (fun y => if y.2.latent then some (y.1, { latent := true, single := true }) else none) }

/-- The exit of the device begins at boundary `x`. From Deep sleep, what R292 does not retain is gone (R321, R346); WAKE_STATUS
records the wake, and a dump that is owed stays owed (R301, R334). -/
def State.beginDeviceExit (s : State) (x : Nat) : State :=
  let keepReg (o : Nat) : Bool := decide (0x1040 ≤ o ∧ o < 0x1080)
  let keepPl (o : Nat) : Bool := (quireOfOff o).isSome || decide (0x400000 ≤ o ∧ o < 0x500000)
  let reload (p : Plane) : Plane :=
    let p := { p with
      rf := p.rf.filter (fun w => keepPl w.1), stage := p.stage.filter (fun w => keepPl w.1),
      ctr := p.ctr.filter (fun w => decide (w.1 < 960)), ctrHi := p.ctrHi.filter (fun w => decide (w.1 < 960)),
      sb := { ctab := p.sb.ctab, queues := p.sb.queues, kmap := p.sb.kmap, moves := p.sb.moves, held := p.sb.held, locks := p.sb.locks,
              badPages := p.sb.badPages, badEngines := p.sb.badEngines, causeTable := p.sb.causeTable,
              dumps := p.sb.dumps.filterMap (fun (d : Nat × DumpG) => if d.2.owed then some (d.1, { owed := true }) else none) } }
    p.loadWords (s.img.words.filter (fun w => !keepPl w.1))
  let t : State := { s with pw := { s.pw with devExitAt := some x, devFrom := s.pw.dev, devWake := false } }
  if s.pw.dev = .deep then
    let sh := s.img.words.filter (fun w => !planeBlock w.1 && !keepReg w.1)
    let a := if t.variant.paired && !t.runs .a then t.pb else t.pa
    let b := if t.variant.paired && !t.runs .b then t.pa else t.pb
    let rf : Tab W32 := sh.foldl (fun r w => r.wr w.1 w.2 0) (t.rf.filter (fun w => keepReg w.1))
    { t with
      rf := rf.wr rWakeStatus s.pw.wakeBits 0,
      pa := { reload a with isl := t.pa.isl }, pb := if t.variant.paired then { reload b with isl := t.pb.isl } else t.pb,
      evt := {}, snp := { armed := true }, oreset := {}, pair := t.pair.afterDeep, boot := { t.boot with slept := true } }
  else t

/-- The device commits (R300, R307): the service block and the control island stop. -/
def State.deviceCommit (s : State) (t : PState) : State :=
  let wake := s.pw.devWake
  let s := (s.pwrResult 0 0 true false 0x7F)
  let s := s.allPlanes.foldl (fun u pl => u.parkIslands pl [20, 21]) s
  let s := if t = .sleep then s else { s.holdPads with keys := {} }
  let s : State := { s with pw := { s.pw with
    dev := t, devTarget := none, devSupplyReq := decide (t ≠ .off), devSupplyAck := decide (t ≠ .off) } }
  if !wake then s
  else if t = .off then { s with pw := { s.pw with devSupplyReq := true, devWake := false } }
  else s.beginDeviceExit s.now

/-- ENTRY_COMMIT (R298, R300): two slots after E4 for a quire; at the boundary after the last quire's commit for the device,
unit 4. -/
def execEntryCommit (q : Nat) (s : State) : Out :=
  .next (if q = 4 then
      match s.pw.devTarget with
      | some t => if s.fcInSlot = 0 ∧ s.pw.devSlot < s.now ∧ s.deviceReady t then s.deviceCommit t else s
      | none => s
    else match s.entryAt q .commit with
      | some e => if s.fcInSlot = 0 ∧ e.slot + 2 ≤ s.now then s.quireCommit q e else s
      | none => s)

/-- ENTRY_DRAIN_LIMIT (R299): E2 and E3 have lasted DRAIN slots. -/
def execEntryDrainLimit (q : Nat) (s : State) : Out :=
  .next (let limit := s.gf rPwrLimit 0 24
    match (s.qp q).entry with
    | some e =>
      if limit ≠ 0 ∧ (e.step = .vacate ∨ e.step = .drain) ∧ e.start + limit ≤ s.now then
        let s := s.eachPlane (fun pl t => t.modSb pl (fun b => { b with
          pendingDemotes := b.pendingDemotes.filter (fun p => !(t.framedIn pl q).contains p) }))
        s.abortEntry q 3 ((s.livePorts q).headD 0x7F)
      else s
    | none => s)

/-! ### Wake (R301, R304) -/

/-- WAKE_STATUS records a cause; the record outlasts a device entry into Deep sleep or Off (R301). -/
def State.noteWake (s : State) (bits : W32) : State :=
  { s.gor rWakeStatus bits with pw := { s.pw with wakeBits := s.pw.wakeBits ||| bits } }

/-- A wake of one quire that WAKE_CTRL names. -/
def State.wakeQuire (s : State) (x q : Nat) : State :=
  let p := s.qp q
  if p.entry.isSome then
    (s.modQp q (fun p => { p with pending := some .run, byWake := true })).noteWake (bitMask 8)
  else if p.state = .run ∨ p.moving then s
  else s.beginExit q x true

/-- A wake from a pin or the alarm, with its bit of WAKE_STATUS. From device Idle, the spine-link island returns too (R292). -/
def State.wake (s : State) (cause : Nat) : State :=
  if s.pw.dev = .off then
    let s := s.noteWake (bitMask cause)
    { s with pw := { s.pw with devSupplyReq := true } }
  else
    let qs := s.quiresOf (BitVec.ofNat 4 (s.gf rWakeCtrl 0 4))
    let x := s.nextBoundary
    let up := decide (s.pw.dev ≠ .run ∧ s.pw.devExitAt = none)
    let s := if up then s.beginDeviceExit x else s
    let s := if up || s.pw.devTarget.isSome then s.modQp 4 (fun p => { p with byWake := true }) else s
    let s := if s.pw.dev = .run ∧ (s.qp 4).state = .idle ∧ (s.qp 4).exitAt = none then s.beginExit 4 x true else s
    let s := s.noteWake (bitMask cause)
    let s : State := if s.pw.devTarget.isSome then
        let t := s.noteWake (bitMask 8)
        { t with pw := { t.pw with devWake := true } }
      else s
    qs.foldl (fun t q => t.wakeQuire x q) s

/-- The device takes wakes: it has been started and is neither in reset nor in test mode. -/
def State.wakeable (s : State) : Bool := (s.done || decide (s.pw.dev = .off)) && !s.boot.inReset && !s.test.mode

/-- WAKE_IN (R301, R370). -/
def execWakeIn (s : State) : Out := .next (if s.wakeable then s.wake 0 else s)

/-- ALARM_WAKE (R301): the slot counter reaches SYS.ALARM, in Run, Idle and Sleep. -/
def execAlarmWake (s : State) : Out :=
  .next (if s.wakeable ∧ bit (s.g rWakeCtrl) 8 ∧ (s.pw.dev = .run ∨ s.pw.dev = .sleep)
      ∧ s.now = (s.g rAlarmLo).toNat + (s.g rAlarmHi).toNat * 2 ^ 32 then s.wake 1 else s)

/-- MP_WAKE (R301, R309): a rising edge on an MP pad whose function is WAKE, in Run, Idle and Sleep. -/
def execMpWake (m : Nat) (s : State) : Out :=
  .next (if s.wakeable ∧ s.mpArmed m 4 ∧ (s.pw.dev = .run ∨ s.pw.dev = .sleep) then s.wake (2 + m) else s)

/-! ### Return (R293, R302, R303, R346) -/

/-- SUPPLY_ACK (R284, R293, R367): the supply that the device has asked for is within its range. -/
def execSupplyAck (device : Bool) (q : Nat) (s : State) : Out :=
  .next (if device then (if s.pw.dev = .off ∧ s.pw.devSupplyReq ∧ !s.pw.devSupplyAck then s.afresh.gset rWakeStatus s.pw.wakeBits else s)
    else if (s.qp q).state = .off ∧ (s.qp q).supplyReq ∧ !(s.qp q).supplyAck then
      s.modQp q (fun x => { x with supplyAck := true, exitAt := some s.nextBoundary })
    else s)

/-- Bytes of the image's sections other than PAGE_TABLE, QUEUES and LOCKS. -/
def State.sectionBytes (s : State) : Nat :=
  (((readSects s.variant s.boot.store (hdrLength s.boot.store) (le s.boot.store 16 2) 128 []).1.filter
    (fun x => !([9, 0xA, 0xC].contains x.typ))).map (fun x => x.stop - x.hdr)).sum

/-- Slots that the device takes to return (R293). -/
def State.deviceTime (s : State) : Nat :=
  if s.pw.devFrom = .deep then 50000 + (s.sectionBytes - 768 * 1024 + 31) / 32 else 1250

/-- Islands that return: R120 is applied to each (R293). -/
def State.islandsBack (s : State) (l : List Nat) : State :=
  s.allPlanes.foldl (fun t pl => t.lockDueIn pl (l.filter (s.isIsland pl))) s

/-- The device is back: the service block and the control island run, and the spine-link island is locked. -/
def State.deviceBack (s : State) : State :=
  match s.pw.devExitAt with
  | some x =>
    if x + s.deviceTime ≤ s.now ∧ (s.pw.devFrom = .sleep ∨ s.allKeys) then
      let s : State := { s with pw := { s.pw with dev := .run, devExitAt := none } }
      let s := s.modQp 4 (fun p => { p with state := .run, exitAt := none })
      let s := s.islandsBack [20, 21]
      s.eachPlane (fun pl t => t.sbIssue pl)
    else s
  | none => s

/-- The quire must reload (R303). -/
def State.mustReload (s : State) (q : Nat) (retentionOk : Bool) : Bool :=
  let x := s.qp q
  decide (x.exitFrom = .deep ∨ x.exitFrom = .off)
    || (decide (x.exitFrom = .sleep) && (!retentionOk || decide (x.retained ≠ s.gf (rQpwr q) 0 16)))

/-- Slots that the quire takes to return (R293, R303). -/
def State.quireTime (s : State) (q : Nat) (reload : Bool) : Nat :=
  if reload then 50000 else if (s.qp q).exitFrom = .sleep then 1250 else 2

/-- The reload of quire `q` in a plane: registers, counters, buffers and engines start again from reset and image values
(R303, R346). GT_DISABLED stays set until GT_STREAM_ENABLE, and an engine fault stays (R229, R302). -/
def State.reloadPlane (s : State) (q : Nat) (pl : Pl) : State :=
  let mine (o : Nat) : Bool := decide (quireOfOff o = some q)
  let s := s.modPln pl (fun x =>
    let y : Plane := { x with
      rf := x.rf.filter (fun w => !mine w.1), stage := x.stage.filter (fun w => !mine w.1),
      ctr := x.ctr.filter (fun w => !mine (ctrBase w.1)), ctrHi := x.ctrHi.filter (fun w => !mine (ctrBase w.1)),
      ni := x.ni.filter (fun w => decide (w.1 / 24 ≠ q)), frt := x.frt.filter (fun w => decide (w.1 / 4 ≠ q)),
      qrt := x.qrt.filter (fun w => decide (w.1 ≠ q)),
      mule := x.mule.filterMap (fun w => if w.1 / 2 ≠ q then some w else if w.2.fault then some (w.1, { fault := true }) else none) }
    y.loadWords (s.img.words.filter (fun w => mine w.1)))
  s.img.gt.foldl (fun t r =>
    let t := if r.dest / 24 = q then t.modNi pl r.dest (fun n => { n with rets := n.rets ++ [{ r.reservation with off := true }] }) else t
    if r.src / 24 = q then t.por pl (bNi r.src + 0x508) (bitMask r.stream) else t) s

/-- The ports of a quire leave endpaper (R302). -/
def State.openQuire (s : State) (q : Nat) : State :=
  (portsOf q).foldl (fun t p => if (t.port p).unitUp && t.mayRise p then t.risePort p else t) s

/-- A quire is back in Run. -/
def State.quireBack (s : State) (q : Nat) (reload : Bool) : State :=
  let wake := (s.qp q).byWake || (s.qp 4).byWake
  let s := if reload then
      (s.allPlanes.foldl (fun t pl => t.reloadPlane q pl) s).gfset (rQpwr q) 16 16 (satAdd 16 (s.gf (rQpwr q) 16 16) 1)
    else s
  let s := s.islandsBack (quireIslands q)
  let s := s.modQp q (fun x => { x with state := .run, exitAt := none, byWake := false, quiet := 0, flitSeen := false })
  let s := s.openQuire q
  (if wake then s.wakeDone else s).runPending q

/-- QUIRE_EXIT_COMPLETE (R293, R302, R303): a quire is back in Run; unit 4 is the device alone, or the spine-link island from
Idle. -/
def execQuireExitComplete (q : Nat) (retentionOk : Bool) (s : State) : Out :=
  .next (if s.fcInSlot ≠ 0 then s
    else
      let back := s.pw.devExitAt.isSome
      let s := s.deviceBack
      if q = 4 then
        match (s.qp 4).exitAt with
        | some x => if x + 2 ≤ s.now then s.idleOver 4 else s
        | none => if back ∧ s.pw.devExitAt = none ∧ (s.qp 4).byWake then s.wakeDone else s
      else match (s.qp q).exitAt with
        | some x =>
          let reload := s.mustReload q retentionOk
          if q < s.variant.quires ∧ s.pw.dev = .run ∧ x + s.quireTime q reload ≤ s.now ∧ s.allKeys then
            (if (s.qp q).exitFrom = .idle then s.idleOver q else s.quireBack q reload)
          else s
        | none => s)

end Sys2Proof.Machine
end

