-- ==== Sys2Proof/Machine/Snapshots.lean ====
section
/-!
DEFINITION. Snapshots (R335, R336): triggers, the latch of every island, arming.
-/
namespace Sys2Proof.Machine

/-! ### Triggers -/

/-- A write of 1 to SNP.CTRL.ARM (R336): triggers that came while HELD earlier in the slot are accepted, and no longer count
as missed. -/
def State.snapArm (s : State) : State :=
  let x : Snp := { s.snp with armed := true, held := false, missAt := none }
  if s.snp.held ∧ s.snp.missAt = some s.now then
    { (s.gset rTrigInfo s.snp.missInfo).gset rMissed (BitVec.ofNat 32 ((s.g rMissed).toNat - s.snp.missed)) with
      snp := { x with trig := some s.now, cause := s.snp.missCause } }
  else { s with snp := x }

/-- A write of SNP.CTRL (R336, R340): the trigger sources, then ARM, then TRIGGER. -/
def State.snapCtrl (s : State) (v : W32) : State :=
  let s := s.gset rSnpCtrl (v &&& 0x70)
  let s := if bit v 0 then s.snapArm else s
  if bit v 1 then s.snapTrigger 1 0x1FF 0x3FF else s

/-- SNAPSHOT_TRIGGER (R335): a write of 1 to SNP.CTRL.TRIGGER. -/
def execSnapshotTrigger (r : CwReq) (s : State) : Out := s.cwWrite r rSnpCtrl (fun s => s.snapTrigger 1 0x1FF 0x3FF)

/-- SNAPSHOT_ARM (R336): a write of 1 to SNP.CTRL.ARM. -/
def execSnapshotArm (r : CwReq) (s : State) : Out := s.cwWrite r rSnpCtrl State.snapArm

/-- SNAP_IN_EDGE (R309, R335): a rising edge on a pad whose function SNAP_IN is in effect. -/
def execSnapInEdge (m : Nat) (s : State) : Out :=
  .next (if s.mpArmed m 2 && bit (s.g rSnpCtrl) 4 && decide (s.pw.dev = .run) then s.snapTrigger 0 0x1FF 0x3FF else s)

/-! ### What a block latches (R338) -/

/-- The island that holds a block or counter, by its window offset (R91, R322). -/
def islandOfOff (off : Nat) : Nat :=
  if 0x100000 ≤ off ∧ off < 0x1C0000 then (off - 0x100000) / 0x2000 / 6
  else if 0xA0000 ≤ off ∧ off < 0xB0000 then (off - 0xA0000) / 0x1000
  else if 0x80000 ≤ off ∧ off < 0x90000 then 16 + (off - 0x80000) / 0x4000
  else if 0x200000 ≤ off ∧ off < 0x220000 then 16 + (off - 0x200000) / 0x8000
  else 20

/-- The island latches: it is locked, and in Run or Idle (R336). -/
def State.islLatches (s : State) (pl : Pl) (i : Nat) : Bool := s.islLocked pl i && s.islandOn i

/-- NI.SNAP_STATE: tags, posted-write lines, frozen pages, flits in the GT release buffer. -/
def State.niSnap (s : State) (pl : Pl) (p : Nat) : Nat :=
  let n := s.ni pl p
  n.tags.length % 128 + n.lines.length % 32 * 2 ^ 8 + (n.frozen.filter (fun f => !f.released)).length % 16 * 2 ^ 16
    + (((s.port p).gtRel.map (fun g => g.flits.length - g.nextFlit)).sum % 64) * 2 ^ 24

/-- MUL.SNAP_STATE: channels running, flits in the read buffer. -/
def State.mulSnap (s : State) (pl : Pl) (e : Nat) : Nat :=
  ((List.range 32).filter (fun c => decide (s.chanState pl e c = 1))).length % 64 + (s.mul pl e).heldFlits % 128 * 2 ^ 8

/-- Flits that a router buffers on a VC, over all inputs, saturating at 255. -/
def Router.occ (r : Router) (vc : Nat) : Nat :=
  min 255 ((r.buf.filter (fun x => decide (x.1 % 8 = vc))).map (fun x => x.2.length)).sum

/-- SNAP_OCC0 and SNAP_OCC1 of a router whose registers begin at `b`. -/
def State.latchRouter (s : State) (pl : Pl) (quire : Bool) (i b : Nat) : State :=
  let r := s.router pl quire i
  let word (k : Nat) : Nat := ((List.range 4).map (fun v => r.occ (4 * k + v) * 2 ^ (8 * v))).sum
  (s.pset pl (b + 0x204) (BitVec.ofNat 32 (word 0))).pset pl (b + 0x208) (BitVec.ofNat 32 (word 1))

/-- The word is a CTR_SNAP register (R338). -/
def isSnapWord (off : Nat) : Bool := match ctrOf off with | some (_, 12) => true | some (_, 16) => true | _ => false

/-- Every counter of the islands that latch goes into its CTR_SNAP registers (R335). -/
def State.latchCounters (s : State) (pl : Pl) : State :=
  let ok (off : Nat) : Bool := s.islLatches pl (islandOfOff off)
  let s2 := s.modPln pl (fun x => { x with rf := x.rf.filter (fun w => !(isSnapWord w.1 && ok w.1)) })
  (s.pln pl).ctr.foldl (fun t x =>
    let b := ctrBase x.1
    let v := ((s.pln pl).ctr.rd x.1 0).toNat
    if x.1 < 1000 && ok b then (t.pset pl (b + 12) (BitVec.ofNat 32 v)).pset pl (b + 16) (BitVec.ofNat 32 (v / 2 ^ 32)) else t) s2

/-- The latch of a plane at its boundary (R335, R336). -/
def State.latchPlane (pl : Pl) (s : State) : State :=
  let s := s.latchCounters pl
  let v := s.variant
  let s := (List.range v.ports).foldl (fun t p =>
    if t.islLatches pl (p / 6) then t.pset pl (bNi p + 0x904) (BitVec.ofNat 32 (t.niSnap pl p)) else t) s
  let s := (List.range v.folios).foldl (fun t g => if t.islLatches pl g then t.latchRouter pl false g (bFrt g) else t) s
  let s := (List.range v.quires).foldl (fun t q => if t.islLatches pl (16 + q) then t.latchRouter pl true q (bQrt q) else t) s
  (List.range v.mules).foldl (fun t e =>
    if t.islLatches pl (16 + e / 2) then t.pset pl (bMul e + 0x2184) (BitVec.ofNat 32 (t.mulSnap pl e)) else t) s

/-- An island of a plane in service does not latch (R336). -/
def State.snapPartial (s : State) : Bool :=
  s.planes.any (fun pl => (List.range s.variant.folios ++ (List.range s.variant.quires).map (16 + ·) ++ [20]).any (fun i => !s.islLatches pl i))

/-- SNAPSHOT_LATCH (R335, R336): boundary t + 2. -/
def execSnapshotLatch (s : State) : Out :=
  .next (match s.snp.trig with
    | none => s
    | some t =>
      if t + 2 ≤ s.now ∧ s.fcInSlot = 0 ∧ s.pw.dev = .run then
        let part := s.snapPartial
        let s := s.eachPlane State.latchPlane
        let s := (s.gset rSnpSlotLo (BitVec.ofNat 32 s.now)).gset rSnpSlotHi (BitVec.ofNat 32 (s.now / 2 ^ 32))
        let s : State := { s.ginc rTaken 0 32 1 with
          snp := { s.snp with armed := false, held := true, part := part, trig := none }, pads := { s.pads with snapOut := true } }
        s.occurInfo 403 s.now
      else s)

/-- SNP.STATUS as it is read (R340). -/
def State.snpStatus (s : State) : Nat :=
  b2n s.snp.armed + 2 * b2n s.snp.held + 4 * b2n s.snp.part + s.snp.cause.toNat * 16

end Sys2Proof.Machine
end

