-- ==== Sys2Proof/Machine/Observe.lean ====
section
/-!
DEFINITION. Reads of the control window and of the channel aperture: what each register reads as, the side effects of a read
(R10, R27 to R29, R88, R89, R121, R122, R154, R156, R180, R181, R231, R236, R258, R259, R312, R313, R326, R328, R329, R337 to
R357), and the access as a whole (R343 to R345).
-/
namespace Sys2Proof.Machine

/-! ### Shared blocks -/

/-- COL (R27 to R30). -/
def State.colWord (s : State) (off : Nat) : Nat :=
  let v := s.variant
  match off with
  | 0x00 => v.ident.toNat
  | 0x04 => 0x100
  | 0x08 => v.gen.toNat
  | 0x0C => v.portmap.toNat
  | 0x10 => if s.img.ok then s.img.w + s.img.skew * 16 else 0
  | 0x14 => v.limits.toNat
  | 0x18 => v.capacity.toNat
  | 0x1C => 0x04004000
  | 0x20 => s.img.plt % 2 ^ 32
  | 0x24 => s.img.plt / 2 ^ 32
  | 0x28 => s.img.seq
  | _ => 0

/-- SYS.LOCK_A and SYS.LOCK_B but for CONTROL (R121). -/
def State.lockBits (s : State) (pl : Pl) : Nat :=
  ((List.range 21).map (fun i => if s.islLocked pl i then 2 ^ i else 0)).sum

/-- SYS.PWR_STATUS (R312). -/
def State.pwrStatus (s : State) : Nat :=
  let qs := List.range s.variant.quires
  s.devState.code + (qs.map (fun q => (s.qp q).state.code * 2 ^ (4 * q + 4) + b2n (s.qp q).moving * 2 ^ (20 + q)
      + b2n (s.qp q).pending.isSome * 2 ^ (25 + q))).sum
    + b2n (s.pw.devTarget.isSome || s.pw.devExitAt.isSome) * 2 ^ 24

/-- SYS, PAD, IMG, EVT, SNP and PAIR: the registers that show more than a stored word. -/
def State.sharedWord (s : State) (off : Nat) : Nat :=
  if off < 0x1000 then s.colWord off
  else if off = 0x1204 then s.pwrStatus
  else if off = 0x1F00 then s.now % 2 ^ 32
  else if off = 0x1F08 then s.lockBits .a + b2n (s.islLocked .a 21) * 2 ^ 21
  else if off = 0x1F0C then (if s.variant.paired then s.lockBits .b else 0)
  else if off = rSafeState then (s.g rSafeState).toNat + s.pads.safe.toNat
  else if 0x8800 ≤ off ∧ off < 0x9000 then
    let src := (off - 0x8800) / 4
    s.evCount src + (s.evState src).code * 256
  else if off = rEvtStatus then s.summary + s.evt.inflight % 256 * 256 + s.gf rEvtStatus 16 16 * 2 ^ 16
  else if off = 0x10004 then s.snpStatus
  else if off = 0x40008 then s.pairState
  else if 0x4000C ≤ off ∧ off < 0x40018 then s.pairBits ((off - 0x4000C) / 4) (fun p => (s.cmpSingle p).isSome)
  else if 0x40018 ≤ off ∧ off < 0x40024 then
    s.pairBits ((off - 0x40018) / 4) (fun p => decide (s.cmpSingle p = some .b))
  else if 0x40024 ≤ off ∧ off < 0x40030 then s.pairBits ((off - 0x40024) / 4) (fun p => (s.pair.cmp.rd p {}).suspect)
  else if 0x40030 ≤ off ∧ off < 0x4003C then s.pairBits ((off - 0x40030) / 4) (fun p => (s.pair.cmp.rd p {}).latent)
  else (s.g off).toNat

/-! ### Blocks of a plane -/

/-- PLC (R154). -/
def State.plcWord (s : State) (pl : Pl) (off : Nat) : Nat :=
  let w := (s.p pl off).toNat
  let enable := bit (s.p pl rPlcCtrl) 0
  if off = 0x20004 then
    let free := if enable then ((List.range s.variant.tiles).map (fun t => (s.freeFrames pl t).length)).sum else 0
    b2n (s.sb pl).timed + s.timedCause pl * 2 + (s.sb pl).running % 16 * 2 ^ 8 + free % 4096 * 2 ^ 16
  else if off = 0x2003C then
    let page := s.pf pl rEntrySel 0 18
    if page < s.regionPages pl then (s.entry pl page).toNat else 0
  else if 0x20080 ≤ off ∧ off < 0x200C0 then s.ownerFrames pl ((off - 0x20080) / 4) % 4096
  else if 0x20100 ≤ off ∧ off < 0x20180 then
    let t := (off - 0x20100) / 4
    w + ((s.poolOf pl t).length - (s.freeFrames pl t).length) % 128 * 2 ^ 16
  else w

/-- FLK and the lock unit (R181, R351). -/
def State.flkWord (s : State) (pl : Pl) (off : Nat) : Nat :=
  if off < 0x34000 ∧ off % 0x10 = 8 then
    let f := (off - 0x30000) / 0x10
    let b := s.sb pl
    let held := ((b.held.filter (fun h => decide (h.flock = f))).map (fun h => h.flits.length)).sum
    ((s.members pl f).filter (fun m => s.eligibleQ pl m.2 false)).length % 64
      + (b.moves.filter (fun m => decide (m.flock = f))).length % 32 * 2 ^ 8 + held % 1024 * 2 ^ 16
  else if off = 0x34014 then (s.sb pl).holdFlits % 1024
  else if 0x38000 ≤ off ∧ off < 0x39000 then
    let n := (off - 0x38000) / 4
    let l := s.lock pl n
    let o := s.lockOwnerOf n
    let held := decide (l.state = .held)
    l.state.code + b2n o.isSome * 4 + b2n (held && l.holderM) * 8 + (o.getD 0) * 16 + (if held then l.holderPort else 0x7F) * 2 ^ 8
      + (if held && !l.holderM then l.holderOwner else 0) * 2 ^ 15 + (if held then l.hold % 8192 else 0) * 2 ^ 19
  else (s.p pl off).toNat

/-- NI (R122, R156, R205). -/
def State.niWord (s : State) (pl : Pl) (off : Nat) : Nat :=
  let p := (off - 0x100000) / 0x2000
  let d := (off - 0x100000) % 0x2000
  let n := s.ni pl p
  let w := (s.p pl off).toNat
  if d = 4 then w + n.recQ.length % 16 * 8
  else if 0x400 ≤ d ∧ d < 0x500 then
    match s.gtRec p ((d - 0x400) / 8) with
    | none => 0
    | some r =>
      if d % 8 = 0 then r.dest + 2 ^ 7 + r.rate * 2 ^ 8 + r.burst * 2 ^ 17 + r.kinds * 2 ^ 24 + r.flags % 2 * 2 ^ 27 + r.limit % 16 * 2 ^ 28
      else r.lane + n.tok.rd r.stream 0 % 2 ^ 15 * 2 ^ 16
  else if d = 0x600 then
    n.look.length % 512 + (n.look.filter (·.pinned)).length % 512 * 2 ^ 12 + (n.frozen.filter (fun f => !f.released)).length % 16 * 2 ^ 24 + n.watch.length % 4 * 2 ^ 28
  else w

/-- FRT.LIVE and QRT.LIVE (R80, R88, R89). -/
def State.liveWord (s : State) (quire : Bool) (i : Nat) : Nat :=
  ((List.range (nOut quire)).map (fun n => if s.liveEnd quire i n then 2 ^ n else 0)).sum

/-- An entry of the mirror that owner `o` may see (R329). -/
def State.mirrorEntry (s : State) (pl : Pl) (o idx : Nat) : Nat :=
  let sel := s.p pl (ctrBase idx)
  let cfg := s.p pl (bNi (idx / 8))
  let shown := if bit sel 24 then decide (fld sel 20 4 = o) else decide (fld cfg 0 16 = 2 ^ o) && !bit cfg 16
  if shown then ((s.sb pl).mirror.rd idx 0).toNat % 2 ^ 49 else 0

/-- A word of the owner slices (R328). -/
def State.sliceWord (s : State) (pl : Pl) (off : Nat) : Nat :=
  let o := (off - 0x900000) / 0x10000
  let d := (off - 0x900000) % 0x10000
  let v := if d < 8 then ((s.sb pl).mirrorAt).getD 0
    else if 0x100 ≤ d ∧ d % 0x100 < 64 ∧ d / 0x100 - 1 < s.variant.ports then s.mirrorEntry pl o (8 * (d / 0x100 - 1) + d % 0x100 / 8)
    else 0
  v / 2 ^ (8 * (d % 8)) % 2 ^ 32

/-- A word of a block of plane `pl`. -/
def State.planeWord (s : State) (pl : Pl) (off : Nat) : Nat :=
  match ctrOf off with
  | some (idx, 4) => ((s.pln pl).ctr.rd idx 0).toNat % 2 ^ 32
  | some (idx, 8) => ((s.pln pl).ctrHi.rd idx 0).toNat
  | some _ => (s.p pl off).toNat
  | none =>
    if off < 0x30000 then s.plcWord pl off
    else if off < 0x40000 then s.flkWord pl off
    else if 0x80000 ≤ off ∧ off < 0x90000 ∧ off % 0x4000 = 0x10 then s.liveWord true ((off - 0x80000) / 0x4000)
    else if 0xA0000 ≤ off ∧ off < 0xB0000 ∧ off % 0x1000 = 8 then s.liveWord false ((off - 0xA0000) / 0x1000)
    else if 0x100000 ≤ off ∧ off < 0x1C0000 then s.niWord pl off
    else if 0x200000 ≤ off ∧ off < 0x220000 ∧ off % 0x4000 = 0x2000 then s.engStatus pl ((off - 0x200000) / 0x4000)
    else if 0x400000 ≤ off ∧ off < 0x500000 ∧ off % 0x40 = 0x3C then b2n (s.qBit pl ((off - 0x400000) / 0x40) 3)
    else if 0x900000 ≤ off then s.sliceWord pl off
    else (s.p pl off).toNat

/-- What an assigned register reads as; an unassigned offset reads zero (R13). COL and the owner slices have no row. -/
def State.regWord (s : State) (pl : Pl) (off : Nat) : Nat :=
  if off < 0x1000 ∨ 0x900000 ≤ off ∨ (rowOf off).isSome then (if planeBlock off then s.planeWord pl off else s.sharedWord off) else 0

/-! ### Reads (R10, R121, R326, R343) -/

/-- The plane whose copy a selection shows: a plane that follows the other over the kettle link reads as that one (R236,
R247). -/
def State.shownPlane (s : State) (pl : Pl) : Pl :=
  if s.plState pl = .ready ∨ s.plState pl = .join then otherPl pl else pl

/-- What hardware has added in this fc to the RC fields of a register, and the plane's number of its word (R12). -/
def State.rcIncs (s : State) (pl : Pl) (off : Nat) : List (Nat × Nat × Nat × Nat) :=
  match rowOf off with
  | some r => (s.hwIncs (if planeBlock off then hwPlane pl off else hwShared off)).filter (fun x => r.rc / 2 ^ x.1 % 2 = 1)
  | none => []

/-- The RC bits of a word after a read: zero, but for what hardware has added in the same fc (R12). -/
def rcCleared (w rc : W32) (incs : List (Nat × Nat × Nat × Nat)) : W32 :=
  incs.foldl (fun w x => setFld w x.1 x.2.1 (satAdd x.2.1 0 x.2.2.2)) (w &&& ~~~rc)

/-- Clears the RC bits of a word (R10, R12). -/
def State.clearRc (s : State) (pl : Pl) (off : Nat) : State :=
  match rowOf off with
  | some r =>
    if r.rc = 0 then s
    else if planeBlock off then s.pset pl off (rcCleared (s.p pl off) (BitVec.ofNat 32 r.rc) (s.rcIncs pl off))
    else s.gset off (rcCleared (s.g off) (BitVec.ofNat 32 r.rc) (s.rcIncs pl off))
  | none => s

/-- What a read returns of a register: RC fields as they stood before this fc (R12). -/
def State.readValue (s : State) (pl : Pl) (off : Nat) : Nat :=
  let w := if planeBlock off then s.p pl off else s.g off
  (s.rcIncs pl off).foldl (fun v x => v - fld w x.1 x.2.1 * 2 ^ x.1 + x.2.2.1 * 2 ^ x.1) (s.regWord pl off)

/-- One word of a read: the value and the side effects. The pads' input levels come from outside (log 8). -/
def State.readWord (s : State) (pl : Pl) (off : Nat) : Nat × State :=
  if off = 0x2008 then s.padStatus
  else
    let v := s.readValue pl off
    let s := if off = 0x1F00 then s.gset rSlotHi (BitVec.ofNat 32 (s.now / 2 ^ 32))
      else match ctrOf off with
        | some (idx, 4) => s.modPln pl (fun x => { x with ctrHi := x.ctrHi.wr idx (BitVec.ofNat 32 ((x.ctr.rd idx 0).toNat / 2 ^ 32)) 0 })
        | _ => s.clearRc pl off
    (v, s)

/-- The words of a read in ascending order (R343). The bytes of words that the read does not enable are free (log 9). -/
def State.readLine (s : State) (pl : Pl) (off : Nat) (ben : BitVec 64) : Line × State :=
  let f := s.freshLine
  let ws := wordsOf ben
  let r := ws.foldl (fun (a : List (Nat × W32) × State) i =>
    let x := a.2.readWord pl (off / 64 * 64 + 4 * i)
    (a.1 ++ [(4 * i, BitVec.ofNat 32 x.1)], x.2)) ([], f.2)
  let mask := ws.foldl (fun (m : BitVec 64) i => m ||| benRange (4 * i) 4) 0
  (mergeLine f.1 (lineOf r.1) mask, r.2)

/-- The status of an access to every word that `ben` enables (R13, R16, R286). -/
def State.beatStatus (s : State) (r : CwReq) (off : Nat) (ben : BitVec 64) (write : Bool) : Nat :=
  stFirstOf ((wordsOf ben).map (fun i => s.accessStatus r (off / 64 * 64 + 4 * i) write))

/-- The plane that a read is served from (R236, R342). -/
def State.readPlane (s : State) (r : CwReq) : Pl := if r.priv = 3 then s.shownPlane s.view else s.lead

/-- A read access of the control window (R343 to R345): a refused one returns zero data. -/
def State.cwRead (s : State) (r : CwReq) (off : Nat) (ben : BitVec 64) : State :=
  if !s.windowTakes r then s
  else
    let st := s.beatStatus r off ben false
    if st = stOk then
      let x := (s.touch off).readLine (s.readPlane r) off ben
      x.2.answer r stOk (some x.1)
    else s.answer r st (some 0)

/-- An aperture READ in one plane (R208, R209). -/
def State.aperRead (r : CwReq) (e c off : Nat) (ben : BitVec 64) (pl : Pl) (s : State) : State :=
  match s.aperTake pl e r kRead c off ben (fun _ => true) with
  | none => s
  | some (k, t) =>
    let st := stFirst (if t.chanMine pl { r with owner := hOwner k.hdr, priv := hPriv k.hdr } e c then stOk else stProt)
      (if k.poison then stPoison else stOk)
    let t := if k.poison then t.poisonOwner (hOwner k.hdr) (hPriv k.hdr) else t
    let x : Line × State := if st = stOk then t.readLine pl (bChan e c + off) ben else (0, t)
    let t := x.2
    let t : State := if pl = s.lead then { t with answers := t.answers ++ [{ src := r.src, tag := r.tag, status := st, data := x.1 }] } else t
    t.mulReply pl e r st (some x.1)

/-- The aperture READ of `r` waits at the engine of a channel register. -/
def State.aperWaits (s : State) (r : CwReq) (off : Nat) (ben : BitVec 64) : Bool :=
  decide (0x200000 ≤ off ∧ off < 0x220000 ∧ off % 0x4000 < 0x2000)
    && s.planes.any (fun pl => (s.aperTake pl ((off - 0x200000) / 0x4000) r kRead (off % 0x4000 / 0x100) (off % 0x100) ben
      (fun _ => true)).isSome)

/-- READ_CLEAR (R10, R343 to R345): a read of registers, by the window, or by the aperture where that is how the request came. -/
def execReadClear (r : CwReq) (off : Nat) (ben : BitVec 64) (s : State) : Out :=
  .next (if s.aperWaits r off ben then
      s.eachPlane (State.aperRead r ((off - 0x200000) / 0x4000) (off % 0x4000 / 0x100) (off % 0x100) ben)
    else s.cwRead r off ben)

/-- CTR_VAL_LO_READ (R326). -/
def execCtrValLoRead (r : CwReq) (idx : Nat) (s : State) : Out :=
  .next (let o := ctrBase (idx % 1000) + 4
    s.cwRead r o (benRange (o % 64) 4))

/-- SLOT_LO_READ (R121). -/
def execSlotLoRead (r : CwReq) (s : State) : Out := .next (s.cwRead r 0x1F00 (benRange 0 4))

/-- OWNER_MIRROR_READ (R328, R329, R342): a read of an owner's slice. -/
def execOwnerMirrorRead (r : CwReq) (off : Nat) (ben : BitVec 64) (s : State) : Out :=
  .next (if 0x900000 ≤ off ∧ off < 0xA00000 then s.cwRead r off ben else s)

end Sys2Proof.Machine
end

