-- ==== Sys2Proof/Machine/TestMode.lean ====
section
/-!
DEFINITION. Test access (R372, R373).
-/
namespace Sys2Proof.Machine

/-- TEST_MODE_ENTRY (R373): TEST_MODE has risen. -/
def execTestModeEntry (s : State) : Out :=
  .next (if s.test.mode then s
    else
      let s := (List.range s.variant.ports).foldl (fun t p => if (t.port p).live then t.fallPort p else t) s
      let s := s.gset rKeyStatus (s.g rKeyStatus &&& ~~~1)
      { s with
        test := { s.test with mode := true },
        pads := { s.pads with safe := 0, releasePend := 0 },
        keys := {},
        boot := { s.boot with root := 0, store := [], bytes := [] },
        img := { s.img with pages := [] },
        pa := { s.pa with sb := { s.pa.sb with ctab := [] } },
        pb := { s.pb with sb := { s.pb.sb with ctab := [] } } })

/-- WRAPPER_INSTRUCTION_UPDATE (R372, R373): the instruction register takes what was shifted in. -/
def execWrapperInstructionUpdate (w : WsInstr) (s : State) : Out := .next { s with test := { s.test with wir := w } }

/-- The instruction that the wrapper executes (R373). -/
def Test.executes (t : Test) : WsInstr := if t.mode then t.wir else .bypass

end Sys2Proof.Machine
end

