-- ==== Sys2Proof/Machine/Window.lean ====
section
/-!
DEFINITION. Writes of the control window: each word by the access code of its fields and by the action that its register has
(R10, R13, R189, R193, R289, R326, R343, R344).
-/
namespace Sys2Proof.Machine

/-! ### A word by access code (R10, R13) -/

/-- The stored word after a write: RW fields take the value, W1C fields lose the bits written as 1 but for those, `set`, that
hardware sets in the same fc (R12). A field whose value would leave its range keeps the old one (log 26). -/
def RegRow.written (r : RegRow) (w v set : W32) : W32 :=
  let rw := BitVec.ofNat 32 r.rw
  let new := (w &&& ~~~rw) ||| (v &&& rw)
  let new := r.ranges.foldl (fun a x =>
    if fld a x.lo x.len < x.min ∨ x.max < fld a x.lo x.len then setFld a x.lo x.len (fld w x.lo x.len) else a) new
  new &&& ~~~(v &&& BitVec.ofNat 32 r.w1c &&& ~~~set)

/-- A write of a shared word without an action of its own. -/
def State.plainShared (s : State) (off : Nat) (v : W32) : State :=
  match rowOf off with | some r => s.gset off (r.written (s.g off) v (s.hwSet (hwShared off))) | none => s

/-- A write of a word of a plane without an action of its own. -/
def State.plainPlane (s : State) (pl : Pl) (off : Nat) (v : W32) : State :=
  match rowOf off with | some r => s.pset pl off (r.written (s.p pl off) v (s.hwSet (hwPlane pl off))) | none => s

/-! ### Registers with an action -/

/-- A write of SYS.PWR_CMD (R297, R312): a reserved TARGET is ignored with RESULT 1. -/
def State.writePwrCmd (s : State) (v : W32) : State :=
  let quires := BitVec.ofNat 4 (fld v 0 4)
  match fld v 8 3 with
  | 0 => s.powerCmd quires (bit v 4) .run
  | 2 => s.powerCmd quires (bit v 4) .sleep
  | 3 => s.powerCmd quires (bit v 4) .deep
  | 4 => s.powerCmd quires (bit v 4) .off
  | _ => s.pwrResult 1 ((leastOf (s.quiresOf quires)).getD 0) (bit v 4) false 0x7F

/-- A write of one word of a shared block. -/
def State.writeShared (s : State) (off : Nat) (v : W32) : State :=
  if off = 0x1080 then (if bit v 8 then s.ownerGo (fld v 0 4) else s)
  else if off = 0x1200 then s.writePwrCmd v
  else if off = rMpFn then s.writeMpFn v
  else if off = 0x200C then (if bit v 0 then s.releasePads else s)
  else if off = 0x210C then s.safeRelease (BitVec.ofNat 4 (fld v 0 4))
  else if off = 0x4020 then (if bit v 0 then s.reboot else s)
  else if off = 0x4030 then s.flStart (fld v 0 3)
  else if 0x8000 ≤ off ∧ off < 0x8800 then s.evtConfig ((off - 0x8000) / 4) v
  else if off = 0x9200 then s.evtAck (fld v 0 9) (fld v 16 8)
  else if off = 0x9204 then s.evtRaise (fld v 0 9)
  else if off = rSnpCtrl then s.snapCtrl v
  else if off = rPairCtrl then s.pairCtrl v
  else s.plainShared off v

/-- The value that a write of VAL_LO gives counter `idx`: the staged high half and the written low half (R326). -/
def State.counterValue (s : State) (pl : Pl) (idx : Nat) (lo : W32) : BitVec 48 :=
  BitVec.ofNat 48 (lo.toNat + (((s.pln pl).stage.find (ctrBase idx + 8)).getD 0).toNat % 2 ^ 16 * 2 ^ 32)

/-- What a counter has counted in this fc (R326). -/
def State.ctrNow (s : State) (pl : Pl) (idx : Nat) : Nat :=
  ((s.hwIncs (hwPlane pl (ctrBase idx + 4))).map (fun x => x.2.2.2)).sum

/-- Sets the value of a counter, on which an increment of the same fc still counts (R326). -/
def State.setCounter (s : State) (idx : Nat) (lo : W32) (pl : Pl) : State :=
  s.modPln pl (fun x => { x with ctr := x.ctr.wr idx (s.counterValue pl idx lo + BitVec.ofNat 48 (s.ctrNow pl idx)) 0 })

/-- A word goes to its staging register (R189, R326). -/
def State.stageWord (s : State) (pl : Pl) (off : Nat) (v : W32) : State :=
  match rowOf off with
  | some r => s.modPln pl (fun x => { x with stage := x.stage.ins off (v &&& BitVec.ofNat 32 r.rw) })
  | none => s

/-- A write of a word of a protection region: bounds are staged, ATTR commits them (R189, R225). -/
def State.writeRegion (s : State) (pl : Pl) (off : Nat) (v : W32) : State :=
  if off % 0x20 = 0x10 then s.commitRegion (off - 0x10) v pl
  else if off % 0x20 < 0x10 then s.stageWord pl off v else s

/-- A write of a word of a dump group (R330, R333): while ENABLE is 1, only DG_CTRL and DG_TAIL take it. -/
def State.writeDump (s : State) (pl : Pl) (off : Nat) (v : W32) : State :=
  let g := (off - 0x800100) / 0x40
  let d := (off - 0x800100) % 0x40
  if d = 0 then s.dgCtrl g v pl
  else if d = 0x20 then s.dgTail g v pl
  else if bit (s.p pl (bDg g)) 0 then s
  else s.plainPlane pl off v

/-- A write of one word of a block of a plane. -/
def State.writePlane (off : Nat) (v : W32) (pl : Pl) (s : State) : State :=
  match ctrOf off with
  | some (idx, 4) => s.setCounter idx v pl
  | some (_, 8) => s.stageWord pl off v
  | some _ => s.plainPlane pl off v
  | none =>
    if off = rPlcCtrl then s.plcCtrl v pl
    else if off = 0x20030 then s.pageCmd (fld v 0 18) (fld v 18 2) pl
    else if off = 0x39040 then (if bit v 16 then s.freeLock (fld v 0 10) pl else s)
    else if 0x100000 ≤ off ∧ off < 0x1C0000 ∧ off % 0x2000 = 0x20 then s.recTail ((off - 0x100000) / 0x2000) v pl
    else if 0x100000 ≤ off ∧ off < 0x1C0000 ∧ 0x1000 ≤ off % 0x2000 then
      (if off % 0x2000 < 0x1800 then s.writeRegion pl off v else s)
    else if 0x200000 ≤ off ∧ off < 0x220000 ∧ off % 0x4000 < 0x2000 then
      s.chanWord pl ((off - 0x200000) / 0x4000) (off % 0x4000 / 0x100) (off % 0x100) v
    else if 0x200000 ≤ off ∧ off < 0x220000 ∧ 0x3000 ≤ off % 0x4000 then
      (if off % 0x4000 < 0x3800 then s.writeRegion pl off v else s)
    else if 0x400000 ≤ off ∧ off < 0x500000 ∧ off % 0x40 = 0x3C then s.qCtrl ((off - 0x400000) / 0x40) v pl
    else if 0x800100 ≤ off ∧ off < 0x800300 then s.writeDump pl off v
    else s.plainPlane pl off v

/-- A write of one word, once the access has been allowed (R236, R286, R344). -/
def State.writeWord (s : State) (off : Nat) (v : W32) : State :=
  if s.minimal && !decide (0x4020 ≤ off ∧ off < 0x4080) then s
  else if planeBlock off then s.eachPlane (State.writePlane off v)
  else s.writeShared off v

/-! ### Accesses -/

/-- The status of a write of one beat: that of its words, and what R207 and R343 refuse. -/
def State.writeStatus (s : State) (r : CwReq) (off : Nat) (ben : BitVec 64) : Nat :=
  let st := s.beatStatus r off ben true
  let chan := decide (0x200000 ≤ off ∧ off < 0x220000 ∧ off % 0x4000 < 0x2000)
    && s.bellwetherChan s.lead (off % 0x4000 / 0x100)
  let st := if chan then stFirst st stProt else st
  if partWord ben then stFirst st stAlign else st

/-- A write access of one beat (R343, R344). -/
def State.cwBeat (s : State) (r : CwReq) (off : Nat) (b : Beat) : State :=
  if !s.windowTakes r then s
  else
    let st := s.writeStatus r off b.ben
    let t := if st = stOk then
        (wordsOf b.ben).foldl (fun (t : State) i => t.writeWord (off / 64 * 64 + 4 * i) (lineWord b.data i)) (s.touch off)
      else s
    t.answer r st none

/-- REGISTER_WRITE (R10, R13, R343, R344). -/
def execRegisterWrite (r : CwReq) (off : Nat) (b : Beat) (s : State) : Out := .next (s.cwBeat r off b)

/-- W1C_WRITE (R10): a write of one register. -/
def execW1cWrite (r : CwReq) (off : Nat) (v : W32) (s : State) : Out :=
  s.cwWrite r (off / 4 * 4) (fun s => s.writeWord (off / 4 * 4) v)

/-- CTR_VAL_LO_WRITE (R326). -/
def execCtrValLoWrite (r : CwReq) (idx : Nat) (lo : W32) (s : State) : Out :=
  s.cwWrite r (ctrBase (idx % 1000) + 4) (fun s => s.eachPlane (fun pl s => s.setCounter (idx % 1000) lo pl))

end Sys2Proof.Machine
end

