-- ==== Sys2Proof/Machine/Dispatch.lean ====
section
/-!
DEFINITION. The effect of each command: one direct call of its meaning.
-/
namespace Sys2Proof.Machine

def exec (i : Instr) (s : State) : Host.Outcome State Fault Refusal :=
  match i with
  | .slotBoundary => Sys2Proof.Machine.execSlotBoundary s
  | .outputArbitration pl node => Sys2Proof.Machine.execOutputArbitration pl node s
  | .drainAnswer pl node vc => Sys2Proof.Machine.execDrainAnswer pl node vc s
  | .creditReturn pl out vc => Sys2Proof.Machine.execCreditReturn pl out vc s
  | .linkCheckFailure pl out vc => Sys2Proof.Machine.execLinkCheckFailure pl out vc s
  | .linkRetryRequest pl out vc => Sys2Proof.Machine.execLinkRetryRequest pl out vc s
  | .stitchRead pl p r => Sys2Proof.Machine.execStitchRead pl p r s
  | .stitchFetch pl p r => Sys2Proof.Machine.execStitchFetch pl p r s
  | .stitchWrite pl p r => Sys2Proof.Machine.execStitchWrite pl p r s
  | .stitchAtomic pl p r subop asize => Sys2Proof.Machine.execStitchAtomic pl p r subop asize s
  | .stitchFence pl p fcls => Sys2Proof.Machine.execStitchFence pl p fcls s
  | .stitchMessage pl p m => Sys2Proof.Machine.execStitchMessage pl p m s
  | .pieceIssue pl p => Sys2Proof.Machine.execPieceIssue pl p s
  | .rackReceived pl p vc => Sys2Proof.Machine.execRackReceived pl p vc s
  | .rdataReceived pl p vc => Sys2Proof.Machine.execRdataReceived pl p vc s
  | .fenceComplete pl p => Sys2Proof.Machine.execFenceComplete pl p s
  | .retryReceived pl p vc => Sys2Proof.Machine.execRetryReceived pl p vc s
  | .reissue pl p tag => Sys2Proof.Machine.execReissue pl p tag s
  | .targetRequest pl p vc => Sys2Proof.Machine.execTargetRequest pl p vc s
  | .treqPresent pl p => Sys2Proof.Machine.execTreqPresent pl p s
  | .trspResponse pl p ttag status data => Sys2Proof.Machine.execTrspResponse pl p ttag status data s
  | .atomicWriteBack pl p job => Sys2Proof.Machine.execAtomicWriteBack pl p job s
  | .writeMerge pl p job => Sys2Proof.Machine.execWriteMerge pl p job s
  | .pathFence pl p vc => Sys2Proof.Machine.execPathFence pl p vc s
  | .pathFenceAck pl p => Sys2Proof.Machine.execPathFenceAck pl p s
  | .lockAcquire pl q vc => Sys2Proof.Machine.execLockAcquire pl q vc s
  | .lockRelease pl q vc => Sys2Proof.Machine.execLockRelease pl q vc s
  | .lockExpiry pl n => Sys2Proof.Machine.execLockExpiry pl n s
  | .lockBreak pl n niFault => Sys2Proof.Machine.execLockBreak pl n niFault s
  | .lockFree r n => Sys2Proof.Machine.execLockFree r n s
  | .portLiveFall p => Sys2Proof.Machine.execPortLiveFall p s
  | .portLiveRise p => Sys2Proof.Machine.execPortLiveRise p s
  | .islandLock pl n => Sys2Proof.Machine.execIslandLock pl n s
  | .islandUnlock pl n => Sys2Proof.Machine.execIslandUnlock pl n s
  | .islandRelock pl n measured => Sys2Proof.Machine.execIslandRelock pl n measured s
  | .gtStreamEnable => Sys2Proof.Machine.execGtStreamEnable s
  | .gtRelease p => Sys2Proof.Machine.execGtRelease p s
  | .gtLateDelivery p => Sys2Proof.Machine.execGtLateDelivery p s
  | .placementLookup pl q => Sys2Proof.Machine.execPlacementLookup pl q s
  | .tableError pl err => Sys2Proof.Machine.execTableError pl err s
  | .lookupReply pl agent => Sys2Proof.Machine.execLookupReply pl agent s
  | .lookasideInvalidate pl agent => Sys2Proof.Machine.execLookasideInvalidate pl agent s
  | .lookasideFreeze pl agent => Sys2Proof.Machine.execLookasideFreeze pl agent s
  | .freezeAcknowledge pl agent page => Sys2Proof.Machine.execFreezeAcknowledge pl agent page s
  | .lookasideRelease pl agent => Sys2Proof.Machine.execLookasideRelease pl agent s
  | .lookasideWatch pl p => Sys2Proof.Machine.execLookasideWatch pl p s
  | .invalidateAcknowledge pl q => Sys2Proof.Machine.execInvalidateAcknowledge pl q s
  | .periodBoundary pl => Sys2Proof.Machine.execPeriodBoundary pl s
  | .migrationCopyDone pl e => Sys2Proof.Machine.execMigrationCopyDone pl e s
  | .migrationRecopyDone pl e => Sys2Proof.Machine.execMigrationRecopyDone pl e s
  | .freezeLimitReached pl page => Sys2Proof.Machine.execFreezeLimitReached pl page s
  | .silentInitiator pl agent page => Sys2Proof.Machine.execSilentInitiator pl agent page s
  | .timedModeEnd pl => Sys2Proof.Machine.execTimedModeEnd pl s
  | .timedReq r value => Sys2Proof.Machine.execTimedReq r value s
  | .timedResume r => Sys2Proof.Machine.execTimedResume r s
  | .pagePin r page => Sys2Proof.Machine.execPagePin r page s
  | .pageUnpin r page => Sys2Proof.Machine.execPageUnpin r page s
  | .pageDemote r page => Sys2Proof.Machine.execPageDemote r page s
  | .queueTailGate pl q => Sys2Proof.Machine.execQueueTailGate pl q s
  | .ringWriteRack pl q => Sys2Proof.Machine.execRingWriteRack pl q s
  | .doorbellRack pl q => Sys2Proof.Machine.execDoorbellRack pl q s
  | .queueStatus pl q vc => Sys2Proof.Machine.execQueueStatus pl q vc s
  | .queueConsume pl q vc => Sys2Proof.Machine.execQueueConsume pl q vc s
  | .consumeArm pl q vc => Sys2Proof.Machine.execConsumeArm pl q vc s
  | .memberLeave pl q vc => Sys2Proof.Machine.execMemberLeave pl q vc s
  | .memberJoin pl q vc => Sys2Proof.Machine.execMemberJoin pl q vc s
  | .heldMessageAdmit pl f k => Sys2Proof.Machine.execHeldMessageAdmit pl f k s
  | .rebalanceBoundary pl => Sys2Proof.Machine.execRebalanceBoundary pl s
  | .keywaitExpiry pl n => Sys2Proof.Machine.execKeywaitExpiry pl n s
  | .redeliveryRead pl q => Sys2Proof.Machine.execRedeliveryRead pl q s
  | .lossFinish pl n => Sys2Proof.Machine.execLossFinish pl n s
  | .queueStop r n stop => Sys2Proof.Machine.execQueueStop r n stop s
  | .queueFlush r n stop => Sys2Proof.Machine.execQueueFlush r n stop s
  | .regionCommit r blk region attr => Sys2Proof.Machine.execRegionCommit r blk region attr s
  | .recordWrite pl p => Sys2Proof.Machine.execRecordWrite pl p s
  | .recordWriteRack pl p vc => Sys2Proof.Machine.execRecordWriteRack pl p vc s
  | .recTailWrite r p v => Sys2Proof.Machine.execRecTailWrite r p v s
  | .ownerResetGo r o => Sys2Proof.Machine.execOwnerResetGo r o s
  | .ownerClose => Sys2Proof.Machine.execOwnerClose s
  | .ownerDrainDone => Sys2Proof.Machine.execOwnerDrainDone s
  | .ownerResetStall => Sys2Proof.Machine.execOwnerResetStall s
  | .keyDerivationDone k => Sys2Proof.Machine.execKeyDerivationDone k s
  | .ownerKeySwitch => Sys2Proof.Machine.execOwnerKeySwitch s
  | .ownerCleanDone => Sys2Proof.Machine.execOwnerCleanDone s
  | .ownerOpen => Sys2Proof.Machine.execOwnerOpen s
  | .channelRegisterWrite aperture r e c off b => Sys2Proof.Machine.execChannelRegisterWrite aperture r e c off b s
  | .channelStart aperture r e c => Sys2Proof.Machine.execChannelStart aperture r e c s
  | .channelStop aperture r e c => Sys2Proof.Machine.execChannelStop aperture r e c s
  | .listReadAnswer pl e => Sys2Proof.Machine.execListReadAnswer pl e s
  | .burstStart pl e => Sys2Proof.Machine.execBurstStart pl e s
  | .muleResponse pl e => Sys2Proof.Machine.execMuleResponse pl e s
  | .muleParityError pl e => Sys2Proof.Machine.execMuleParityError pl e s
  | .comparatorDecision p fa fb => Sys2Proof.Machine.execComparatorDecision p fa fb s
  | .comparatorReplay p delayed => Sys2Proof.Machine.execComparatorReplay p delayed s
  | .divergeTimeout p => Sys2Proof.Machine.execDivergeTimeout p s
  | .planeCheckerFire pl site => Sys2Proof.Machine.execPlaneCheckerFire pl site s
  | .planeOut => Sys2Proof.Machine.execPlaneOut s
  | .forceOutA r => Sys2Proof.Machine.execForceOutA r s
  | .forceOutB r => Sys2Proof.Machine.execForceOutB r s
  | .planeResetDone => Sys2Proof.Machine.execPlaneResetDone s
  | .selftestDone passed => Sys2Proof.Machine.execSelftestDone passed s
  | .kettleWordError consecutive => Sys2Proof.Machine.execKettleWordError consecutive s
  | .sweepDone => Sys2Proof.Machine.execSweepDone s
  | .joinStart => Sys2Proof.Machine.execJoinStart s
  | .joinDrainDone => Sys2Proof.Machine.execJoinDrainDone s
  | .joinResume => Sys2Proof.Machine.execJoinResume s
  | .joinAbort => Sys2Proof.Machine.execJoinAbort s
  | .pairRejoin r => Sys2Proof.Machine.execPairRejoin r s
  | .clearSuspect r => Sys2Proof.Machine.execClearSuspect r s
  | .proofTest p passed => Sys2Proof.Machine.execProofTest p passed s
  | .safeOutAssert => Sys2Proof.Machine.execSafeOutAssert s
  | .safeRelease r groups => Sys2Proof.Machine.execSafeRelease r groups s
  | .deviceReset => Sys2Proof.Machine.execDeviceReset s
  | .deviceResetRelease => Sys2Proof.Machine.execDeviceResetRelease s
  | .fuseSample valid root khash => Sys2Proof.Machine.execFuseSample valid root khash s
  | .discoveryDone d => Sys2Proof.Machine.execDiscoveryDone d s
  | .headersRead a b => Sys2Proof.Machine.execHeadersRead a b s
  | .flashDqsTimeout => Sys2Proof.Machine.execFlashDqsTimeout s
  | .imageReadDone bytes => Sys2Proof.Machine.execImageReadDone bytes s
  | .vigenOutcome selfCheckOk => Sys2Proof.Machine.execVigenOutcome selfCheckOk s
  | .applyDone => Sys2Proof.Machine.execApplyDone s
  | .fabricDone measured => Sys2Proof.Machine.execFabricDone measured s
  | .islandLockTimeout pl n => Sys2Proof.Machine.execIslandLockTimeout pl n s
  | .tableDone => Sys2Proof.Machine.execTableDone s
  | .startupDone => Sys2Proof.Machine.execStartupDone s
  | .imgReboot r => Sys2Proof.Machine.execImgReboot r s
  | .flashRead r => Sys2Proof.Machine.execFlashRead r s
  | .flashProgram r => Sys2Proof.Machine.execFlashProgram r s
  | .flashErase r => Sys2Proof.Machine.execFlashErase r s
  | .flashCommandDone data => Sys2Proof.Machine.execFlashCommandDone data s
  | .flashTimeout => Sys2Proof.Machine.execFlashTimeout s
  | .powerRun r quires device => Sys2Proof.Machine.execPowerRun r quires device s
  | .powerSleep r quires device => Sys2Proof.Machine.execPowerSleep r quires device s
  | .powerDeepSleep r quires device => Sys2Proof.Machine.execPowerDeepSleep r quires device s
  | .powerOff r quires device => Sys2Proof.Machine.execPowerOff r quires device s
  | .autoIdleEntry q => Sys2Proof.Machine.execAutoIdleEntry q s
  | .idleExit q => Sys2Proof.Machine.execIdleExit q s
  | .autoSleepEntry q => Sys2Proof.Machine.execAutoSleepEntry q s
  | .entryClose q => Sys2Proof.Machine.execEntryClose q s
  | .entryVacateDone q => Sys2Proof.Machine.execEntryVacateDone q s
  | .entryDrainDone q => Sys2Proof.Machine.execEntryDrainDone q s
  | .entryPark q => Sys2Proof.Machine.execEntryPark q s
  | .entryCommit q => Sys2Proof.Machine.execEntryCommit q s
  | .entryDrainLimit q => Sys2Proof.Machine.execEntryDrainLimit q s
  | .wakeIn => Sys2Proof.Machine.execWakeIn s
  | .alarmWake => Sys2Proof.Machine.execAlarmWake s
  | .mpWake m => Sys2Proof.Machine.execMpWake m s
  | .supplyAck device q => Sys2Proof.Machine.execSupplyAck device q s
  | .quireExitComplete q retentionOk => Sys2Proof.Machine.execQuireExitComplete q retentionOk s
  | .padFunctionSwitch r v => Sys2Proof.Machine.execPadFunctionSwitch r v s
  | .padHoldEnd m => Sys2Proof.Machine.execPadHoldEnd m s
  | .padHoldRelease r => Sys2Proof.Machine.execPadHoldRelease r s
  | .eventRaise r src => Sys2Proof.Machine.execEventRaise r src s
  | .eventAck r src n => Sys2Proof.Machine.execEventAck r src n s
  | .emitterSelect => Sys2Proof.Machine.execEmitterSelect s
  | .eventHandoff => Sys2Proof.Machine.execEventHandoff s
  | .eventDeliveryRack pl q => Sys2Proof.Machine.execEventDeliveryRack pl q s
  | .eventHoldExpiry src => Sys2Proof.Machine.execEventHoldExpiry src s
  | .ctrValLoWrite r idx lo => Sys2Proof.Machine.execCtrValLoWrite r idx lo s
  | .ctrValLoRead r idx => Sys2Proof.Machine.execCtrValLoRead r idx s
  | .slotLoRead r => Sys2Proof.Machine.execSlotLoRead r s
  | .readClear r off ben => Sys2Proof.Machine.execReadClear r off ben s
  | .w1cWrite r off v => Sys2Proof.Machine.execW1cWrite r off v s
  | .registerWrite r off b => Sys2Proof.Machine.execRegisterWrite r off b s
  | .mirrorRefresh pl => Sys2Proof.Machine.execMirrorRefresh pl s
  | .ownerMirrorRead r off ben => Sys2Proof.Machine.execOwnerMirrorRead r off ben s
  | .dumpBoundary pl g => Sys2Proof.Machine.execDumpBoundary pl g s
  | .dumpPacket pl q => Sys2Proof.Machine.execDumpPacket pl q s
  | .dumpAcknowledge pl agent => Sys2Proof.Machine.execDumpAcknowledge pl agent s
  | .dumpRecordWrite pl g => Sys2Proof.Machine.execDumpRecordWrite pl g s
  | .dumpWriteRack pl q => Sys2Proof.Machine.execDumpWriteRack pl q s
  | .dgTailWrite r g v => Sys2Proof.Machine.execDgTailWrite r g v s
  | .dgEnable r g => Sys2Proof.Machine.execDgEnable r g s
  | .snapshotTrigger r => Sys2Proof.Machine.execSnapshotTrigger r s
  | .snapInEdge m => Sys2Proof.Machine.execSnapInEdge m s
  | .snapshotLatch => Sys2Proof.Machine.execSnapshotLatch s
  | .snapshotArm r => Sys2Proof.Machine.execSnapshotArm r s
  | .portResetRequest p => Sys2Proof.Machine.execPortResetRequest p s
  | .portResetAssert p => Sys2Proof.Machine.execPortResetAssert p s
  | .portResetRelease p => Sys2Proof.Machine.execPortResetRelease p s
  | .portResetWithdraw p => Sys2Proof.Machine.execPortResetWithdraw p s
  | .unitDown p => Sys2Proof.Machine.execUnitDown p s
  | .testModeEntry => Sys2Proof.Machine.execTestModeEntry s
  | .alwaysOnSupplyRemoved => Sys2Proof.Machine.execAlwaysOnSupplyRemoved s
  | .wrapperInstructionUpdate w => Sys2Proof.Machine.execWrapperInstructionUpdate w s

end Sys2Proof.Machine
end

