-- ==== Sys2Proof/Safety.lean ====
section
/-!
DEFINITION. What the statements call safe: the canonical form of the register words, what a command leaves alone, and when a
register access is allowed.
-/
namespace Sys2Proof.Machine

/-- The tables of a plane that its units and registers live in. -/
def Plane.tabs (x : Plane) : Tab W32 × Tab Ni × Tab Router × Tab Router × Tab Mule × Tab Island :=
  (x.rf, x.ni, x.frt, x.qrt, x.mule, x.isl)

/-- The tables of a plane are in order: register words in canonical form, units under strictly rising numbers. -/
def Plane.Canon (x : Plane) : Prop :=
  Tab.wf x.rf resetWord ∧ Tab.Sorted x.ni ∧ Tab.Sorted x.frt ∧ Tab.Sorted x.qrt ∧ Tab.Sorted x.mule ∧ Tab.Sorted x.isl

/-- The tables of the block are in order: the shared register words, the ports, and those of both planes. -/
def State.Canon (s : State) : Prop :=
  Tab.wf s.rf (fun _ => 0) ∧ Tab.Sorted s.ports ∧ s.pa.Canon ∧ s.pb.Canon

/-- From `s` to `t` the queue, the part, time and the test port stay as they are, and the tables stay in order. -/
structure State.Keeps (s t : State) : Prop where
  pending : t.pending = s.pending
  variant : t.variant = s.variant
  fc : t.fc = s.fc
  fcInSlot : t.fcInSlot = s.fcInSlot
  slot : t.slot = s.slot
  test : t.test = s.test
  canon : s.Canon → t.Canon

/-- From `s` to `t` the accepted configuration and the keys stay as they are too. -/
structure State.Steady (s t : State) : Prop extends State.Keeps s t where
  img : t.img = s.img
  keys : t.keys = s.keys

/-- A window write of `r` at `off` is carried out (R11, R13, R236, R286, R303, R344). -/
def State.writeAllowed (s : State) (r : CwReq) (off : Nat) : Prop :=
  s.windowTakes r = true ∧ s.accessStatus r off true = stOk ∧ (s.minimal = false ∨ (0x4020 ≤ off ∧ off < 0x4080))

/-- A window read of `r` of the words of `off`'s granule that `ben` enables is carried out. -/
def State.readAllowed (s : State) (r : CwReq) (off : Nat) (ben : BitVec 64) : Prop :=
  s.windowTakes r = true ∧ s.beatStatus r off ben false = stOk

/-- Every piece of a Stitch request passes its checks (R41). -/
def State.piecesPass (s : State) (pl : Pl) (p kind subop asize : Nat) (r : Stitch) : Prop :=
  ∀ i < granules r.addr (stitchLen kind asize r), (s.pieceFails pl p kind subop asize r i).1 = []

/-! ### Commands that reach what the others leave alone -/

/-- The commands that set the slot counter or a count of fc: the slot boundary, and what starts the device afresh. -/
def movesTime : Instr → Bool
  | .slotBoundary | .deviceReset | .supplyAck true _ => true
  | _ => false

/-- The commands that change a key: derivation, the switch of an owner reset, and what drops them all. -/
def changesKeys : Instr → Bool
  | .keyDerivationDone _ | .ownerKeySwitch | .entryCommit _ | .testModeEntry | .deviceReset | .supplyAck true _ => true
  | _ => false

/-- The commands that change the accepted configuration: start-up's acceptance or failure, and a fresh
start. -/
def changesImage : Instr → Bool
  | .headersRead _ _ | .flashDqsTimeout | .vigenOutcome _ | .applyDone | .testModeEntry | .deviceReset | .supplyAck true _ => true
  | _ => false

/-- The commands that act on the test port. -/
def changesTest : Instr → Bool
  | .testModeEntry | .wrapperInstructionUpdate _ | .deviceReset | .deviceResetRelease | .supplyAck true _ => true
  | _ => false

/-! ### What a request leaves at its NI -/

/-- The pieces of a Stitch request: one for each granule, in ascending order of address (R37, R40). -/
def PiecesOf (kind asize ord : Nat) (r : Stitch) (ps : List Piece) : Prop :=
  ps.length = granules r.addr (stitchLen kind asize r) ∧
  ∀ i q, ps[i]? = some q →
    q.ord = ord ∧ q.pidx = i ∧ q.paddr = pieceAddr r.addr i ∧ q.owner = r.owner ∧ q.priv = r.priv ∧
    (kind ≠ kWrite → q.ben = pieceBen r.addr (stitchLen kind asize r) i) ∧
    (kind = kWrite → ∀ b, r.beats[i]? = some b → q.ben = pieceBen r.addr r.len i &&& b.ben ∧ q.data = b.data)

/-- From `s` to `u` a Stitch request has entered NI `p`: the next number, its pieces behind those that wait, its record. -/
def State.Entered (s u : State) (pl : Pl) (p kind asize : Nat) (r : Stitch) : Prop :=
  (u.ni pl p).nextOrd = (s.ni pl p).nextOrd + 1 ∧
  (∃ ps, (u.ni pl p).wait = (s.ni pl p).wait ++ ps ∧ PiecesOf kind asize (s.ni pl p).nextOrd r ps) ∧
  ∃ q ∈ (u.ni pl p).reqs, q.ord = (s.ni pl p).nextOrd ∧ q.kind = kind ∧ q.addr = r.addr ∧ q.owner = r.owner ∧
    q.pieces = granules r.addr (stitchLen kind asize r)

/-- Nothing of NI `p` that waits, is issued or is outstanding has changed from `s` to `t`. -/
def State.Unissued (s t : State) (pl : Pl) (p : Nat) : Prop :=
  (t.ni pl p).wait = (s.ni pl p).wait ∧ (t.ni pl p).out = (s.ni pl p).out ∧ (t.ni pl p).gtq = (s.ni pl p).gtq ∧
  (t.ni pl p).reqs = (s.ni pl p).reqs ∧ (t.ni pl p).tx = (s.ni pl p).tx

/-- A Stitch request that fails a check is refused (R41): `t` differs from `s` at NI `p` by the completion, which carries
the status that ranks first. -/
def State.Refused (s t : State) (pl : Pl) (p kind subop asize : Nat) (r : Stitch) : Prop :=
  let n := granules r.addr (stitchLen kind asize r)
  let st := stFirstOf ((List.range n).flatMap (fun i => (s.pieceFails pl p kind subop asize r i).1))
  s.Unissued t pl p ∧ (t.ni pl p).nextOrd = (s.ni pl p).nextOrd + 1 ∧
  (t.ni pl p).irsp = (s.ni pl p).irsp ++
    [{ ord := (s.ni pl p).nextOrd, kind := kind, status := st, beats := if kind = kWrite then [] else List.replicate n (st, 0) }] ∧
  ((t.ni pl p).recSeq = (s.ni pl p).recSeq + if st = stProt then 1 else 0) ∧
  ∀ i, i ≠ p → t.ni pl i = s.ni pl i

end Sys2Proof.Machine
end

