-- ==== Sys2Proof/WellFormed.lean ====
section
/-!
DEFINITION. When the operands of a command fit the ranges that the rules give them. A command with an operand outside
its range names no port, engine, queue or register of any part.
-/
namespace Sys2Proof
open Sys2Proof.Machine

/-! ### Operand ranges -/

/-- Ports 0 to 95 (R31). -/
def wfPort (p : Nat) : Bool := decide (p < 96)
/-- Quires 0 to 3 (R20). -/
def wfQuire (q : Nat) : Bool := decide (q < 4)
/-- Folio routers 0 to 15 (R20). -/
def wfFolio (g : Nat) : Bool := decide (g < 16)
/-- Mule engines 0 to 7 (R206). -/
def wfEngine (e : Nat) : Bool := decide (e < 8)
/-- Channels 0 to 31 of an engine (R206). -/
def wfChannel (c : Nat) : Bool := decide (c < 32)
/-- VCs 0 to 6 (R32). -/
def wfVc (vc : Nat) : Bool := decide (vc < 7)
/-- Islands: 16 folios, 4 quires, the spine link, the control island (R91). -/
def wfIsland (i : Nat) : Bool := decide (i < 22)
/-- Locks 0 to 1023 (R55). -/
def wfLock (n : Nat) : Bool := decide (n < 1024)
/-- Queues 0 to 16383 (R157). -/
def wfQueue (n : Nat) : Bool := decide (n < 16384)
/-- Flocks 0 to 1023 (R170). -/
def wfFlock (f : Nat) : Bool := decide (f < 1024)
/-- Pages of the largest region (R123). -/
def wfPage (page : Nat) : Bool := decide (page < 2 ^ 18)
/-- Event sources 0 to 511 (R314). -/
def wfSource (src : Nat) : Bool := decide (src < 512)
/-- MP pads 0 and 1 (R306). -/
def wfPad (m : Nat) : Bool := decide (m < 2)
/-- Dump groups 0 to 7 (R331). -/
def wfGroup (g : Nat) : Bool := decide (g < 8)
/-- Performance counters 0 to 999 (R322). -/
def wfCounter (i : Nat) : Bool := decide (i < 1000)
/-- Owners 0 to 15 (R11). -/
def wfOwner (o : Nat) : Bool := decide (o < 16)
/-- A placement endpoint: an NI or a Mule engine (R130). -/
def wfEndpoint (a : Nat) : Bool := decide (a < 96 ∨ (0x70 ≤ a ∧ a ≤ 0x77))
/-- An agent that has counters: an NI, a router or a Mule engine (R34, R65). -/
def wfAgent (a : Nat) : Bool := decide (a < 0x7C)
/-- An offset within the control window (R341). -/
def wfOff (off : Nat) : Bool := decide (off < 2 ^ 24)
/-- The offset of a granule of the control window (R343). -/
def wfGran (off : Nat) : Bool := decide (off < 2 ^ 24 ∧ off % 64 = 0)
/-- The offset of a register (R343). -/
def wfReg (off : Nat) : Bool := decide (off < 2 ^ 24 ∧ off % 4 = 0)
/-- A list of bytes as long as the flash gives it (R264). -/
def wfHeader (l : List (BitVec 8)) : Bool := decide (l.length = 128)
/-- A measured crossing: a code of R99, and 16 results (R97). -/
def wfCrossing (m : Crossing) : Bool :=
  decide (m.results.length = 16 ∧ m.code < 1024 ∧ (m.code % 256 < 0x38 ∨ (0x40 ≤ m.code % 256 ∧ m.code % 256 < 0x44) ∨ m.code % 256 = 0x48))
def wfCrossings (l : List Crossing) : Bool := l.all wfCrossing

/-- A requester: SRC, TAG, VC, OWNER and PRIV fit their header fields (R34). -/
def CwReq.wf (r : CwReq) : Bool :=
  decide (r.src < 128 ∧ r.tag < 64 ∧ r.vc < 7 ∧ r.owner < 16 ∧ r.priv < 4)

/-- The IREQ fields of R359 fit their widths; `n` is the number of data beats. -/
def Stitch.wf (r : Stitch) (n : Nat) : Bool :=
  decide (r.addr < 2 ^ 48 ∧ r.len < 4096 ∧ r.owner < 16 ∧ r.priv < 4 ∧ r.cls < 4 ∧ r.gts < 32 ∧ r.beats.length = n)

/-- A message request carries 1 to 64 flits of payload to a queue or flock (R162, R359). -/
def MsgReq.wf (m : MsgReq) : Bool :=
  decide (m.num < (if m.tflock then 1024 else 16384) ∧ m.owner < 16 ∧ m.priv < 4 ∧ 1 ≤ m.beats.length ∧ m.beats.length ≤ 64)

/-- The sender exists on some part (R65, R75, R376). -/
def Node.wf (n : Node) : Bool :=
  match n with
  | .niLink p => wfPort p
  | .folio g => wfFolio g
  | .quire q => wfQuire q
  | .service q vc => wfQuire q && wfVc vc
  | .mule e vc => wfEngine e && wfVc vc

/-- The output exists on some part (R65). -/
def OutPort.wf (o : OutPort) : Bool :=
  match o with
  | .niLink p => wfPort p
  | .folio g out => wfFolio g && decide (out < 8)
  | .quire q out => wfQuire q && decide (out < 23)
  | .service q => wfQuire q
  | .mule e => wfEngine e

/-- The block exists on some part (R189, R225). -/
def RegionBlock.wf (b : RegionBlock) : Bool :=
  match b with
  | .ni p => wfPort p
  | .mul e => wfEngine e

/-- The operands of a command fit their ranges. -/
def Instr.wf (i : Instr) : Bool :=
  match i with
  | .slotBoundary => true
  | .outputArbitration _ node => node.wf
  | .drainAnswer _ node vc => node.wf && wfVc vc
  | .creditReturn _ out vc => out.wf && wfVc vc
  | .linkCheckFailure _ out got => out.wf && wfVc got.vc
  | .linkRetryRequest _ out vc => out.wf && wfVc vc
  | .stitchRead _ p r => wfPort p && r.wf 0
  | .stitchFetch _ p r => wfPort p && r.wf 0
  | .stitchWrite _ p r => wfPort p && r.wf (granules r.addr r.len)
  | .stitchAtomic _ p r subop asize => wfPort p && r.wf 1 && decide (subop < 256 ∧ asize < 256)
  | .stitchFence _ p _ => wfPort p
  | .stitchMessage _ p m => wfPort p && m.wf
  | .pieceIssue _ p => wfPort p
  | .rackReceived _ p vc => wfPort p && wfVc vc
  | .rdataReceived _ p vc => wfPort p && wfVc vc
  | .fenceComplete _ p => wfPort p
  | .retryReceived _ p vc => wfPort p && wfVc vc
  | .reissue _ p tag => wfPort p && decide (tag < 64)
  | .targetRequest _ p vc => wfPort p && wfVc vc
  | .treqPresent _ p => wfPort p
  | .trspResponse _ p ttag status _ => wfPort p && decide (ttag < 64 ∧ status < 16)
  | .atomicWriteBack _ p _ => wfPort p
  | .writeMerge _ p _ => wfPort p
  | .pathFence _ p vc => wfPort p && wfVc vc
  | .pathFenceAck _ p => wfPort p
  | .lockAcquire _ q vc => wfQuire q && wfVc vc
  | .lockRelease _ q vc => wfQuire q && wfVc vc
  | .lockExpiry _ n => wfLock n
  | .lockBreak _ n _ => wfLock n
  | .lockFree r n => r.wf && wfLock n
  | .portLiveFall p => wfPort p
  | .portLiveRise p => wfPort p
  | .islandLock _ i => wfIsland i
  | .islandUnlock _ i => wfIsland i
  | .islandRelock _ i l => wfIsland i && wfCrossings l
  | .gtStreamEnable => true
  | .gtRelease p => wfPort p
  | .gtLateDelivery p => wfPort p
  | .placementLookup _ q => wfQuire q
  | .tableError _ err => wfPage err.page
  | .lookupReply _ a => wfEndpoint a
  | .lookasideInvalidate _ a => wfEndpoint a
  | .lookasideFreeze _ a => wfEndpoint a
  | .freezeAcknowledge _ a page => wfEndpoint a && wfPage page
  | .lookasideRelease _ a => wfEndpoint a
  | .lookasideWatch _ p => wfPort p
  | .invalidateAcknowledge _ q => wfQuire q
  | .periodBoundary _ => true
  | .migrationCopyDone _ e => wfEngine e
  | .migrationRecopyDone _ e => wfEngine e
  | .freezeLimitReached _ page => wfPage page
  | .silentInitiator _ a page => wfEndpoint a && wfPage page
  | .timedModeEnd _ => true
  | .timedReq r _ => r.wf
  | .timedResume r => r.wf
  | .pagePin r page => r.wf && wfPage page
  | .pageUnpin r page => r.wf && wfPage page
  | .pageDemote r page => r.wf && wfPage page
  | .queueTailGate _ q => wfQuire q
  | .ringWriteRack _ q => wfQuire q
  | .doorbellRack _ q => wfQuire q
  | .queueStatus _ q vc => wfQuire q && wfVc vc
  | .queueConsume _ q vc => wfQuire q && wfVc vc
  | .consumeArm _ q vc => wfQuire q && wfVc vc
  | .memberLeave _ q vc => wfQuire q && wfVc vc
  | .memberJoin _ q vc => wfQuire q && wfVc vc
  | .heldMessageAdmit _ f k => wfFlock f && decide (k < 4096)
  | .rebalanceBoundary _ => true
  | .keywaitExpiry _ n => wfQueue n
  | .redeliveryRead _ q => wfQuire q
  | .lossFinish _ n => wfQueue n
  | .queueStop r n _ => r.wf && wfQueue n
  | .queueFlush r n _ => r.wf && wfQueue n
  | .regionCommit r blk region _ => r.wf && blk.wf && decide (region < 64)
  | .recordWrite _ p => wfPort p
  | .recordWriteRack _ p vc => wfPort p && wfVc vc
  | .recTailWrite r p _ => r.wf && wfPort p
  | .ownerResetGo r o => r.wf && wfOwner o
  | .ownerClose => true
  | .ownerDrainDone => true
  | .ownerResetStall => true
  | .keyDerivationDone k => decide (k < 17)
  | .ownerKeySwitch => true
  | .ownerCleanDone => true
  | .ownerOpen => true
  | .channelRegisterWrite _ r e c off _ => r.wf && wfEngine e && wfChannel c && decide (off < 256 ∧ off % 64 = 0)
  | .channelStart _ r e c => r.wf && wfEngine e && wfChannel c
  | .channelStop _ r e c => r.wf && wfEngine e && wfChannel c
  | .listReadAnswer _ e => wfEngine e
  | .burstStart _ e => wfEngine e
  | .muleResponse _ e => wfEngine e
  | .muleParityError _ e => wfEngine e
  | .comparatorDecision p _ _ => wfPort p
  | .comparatorReplay p _ => wfPort p
  | .divergeTimeout p => wfPort p
  | .planeCheckerFire _ site => wfPort site.port || decide (site.port = 0x7F)
  | .planeOut => true
  | .forceOutA r => r.wf
  | .forceOutB r => r.wf
  | .planeResetDone => true
  | .selftestDone _ => true
  | .kettleWordError _ => true
  | .sweepDone => true
  | .joinStart => true
  | .joinDrainDone => true
  | .joinResume => true
  | .joinAbort => true
  | .pairRejoin r => r.wf
  | .clearSuspect r => r.wf
  | .proofTest p _ => wfPort p
  | .safeOutAssert => true
  | .safeRelease r _ => r.wf
  | .deviceReset => true
  | .deviceResetRelease => true
  | .fuseSample _ _ _ => true
  | .discoveryDone _ => true
  | .headersRead a b => wfHeader a && wfHeader b
  | .flashDqsTimeout => true
  | .imageReadDone _ => true
  | .vigenOutcome _ => true
  | .applyDone => true
  | .fabricDone l => wfCrossings l
  | .islandLockTimeout _ i => wfIsland i
  | .tableDone => true
  | .startupDone => true
  | .imgReboot r => r.wf
  | .flashRead r => r.wf
  | .flashProgram r => r.wf
  | .flashErase r => r.wf
  | .flashCommandDone l => decide (l.length = 16)
  | .flashTimeout => true
  | .powerRun r _ _ => r.wf
  | .powerSleep r _ _ => r.wf
  | .powerDeepSleep r _ _ => r.wf
  | .powerOff r _ _ => r.wf
  | .autoIdleEntry q => decide (q < 5)
  | .idleExit q => decide (q < 5)
  | .autoSleepEntry q => wfQuire q
  | .entryClose q => wfQuire q
  | .entryVacateDone q => wfQuire q
  | .entryDrainDone q => wfQuire q
  | .entryPark q => wfQuire q
  | .entryCommit q => decide (q < 5)
  | .entryDrainLimit q => wfQuire q
  | .wakeIn => true
  | .alarmWake => true
  | .mpWake m => wfPad m
  | .supplyAck _ q => wfQuire q
  | .quireExitComplete q _ => decide (q < 5)
  | .padFunctionSwitch r _ => r.wf
  | .padHoldEnd m => wfPad m
  | .padHoldRelease r => r.wf
  | .eventRaise r src => r.wf && wfSource src
  | .eventAck r src n => r.wf && wfSource src && decide (n < 256)
  | .emitterSelect => true
  | .eventHandoff => true
  | .eventDeliveryRack _ q => wfQuire q
  | .eventHoldExpiry src => wfSource src
  | .ctrValLoWrite r idx _ => r.wf && wfCounter idx
  | .ctrValLoRead r idx => r.wf && wfCounter idx
  | .slotLoRead r => r.wf
  | .readClear r off _ => r.wf && wfGran off
  | .w1cWrite r off _ => r.wf && wfReg off
  | .registerWrite r off _ => r.wf && wfGran off
  | .mirrorRefresh _ => true
  | .ownerMirrorRead r off _ => r.wf && wfGran off
  | .dumpBoundary _ g => wfGroup g
  | .dumpPacket _ q => wfQuire q
  | .dumpAcknowledge _ a => wfAgent a
  | .dumpRecordWrite _ g => wfGroup g
  | .dumpWriteRack _ q => wfQuire q
  | .dgTailWrite r g _ => r.wf && wfGroup g
  | .dgEnable r g => r.wf && wfGroup g
  | .snapshotTrigger r => r.wf
  | .snapInEdge m => wfPad m
  | .snapshotLatch => true
  | .snapshotArm r => r.wf
  | .portResetRequest p => wfPort p
  | .portResetAssert p => wfPort p
  | .portResetRelease p => wfPort p
  | .portResetWithdraw p => wfPort p
  | .unitDown p => wfPort p
  | .testModeEntry => true
  | .alwaysOnSupplyRemoved => true
  | .wrapperInstructionUpdate _ => true

end Sys2Proof
end

