-- ==== Sys2Proof/Certificates/Slice0/Obligations.lean ====
section
/-!
DEFINITION. The statements about the block. Section by section of the manual; each statement names the rules it is about.
-/

open Sys2Proof Sys2Proof.Machine

/-! ### Stitch requests -/

/-- R40, R41: a READ, FETCH, WRITE or ATOMIC whose pieces all pass their checks enters the NI, split at granules; then what
may move at the NI moves (`niSettle`). R50, R162: a fence is held with the number of its place in Stitch order; a message
that the protection check passes waits as one packet, with the key slot of R162. R232: what the unit asks for reaches every
half in service. -/
def Obligations.StitchRequestsEnter : Prop :=
  (∀ (s : State) (pl : Pl) (p : Nat), s.runs pl = true →
    (∀ r, exec (.stitchRead pl p r) s = .next (s.eachPlane (fun q t => t.stitch q p kRead 0 0 r)) ∧
      exec (.stitchFetch pl p r) s = .next (s.eachPlane (fun q t => t.stitch q p kFetch 0 0 r)) ∧
      exec (.stitchWrite pl p r) s = .next (s.eachPlane (fun q t => t.stitch q p kWrite 0 0 r)) ∧
      ∀ subop asize, exec (.stitchAtomic pl p r subop asize) s =
        .next (s.eachPlane (fun q t => t.stitch q p kAtomic subop asize r))) ∧
    (∀ cls, exec (.stitchFence pl p cls) s = .next (s.eachPlane (fun q t => t.stitchFence q p cls))) ∧
    ∀ m, exec (.stitchMessage pl p m) s = .next (s.eachPlane (fun q t => t.stitchMessage q p m))) ∧
  (∀ (s : State) (pl : Pl) (p kind subop asize : Nat) (r : Stitch), s.stitchReady p = true →
    (kind = kRead ∨ kind = kFetch ∨ kind = kWrite ∨ kind = kAtomic) → s.piecesPass pl p kind subop asize r →
    ∃ u : State, s.stitch pl p kind subop asize r = u.niSettle pl p ∧ s.Entered u pl p kind asize r) ∧
  (∀ (s : State) (pl : Pl) (p : Nat), s.stitchReady p = true →
    (∀ cls, s.stitchFence pl p cls = s.modNi pl p (fun n => { n with
      nextOrd := n.nextOrd + 1, fences := n.fences ++ [{ ord := n.nextOrd, classes := cls }] })) ∧
    (∀ m : MsgReq, s.minimal = false → s.protCheck pl p kMessage m.owner m.priv (s.msgAddr m) false = none →
      ∃ q, let t := s.stitchMessage pl p m
        (t.ni pl p).nextOrd = (s.ni pl p).nextOrd + 1 ∧
        (t.ni pl p).wait = (s.ni pl p).wait ++ [q] ∧ q.kind = kMessage ∧ q.dest = epService ∧ q.msg = m.beats ∧
        (m.tflock = true → q.hdrHi = msgHi true m.num (if m.unkeyed then (s.ni pl p).unkeyed % 4096 else keySlot m.key)) ∧
        (m.tflock = true → m.unkeyed = true → (t.ni pl p).unkeyed = (s.ni pl p).unkeyed + 1) ∧
        (m.tflock = false → q.hdrHi = msgHi false m.num 0)) ∧
    (∀ m c, s.minimal = false → s.protCheck pl p kMessage m.owner m.priv (s.msgAddr m) false = some c →
      let t := s.stitchMessage pl p m
      s.Unissued t pl p ∧
        (t.ni pl p).irsp = (s.ni pl p).irsp ++ [{ ord := (s.ni pl p).nextOrd, kind := kMessage, status := stProt, beats := [] }]))

/-- R41: if any check of any piece fails, no piece is issued and the unit receives one refusal, with the status that ranks
first among all failures found; so it is at every half in service. -/
def Obligations.StitchRequestsRefused : Prop :=
  (∀ (s : State) (pl : Pl) (p kind subop asize : Nat) (r : Stitch), s.stitchReady p = true →
    (kind = kRead ∨ kind = kFetch ∨ kind = kWrite ∨ kind = kAtomic) → ¬ s.piecesPass pl p kind subop asize r →
    s.Refused (s.stitch pl p kind subop asize r) pl p kind subop asize r) ∧
  ∀ (s : State) (pl : Pl) (p : Nat) (r : Stitch), s.planes = [pl] → s.stitchReady p = true →
    (¬ s.piecesPass pl p kRead 0 0 r → ∃ t : State, exec (.stitchRead pl p r) s = .next t ∧ s.Refused t pl p kRead 0 0 r) ∧
    (¬ s.piecesPass pl p kFetch 0 0 r → ∃ t : State, exec (.stitchFetch pl p r) s = .next t ∧ s.Refused t pl p kFetch 0 0 r) ∧
    (¬ s.piecesPass pl p kWrite 0 0 r → ∃ t : State, exec (.stitchWrite pl p r) s = .next t ∧ s.Refused t pl p kWrite 0 0 r) ∧
    (∀ subop asize, ¬ s.piecesPass pl p kAtomic subop asize r →
      ∃ t : State, exec (.stitchAtomic pl p r subop asize) s = .next t ∧ s.Refused t pl p kAtomic subop asize r)

/-! ### Issue and answers at the initiator -/

/-- R43, R114: the piece that goes is an LL piece if one is free; it takes the lowest-numbered free tag and is outstanding.
R85, R86, R87: a RETRY is followed by a reissue 2^min(n, 10) slots later, with the same tag; the twelfth ends the request
with BUSY. -/
def Obligations.IssueAndRetry : Prop :=
  (∀ (s : State) (pl : Pl) (p : Nat), s.runs pl = true → s.isPort p = true → (s.port p).live = true →
    s.pair.joining = none →
    let n := (s.niSettle pl p).ni pl p
    ∀ q tag, n.pickIssue = some q → n.freeTag = some tag →
      ∃ t : State, exec (.pieceIssue pl p) s = .next t ∧
        (t.ni pl p).out = n.out ++ [{ q with tag := some tag, sent := true }] ∧
        (t.ni pl p).wait = n.wait.filter (fun x => decide (¬(x.ord = q.ord ∧ x.pidx = q.pidx))) ∧
        (tag < 64 ∧ tag ∉ n.tags ∧ ∀ i < tag, i ∈ n.tags) ∧
        (q.cls = 1 ∨ ∀ x ∈ n.entered, x.cls = 1 → n.free x = false)) ∧
  (∀ (s u : State) (pl : Pl) (p vc : Nat) (k : Packet) (q : Piece), s.runs pl = true →
    (s.popNiIn pl p vc = some (k, u) → hStatus k.hdr = stRetry → (hKind k.hdr = kRack ∨ hKind k.hdr = kRdata) →
      u.answeredPiece pl p (hTag k.hdr) = some q → q.tag = some (hTag k.hdr) →
      (q.loss < 11 → ∃ t : State, exec (.retryReceived pl p vc) s = .next t ∧
        ∃ x ∈ (t.ni pl p).out, x.tag = q.tag ∧ x.loss = q.loss + 1 ∧
          x.retryAt = some ((if s.fcInSlot = 0 then s.now else s.now + 1) + 2 ^ (min (q.loss + 1) 10))) ∧
      (11 ≤ q.loss → exec (.retryReceived pl p vc) s = .next (((u.countNi pl p 0x08 0 (ownerIf q.priv q.owner)).countNi pl p 0x09 0
          (ownerIf q.priv q.owner)).pieceAnswered pl p q stBusy 0))) ∧
    (∀ tag at?, s.pair.joining = none → (s.port p).live = true →
      (s.resolveAll pl p).answeredPiece pl p tag = some q → q.retryAt = some at? → at? ≤ s.now → q.resolved = true →
      ((s.resolveAll pl p).ni pl p).gateHeld q = false →
      exec (.reissue pl p tag) s = .next (((s.resolveAll pl p).modNi pl p (fun n => { n with
        out := n.out.map (fun x => if x.tag = some tag then { x with retryAt := none } else x) })).sendPiece pl p q)))

/-- R42, R44, R47, R50: a RACK or RDATA that is no RETRY answers the outstanding piece with its tag; a fence for which
nothing earlier is outstanding completes with the first-ranking kept status and clears what was kept. R47, R354: a posted
line answered with a status other than OK leaves the record in the NI's posted-write error registers, if they were empty,
counts it, and keeps the status for the next fence; no completion is formed. R192, R193: the record at the head of the queue
is written into the ring at HEAD mod size as a BE WRITE at M level; its RACK with OK takes it off the queue and advances
HEAD; TAIL takes a value that leaves at most the ring's size. -/
def Obligations.AnswersFencesAndRecords : Prop :=
  (∀ (s u : State) (pl : Pl) (p : Nat), s.runs pl = true → s.isPort p = true →
    (∀ vc k st q, s.headResponse pl p vc = some (k, st, u) → hStatus k.hdr ≠ stRetry → k.poison = false →
      s.answeredPiece pl p (hTag k.hdr) = some q → q.recWrite = false →
      (hKind k.hdr = kRack → exec (.rackReceived pl p vc) s = .next (u.pieceAnswered pl p q st ((k.flits.head?).getD 0))) ∧
      (hKind k.hdr = kRdata → exec (.rdataReceived pl p vc) s = .next (u.pieceAnswered pl p q st ((k.flits.head?).getD 0)))) ∧
    (∀ f, (s.ni pl p).fences.find? (fun f => !(s.ni pl p).fenceWaits f) = some f →
      ∃ v : State, exec (.fenceComplete pl p) s = .next (v.niSettle pl p) ∧ (v.ni pl p).fences = (s.ni pl p).fences.erase f ∧
        (v.ni pl p).kept = [] ∧
        (v.ni pl p).irsp = (s.ni pl p).irsp ++
          [{ ord := f.ord, kind := kFence, status := stFirstOf (s.ni pl p).kept, beats := [] }])) ∧
  (∀ (s : State) (pl : Pl) (p : Nat) (q : Piece) (st : Nat), st < 16 → p < 96 →
    let t := s.postedError pl p q st
    (t.ni pl p).kept = (s.ni pl p).kept ++ [st] ∧ (t.ni pl p).irsp = (s.ni pl p).irsp ∧
    t.pf pl (bNi p + 0x70C) 0 32 = min (s.pf pl (bNi p + 0x70C) 0 32 + 1) (2 ^ 32 - 1) ∧
    (bit (s.p pl (bNi p + 0x708)) 0 = false →
      t.p pl (bNi p + 0x700) = BitVec.ofNat 32 q.paddr ∧ t.pf pl (bNi p + 0x708) 4 4 = st ∧
      t.pf pl (bNi p + 0x708) 0 1 = 1) ∧
    (bit (s.p pl (bNi p + 0x708)) 0 = true → t.p pl (bNi p + 0x708) = s.p pl (bNi p + 0x708))) ∧
  (∀ (s u : State) (pl : Pl) (p : Nat), s.runs pl = true → p < 96 →
    (∀ d rest dst, (s.ni pl p).recQ = d :: rest → (s.ni pl p).recOut = false → bit (s.p pl (bNi p + 4)) 2 = false →
      s.pair.joining = none → (s.port p).live = true → s.ringFull pl p = false →
      let a := s.pf pl (bNi p + 0x10) 6 26 * 64 + s.pf pl (bNi p + 0x14) 0 16 * 2 ^ 32
        + 64 * ((s.p pl (bNi p + 0x1C)).toNat % 2 ^ (s.pf pl (bNi p + 0x18) 0 5))
      s.target a = .port dst →
      ∃ t : State, ∃ q, exec (.recordWrite pl p) s = .next t ∧ (t.ni pl p).wait = (s.ni pl p).wait ++ [q] ∧ q.kind = kWrite ∧
        q.cls = 2 ∧ q.priv = 3 ∧ q.paddr = a ∧ q.ben = benAll ∧ q.data = d ∧ q.dest = dst ∧ (t.ni pl p).recOut = true) ∧
    (∀ vc k q, s.headResponse pl p vc = some (k, stOk, u) → s.answeredPiece pl p (hTag k.hdr) = some q → q.recWrite = true →
      ∃ t : State, exec (.recordWriteRack pl p vc) s = .next (t.niSettle pl p) ∧ (t.ni pl p).recQ = (u.ni pl p).recQ.drop 1 ∧
        (t.ni pl p).recOut = false ∧ t.p pl (bNi p + 0x1C) = u.p pl (bNi p + 0x1C) + 1) ∧
    (∀ r v, s.writeAllowed r (bNi p + 0x20) →
      exec (.recTailWrite r p v) s = .next (((s.touch (bNi p + 0x20)).eachPlane (fun pl t => t.recTail p v pl)).answer r stOk none) ∧
      ∀ pl, let d := (s.p pl (bNi p + 0x1C) - v).toNat
        let t := s.recTail p v pl
        let size := 2 ^ (s.pf pl (bNi p + 0x18) 0 5)
        (size < d → t = s) ∧ (d ≤ size → t.p pl (bNi p + 0x20) = v ∧ (d < size → t.pf pl (bNi p + 4) 1 1 = 0))))

/-! ### The target side of an NI -/

/-- R54, R374: a whole request that nothing holds or refuses becomes a job of the target NI, with the fields of its command
flit; a ninth ATOMIC is answered with RETRY. R51: a path fence at the head of a buffer waits for exactly the jobs of its
source and VC that the NI has taken up; it is acknowledged, on the paired VC, once none of them is left. -/
def Obligations.TargetRequests : Prop :=
  (∀ (s : State) (pl : Pl) (p vc : Nat) (x : Req), s.runs pl = true → s.isPort p = true →
    (vc = 0 ∨ vc = 1 ∨ vc = 3) → s.popReq pl p vc = some x → hKind x.pkt.hdr ≤ kAtomic → x.pkt.poison = false →
    let k := x.pkt
    let cmd := (k.flits.head?).getD 0
    let n := s.ni pl p
    let rmw := s.isRmw p (hKind k.hdr) (cBen cmd)
    s.closedFor k.hdr = false → s.tombstoned pl p k.hdr (cPaddr cmd) = none → (s.port p).poisoning = false →
    n.granuleHeld (cTaddr cmd) (cSpan cmd) = false →
    (hKind k.hdr = kAtomic → 8 ≤ n.atomics → exec (.targetRequest pl p vc) s =
      .next ((x.rest.freeFlits pl p (hVc k.hdr) x.held).answerUnpresented pl p k x.late stRetry)) ∧
    ((hKind k.hdr ≠ kAtomic ∨ n.atomics < 8) → n.treqLoad + (if rmw then 1 else cSpan cmd) ≤ 64 →
      ∃ t : State, ∃ j, exec (.targetRequest pl p vc) s = .next t ∧ (t.ni pl p).jobs = n.jobs ++ [j] ∧
        j.src = hSrc k.hdr ∧ j.rtag = hTag k.hdr ∧ j.vc = hVc k.hdr ∧ j.kind = hKind k.hdr ∧ j.owner = hOwner k.hdr ∧
        j.taddr = cTaddr cmd ∧ j.span = cSpan cmd ∧ j.ben = cBen cmd ∧ j.wdata = k.flits.drop 1 ∧ j.held = x.held ∧
        (j.phase = .rmwRead ↔ rmw = true))) ∧
  (∀ (s : State) (pl : Pl) (p : Nat), s.runs pl = true → s.isPort p = true →
    (∀ vc x, s.popReq pl p vc = some x → hKind x.pkt.hdr = kFence →
      ∃ t : State, ∃ f, exec (.pathFence pl p vc) s = .next t ∧ (t.ni pl p).pfences = (s.ni pl p).pfences ++ [f] ∧
        f.src = hSrc x.pkt.hdr ∧ f.tag = hTag x.pkt.hdr ∧ f.vc = vc ∧ f.poison = x.pkt.poison ∧
        ∀ i, i ∈ f.waits ↔ ∃ j ∈ (s.ni pl p).jobs, j.src = hSrc x.pkt.hdr ∧ j.vc = vc ∧ j.id = i) ∧
    (∀ f rest, (s.ni pl p).pfences = f :: rest → (∀ w ∈ f.waits, ∀ j ∈ (s.ni pl p).jobs, j.id ≠ w) →
      exec (.pathFenceAck pl p) s = .next ((s.modNi pl p (fun n => { n with pfences := rest })).respond pl p f.src f.vc f.tag 3 0 0
        (if f.poison then stPoison else stOk) [])))

/-- R43, R194, R360: the next granule due is presented with the lowest-numbered TREQ tag that no presented and unanswered
request holds; the data of a write are as the unit stores them. R52, R195, R361: a unit's answer to a presentation ends it;
the answer to the read of an ATOMIC or of a merged WRITE makes the write-back due, that to the last granule of a plain
request or to a write-back finishes the job. R52, R195: the write-back of an ATOMIC presents the whole granule with the
operation's result in place of the operand; that of a merged WRITE presents the granule read with the enabled bytes replaced.
-/
def Obligations.TargetPresentsAndMerges : Prop :=
  (∀ (s : State) (pl : Pl) (p tag : Nat) (j : Job), s.runs pl = true → (s.ni pl p).nextDue = some j →
    lowestFree 64 ((s.ni pl p).pres.map (·.ttag)) = some tag →
    ∃ t : State, ∃ x, exec (.treqPresent pl p) s = .next t ∧ (t.ni pl p).pres = (s.ni pl p).pres ++ [x] ∧ x.ttag = tag ∧ tag < 64 ∧
      (∀ i < tag, i ∈ (s.ni pl p).pres.map (·.ttag)) ∧ x.job = j.id ∧ x.gran = j.nextGran ∧ x.owner = j.owner ∧ x.priv = j.priv ∧
      x.write = decide (j.kind = kWrite ∧ j.phase = .plain) ∧
      (x.write = true → x.data = s.xts false p j.owner j.priv x.addr (j.wdata.getD j.nextGran 0)) ∧
      (x.write = false → x.data = 0) ∧ (s.encrypts p = true → x.ben = benAll) ∧
      (∀ y ∈ (t.ni pl p).jobs, y.id = j.id → y.nextGran = j.nextGran + 1)) ∧
  (∀ (s : State) (pl : Pl) (p ttag status : Nat) (data : Line) (x : TPres) (j : Job),
    (s.ni pl p).pres.find? (fun y => decide (y.ttag = ttag)) = some x →
    (s.ni pl p).jobs.find? (fun y => decide (y.id = x.job)) = some j →
    (j.phase = .rmwRead → status = stOk → let t := s.unitResponse pl p ttag status data
      (∀ y ∈ (t.ni pl p).pres, y.ttag ≠ ttag) ∧
      { j with phase := .rmwReady, old := s.xts true p j.owner j.priv x.addr data } ∈ (t.ni pl p).jobs) ∧
    (j.phase = .rmwRead → status ≠ stOk → ∃ t : State, s.unitResponse pl p ttag status data =
      t.respond pl p j.src j.vc j.rtag j.priv j.owner j.gts
        (if j.late then stFirst (stOfUnit status) stLate else stOfUnit status) (if j.kind = kAtomic then [0] else []) ∧
      (∀ y ∈ (t.ni pl p).jobs, y.id ≠ j.id)) ∧
    (j.phase = .rmwWrite → ∃ t : State, ∃ d : Line, s.unitResponse pl p ttag status data =
      t.respond pl p j.src j.vc j.rtag j.priv j.owner j.gts
        (if j.late then stFirst (stOfUnit status) stLate else stOfUnit status)
        (if j.kind = kAtomic then [if stOfUnit status = stOk then d else 0] else []) ∧
      fld d 0 128 = j.operand j.old % 2 ^ 128 ∧
      (∀ y ∈ (t.ni pl p).jobs, y.id ≠ j.id)) ∧
    (j.phase = .plain → j.got.length + 1 = j.span → ∃ t : State, s.unitResponse pl p ttag status data =
      let d := if x.write then 0 else s.xts true p j.owner j.priv x.addr data
      t.finishJob pl p j (stFirst j.status (stOfUnit status))
        ({ j with got := j.got ++ [{ pidx := x.gran, status := stOfUnit status, data := d }] } : Job).lines)) ∧
  (∀ (s : State) (pl : Pl) (p ttag status : Nat) (data : Line), s.runs pl = true →
    exec (.trspResponse pl p ttag status data) s = .next (s.eachPlane (fun q t => t.unitResponse q p ttag status data))) ∧
  (∀ (s : State) (pl : Pl) (p job tag : Nat) (j : Job), s.runs pl = true →
    lowestFree 64 ((s.ni pl p).pres.map (·.ttag)) = some tag → (s.ni pl p).pres.length < 64 → j.phase = .rmwReady →
    ((s.ni pl p).jobs.find? (fun y => decide (y.id = job ∧ y.phase = .rmwReady ∧ y.kind = kAtomic)) = some j →
      ∃ t : State, ∃ x, exec (.atomicWriteBack pl p job) s = .next t ∧ (t.ni pl p).pres = (s.ni pl p).pres ++ [x] ∧ x.write = true ∧
        x.ttag = tag ∧ x.addr = j.taddr / 64 * 64 ∧ x.ben = benAll ∧
        x.data = s.xts false p j.owner j.priv x.addr (j.atomicLine j.old) ∧
        ∀ y ∈ (t.ni pl p).jobs, y.id = j.id → y.phase = .rmwWrite) ∧
    ((s.ni pl p).jobs.find? (fun y => decide (y.id = job ∧ y.phase = .rmwReady ∧ y.kind = kWrite)) = some j →
      ∃ t : State, ∃ x, exec (.writeMerge pl p job) s = .next t ∧ (t.ni pl p).pres = (s.ni pl p).pres ++ [x] ∧ x.write = true ∧
        x.ttag = tag ∧ x.addr = j.taddr / 64 * 64 ∧ x.ben = benAll ∧
        x.data = s.xts false p j.owner j.priv x.addr (mergeLine j.old (j.wdata.getD 0 0) j.ben) ∧
        ∀ y ∈ (t.ni pl p).jobs, y.id = j.id → y.phase = .rmwWrite))

/-- R195: of the merged granule, an enabled byte is that of the write and any other byte is that of the granule read. -/
def Obligations.MergeByByte : Prop :=
  ∀ (old new : Line) (ben : BitVec 64) (i : Nat), i < 64 →
    byteAt (mergeLine old new ben) i = if ben.getLsbD i then byteAt new i else byteAt old i

/-- R52: the result that each ATOMIC operation writes, over operands of `n` bits. -/
def Obligations.AtomicOperations : Prop :=
  ∀ (n : Nat) (old a b : BitVec n), 0 < n →
    atomicResult 0 n old.toNat a.toNat b.toNat = a.toNat ∧
    atomicResult 1 n old.toNat a.toNat b.toNat = (if old = a then b.toNat else old.toNat) ∧
    atomicResult 2 n old.toNat a.toNat b.toNat = (old + a).toNat ∧
    atomicResult 3 n old.toNat a.toNat b.toNat = (old &&& a).toNat ∧
    atomicResult 4 n old.toNat a.toNat b.toNat = (old ||| a).toNat ∧
    atomicResult 5 n old.toNat a.toNat b.toNat = (old ^^^ a).toNat ∧
    atomicResult 6 n old.toNat a.toNat b.toNat = (if old.slt a then a else old).toNat ∧
    atomicResult 7 n old.toNat a.toNat b.toNat = (if a.slt old then a else old).toNat ∧
    atomicResult 8 n old.toNat a.toNat b.toNat = (if old.ult a then a else old).toNat ∧
    atomicResult 9 n old.toNat a.toNat b.toNat = (if a.ult old then a else old).toNat

/-! ### The lock unit -/

/-- R57: an acquire of a FREE or BROKEN lock by its owner is granted, an acquire of a HELD lock is refused with RETRY, and a
request of another owner with ERR_PROT. R57, R352: a release by the holder frees the lock, a release by anyone else answers
ERR_PROT and changes nothing; FLK's FREE makes a BROKEN lock FREE. R58: a HELD lock breaks when HOLD reaches LIMIT, and when
the holder's port has fallen; its holder is cleared, LAST kept. -/
def Obligations.LockRules : Prop :=
  (∀ (s u : State) (pl : Pl) (q vc : Nat) (g : Flit) (k : Packet), s.runs pl = true →
    ((s.sb pl).rx.rd (q * 8 + vc) []).head? = some g → hKind g.hdr = kLock → cSubop g.data = 0 →
    s.lockBehind pl (q * 8 + vc) g = false → s.popSb pl q vc = some (k, u) → k.poison = false → s.pair.joining = none →
    let n := s.lockNum g.data
    let v := u.expireLock pl n
    let l := v.lock pl n
    let d := lockData n l (v.lockLimit pl n)
    (v.lockDenied n k.hdr = true → exec (.lockAcquire pl q vc) s = .next (v.lockReply pl k.hdr stProt 0)) ∧
    (v.lockDenied n k.hdr = false → l.changedAt ≠ some s.fc → l.state ≠ .held →
      ∃ t : State, ∃ x : Line, exec (.lockAcquire pl q vc) s = .next (t.lockReply pl k.hdr (if l.state = .broken then stBroken else stOk) x) ∧
        fld x 0 64 = fld d 0 64 ∧
        t.lock pl n = { state := .held, holderM := decide (hPriv k.hdr = 3), holderPort := hSrc k.hdr,
                        holderOwner := if hPriv k.hdr = 3 then 0 else hOwner k.hdr, hold := 0, last := hSrc k.hdr,
                        changedAt := some s.fc }) ∧
    (v.lockDenied n k.hdr = false → l.state = .held →
      exec (.lockAcquire pl q vc) s = .next (((v.freeLine pl).2.countLock pl 0x03).lockReply pl k.hdr stRetry (v.freeLine pl).1))) ∧
  (∀ (s u : State) (pl : Pl), s.pair.joining = none →
    (∀ q vc g k, s.runs pl = true → ((s.sb pl).rx.rd (q * 8 + vc) []).head? = some g → hKind g.hdr = kLock → cSubop g.data = 1 →
      s.lockBehind pl (q * 8 + vc) g = false → s.popSb pl q vc = some (k, u) → k.poison = false →
      let n := s.lockNum g.data
      let v := u.expireLock pl n
      let l := v.lock pl n
      (v.lockDenied n k.hdr = false → l.heldBy k.hdr = true → l.changedAt ≠ some s.fc →
        ∃ t : State, exec (.lockRelease pl q vc) s = .next (t.sbReply pl (hSrc k.hdr) (hVc k.hdr) (hTag k.hdr) stOk none) ∧
          t.lock pl n = { l with state := .free, holderM := false, holderPort := 0x7F, holderOwner := 0, hold := 0, changedAt := some s.fc }) ∧
      ((v.lockDenied n k.hdr = true ∨ l.heldBy k.hdr = false) →
        exec (.lockRelease pl q vc) s = .next (v.sbReply pl (hSrc k.hdr) (hVc k.hdr) (hTag k.hdr) stProt none))) ∧
    (∀ r n, s.writeAllowed r 0x39040 →
      exec (.lockFree r n) s = .next ((s.eachPlane (fun pl t => t.freeLock (n % 1024) pl)).answer r stOk none)) ∧
    (∀ n, ((s.lock pl n).state = .broken → s.freeLock n pl =
        (s.pset pl rLockCmdStatus (BitVec.ofNat 32 (n * 2 ^ 16))).modLock pl n (fun l => { l with state := .free })) ∧
      ((s.lock pl n).state = .free → s.freeLock n pl = s.pset pl rLockCmdStatus (BitVec.ofNat 32 (1 + n * 2 ^ 16))))) ∧
  (∀ (s : State) (pl : Pl) (n : Nat), s.runs pl = true → (s.lock pl n).state = .held →
    let broken : Lock := { s.lock pl n with state := .broken, holderM := false, holderPort := 0x7F, holderOwner := 0, hold := 0 }
    (s.pair.joining = none → s.lockLimit pl n ≤ (s.lock pl n).hold →
      ∃ t : State, exec (.lockExpiry pl n) s = .next t ∧ t.lock pl n = broken) ∧
    ((s.lock pl n).holderPort ≤ 95 → (s.port (s.lock pl n).holderPort).live = false → ∀ b,
      ∃ t : State, exec (.lockBreak pl n b) s = .next t ∧ t.lock pl n = broken) ∧
    (∃ t : State, exec (.lockBreak pl n true) s = .next t ∧ t.lock pl n = broken))

/-! ### Placement -/

/-- R132, R133: a reply that carries an entry fills the lookaside, one that reports a bad entry completes what waits for the
page with POISON; an invalidate takes out one page or all and is acknowledged. R129, R132: a lookup is answered with the
table's entry, and marked when the entry is bad or the page is held; a single-bit table error is corrected and counted, any
other marks the page, aborts its migration, enters timed mode by cause TABLE and makes the plane faulty. R141: a FREEZE takes
the page out of the lookaside and puts it into the freeze list with both path fences unanswered; the acknowledgement goes
when the fences and the earlier VC0 requests have been answered; a RELEASE ends the freeze, and a FREEZE it overtakes is still
acknowledged. R142: WATCH arms a slot for the page at its old home, or answers with the dirty bits of an armed
slot and clears them; no NI has more than two slots. -/
def Obligations.LookasideRules : Prop :=
  (∀ (s u : State) (pl : Pl) (agent : Nat) (k : Packet), s.runs pl = true →
    (s.takeMgmt pl agent 2 none = some (k, u) →
      let page := mgPage k.hdr
      let v := u.modPlacement pl agent (fun (l, u, f) => (l, u.filter (fun x => decide (x ≠ (page, hTag k.hdr))), f))
      (bit (BitVec.ofNat 20 (hMarg k.hdr)) 19 = true → muleOf agent = none →
        exec (.lookupReply pl agent) s = .next ((v.poisonWaiting pl agent page).niSettle pl agent)) ∧
      (∀ e, bit (BitVec.ofNat 20 (hMarg k.hdr)) 19 = true → muleOf agent = some e →
        exec (.lookupReply pl agent) s = .next (v.mulPoisoned pl e page)) ∧
      (bit (BitVec.ofNat 20 (hMarg k.hdr)) 19 = false → holdsPage (v.frozenOf pl agent) page = false →
        bit (BitVec.ofNat 20 (hMarg k.hdr)) 18 = false →
        exec (.lookupReply pl agent) s = .next ((v.modPlacement pl agent (fun (l, u, f) =>
          (lookInsert (lookSets agent) l (lookOf page (lineWord k.line0 0)), u, f))).settleAgent pl agent))) ∧
    (s.takeMgmt pl agent 3 (some 0) = some (k, u) →
      exec (.lookasideInvalidate pl agent) s = .next ((u.modPlacement pl agent (fun (l, u, f) =>
        (if bit k.line0 64 then [] else l.filter (fun x => decide (x.page ≠ mgPage k.hdr)), u, f))).ackMgmt pl agent k.hdr [0]))) ∧
  (∀ (s u : State) (pl : Pl), s.runs pl = true →
    (∀ q k, s.popSbIn pl q 6 = some (k, u) → hKind k.hdr = kMgmt → hMop k.hdr = 1 →
      let page := mgPage k.hdr
      let bad := (u.sb pl).badPages.contains page
      let held := (u.sb pl).migs.any (fun m => decide (m.page = page ∧ m.step = 7) && m.toFreeze.contains (hSrc k.hdr))
      ∃ t : State, exec (.placementLookup pl q) s = .next (t.sbMgmt pl (hSrc k.hdr) 2
        (page + b2n (held && !bad) * 2 ^ 18 + b2n bad * 2 ^ 19) (hTag k.hdr) [BitVec.ofNat 512 (u.entry pl page).toNat]) ∧
        t.entry pl page = u.entry pl page) ∧
    (∀ page, exec (.tableError pl { page := page, corrected := true }) s = .next (s.pinc pl rTableErr 0 16 1) ∧
      ∃ t : State, let v := (t.migAbort pl page 9 0x7F).timedCheck pl
        exec (.tableError pl { page := page, corrected := false }) s =
          .next (v.planeFault pl 2 epService (some (BitVec.ofNat 16 (2 ^ eOwner (v.entry pl page))))) ∧
        page ∈ (t.sb pl).badPages ∧ (t.sb pl).causeTable = true ∧ t.timedCause pl ≠ 0)) ∧
  (∀ (s u : State) (pl : Pl) (agent : Nat) (k : Packet), s.runs pl = true →
    (s.takeMgmt pl agent 3 (some 1) = some (k, u) → muleOf agent = none →
      let page := mgPage k.hdr
      let home := u.homePort pl page (eInframe (lineWord k.line0 0)) (eFrame (lineWord k.line0 0))
      ∃ v : State, ∃ f, exec (.lookasideFreeze pl agent) s = .next (v.resolveAll pl agent) ∧
        (v.ni pl agent).frozen = (u.ni pl agent).frozen ++ [f] ∧ f.page = page ∧ f.home = home ∧ f.fence1 = false ∧
        f.fence3 = false ∧ f.acked = false ∧ f.gtTags = (u.ni pl agent).gtTagsTo home ∧
        (∀ x ∈ (v.ni pl agent).look, x.page ≠ page) ∧
        (v.ni pl agent).wait.take 2 = [fencePiece page home (u.pageAddr pl page) 1, fencePiece page home (u.pageAddr pl page) 2]) ∧
    (∀ page, (s.frozenOf pl agent).any (fun f => decide (f.page = page ∧ f.fence1 ∧ f.fence3 ∧ f.gtTags = [] ∧ ¬f.acked)) = true →
      ∃ v : State, exec (.freezeAcknowledge pl agent page) s =
          .next (v.epSend pl agent (mkHdr epService agent 6 kMgmt 3 0 0 0 ||| mgmtHi 4 (page + 2 ^ 18)) [0]) ∧
        (∀ x ∈ v.frozenOf pl agent, x.page = page → x.acked = true ∧ x.released = false) ∧
        (∀ x : Frozen, x.page ≠ page → (x ∈ v.frozenOf pl agent ↔ x ∈ s.frozenOf pl agent)) ∧
        ∀ x ∈ s.frozenOf pl agent, x.page = page → x.released = false → { x with acked := true } ∈ v.frozenOf pl agent) ∧
    (s.takeMgmt pl agent 3 (some 2) = some (k, u) →
      ∃ v : State, exec (.lookasideRelease pl agent) s = .next ((v.ackMgmt pl agent k.hdr [0]).settleAgent pl agent) ∧
        holdsPage (v.frozenOf pl agent) (mgPage k.hdr) = false ∧
        (∀ x : Frozen, x.page ≠ mgPage k.hdr → (x ∈ v.frozenOf pl agent ↔ x ∈ u.frozenOf pl agent)) ∧
        ∀ x ∈ u.frozenOf pl agent, x.page = mgPage k.hdr → x.acked = false →
          { x with released := true } ∈ v.frozenOf pl agent)) ∧
  (∀ (s u : State) (pl : Pl) (p : Nat) (k : Packet), s.runs pl = true → s.takeMgmt pl p 3 (some 3) = some (k, u) →
    muleOf p = none →
    (∀ d, (u.ni pl p).watch.find? (fun w => decide (w.page = mgPage k.hdr)) = some { page := mgPage k.hdr, dirty := d } →
      ∃ v : State, exec (.lookasideWatch pl p) s = .next (v.ackMgmt pl p k.hdr (dirtyLines d)) ∧
        ∀ w ∈ (v.ni pl p).watch, w.page = mgPage k.hdr → w.dirty = 0) ∧
    ((u.ni pl p).watch.any (fun w => decide (w.page = mgPage k.hdr)) = false → (u.ni pl p).watch.length < 2 → s.encrypts p = true →
      ∃ v : State, exec (.lookasideWatch pl p) s = .next (v.ackMgmt pl p k.hdr (dirtyLines 0)) ∧
        (v.ni pl p).watch = (u.ni pl p).watch ++ [{ page := mgPage k.hdr, dirty := 0 }]) ∧
    ((u.ni pl p).watch.length ≤ 2 → ∀ t, exec (.lookasideWatch pl p) s = .next t → (t.ni pl p).watch.length ≤ 2))

/-- R130: a lookaside set never holds more than four entries, a filled entry is the one used last, and a pinned entry is
displaced only when no other entry of its set can be. -/
def Obligations.LookasideSets : Prop :=
  ∀ (sets : Nat) (l : List Look) (e : Look), 0 < sets → (l.map (·.page)).Nodup →
    (∀ i, (l.filter (fun x => decide (x.page % sets = i))).length ≤ 4) →
    let m := lookInsert sets l e
    m.head? = some e ∧ (m.map (·.page)).Nodup ∧ (∀ i, (m.filter (fun x => decide (x.page % sets = i))).length ≤ 4) ∧
    (∀ x ∈ l, x.page ≠ e.page → x.page % sets ≠ e.page % sets → x ∈ m) ∧
    (∀ x ∈ l, x.pinned = true → x.page ≠ e.page → x ∉ m →
      ∀ y ∈ l, y.page % sets = e.page % sets → y.page ≠ e.page → y.pinned = true)

/-- R140, R142: an acknowledgement clears what the Bellwether waits for; a copy that has completed is followed by WATCH; a
frozen recopy that has completed by the switch, unless the freeze has reached its limit. R126, R140 step 6: the entry that
the switch writes has the new home, the page's owner and the next epoch. R138, R144, R147: the limits that act on a
migration: the freeze limit (whole slot times, the model's choice, log 39) and a silent live initiator abort it, an initiator
that is not live counts as having acknowledged; at a period boundary the statistics are evaluated once, and demotions that
wait are tried. R152, R154, R155: timed mode ends by RESUME or after SLOTS clear slots; a write of TIMED_REQ or RESUME acts in
every plane; PIN, UNPIN and DEMOTE act in every plane, and PIN of an unpinned page without a migration pins it. -/
def Obligations.MigrationsAndPageCommands : Prop :=
  (∀ (s u : State) (pl : Pl), s.runs pl = true →
    (∀ q k, s.popSbIn pl q 6 = some (k, u) → hKind k.hdr = kMgmt → hMop k.hdr = 4 → hMarg k.hdr / 2 ^ 18 = 0 →
      exec (.invalidateAcknowledge pl q) s =
        .next ((u.modSb pl (fun b => { b with invWait := b.invWait.erase (hSrc k.hdr) })).migPump pl)) ∧
    (∀ q k m, s.popSbIn pl q 6 = some (k, u) → hKind k.hdr = kMgmt → hMop k.hdr = 4 → hMarg k.hdr / 2 ^ 18 = 3 →
      u.migOf pl (mgPage k.hdr) = some m → m.stopping = false → (∃ f, (hSrc k.hdr, f) ∈ m.acks) →
      ∃ x ∈ m.acks, x.1 = hSrc k.hdr ∧ exec (.invalidateAcknowledge pl q) s =
        .next (((u.modMig pl (mgPage k.hdr) (fun y => { y with acks := y.acks.erase x })).migWatched pl m (dirtyOf k)).migSettle pl)) ∧
    (∀ q k m, s.popSbIn pl q 6 = some (k, u) → hKind k.hdr = kMgmt → hMop k.hdr = 4 → hMarg k.hdr / 2 ^ 18 ∈ [1, 2] →
      u.migOf pl (mgPage k.hdr) = some m → (∃ f, (hSrc k.hdr, f) ∈ m.acks) →
      ∃ x ∈ m.acks, x.1 = hSrc k.hdr ∧ exec (.invalidateAcknowledge pl q) s =
        .next ((u.modMig pl (mgPage k.hdr) (fun y => { y with acks := y.acks.erase x })).migSettle pl)) ∧
    (∀ e m, (s.sb pl).migs.find? (fun m => decide (m.engine = e ∧ (m.step = 2 ∨ m.step = 3)) && m.acks.isEmpty && m.toFreeze.isEmpty &&
        !m.stopping) = some m → s.chanState pl e 3 = 3 →
      exec (.migrationCopyDone pl e) s = .next (((s.setChan pl e 3 0 0).modMig pl m.page (fun m =>
        { m with step := 3, toFreeze := [m.oldHome] })).migPump pl)) ∧
    (∀ e m, (s.sb pl).migs.find? (fun m => decide (m.engine = e ∧ m.step = 5) && m.acks.isEmpty && m.toFreeze.isEmpty &&
        !m.stopping) = some m → s.chanState pl e 3 = 3 →
      (s.freezeOver pl m = false → exec (.migrationRecopyDone pl e) s = .next ((s.setChan pl e 3 0 0).migSwitch pl m)) ∧
      (s.freezeOver pl m = true →
        exec (.migrationRecopyDone pl e) s = .next ((s.setChan pl e 3 0 0).migAbort pl m.page 3 0x7F)))) ∧
  (∀ (st : Nat) (inframe : Bool) (frame owner epoch : Nat), st < 4 → frame < 2048 → owner < 16 →
    let e := mkEntry st inframe frame owner ((epoch + 1) % 256)
    eState e = st ∧ eInframe e = inframe ∧ eFrame e = (if inframe then frame else 0) ∧ eOwner e = owner ∧
    eEpoch e = (epoch + 1) % 256) ∧
  (∀ (s : State) (pl : Pl) (page : Nat) (m : Mig), s.runs pl = true →
    (∀ f, s.migOf pl page = some m → (m.step = 4 ∨ m.step = 5) → m.stopping = false → m.fzFc = some f →
      s.freezeLimit pl page * s.img.w ≤ s.fc - f →
      exec (.freezeLimitReached pl page) s = .next (s.migAbort pl page 3 0x7F)) ∧
    (∀ agent f, s.migOf pl page = some m → (agent, f) ∈ m.acks → f + 4096 ≤ s.fc → m.step = 4 → agent ∉ s.initiators →
      exec (.silentInitiator pl agent page) s = .next ((s.modMig pl page (fun m =>
        { m with acks := m.acks.filter (fun x => decide (x.1 ≠ agent)) })).migSettle pl)) ∧
    (∀ agent f, s.migOf pl page = some m → (agent, f) ∈ m.acks → f + 4096 ≤ s.fc → m.step = 4 → m.stopping = false →
      agent ∈ s.initiators → exec (.silentInitiator pl agent page) s = .next (((s.placeFault pl page 3).modMig pl page (fun m =>
        { m with acks := m.acks.filter (fun x => decide (x.1 ≠ agent)) })).migAbort pl page 7 agent)) ∧
    (bit (s.p pl rPlcCtrl) 0 = true → s.now % 2 ^ (s.pf pl rPolicy0 4 4 + 10) = 0 → (s.sb pl).periodAt ≠ some s.now →
      s.pair.joining = none →
      exec (.periodBoundary pl) s =
        .next (((s.modSb pl (fun b => { b with periodAt := some s.now, slotWait := [] })).period pl).tryDemotes pl))) ∧
  (∀ (s : State) (pl : Pl) (r : CwReq),
    (s.runs pl = true → (s.sb pl).timed = true → s.timedCause pl = 0 → s.pf pl rResume 0 24 ≠ 0 →
      s.pf pl rResume 0 24 ≤ (s.sb pl).clearSlots →
      exec (.timedModeEnd pl) s = .next (s.modSb pl (fun b => { b with timed := false }))) ∧
    ((s.sb pl).timed = true → (s.pfset pl rPlcCtrl 1 1 0).timedCause pl = 0 → ((s.plcCtrl 4 pl).sb pl).timed = false) ∧
    (s.writeAllowed r rPlcCtrl →
      (∀ v, exec (.timedReq r v) s =
        .next (((s.touch rPlcCtrl).eachPlane (fun pl t => t.plcCtrl (if v then 2 else 0) pl)).answer r stOk none)) ∧
      exec (.timedResume r) s = .next (((s.touch rPlcCtrl).eachPlane (fun pl t => t.plcCtrl 4 pl)).answer r stOk none)) ∧
    (s.writeAllowed r 0x20030 → ∀ page,
      exec (.pagePin r page) s = .next (((s.touch 0x20030).eachPlane (fun pl t => t.pageCmd (page % 2 ^ 18) 1 pl)).answer r stOk none) ∧
      exec (.pageUnpin r page) s = .next (((s.touch 0x20030).eachPlane (fun pl t => t.pageCmd (page % 2 ^ 18) 2 pl)).answer r stOk none) ∧
      exec (.pageDemote r page) s = .next (((s.touch 0x20030).eachPlane (fun pl t => t.pageCmd (page % 2 ^ 18) 3 pl)).answer r stOk none)) ∧
    (∀ page, bit (s.p pl rPlcCmdStatus) 0 = false → page < s.regionPages pl →
      (eState (s.entry pl page) ≠ 2 → s.migOf pl page = none →
        s.pageCmd page 1 pl = (s.setEntry pl page (setFld (s.entry pl page) 0 2 2)).cmdDone pl 0) ∧
      (eState (s.entry pl page) = 2 →
        s.pageCmd page 2 pl = (s.setEntry pl page (setFld (s.entry pl page) 0 2 0)).cmdDone pl 0 ∧
        s.pageCmd page 1 pl = s.cmdDone pl 1 ∧ s.pageCmd page 3 pl = s.cmdDone pl 1)))

/-! ### Queues and flocks -/

/-- R160, R166, R167, R168: a message for a queue is refused by the first row that fails, in the order of R166; one that
passes is admitted at ADM with a reservation, and is answered when it commits. R172, R173, R174: a message for a flock goes
to the member its key slot is mapped to, or to the eligible member with the least load, to which the slot is then mapped;
while the slot is moving the message waits in the hold store. -/
def Obligations.QueueTailGate : Prop :=
  (∀ (s u : State) (pl : Pl) (q : Nat) (g : Flit) (k : Packet), s.runs pl = true →
    ((s.sb pl).rx.rd (q * 8 + 5) []).head? = some g → hKind g.hdr = kMessage → s.gateBehind pl (q * 8 + 5) g = false →
    s.popSb pl q 5 = some (k, u) → k.poison = false → hTflock k.hdr = false →
    let n := hQueue k.hdr
    let flits := hLen k.hdr + 1
    let known := u.qValid pl n && !u.qIsMember pl n
    let refusedOther := u.pinc pl (bQds n + 0x38) 16 16 1
    let shut := u.qBit pl n 3 || u.closedOwner (u.qOwner pl n) || !u.ringLive pl n
    let full := u.noRoom pl n (u.qHeadAt pl n true) flits
    (known = false → exec (.queueTailGate pl q) s = .next (refusedOther.msgAnswer pl k stDecode)) ∧
    (known = true → u.mayNotSend pl n k.hdr = true → exec (.queueTailGate pl q) s = .next (refusedOther.msgAnswer pl k stProt)) ∧
    (known = true → u.mayNotSend pl n k.hdr = false → u.qSlot pl n < flits →
      exec (.queueTailGate pl q) s = .next (refusedOther.msgAnswer pl k stAlign)) ∧
    (known = true → u.mayNotSend pl n k.hdr = false → flits ≤ u.qSlot pl n → shut = true →
      exec (.queueTailGate pl q) s = .next (u.msgAnswer pl k stRetry)) ∧
    (known = true → u.mayNotSend pl n k.hdr = false → flits ≤ u.qSlot pl n → shut = false → full = true →
      exec (.queueTailGate pl q) s = .next ((u.pinc pl (bQds n + 0x38) 0 16 1).msgAnswer pl k stRetry)) ∧
    (known = true → u.mayNotSend pl n k.hdr = false → flits ≤ u.qSlot pl n → shut = false → full = false →
      ∃ t : State, exec (.queueTailGate pl q) s = .next t ∧ ∃ a, (t.qdyn pl n).adm = (u.qdyn pl n).adm ++ [a] ∧
        a.seq = u.qAdm pl n ∧ a.src = hSrc k.hdr ∧ a.tag = hTag k.hdr ∧ a.srcOwner = hOwner k.hdr ∧ a.reply = true ∧
        a.flits = k.flits ∧ t.qResv pl n = u.qResv pl n + 1 ∧ t.qTail pl n = u.qTail pl n ∧ t.qHead pl n = u.qHead pl n)) ∧
  (∀ (s u : State) (pl : Pl) (q : Nat) (g : Flit) (k : Packet), s.runs pl = true →
    ((s.sb pl).rx.rd (q * 8 + 5) []).head? = some g → hKind g.hdr = kMessage → s.gateBehind pl (q * 8 + 5) g = false →
    s.popSb pl q 5 = some (k, u) → k.poison = false → hTflock k.hdr = true →
    let f := hFlock k.hdr
    let slot := hKeyslot k.hdr
    let flits := hLen k.hdr + 1
    let e := u.kEntry pl f slot
    let passes := (u.members pl f).all (fun m => !u.mayNotSend pl m.2 k.hdr && decide (flits ≤ u.qSlot pl m.2))
      && !u.closedOwner (u.fOwner pl f)
    (u.fValid pl f = false → exec (.queueTailGate pl q) s = .next (u.msgAnswer pl k stDecode)) ∧
    (u.fValid pl f = true → passes = true → bit e 5 = true → (u.sb pl).holdFlits + flits ≤ 512 →
      ∃ t : State, exec (.queueTailGate pl q) s = .next t ∧ (t.sb pl).held = (u.sb pl).held ++
        [{ flock := f, key := slot, src := hSrc k.hdr, tag := hTag k.hdr, srcOwner := hOwner k.hdr, flits := k.flits }]) ∧
    (u.fValid pl f = true → passes = true → bit e 5 = true → 512 < (u.sb pl).holdFlits + flits →
      exec (.queueTailGate pl q) s = .next (u.msgAnswer pl k stRetry)) ∧
    (∀ m, u.fValid pl f = true → passes = true → bit e 5 = false →
      (bit e 7 = true → fld e 0 5 = m.1 ∧ u.memberQ pl f m.1 = some m.2) →
      (bit e 7 = false → u.chooseMember pl f true = some m) →
      u.qBit pl m.2 3 = false → u.ringLive pl m.2 = true → u.noRoom pl m.2 (u.qHeadAt pl m.2 true) flits = false →
      ∃ t : State, exec (.queueTailGate pl q) s = .next t ∧ t.kEntry pl f slot = BitVec.ofNat 8 (m.1 + 128) ∧
        ∃ a, (t.qdyn pl m.2).adm = (u.qdyn pl m.2).adm ++ [a] ∧ a.keyslot = slot ∧ a.flits = k.flits ∧ a.src = hSrc k.hdr))

/-- R172: the member chosen is eligible, no eligible member has less load, and none of a lower index has as little. -/
def Obligations.ChosenMemberHasLeastLoad : Prop :=
  ∀ (s : State) (pl : Pl) (f : Nat) (start : Bool) (m : Nat × Nat), s.chooseMember pl f start = some m →
    m ∈ s.members pl f ∧ s.eligibleQ pl m.2 start = true ∧
    ∀ x ∈ s.members pl f, s.eligibleQ pl x.2 start = true →
      s.load pl m.2 start < s.load pl x.2 start ∨ (s.load pl m.2 start = s.load pl x.2 start ∧ m.1 ≤ x.1)

/-- R167: messages commit in the order of their reservation, each when its writes and every predecessor are done; TAIL
advances by one for each and the reservations go down by as much. -/
def Obligations.CommitsInOrder : Prop :=
  ∀ (s : State) (pl : Pl) (n fuel : Nat), n < 16384 → (s.qdyn pl n).adm.length < fuel →
    let done := (s.qdyn pl n).adm.takeWhile (fun a => decide (a.waits = 0))
    let t := State.commit fuel s pl n
    (t.qdyn pl n).adm = (s.qdyn pl n).adm.drop done.length ∧ t.qTail pl n = (s.qTail pl n + done.length) % 2 ^ 32 ∧
    t.qResv pl n = s.qResv pl n - done.length ∧ t.qHead pl n = s.qHead pl n

/-- R167, R168, R170: the answer to a ring or record write ends one wait of its message, and what is ready commits; a failed
write stops the queue; a doorbell that fails sets DB_ERR. R165, R169, R170, R176: a queue operation that passes the tests of
R165: STATUS reads, CONSUME advances HEAD by what there is to take, and then ARM, JOIN and LEAVE act. R168, R180: QDS.CTRL:
STOP stops the queue and loses a member, 0 starts it again and clears DB_ERR, FLUSH of a stopped queue sets HEAD to TAIL. -/
def Obligations.QueueEngine : Prop :=
  (∀ (s t : State) (pl : Pl) (q : Nat) (k : Packet) (o : SbOut) (st : Nat), s.runs pl = true →
    (s.sbResponse pl q 4 isRing = some (k, o, st, t) → ∀ n m, (o.purpose = .ring n m ∨ o.purpose = .record n m) →
      (∃ a ∈ (t.qdyn pl n).adm, a.seq = m) →
      (st = stOk → exec (.ringWriteRack pl q) s =
        let v := t.modQ pl n (fun d => { d with adm := d.adm.map (fun a => if a.seq = m then { a with waits := a.waits - 1 } else a) })
        .next ((State.commit ((v.qdyn pl n).adm.length + 1) v pl n).queueSettle pl n)) ∧
      (st ≠ stOk → exec (.ringWriteRack pl q) s = .next ((t.ringFailed pl n m).queueSettle pl n))) ∧
    (∀ n, s.sbResponse pl q 2 (fun p => match p with | .doorbell _ => true | _ => false) = some (k, o, st, t) →
      o.purpose = .doorbell n →
      (st = stOk → exec (.doorbellRack pl q) s = .next t) ∧
      (st ≠ stOk → exec (.doorbellRack pl q) s = .next ((t.qSetBit pl n 9 true).queueFault pl n true false))) ∧
    (∀ n, n < 16384 → s.qBit pl n 0 = true → s.qd pl n 0xC 0 17 ≤ s.qCount pl n → (s.doorbell pl n).qBit pl n 0 = false) ∧
    (∀ n, s.qBit pl n 0 = false ∨ s.qCount pl n < s.qd pl n 0xC 0 17 → s.doorbell pl n = s)) ∧
  (∀ (s u : State) (pl : Pl) (q vc : Nat) (g : Flit) (k : Packet), s.runs pl = true →
    ((s.sb pl).rx.rd (q * 8 + vc) []).head? = some g → hKind g.hdr = kQop → s.gateBehind pl (q * 8 + vc) g = false →
    s.popSb pl q vc = some (k, u) → k.poison = false →
    let n := (s.gateObj g).2
    let op := cPaddr g.data / 64 % 4
    let flags := BitVec.ofNat 8 (byteAt g.data 36)
    let cnt := cOpA g.data % 2 ^ 32
    (u.qdyn pl n).qopAt ≠ some u.fc → u.qopTest pl n k.hdr = stOk →
    let v := u.modQ pl n (fun d => { d with qopAt := some u.fc })
    (op = 1 → ∃ x : Line, exec (.queueStatus pl q vc) s = .next ((v.freeLine pl).2.qopReply pl k.hdr stOk x) ∧
      fld x 0 72 = v.qHead pl n + v.qTail pl n * 2 ^ 32 + v.qFlags pl n * 2 ^ 64) ∧
    (op = 2 → bit flags 0 = false → bit flags 1 = false → bit flags 2 = false →
      exec (.queueConsume pl q vc) s = .next (v.consume pl n k.hdr cnt flags)) ∧
    (op = 2 → bit flags 0 = true → bit flags 1 = false → bit flags 2 = false →
      exec (.consumeArm pl q vc) s = .next (v.consume pl n k.hdr cnt flags)) ∧
    (op = 2 → bit flags 1 = true → bit flags 2 = false → exec (.memberLeave pl q vc) s = .next (v.consume pl n k.hdr cnt flags)) ∧
    (op = 2 → bit flags 2 = true → exec (.memberJoin pl q vc) s = .next (v.consume pl n k.hdr cnt flags))) ∧
  (∀ (s : State) (r : CwReq) (n : Nat), n < 16384 →
    (s.writeAllowed r (bQds n + 0x3C) → ∀ b,
      exec (.queueStop r n b) s = .next (((s.touch (bQds n + 0x3C)).eachPlane (fun pl t => t.qCtrl n (if b then 1 else 0) pl)).answer r stOk none) ∧
      exec (.queueFlush r n b) s = .next (((s.touch (bQds n + 0x3C)).eachPlane (fun pl t => t.qCtrl n (if b then 3 else 2) pl)).answer r stOk none)) ∧
    ∀ pl, s.qIsMember pl n = false →
      (s.qCtrl n 1 pl).qBit pl n 3 = true ∧ (s.qCtrl n 1 pl).qHead pl n = s.qHead pl n ∧
      (s.qCtrl n 0 pl).qBit pl n 3 = false ∧ (s.qCtrl n 0 pl).qBit pl n 9 = false ∧
      (s.qCtrl n 3 pl).qHead pl n = s.qTail pl n ∧ (s.qCtrl n 2 pl).qHead pl n = s.qHead pl n)

/-- R165, R169, R170, R176: what CONSUME and its flags do to the queue's registers: HEAD advances by at most COUNT, and not
at all when the member is lost; ARM arms; a LEAVE notes ADM; a JOIN of a member that has left clears its state. -/
def Obligations.ConsumeAndFlags : Prop :=
  ∀ (s : State) (pl : Pl) (n : Nat), n < 16384 →
    (∀ h cnt flags, (s.consume pl n h cnt flags).qHead pl n = (s.qHead pl n + if s.qBit pl n 2 then 0 else min cnt (s.qCount pl n)) % 2 ^ 32) ∧
    (s.qIsMember pl n = true → s.qBit pl n 1 = false → s.qBit pl n 2 = false →
      (s.leaveFlag pl n).qBit pl n 1 = true ∧ ((s.leaveFlag pl n).qdyn pl n).leaveAt = some (s.qAdm pl n)) ∧
    (s.qIsMember pl n = true → (s.port (s.qCons pl n)).live = true → (s.qdyn pl n).loss = none →
      (s.qBit pl n 10 = true ∨ s.qBit pl n 2 = true) →
      (s.joinFlag pl n).qBit pl n 1 = false ∧ (s.joinFlag pl n).qBit pl n 2 = false ∧ (s.joinFlag pl n).qBit pl n 10 = false)

/-- R173, R175, R177: held messages are admitted once their key slot waits for nothing; flocks rebalance once at a boundary;
a key that has waited KEYWAIT loses the member; a member that has left stays LEFT; a loss that has re-admitted every message
ends, and a JOIN recorded in it is then due. R177 step 3: the record read
of a message is followed by the read of its payload; the payload read goes to the loss; a read that fails skips the message.
-/
def Obligations.FlockUpkeep : Prop :=
  (∀ (s : State) (pl : Pl), s.runs pl = true →
    (∀ f k, s.keyReady pl f k = true → exec (.heldMessageAdmit pl f k) s = .next (s.drain pl f [k])) ∧
    (∀ f k, s.keyReady pl f k = true → (s.sb pl).firstHeld f k = none → ∀ t, exec (.heldMessageAdmit pl f k) s = .next t →
      bit (t.kEntry pl f k) 5 = false) ∧
    (s.now % 2 ^ (s.pf pl rFlkPolicy 0 4 + 10) = 0 → (s.sb pl).rebalAt ≠ some s.now → s.pair.joining = none →
      ∃ fs : List Nat, exec (.rebalanceBoundary pl) s =
        .next (fs.foldl (fun t f => t.rebalance pl f) (s.modSb pl (fun b => { b with rebalAt := some s.now }))) ∧
        (s.Canon → ∀ f, f ∈ fs ↔ f < 1024 ∧ bit (s.p pl (rFcfg f)) 0 = true ∧ bit (s.p pl (rFcfg f)) 10 = true)) ∧
    (∀ n, s.qIsMember pl n = true → s.keyWaited pl n = true → exec (.keywaitExpiry pl n) s = .next (s.loseMember pl n)) ∧
    (∀ n, s.qIsMember pl n = true → s.qValid pl n = true → s.qBit pl n 2 = false → n < 16384 →
      (s.loseMember pl n).qBit pl n 2 = true ∧ (s.loseMember pl n).qBit pl n 10 = s.qBit pl n 10 ∧
      (s.loseMember pl n).qBit pl n 1 = (s.qBit pl n 1 && s.qBit pl n 10)) ∧
    (∀ n l, n < 16384 → ((s.lossStep pl n).qdyn pl n).loss = some l → l.readsDone = true → l.next = l.finish →
      l.waitRec = false → l.waitData = false → ((s.lossStep pl n).qdyn pl n).taken = [] →
      ∃ t : State, exec (.lossFinish pl n) s = .next t ∧ (t.qdyn pl n).loss = none ∧ (t.qdyn pl n).joinDue = l.joinAfter ∧
        t.qHead pl n = (s.lossStep pl n).qTail pl n)) ∧
  (∀ (s t : State) (pl : Pl) (q n seq st : Nat) (k : Packet) (o : SbOut) (l : Loss), s.runs pl = true →
    s.sbResponse pl q 4 (fun p => match p with | .redeliver _ _ => true | .redeliverRec _ _ => true | _ => false)
      = some (k, o, st, t) → (t.qdyn pl n).loss = some l → l.next = seq →
    (o.purpose = .redeliverRec n seq → l.waitRec = true → st = stOk →
      exec (.redeliveryRead pl q) s = .next (t.recordRead pl n seq k.line0 l)) ∧
    (o.purpose = .redeliver n seq → l.waitData = true → st = stOk →
      exec (.redeliveryRead pl q) s = .next ((t.modQ pl n (fun x => { x with
        loss := some { l with waitData := false, flits := k.flits } })).lossStep pl n)) ∧
    (((o.purpose = .redeliverRec n seq ∧ l.waitRec = true) ∨ (o.purpose = .redeliver n seq ∧ l.waitData = true)) → st ≠ stOk →
      exec (.redeliveryRead pl q) s = .next (t.skipMessage pl n l)))

/-! ### Ports -/

/-- R362, R81, R363, R365: port-live rises at a slot boundary when every condition holds; it falls when the port has nothing
open, and the NI is then empty in every plane in service; PRST_ACK follows while PRST_REQ is high. R363, R365: the reset
handshake: PRST_REQ closes the Stitch channels, and is acknowledged at once at a port that is not live; PRST_N and PRST_REQ
return; a withdrawn request lets the port go on. R365: a live port whose unit is reset without the handshake, or whose
UNIT_UP falls, answers with POISON from then on; what the unit had asked for is forgotten, and no accepted request is
presented any more. -/
def Obligations.PortLifeAndResets : Prop :=
  (∀ (s : State) (p : Nat),
    (s.fcInSlot = 0 → s.mayRise p = true → ∃ t : State, exec (.portLiveRise p) s = .next t ∧ (t.port p).live = true ∧
      (t.port p).ready = (s.done || s.minimal) ∧ ∀ i, i ≠ p → t.port i = s.port i) ∧
    (s.isPort p = true → s.mayFall p = true → ∃ t : State, exec (.portLiveFall p) s = .next t ∧ (t.port p).live = false ∧
      (t.port p).ready = false ∧ (t.port p).prstAck = ((s.port p).prstAck || (s.port p).prstReq) ∧
      (∀ i, i ≠ p → t.port i = s.port i) ∧
      ∀ pl, s.runs pl = true → (t.ni pl p).look = [] ∧ (t.ni pl p).out = [] ∧ (t.ni pl p).jobs = [] ∧ (t.ni pl p).rx = [] ∧
        (t.ni pl p).tx = [])) ∧
  (∀ (s : State) (p : Nat), s.isPort p = true →
    exec (.portResetRequest p) s = .next (s.modPort p (fun x =>
      { x with prstReq := true, ready := false, draining := x.live, prstAck := !x.live })) ∧
    exec (.portResetRelease p) s = .next (s.modPort p (fun x => { x with inReset := false, prstReq := false, prstAck := false })) ∧
    ((s.port p).prstReq = true → ∃ t : State, exec (.portResetWithdraw p) s = .next t ∧ (t.port p).prstReq = false ∧
      (t.port p).prstAck = false ∧ (t.port p).live = (s.port p).live ∧
      (s.quireClosed (p / 24) = false → (t.port p).draining = false ∧
        (t.port p).ready = ((s.port p).live && !(s.port p).poisoning && (s.done || s.minimal))))) ∧
  (∀ (s : State) (p : Nat), s.isPort p = true → (s.port p).prstAck = false → (s.port p).live = true →
    (∃ t : State, exec (.portResetAssert p) s = .next t ∧ (t.port p).inReset = true ∧ (t.port p).poisoning = true ∧
      (t.port p).poisonFrom = s.fc ∧ (t.port p).ready = false ∧
      ∀ pl, s.runs pl = true → (t.ni pl p).reqs = [] ∧ (t.ni pl p).out = [] ∧ (t.ni pl p).pres = [] ∧ (t.ni pl p).unkeyed = 0 ∧
        (t.ni pl p).recSeq = 0) ∧
    (∃ t : State, exec (.unitDown p) s = .next t ∧ (t.port p).unitUp = false ∧ (t.port p).poisoning = true ∧
      (t.port p).poisonFrom = s.fc ∧ (t.port p).ready = false ∧
      ∀ pl, s.runs pl = true → (t.ni pl p).reqs = [] ∧ (t.ni pl p).out = [] ∧ (t.ni pl p).pres = [] ∧
        (t.ni pl p).unkeyed = (s.ni pl p).unkeyed))

/-! ### The fabric -/

/-- R62: where a folio router sends a packet: to a slot port of its own, to its own agent, or up. -/
def Obligations.FolioRouterSends : Prop :=
  ∀ (g : Nat) (h : BitVec 64), g < 16 →
    (hDest h ≤ 95 → hDest h / 6 = g → routeAt false g h = .out (hDest h % 6)) ∧
    (hDest h = 0x60 + g → routeAt false g h = .agent) ∧
    (¬(hDest h ≤ 95 ∧ hDest h / 6 = g) → hDest h ≠ 0x60 + g → routeAt false g h = .out (6 + (hSrc h + hDest h) % 2))

/-- R62, R63: every port is reached: its folio router sends to it, every other folio router sends up, its quire router sends
down to its folio, and every other quire router sends over the spine group that leads to its quire. -/
def Obligations.RoutesLeadToTheDestination : Prop :=
  ∀ dest src, dest < 96 → src < 128 →
    routeFolio (dest / 6) dest src = .out (dest % 6) ∧
    (∀ g, g < 16 → g ≠ dest / 6 → routeFolio g dest src = .out (6 + (src + dest) % 2)) ∧
    routeQuire (dest / 24) dest src = .out (2 * (dest % 24 / 6) + (src + dest) % 2) ∧
    ∀ q, q < 4 → q ≠ dest / 24 → routeQuire q dest src = .spine (spineGroup q (dest / 24)) ∧
      spinePeer q (spineGroup q (dest / 24)) = dest / 24

/-- R64, R75, R376: one fc of a sender whose island runs: an NI, a router, a service link, a Mule engine. R69, R70, R83: a
granted flit leaves its buffer and takes a credit of the output's VC, which belongs to the packet until its tail is granted;
at a draining output the flit is discarded, and a request is answered with ERR_DECODE once its tail is. R83: the response
generator moves its oldest answer into the local input as far as the buffer has room. R69: a credit under way reaches its
sender: one fewer is under way and one fewer is used; without one nothing changes. R253, R254: on a part with one plane, a
flit that fails its check for the first time is discarded with what came after it on its VC, and a credit word of VC 7 asks for
them; once it has reached the sender they come again, out of the sender's history; a flit that fails again is delivered with
POISON, and so is the rest of its packet. On a part with two planes the plane is found faulty (R243). -/
def Obligations.FabricMovesFlits : Prop :=
  (∀ (s : State) (pl : Pl), s.runs pl = true →
    (∀ p, s.isPort p = true → s.quireRuns (p / 24) = true → (s.port p).live = true →
      exec (.outputArbitration pl (.niLink p)) s = .next (s.niLinkStep pl p) ∧
      ∀ f rest, (s.ni pl p).tx.rd 0 [] = f :: rest → (s.ni pl p).txUsed.rd 0 0 < 8 → s.resending pl (.niLink p) 0 = false →
        hVc f.hdr = 0 →
        let t := s.niLinkStep pl p
        (t.ni pl p).tx.rd 0 [] = rest ∧ (t.ni pl p).txUsed.rd 0 0 = (s.ni pl p).txUsed.rd 0 0 + 1 ∧
        ∃ x, (t.router pl false (p / 6)).buf.rd (p % 6 * 8) [] = (s.router pl false (p / 6)).buf.rd (p % 6 * 8) [] ++ [x] ∧
          x.hdr = f.hdr ∧ x.data = f.data ∧ x.idx = f.idx) ∧
    (∀ g, g < s.variant.folios → s.quireRuns (g / 4) = true →
      exec (.outputArbitration pl (.folio g)) s = .next (s.arbitrate pl false g)) ∧
    (∀ q, q < s.variant.quires → s.quireRuns q = true →
      exec (.outputArbitration pl (.quire q)) s = .next (s.arbitrate pl true q)) ∧
    (∀ q vc, q < s.variant.quires → vc < 7 → (s.qp 4).state = .run → s.quireRuns q = true →
      exec (.outputArbitration pl (.service q vc)) s = .next (s.sbLinkStep pl q vc)) ∧
    (∀ e vc, e < s.variant.mules → vc < 7 → s.quireRuns (e / 2) = true →
      exec (.outputArbitration pl (.mule e vc)) s = .next (s.muleLinkStep pl e vc))) ∧
  (∀ (s : State) (pl : Pl) (g n vc o : Nat) (f : Flit) (rest : List Flit), s.runs pl = true →
    g < 16 → n < 9 → vc < 7 → o < 8 → (s.router pl false g).buf.rd (n * 8 + vc) [] = f :: rest → routeAt false g f.hdr = .out o →
    let t := s.grantFlit pl false g n vc o
    let r := s.router pl false g
    let x := t.router pl false g
    x.buf.rd (n * 8 + vc) [] = rest ∧ x.alloc.rd (o * 8 + vc) 0 = (if f.idx = hLen f.hdr then 0 else n + 1) ∧
    (s.draining pl false g o = false → x.used.rd (o * 8 + vc) 0 = r.used.rd (o * 8 + vc) 0 + 1) ∧
    (s.draining pl false g o = true → x.used.rd (o * 8 + vc) 0 = r.used.rd (o * 8 + vc) 0 ∧
      (f.idx = 0 → hLen f.hdr = 0 → hKind f.hdr ≤ kQop →
        x.gen.rd (rspVc vc) [] = r.gen.rd (rspVc vc) [] ++ [s.checked pl (drainAnswer f.hdr f.data s.now)]))) ∧
  (∀ (s : State) (pl : Pl) (vc i : Nat) (quire : Bool) (a : List Flit) (rest : List (List Flit)), s.runs pl = true →
    (s.router pl quire i).gen.rd vc [] = a :: rest →
    a.length + ((s.router pl quire i).buf.rd (nOut quire * 8 + vc) []).length ≤ vcDepth vc →
    (if quire then i < s.variant.quires else i < s.variant.folios) →
    ∃ t : State, exec (.drainAnswer pl (if quire then .quire i else .folio i) vc) s = .next t ∧
      (t.router pl quire i).gen.rd vc [] = rest ∧
      ((t.router pl quire i).buf.rd (nOut quire * 8 + vc) []).length =
        ((s.router pl quire i).buf.rd (nOut quire * 8 + vc) []).length + a.length) ∧
  (∀ (s : State) (pl : Pl) (vc : Nat), s.runs pl = true → vc < 7 →
    (∀ p, 0 < (s.ni pl p).txCred.rd vc 0 → ∃ t : State, exec (.creditReturn pl (.niLink p) vc) s = .next t ∧
      (t.ni pl p).txCred.rd vc 0 = (s.ni pl p).txCred.rd vc 0 - 1 ∧ (t.ni pl p).txUsed.rd vc 0 = (s.ni pl p).txUsed.rd vc 0 - 1) ∧
    (∀ e, 0 < (s.mul pl e).txCred.rd vc 0 → ∃ t : State, exec (.creditReturn pl (.mule e) vc) s = .next t ∧
      (t.mul pl e).txCred.rd vc 0 = (s.mul pl e).txCred.rd vc 0 - 1 ∧ (t.mul pl e).txUsed.rd vc 0 = (s.mul pl e).txUsed.rd vc 0 - 1) ∧
    (∀ q, 0 < (s.sb pl).txCred.rd (q * 8 + vc) 0 → ∃ t : State, exec (.creditReturn pl (.service q) vc) s = .next t ∧
      (t.sb pl).txCred.rd (q * 8 + vc) 0 = (s.sb pl).txCred.rd (q * 8 + vc) 0 - 1 ∧
      (t.sb pl).txUsed.rd (q * 8 + vc) 0 = (s.sb pl).txUsed.rd (q * 8 + vc) 0 - 1) ∧
    (∀ quire i o, 0 < (s.router pl quire i).cred.rd (o * 8 + vc) 0 →
      ∃ t : State, exec (.creditReturn pl (if quire then .quire i o else .folio i o) vc) s = .next t ∧
        (t.router pl quire i).cred.rd (o * 8 + vc) 0 = (s.router pl quire i).cred.rd (o * 8 + vc) 0 - 1 ∧
        (t.router pl quire i).used.rd (o * 8 + vc) 0 = (s.router pl quire i).used.rd (o * 8 + vc) 0 - 1) ∧
    (∀ p, (s.ni pl p).txCred.rd vc 0 = 0 → ∀ t, exec (.creditReturn pl (.niLink p) vc) s = .next t → t.ni pl p = s.ni pl p)) ∧
  (∀ (s : State) (pl : Pl) (out : OutPort) (got : LinkFlit) (f : Flit), s.runs pl = true → got.vc < 7 →
    let k := keeperOf out got.vc
    let l := s.farFlits pl (farOf out) got.vc
    let sent := ((s.router pl k.1 k.2.1).hist.rd (k.2.2 / 8) []).filter (fun f => decide (hVc f.hdr = got.vc))
    got.back < l.length → l[l.length - 1 - got.back]? = some f →
    (linkCheck f.hdr got.data = got.word → exec (.linkCheckFailure pl out got) s = .next s) ∧
    (linkCheck f.hdr got.data ≠ got.word → s.variant.paired = false → (s.router pl k.1 k.2.1).retried.rd k.2.2 0 = 0 →
      got.back < sent.length → ∃ t : State, exec (.linkCheckFailure pl out got) s = .next t ∧
        (∀ x, x ∈ t.farFlits pl (farOf out) got.vc ↔ x ∈ l.take (l.length - (got.back + 1))) ∧
        (t.router pl k.1 k.2.1).retryWait.rd k.2.2 [] =
          (sent.drop (sent.length - 1 - got.back)).map (fun f => { f with since := s.fc }) ∧
        (t.router pl k.1 k.2.1).retried.rd k.2.2 0 = 1 ∧ t.retryWords pl out = s.retryWords pl out + 1) ∧
    (linkCheck f.hdr got.data ≠ got.word → s.variant.paired = false → (s.router pl k.1 k.2.1).retried.rd k.2.2 0 ≠ 0 →
      ∃ t : State, exec (.linkCheckFailure pl out got) s = .next t ∧
        t.farFlits pl (farOf out) got.vc = l.map (fun x => if x = f then { f with data := got.data, poison := true } else x) ∧
        (t.router pl k.1 k.2.1).poisonRun.rd k.2.2 false = decide (f.idx < hLen f.hdr)) ∧
    (linkCheck f.hdr got.data ≠ got.word → s.variant.paired = true → s.pair.window = false → s.pair.faulty = none →
      ∃ t : State, exec (.linkCheckFailure pl out got) s = .next t ∧ t.pair.faulty = some pl ∧ t.pair.cause = 3)) ∧
  (∀ (s : State) (pl : Pl) (out : OutPort) (vc : Nat) (f : Flit) (rest : List Flit), s.runs pl = true → vc < 7 →
    s.variant.paired = false →
    let k := keeperOf out vc
    (s.router pl k.1 k.2.1).retryWait.rd k.2.2 [] = f :: rest → f.since + retryFc out ≤ s.fc → 0 < s.retryWords pl out →
      ∃ t : State, exec (.linkRetryRequest pl out vc) s = .next t ∧
        (vc ≠ 0 ∨ (∀ p, farOf out ≠ .ni p) → t.farFlits pl (farOf out) vc =
          s.farFlits pl (farOf out) vc ++ (f :: rest).map (fun x => { x with since := s.fc })) ∧
        (t.router pl k.1 k.2.1).retryWait.rd k.2.2 [] = [] ∧ t.retryWords pl out = s.retryWords pl out - 1)

/-- R75: in one fc a router grants at most one flit of each input, and sends at most one flit at each output. -/
def Obligations.OneGrantPerInputAndOutput : Prop :=
  ∀ (s : State) (pl : Pl) (quire : Bool) (i : Nat), s.runs pl = true →
    let r := s.router pl quire i
    let x := (s.arbitrate pl quire i).router pl quire i
    (∀ n, (∀ v < 7, x.buf.rd (n * 8 + v) [] = r.buf.rd (n * 8 + v) [] ∨
        ∃ f, r.buf.rd (n * 8 + v) [] = f :: x.buf.rd (n * 8 + v) []) ∧
      ∀ v < 7, ∀ w < 7, v ≠ w → x.buf.rd (n * 8 + v) [] = r.buf.rd (n * 8 + v) [] ∨ x.buf.rd (n * 8 + w) [] = r.buf.rd (n * 8 + w) []) ∧
    ∀ o, (∀ v < 7, x.used.rd (o * 8 + v) 0 = r.used.rd (o * 8 + v) 0 ∨ x.used.rd (o * 8 + v) 0 = r.used.rd (o * 8 + v) 0 + 1) ∧
      ∀ v < 7, ∀ w < 7, v ≠ w → x.used.rd (o * 8 + v) 0 = r.used.rd (o * 8 + v) 0 ∨ x.used.rd (o * 8 + w) 0 = r.used.rd (o * 8 + w) 0

/-! ### Slots, islands and GT streams -/

/-- R92: at the slot boundary the slot counter becomes 0 at the first edge after reset, and counts one on at every later one,
while the slot reference runs; what is left of the old slot's W fc has passed; the copy of a locked island counts on and is
compared. R233: plane B receives the edge D fc after plane A. R76: at a slot boundary an input that asked for an output and
was granted nothing in tier 2 since the last one is aged, and the shares are whole again. R91, R92, R119, R120: after 256
slots in the window an island locks in phase 6, the control island before it, and loads its slot copy; one that loses its
lock is counted, raises its event and begins its 256 slots again; one that meets R91 again with nominal crossings is locked
again, and crossings that are off are put on record. -/
def Obligations.SlotsAndIslands : Prop :=
  (∀ s : State, s.referenceRuns = true →
    (s.boot.slotSeen = false → ∃ t : State, exec .slotBoundary s = .next t ∧ t.slot = 0 ∧ t.fcInSlot = 0 ∧ t.fc = s.fc) ∧
    (s.boot.slotSeen = true → ∃ t : State, exec .slotBoundary s = .next t ∧ t.slot = s.slot + 1 ∧ t.fcInSlot = 0 ∧
      t.fc = s.fc + (s.img.w - s.fcInSlot) ∧ t.img = s.img ∧ t.pending = s.pending ∧
      (s.variant.paired = true → s.img.skew ≠ 0 → (t.fc + s.img.skew, t.slot) ∈ t.pair.edges) ∧
      ∀ i, s.isIsland .a i = true → s.islLocked .a i = true →
        ((t.pa.isl.rd i {}).locked = true → (t.pa.isl.rd i {}).copy = (s.pa.isl.rd i {}).copy + 1) ∧
        (s.Canon → fld ((s.pa.isl.rd i {}).copy + 1) 0 8 = fld (s.slot + 1) 0 8 → (t.pa.isl.rd i {}).locked = true))) ∧
  (∀ (r : Router) (k : Nat),
    (r.window.aged.rd k false = (r.asked.rd k false && !r.won.rd k false)) ∧ r.window.spent = [] ∧ r.window.asked = [] ∧
    r.window.won = [] ∧ r.window.buf = r.buf) ∧
  (∀ (s : State) (pl : Pl) (i : Nat), s.isIsland pl i = true →
    ((if i = 21 then s.phase ≤ 6 else s.phase = 6) → s.lockDue pl i = true → s.islLocked pl i = false →
      ∃ t : State, exec (.islandLock pl i) s = .next t ∧ t.islLocked pl i = true ∧
        ((t.pln pl).isl.rd i {}).copy = s.planeSlot pl ∧ ∀ j, j ≠ i → (t.pln pl).isl.rd j {} = (s.pln pl).isl.rd j {}) ∧
    (s.islLocked pl i = true → ∃ t : State, exec (.islandUnlock pl i) s = .next (t.timedCheck pl) ∧ t.islLocked pl i = false ∧
      ((t.pln pl).isl.rd i {}).coin = 0 ∧
      t.gf rTiming 16 16 = satAdd 16 (s.gf rTiming 16 16) 1 ∧ t.evt.count.rd 372 0 = satAdd 8 (s.evt.count.rd 372 0) 1) ∧
    (s.islandRuns pl i = true → s.lockDue pl i = true → s.islLocked pl i = false → s.phase ≠ 6 → s.minimal = false →
      ∀ measured,
      ((∀ c ∈ measured, offNominal c = false) → ∃ t : State, exec (.islandRelock pl i measured) s = .next t ∧
        t.islLocked pl i = true ∧ ((t.pln pl).isl.rd i {}).copy = s.planeSlot pl ∧ ((t.pln pl).isl.rd i {}).marked = false ∧
        ∀ o ∈ t.boot.offList, codeTouches pl i o.1 = false) ∧
      ((∃ c ∈ measured, offNominal c = true) → ∃ t : State, exec (.islandRelock pl i measured) s = .next (t.recordOff measured) ∧
        ∀ o, o ∈ t.boot.offList ↔ o ∈ s.boot.offList ∧ codeTouches pl i o.1 = false)))

/-- R120, R302: at a boundary k with k mod 16 = 0 every disabled stream whose ends are live and whose path is locked is
enabled, and no other stream's bit changes. R109, R110: a flit whose release is due passes, and so does a late one when none
is due on its channel; the last flit of a packet takes the packet to the NI in every plane in service, and leaves the buffer.
-/
def Obligations.GtStreams : Prop :=
  (∀ s : State, s.fcInSlot = 0 → s.now % 16 = 0 → s.done = true → (∀ r ∈ s.img.gt, r.src < 96 ∧ r.stream < 32) →
    ∃ t : State, exec .gtStreamEnable s = .next t ∧ ∀ pl, s.runs pl = true →
      (∀ r ∈ s.img.gt, s.gtMayRun pl r = true → bit (t.p pl (bNi r.src + 0x508)) r.stream = false) ∧
      ∀ p n, p < 96 → n < 32 → (∀ r ∈ s.img.gt, r.src = p → r.stream = n → s.gtMayRun pl r = false) →
        bit (t.p pl (bNi p + 0x508)) n = bit (s.p pl (bNi p + 0x508)) n) ∧
  (∀ (s : State) (p : Nat) (g : GtPkt), p < 96 →
    ((s.port p).gtRel.find? (fun x => s.gtDue p x) = some g → exec (.gtRelease p) s = .next (s.gtPass p g false)) ∧
    ((s.port p).gtRel.find? (fun x => s.gtLate p x) = some g →
      (∀ x ∈ (s.port p).gtRel, x.request = g.request → s.gtDue p x = false) →
      exec (.gtLateDelivery p) s = .next (s.gtPass p g true)) ∧
    ∀ late, hLen ((g.flits.head?.map (·.hdr)).getD 0) = g.nextFlit →
      let t := s.gtPass p g late
      let g2 : GtPkt := { g with nextFlit := g.nextFlit + 1, late := g.late || late }
      (t.port p).gtRel = (s.port p).gtRel.erase g ∧
      ∀ pl, s.runs pl = true → (t.ni pl p).inbox.rd g2.box [] = (s.ni pl p).inbox.rd g2.box [] ++ g.flits ∧
        (late = true → t.pf pl (bNi p + 0x500) 0 32 = satAdd 32 (s.pf pl (bNi p + 0x500) 0 32) 1))

/-- R109, R110: flit j of a packet with interval slot k is released LANE + 2 + j fc after the start of slot k + L, and is
late when it arrives after that; an encrypting port of a T96-P adds 4 fc to a request (R242). -/
def Obligations.ReleaseTime : Prop :=
  ∀ (s : State) (p j k a off : Nat) (g : GtPkt) (f : Flit), 0 < s.img.w → off < s.img.w → a < 16 → g.islot % 16 = k % 16 →
    s.arrivedAt f = (k + a) * s.img.w + off →
    let lane := g.lane + 2 + j + (if s.variant.paired = true ∧ s.encrypts p = true ∧ g.request = true then 4 else 0)
    s.releaseAt p g j f = ((k + g.limit) * s.img.w + lane, decide (g.limit * s.img.w + lane < a * s.img.w + off))

/-! ### The Mule -/

/-- R207, R208, R209: a channel's registers are written through the control window or the channel aperture, when the
requester may use the channel; the aperture's packet names the granule, its bytes and the data; a write that is refused
changes nothing. R209, R210, R222: START of a channel that passes its
checks and needs no list runs it with DONE 0; one that fails a check ends in ERROR with the check's code; START of a running
channel is ignored; STOP of a channel with nothing outstanding stops it at once. R146, R229: a parity error makes the engine
faulty: every channel that runs or stops ends in ERROR with POISON and cause 4, and the engine's migrations abort; on the
T96-P it is a plane fault (R239). -/
def Obligations.ChannelRules : Prop :=
  (∀ (s : State) (r : CwReq) (e c off : Nat) (b : Beat), e < s.variant.mules → c < 32 → off < 0x100 →
    (s.writeAllowed r (bChan e c + off) → s.minimal = false → s.chanWriteStatus s.lead r e c b.ben = stOk →
      exec (.channelRegisterWrite false r e c off b) s =
        .next (((s.touch (bChan e c)).eachPlane (fun pl t => t.chanBeat pl e c off b)).answer r stOk none)) ∧
    (s.writeAllowed r (bChan e c + off) → s.chanWriteStatus s.lead r e c b.ben ≠ stOk →
      exec (.channelRegisterWrite false r e c off b) s = .next (s.answer r (s.chanWriteStatus s.lead r e c b.ben) none)) ∧
    (s.writeAllowed r (bChan e c + 0x40) → s.minimal = false → s.chanWriteStatus s.lead r e c (benRange 0 4) = stOk →
      exec (.channelStart false r e c) s =
        .next (((s.touch (bChan e c)).eachPlane (fun pl t => t.chanCtrl pl e c 1)).answer r stOk none) ∧
      exec (.channelStop false r e c) s =
        .next (((s.touch (bChan e c)).eachPlane (fun pl t => t.chanCtrl pl e c 2)).answer r stOk none)) ∧
    (∀ k u, s.variant.paired = false → k.poison = false →
      let who := { r with owner := hOwner k.hdr, priv := hPriv k.hdr }
      let v : State := { u with answers := u.answers ++ [{ src := r.src, tag := r.tag, status := stOk, data := 0 }] }
      (s.aperTake .a e r kWrite c off b.ben (fun d => decide (d = b.data)) = some (k, u) →
        u.chanWriteStatus .a who e c b.ben = stOk →
        exec (.channelRegisterWrite true r e c off b) s = .next ((v.chanBeat .a e c off b).mulReply .a e r stOk none)) ∧
      (s.aperTake .a e r kWrite c 0x40 (benRange 0 4) (fun d => bit d 0 && !bit d 1) = some (k, u) →
        u.chanWriteStatus .a who e c (benRange 0 4) = stOk →
        exec (.channelStart true r e c) s = .next ((v.chanCtrl .a e c 1).mulReply .a e r stOk none)) ∧
      (s.aperTake .a e r kWrite c 0x40 (benRange 0 4) (fun d => bit d 1) = some (k, u) →
        u.chanWriteStatus .a who e c (benRange 0 4) = stOk →
        exec (.channelStop true r e c) s = .next ((v.chanCtrl .a e c 2).mulReply .a e r stOk none)))) ∧
  (∀ (s : State) (pl : Pl) (e c : Nat), e < 8 → c < 32 →
    let idle := decide (s.chanState pl e c ≠ 1 ∧ s.chanState pl e c ≠ 2)
    (idle = true → s.startCheck pl e c = none → (s.sidesUsed pl e c).flatMap (fun d => (s.walk pl e c d).listReads d) = [] →
      let t := s.chanCtrl pl e c 1
      t.chanState pl e c = 1 ∧ (t.creg pl e c 0x48).toNat = 0 ∧ (t.chan pl e c).pos = 0 ∧ (t.chan pl e c).bursts = []) ∧
    (∀ code reason, idle = true → s.startCheck pl e c = some (code, reason) →
      let t := s.chanCtrl pl e c 1
      t.chanState pl e c = 5 ∧ fld (t.creg pl e c 0x44) 4 4 = code ∧ fld (t.creg pl e c 0x44) 8 4 = reason) ∧
    (idle = false → let t := s.chanCtrl pl e c 1
      bit (t.creg pl e c 0x44) 15 = true ∧ t.chanState pl e c = s.chanState pl e c ∧ t.creg pl e c 0x48 = s.creg pl e c 0x48) ∧
    (s.chanState pl e c = 1 → (s.chan pl e c).bursts = [] → (s.chan pl e c).listReads = [] →
      let t := s.chanCtrl pl e c 2
      t.chanState pl e c = 4 ∧ fld (t.creg pl e c 0x44) 12 3 = 1) ∧
    (idle = true → s.chanCtrl pl e c 2 = s)) ∧
  (∀ (s : State) (pl : Pl) (e : Nat), s.runs pl = true → e < s.variant.mules →
    ∃ t : State, exec (.muleParityError pl e) s =
        .next ((t.migAbortAll pl 6 (fun m => decide (m.engine = e ∧ m.step ≤ 5))).planeFault pl 2 (epMule e) none) ∧
      (t.mul pl e).fault = true ∧ e ∈ (t.sb pl).badEngines ∧
      ∀ c, c < 32 → (s.chanState pl e c = 1 ∨ s.chanState pl e c = 2 →
          t.chanState pl e c = 5 ∧ fld (t.creg pl e c 0x44) 4 4 = stPoison ∧ fld (t.creg pl e c 0x44) 12 3 = 4) ∧
        (s.chanState pl e c ≠ 1 → s.chanState pl e c ≠ 2 → t.chanState pl e c = s.chanState pl e c))

/-- R214: a burst holds at most 256 bytes, stays within 256 bytes of the destination and 64 KiB of the source, and does not
pass the end of the stream; its requests cover it without a gap, each within one granule or of whole granules. -/
def Obligations.BurstShape : Prop :=
  (∀ (s : State) (pl : Pl) (e c off len a d : Nat), s.nextBurst pl e c = some (off, len, a, d) → s.chOp pl e c ≠ 1 →
    0 < len ∧ len ≤ 256 ∧ (d + len - 1) / 256 = d / 256 ∧ (a + len - 1) / 65536 = a / 65536 ∧ off = (s.chan pl e c).pos ∧
    off + len ≤ s.chTotal pl e c) ∧
  ∀ addr len,
    ((sideReqs addr len).map (·.2)).sum = len ∧
    ∀ x ∈ sideReqs addr len, 0 < x.2 ∧ addr ≤ x.1 ∧ x.1 + x.2 ≤ addr + len ∧
      ((x.1 + x.2 - 1) / 64 = x.1 / 64 ∨ (x.1 % 64 = 0 ∧ x.2 % 64 = 0))

/-- R218, R219: in an fc an engine first sends the writes that wait and looks at its lists and lookups; then the channel
picked starts its burst, and the rotation goes on behind it. R248: during a join pause only writes of bursts that have
started go. R213, R220, R223: the response with a request's tag answers it: a list read, or a request of a
burst; either frees the tag. -/
def Obligations.BurstsAndResponses : Prop :=
  (∀ (s : State) (pl : Pl) (e l c : Nat), s.runs pl = true → e < s.variant.mules → s.quireRuns (e / 2) = true →
    s.pair.joining = none →
    let v := (List.range 32).foldl (fun t c => ((t.sendLists pl e c).judgeLists pl e c).burstMeets pl e c) (s.mulPump pl e)
    v.pickBurst pl e = some (l, c) →
      exec (.burstStart pl e) s = .next ((v.startBurst pl e c).modMul pl e (fun m => { m with rr := m.rr.wr l ((c + 1) % 32) 0 })) ∧
      (v.burstReady pl e c = true ∧ v.chPrio pl e c = l ∧ ∀ x, x < 32 → v.burstReady pl e x = true → v.chPrio pl e x ≤ l)) ∧
  (∀ (s : State) (pl : Pl) (e : Nat), s.runs pl = true → e < s.variant.mules → s.quireRuns (e / 2) = true →
    s.pair.joining ≠ none → exec (.burstStart pl e) s = .next (s.mulPump pl e)) ∧
  (∀ (s u : State) (pl : Pl) (e c : Nat) (k : Packet), s.runs pl = true → s.popMulIn pl e 4 = some (k, u) →
    let v := u.modMul pl e (fun m => { m with tags := m.tags.erase (hTag k.hdr) })
    ((u.mul pl e).ownerOf (hTag k.hdr) = some (c, true) → k.poison = false →
      exec (.listReadAnswer pl e) s = .next ((((v.modChan pl e c (fun x => { x with
        listReads := x.listReads.map (fun q => q.answerBy (hTag k.hdr) k.status k.flits) })).judgeLists pl e c).finishStop
          pl e c).mulPump pl e)) ∧
    ((u.mul pl e).frozen.any (fun f => f.gtTags.contains (hTag k.hdr)) = false → (u.mul pl e).ownerOf (hTag k.hdr) = some (c, false) →
      exec (.muleResponse pl e) s = .next ((v.burstAnswer pl e c k).mulPump pl e)) ∧
    ((u.mul pl e).frozen.any (fun f => f.gtTags.contains (hTag k.hdr)) = true →
      ∃ t : State, exec (.muleResponse pl e) s = .next t ∧ ∀ f ∈ (t.mul pl e).frozen, (hTag k.hdr) ∉ f.gtTags))

/-- R220: DONE counts the bytes acknowledged without a gap from the start of the stream: the bursts whose writes have all
been answered with OK, and of the first other burst the requests answered with OK before the first that is not. When DONE
reaches COUNT a channel that is not automatic is DONE (R221: an automatic one starts its next cycle). R222: a stopping channel
whose last response has come without a failure is STOPPED, whatever DONE says. -/
def Obligations.DoneAdvances : Prop :=
  (∀ l1 l2 : List Burst, (∀ b ∈ l1, b.writing = true ∧ b.len ≤ okBytes b.writes) →
    (∀ b ∈ l2.head?, (if b.writing then okBytes b.writes else 0) < b.len) →
    writtenScan (l1 ++ l2) =
      (l2, (l1.map (·.len)).sum + (l2.head?.map (fun b => if b.writing then okBytes b.writes else 0)).getD 0)) ∧
  (∀ (l : List SubReq) (q : SubReq), (∀ x ∈ l, x.done = true ∧ x.status = stOk) → (q.done = false ∨ q.status ≠ stOk) →
    ∀ rest, okBytes (l ++ q :: rest) = (l.map SubReq.bytes).sum) ∧
  ∀ (s : State) (pl : Pl) (e c : Nat) (b : Burst), e < 8 → c < 32 →
    (∀ rest, (s.chan pl e c).bursts = b :: rest → (s.chanState pl e c = 1 ∨ s.chanState pl e c = 2) → s.chOp pl e c ≠ 2 →
      b.off + (writtenScan (b :: rest)).2 < 2 ^ 32 →
      let t := s.chanAdvance pl e c
      (t.creg pl e c 0x48).toNat = b.off + (writtenScan (b :: rest)).2 ∧ (t.chan pl e c).bursts = (writtenScan (b :: rest)).1) ∧
    (s.chMode pl e c 8 1 = 0 → (s.reachedCount pl e c).chanState pl e c = 3) ∧
    (s.chMode pl e c 8 1 = 1 → s.chanState pl e c = 1 → ((s.reachedCount pl e c).chan pl e c).pos = 0 ∧
      ((s.reachedCount pl e c).creg pl e c 0x48).toNat = 0 ∧ (s.reachedCount pl e c).chanState pl e c = 1) ∧
    ((s.chan pl e c).bursts = [] → s.chanState pl e c = 2 → (s.chan pl e c).outstanding = false → (s.chan pl e c).failed = [] →
      (s.chanSettle pl e c).chanState pl e c = 4 ∧
      fld ((s.chanSettle pl e c).creg pl e c 0x44) 12 3 = (s.chan pl e c).stopCause % 8)

/-! ### Owners -/

/-- R200, R204: a write of GO starts an owner reset unless one is busy, the owner is not valid (RESULT 1) or its epoch is at
its end (RESULT 2). R200: the steps of an owner reset: the owner closes at the fourth slot boundary; the epoch moves on once
everything has drained; the engines switch to the new key at a boundary and the clean-up begins; the owner opens 4 slots
after it. R201: a drain that lasts longer than LIMIT slots is reported once, with the lowest port at which the owner still
has a request to answer. -/
def Obligations.OwnerResets : Prop :=
  (∀ (s : State) (o : Nat), o < 16 →
    (∀ r, s.writeAllowed r 0x1080 → exec (.ownerResetGo r o) s = .next (((s.touch 0x1080).ownerGo o).answer r stOk none)) ∧
    (s.ownerBusy = true → s.ownerGo o = s) ∧
    (s.ownerBusy = false → bit (s.g (rOwner o)) 0 = false → (s.ownerGo o).gf rOResetStatus 8 3 = 1 ∧ (s.ownerGo o).oreset = s.oreset) ∧
    (s.ownerBusy = false → bit (s.g (rOwner o)) 0 = true → s.gf (rEpoch o) 0 16 = 0xFFFF →
      (s.ownerGo o).gf rOResetStatus 8 3 = 2 ∧ (s.ownerGo o).oreset = s.oreset) ∧
    (s.ownerBusy = false → bit (s.g (rOwner o)) 0 = true → s.gf (rEpoch o) 0 16 ≠ 0xFFFF →
      (s.ownerGo o).ownerBusy = true ∧ (s.ownerGo o).gf rOResetStatus 4 4 = o ∧ (s.ownerGo o).gf rOResetStatus 1 3 = 1 ∧
      (s.ownerGo o).oreset.step = 1 ∧ (s.ownerGo o).oreset.owner = o ∧ (s.ownerGo o).oreset.slot = s.now)) ∧
  (∀ s : State, let o := s.oreset.owner
    o < 16 →
    (s.oreset.step = 1 → s.oreset.slot + 4 ≤ s.now → s.fcInSlot = 0 →
      let v := (s.gor rOClosed (bitMask o)).eachPlane (fun pl t => t.closePlane o pl)
      exec .ownerClose s = .next { v.oresetStep 2 true 0 with oreset := { v.oreset with step := 2, slot := v.now } } ∧
      (s.gor rOClosed (bitMask o)).closedOwner o = true) ∧
    (s.oreset.step = 2 → s.drainPorts o = [] → s.drainService o = false → s.gf (rEpoch o) 0 16 < 0xFFFF →
      ∃ t : State, exec .ownerDrainDone s = .next t ∧ t.gf (rEpoch o) 0 16 = s.gf (rEpoch o) 0 16 + 1 ∧ t.oreset.step = 3 ∧
        t.oreset.ready = false ∧ t.gf rOResetStatus 1 3 = 3 ∧ t.keys = s.keys) ∧
    (∀ k v, s.keys.next = some (k, v) → s.oreset.step = 3 → s.oreset.ready = true → s.fcInSlot = 0 →
      ∃ t : State, exec .ownerKeySwitch s = .next (t.eachPlane (fun pl u => u.cleanPlane k pl)) ∧ t.keys.keys.rd k 0 = v ∧
        t.keys.next = none ∧ t.oreset.step = 4 ∧ ∀ j, j ≠ k → t.keys.keys.rd j 0 = s.keys.keys.rd j 0) ∧
    (s.oreset.step = 4 → s.cleanDone = true →
      ∃ t : State, exec .ownerCleanDone s = .next t ∧ t.oreset.step = 5 ∧ t.oreset.doneSlot = s.now ∧ t.gf rOResetStatus 1 3 = 5) ∧
    (s.oreset.step = 5 → s.oreset.doneSlot + 4 ≤ s.now → s.fcInSlot = 0 →
      ∃ t : State, exec .ownerOpen s = .next t ∧ t.closedOwner o = false ∧ t.ownerBusy = false ∧ t.oreset.step = 0 ∧
        t.gf rOResets 0 32 = satAdd 32 (s.gf rOResets 0 32) 1 ∧ ∀ j, j < 16 → j ≠ o → t.closedOwner j = s.closedOwner j)) ∧
  (∀ s : State, let o := s.oreset.owner
    s.oreset.step = 2 → s.gf rResetLimit 0 24 ≠ 0 → s.oreset.slot + s.gf rResetLimit 0 24 ≤ s.now →
    bit (s.g rOResetStatus) 11 = false → (s.drainPorts o ≠ [] ∨ s.drainService o = true) →
    ∃ t : State, exec .ownerResetStall s = .next t ∧ bit (t.g rOResetStatus) 11 = true ∧
      t.gf rOResetStatus 16 7 = (s.drainPorts o).headD 0x7F % 128 ∧ t.evt.count.rd 377 0 = satAdd 8 (s.evt.count.rd 377 0) 1 ∧
      t.oreset = s.oreset)

/-- R200 step 1: at a closing NI no unissued request of the owner at U or S level is left. -/
def Obligations.ClosedOwnerHasNothingUnissued : Prop :=
  ∀ (s : State) (o p : Nat) (pl : Pl),
    (∀ q ∈ ((s.closeNi o p pl).ni pl p).wait, q.ofOwner o = false) ∧
    ∀ q ∈ ((s.closeNi o p pl).ni pl p).out, q.ofOwner o = true → q.retryAt = none

/-- R196, R197, R198: a derivation of an owner reset leaves its key waiting for the switch; one of start-up loads its key;
each is counted. -/
def Obligations.KeysDerived : Prop :=
  ∀ (s : State) (k : Nat), k ≤ 16 →
    (s.oreset.step = 3 → s.oreset.owner = k → s.oreset.ready = false →
      ∃ t : State, exec (.keyDerivationDone k) s = .next t ∧ t.keys.next = some (k, deriveKey s.boot.root k (s.keyEpoch k)) ∧
        t.keys.keys = s.keys.keys ∧ t.oreset.ready = true ∧ t.gf rKeyStatus 16 16 = satAdd 16 (s.gf rKeyStatus 16 16) 1) ∧
    (s.oreset.step = 0 → s.phase = 6 → s.keys.epochs.rd k 0 = 0 → s.test.mode = false →
      ∃ t : State, exec (.keyDerivationDone k) s = .next t ∧ t.keys.keys.rd k 0 = deriveKey s.boot.root k (s.keyEpoch k) ∧
        (∀ j, j ≠ k → t.keys.keys.rd j 0 = s.keys.keys.rd j 0) ∧ t.gf rKeyStatus 16 16 = satAdd 16 (s.gf rKeyStatus 16 16) 1)

/-! ### The redundant pair -/

/-- R237, R238: each fc a comparator takes half A's flit out of the egress delay register and half B's that has arrived. A port
that compares both planes delivers a flit that passes in both and is the same; it holds two that pass and differ; it delivers
the one copy that passes and finds the other plane faulty; it delivers with POISON when both fail. R241: a port that delivers
from plane A alone compares the delayed flit with half A's copy. R240: what comes behind a replay goes into the replay queue,
or stays where it is while that is full, and leaves it D + 1 fc after its own fc; a replay that agrees with plane B's copy is a
transient; one that agrees with neither marks the port SUSPECT, and both deliver plane B's copy; one that repeats plane A's
copy waits for an indication, and after 64 fc plane B is found faulty. What is delivered enters the port. R240, R244, R248,
R259: REJOIN asks for a join, CLEAR_SUSPECT takes every port back to comparing, unless it has a latent fault; a proof test of a
due slot that gives the expected decision is counted, one that does not leaves the port on plane A. -/
def Obligations.ComparatorRules : Prop :=
  (∀ (s : State) (p : Nat) (fa fb : Option HalfFault), s.variant.paired = true → s.isPort p = true →
    (s.cmpOf p).testAt ≠ some s.fc → (s.cmpOf p).diverged = none →
    let c := s.cmpOf p
    let a := seenOf (s.headA p) fa s.fc
    let b := seenOf (s.headB p) fb s.fc
    (c.stalled = true → c.queue.length < 8 → (a ≠ none ∨ b ≠ none) → exec (.comparatorDecision p fa fb) s =
      .next ((s.takeHeads p).modCmp p (fun c => { c with queue := c.queue ++ [(s.fc, a, b)] }))) ∧
    (c.stalled = true → 8 ≤ c.queue.length → exec (.comparatorDecision p fa fb) s = .next s) ∧
    (c.stalled = false → c.queue = [] → s.cmpSingle p = none →
      exec (.comparatorDecision p fa fb) s = .next ((s.takeHeads p).decidePair p a b)) ∧
    (c.stalled = false → c.queue = [] → s.cmpSingle p = some .a →
      exec (.comparatorDecision p fa fb) s = .next ((s.takeHeads p).decideA p a)) ∧
    (c.stalled = false → c.queue = [] → s.cmpSingle p = some .b →
      exec (.comparatorDecision p fa fb) s = .next ((s.takeHeads p).decideB p b)) ∧
    ∀ t qa qb rest, c.stalled = false → c.queue = (t, qa, qb) :: rest → a = none → b = none → t + s.img.skew + 1 ≤ s.fc →
      exec (.comparatorDecision p fa fb) s = .next ((s.modCmp p (fun c => { c with queue := rest })).decideAt p qa qb)) ∧
  (∀ (s : State) (p : Nat) (fa fb : Option Seen) (x y : Seen),
    (seenOk .a (some x) = true → seenOk .b (some y) = true →
      (sameFlit x.flit y.flit = true → s.decidePair p (some x) (some y) = s.deliver p x.flit false) ∧
      (sameFlit x.flit y.flit = false → s.decidePair p (some x) (some y) =
        s.modCmp p (fun c => { c with copyA := some x.copy, copyB := some y.copy, waitAt := some s.fc }))) ∧
    (seenOk .a fa = false → seenOk .b (some y) = true →
      s.decidePair p fa (some y) = (s.cmpFault p .a y.copy).deliver p y.flit false) ∧
    (seenOk .a (some x) = true → sameFlit x.flit x.copy = true → seenOk .b fb = false →
      s.decidePair p (some x) fb = (s.cmpFault p .b x.copy).deliver p x.flit false) ∧
    (seenOk .a (some x) = false → seenOk .b fb = false →
      s.decidePair p (some x) fb = ((s.affectOwners (ownerBits x.flit.hdr)).occurInfo 381 p).deliver p x.flit true) ∧
    (seenOk .b (some y) = false →
      s.decidePair p none (some y) = ((s.affectOwners (ownerBits y.flit.hdr)).occurInfo 381 p).deliver p y.flit true) ∧
    (checkPass .a x.copy = true → sameFlit x.flit x.copy = true → s.decideA p (some x) = s.deliver p x.flit false) ∧
    (checkPass .a x.copy = true → sameFlit x.flit x.copy = false →
      let u := s.suspectPort p
      s.decideA p (some x) =
        (if u.runs .b then u else u.planeFault .a 1 p (some (ownerBits x.copy.hdr))).deliver p x.flit true) ∧
    (checkPass .b y.copy = true → s.decideB p (some y) = s.deliver p y.flit false) ∧
    (checkPass .b y.copy = false →
      s.decideB p (some y) = (s.planeFault .b 1 p (some (ownerBits y.copy.hdr))).deliver p y.flit true)) ∧
  (∀ (s : State) (pl : Pl) (p : Nat) (f : Flit), s.runs pl = true → (hVc f.hdr = 1 ∨ hVc f.hdr = 3 ∨ hVc f.hdr = 5) →
    ((s.deliver p f false).ni pl p).rx.rd (hVc f.hdr) [] = (s.ni pl p).rx.rd (hVc f.hdr) [] ++ [{ f with since := s.fc }]) ∧
  (∀ (s : State) (p t : Nat) (x y : Flit) (d : CmpFlit),
    ((s.cmpOf p).waitAt = some t → (s.cmpOf p).copyA = some x → (s.cmpOf p).copyB = some y →
      let f := faultFlit d (some x) s.fc
      (s.fc < t + s.img.skew + 1 → exec (.comparatorReplay p d) s = .next s) ∧
      (t + s.img.skew + 1 ≤ s.fc → sameFlit f y = true →
        exec (.comparatorReplay p d) s = .next ((s.transient p).endWait p .b false)) ∧
      (t + s.img.skew + 1 ≤ s.fc → sameFlit f y = false → sameFlit f x = false →
        exec (.comparatorReplay p d) s = .next ((s.suspectPort p).endWait p .b false)) ∧
      (t + s.img.skew + 1 ≤ s.fc → sameFlit f y = false → sameFlit f x = true → exec (.comparatorReplay p d) s =
        .next (s.modCmp p (fun c => { c with waitAt := none, diverged := some s.fc })))) ∧
    ((s.cmpOf p).diverged = some t → t + 64 ≤ s.fc →
      exec (.divergeTimeout p) s = .next ((((s.ginc rPairDiverge 0 32 1).planeFault .b 4 p
        ((s.cmpOf p).copyA.map (fun f => ownerBits f.hdr))).modCmp p (fun c => { c with faultSeen := some .b })).endWait
          p .a true).timedCheckAll) ∧
    ((s.cmpOf p).copyB = some y → ∀ b, s.endWait p .b b = (s.modCmp p (fun c =>
        { c with waitAt := none, diverged := none, copyA := none, copyB := none })).deliver p y b ∧
      ((s.endWait p .b b).cmpOf p).stalled = false)) ∧
  (∀ (s : State) (r : CwReq), (s.writeAllowed r rPairCtrl →
      exec (.pairRejoin r) s = .next (({ s.touch rPairCtrl with pair := { (s.touch rPairCtrl).pair with rejoin := true } } : State).answer r stOk none) ∧
      exec (.clearSuspect r) s = .next ((s.touch rPairCtrl).clearSuspects.answer r stOk none)) ∧
    (∀ p, (s.cmpOf p).suspect = true →
      (s.clearSuspects.cmpOf p).suspect = false ∧ (s.clearSuspects.cmpOf p).single = (s.cmpOf p).latent ∧
      (s.clearSuspects.cmpOf p).fromB = false) ∧
    ∀ p, s.variant.paired = true → s.isPort p = true → (s.cmpOf p).tests < s.testDue → s.testSlot p = true →
      ((s.cmpOf p).testRight = true → ∃ t : State, exec (.proofTest p true) s = .next t ∧
        t.gf rPairProof 0 32 = satAdd 32 (s.gf rPairProof 0 32) 1 ∧ (t.cmpOf p).pattern = ((s.cmpOf p).pattern + 1) % 4 ∧
        (t.cmpOf p).tests = s.testDue ∧ (t.cmpOf p).testAt = some s.fc) ∧
      ∃ t : State, exec (.proofTest p false) s = .next t.timedCheckAll ∧ (t.cmpOf p).latent = true ∧ (t.cmpOf p).single = true ∧
        (t.cmpOf p).fromB = false ∧ (t.cmpOf p).pattern = ((s.cmpOf p).pattern + 1) % 4 ∧
        t.evt.count.rd 383 0 = satAdd 8 (s.evt.count.rd 383 0) 1)

/-- R239, R245, R250: the first plane fault is noted with its slot, cause and port; one of the plane in service while a
window is open is a second fault and affects owners; a checker that fires or a forced removal is a plane fault. R246: a fault
of the recovering plane, a link failure among them, starts it again at RESET, the third time it is FAILED. R245: at the
fourth slot boundary after the fault the faulty plane goes to RESET: the recovery window opens, the fault is counted and its
slot recorded, and everything in the plane is reset, its islands' locks among it. R246, R247: the states of a plane that is
out: RESET, SELFTEST, SWEEP, READY, each for at least its time; after RESET the islands that meet R91 are locked; the sweep
brings the healthy plane's state but for flits in flight; a word of the kettle link whose CRC fails is counted, and 16 in a
row start the sweep again. R248, R249: a READY plane joins at a boundary with k mod 16 = 0 when nothing stands against it; the
drain is followed by the last copy; the plane is in service 512 fc later; a join that does not drain in JOIN_LIMIT slots
aborts. -/
def Obligations.PlaneFaultsAndRecovery : Prop :=
  (∀ (s : State) (pl : Pl), s.variant.paired = true → s.runs pl = true →
    (∀ cause port owners, s.pair.window = false → s.pair.faulty = none → s.pair.joining = none →
      s.planeFault pl cause port owners =
        { s with pair := { s.pair with faulty := some pl, cause := cause, port := port, slot := s.now } }) ∧
    (∀ cause port owners, s.pair.window = true → s.pair.faulty = none → s.pair.joining = none →
      s.planeFault pl cause port owners = (s.affectOwners (owners.getD s.validOwners)).occurInfo 381 port) ∧
    (∀ site, exec (.planeCheckerFire pl site) s = .next (s.planeFault pl 2 site.port site.owners).wakeComparators) ∧
    ∀ r, s.writeAllowed r rPairCtrl →
      exec (.forceOutA r) s = .next (((s.touch rPairCtrl).forceOut .a).answer r stOk none) ∧
      exec (.forceOutB r) s = .next (((s.touch rPairCtrl).forceOut .b).answer r stOk none) ∧
      (s.runs .a = true → s.runs .b = true → s.pair.faulty = none → ∀ q, s.forceOut q = s.planeFault q 5 epService none)) ∧
  (∀ (s : State) (pl : Pl), s.variant.paired = true → s.runs pl = false → s.plState pl ≠ .failed →
    (∀ out got, exec (.linkCheckFailure pl out got) s = .next (s.planeFault pl 3 epService none)) ∧
    ∀ cause port owners, let t := s.planeFault pl cause port owners
      t.plState pl = (if 2 ≤ s.pair.restarts then .failed else .reset) ∧ t.pair.restarts = min (s.pair.restarts + 1) 3 ∧
      t.pair.since = s.now ∧ ∀ i, i ≠ 21 → t.islLocked pl i = false) ∧
  (∀ (s : State) (pl : Pl), s.pair.faulty = some pl → s.pair.slot + 4 ≤ s.now → s.fcInSlot = 0 → s.runs pl = true →
    s.variant.paired = true →
    ∃ v : State, exec .planeOut s = .next v.timedCheckAll ∧
      v.plState pl = .reset ∧ v.plState (otherPl pl) = s.plState (otherPl pl) ∧ v.pair.window = true ∧ v.pair.faulty = none ∧
      v.pair.restarts = 0 ∧ v.pair.since = s.now ∧ v.gf rPairFaults 0 32 = satAdd 32 (s.gf rPairFaults 0 32) 1 ∧
      v.g rPairSlotLo = BitVec.ofNat 32 s.pair.slot ∧
      v.pln pl = { isl := (s.pln pl).isl.filter (fun x => decide (x.1 = 21)) } ∧
      (∀ p, (s.cmpOf p).stalled = true → (v.cmpOf p).stalled = false) ∧ ∀ p, (v.cmpOf p).faultSeen = none) ∧
  (∀ (s : State) (pl : Pl), s.outPlane = some pl →
    (s.plState pl = .reset → s.pair.since + 2048 ≤ s.now → ∃ t : State, exec .planeResetDone s = .next t ∧ t.plState pl = .selftest ∧
      t.pair.since = s.now ∧ (∀ i ∈ s.islands, s.lockDue pl i = true → s.offAt pl i = false →
        t.islLocked pl i = true ∧ ((t.pln pl).isl.rd i {}).copy = s.planeSlot pl) ∧
      ∀ i, s.lockDue pl i = false → (t.pln pl).isl.rd i {} = (s.pln pl).isl.rd i {}) ∧
    (s.plState pl = .selftest → s.pair.since + 2400000 ≤ s.now → ∀ ok, ∃ t : State, exec (.selftestDone ok) s = .next t ∧
      t.plState pl = (if ok then .sweep else .failed) ∧ t.plState (otherPl pl) = s.plState (otherPl pl)) ∧
    (s.plState pl = .sweep → s.pair.sinceFc + 212992 + s.pair.resent ≤ s.fc → ∃ t : State, exec .sweepDone s = .next t ∧
      t.plState pl = .ready ∧ t.pln (otherPl pl) = s.pln (otherPl pl) ∧ t.pln pl = (s.pln (otherPl pl)).copyTo (s.pln pl)) ∧
    (∀ w, (s.plState pl = .sweep ∨ s.plState pl = .ready ∨ s.plState pl = .join) →
      (w.crc = kettleCrc w.data → exec (.kettleWordError w) s = .next { s with pair := { s.pair with kfails := 0 } }) ∧
      (w.crc ≠ kettleCrc w.data → ∃ t : State, exec (.kettleWordError w) s = .next t ∧
        t.gf rPairKettle 0 16 = satAdd 16 (s.gf rPairKettle 0 16) 1 ∧
        t.plState pl = (if 15 ≤ s.pair.kfails ∧ s.plState pl ≠ .join then .sweep else s.plState pl) ∧
        t.pair.kfails = (if 15 ≤ s.pair.kfails ∧ s.plState pl ≠ .join then 0 else s.pair.kfails + 1)))) ∧
  (∀ (x y : Plane), (x.copyTo y).isl = y.isl ∧ (x.copyTo y).rf = x.rf ∧ (x.copyTo y).ctr = x.ctr ∧
    (∀ e ∈ (x.copyTo y).frt ++ (x.copyTo y).qrt, e.2.buf = []) ∧ (∀ e ∈ (x.copyTo y).ni, e.2.tx = [] ∧ e.2.rx = []) ∧
    ∀ p, ((x.copyTo y).ni.rd p {}).look = (x.ni.rd p {}).look ∧ ((x.copyTo y).ni.rd p {}).out = (x.ni.rd p {}).out) ∧
  (∀ (s : State) (pl : Pl), s.outPlane = some pl →
    (s.mayJoin = true → ∃ t : State, exec .joinStart s = .next t ∧ t.plState pl = .join ∧ t.pair.joining = some s.now ∧
      t.pair.aborted = false ∧ t.pair.resumeWait = false) ∧
    (s.plState pl = .join → s.pair.joining.isSome = true → s.pair.aborted = false → s.pair.resumeWait = false →
      (s.pln (otherPl pl)).joinDrained = true → s.edgeDrained = true →
      exec .joinDrainDone s = .next { s with pair := { s.pair with resumeWait := true, sinceFc := s.fc } }) ∧
    (∀ j, s.pair.joining = some j → s.fcInSlot = 0 → s.now % 16 = 0 → s.pair.aborted = false → s.pair.resumeWait = true →
      s.pair.sinceFc + 512 ≤ s.fc →
      ∃ v : State, exec .joinResume s = .next (v.eachPlane (fun q t => t.resumePlane (s.now - j) q)) ∧ v.plState pl = .inService ∧
        v.pair.window = false ∧ v.pair.joining = none ∧ v.pair.restarts = 0 ∧ v.pln (otherPl pl) = s.pln (otherPl pl) ∧
        v.pln pl = (s.pln (otherPl pl)).copyTo (s.pln pl) ∧
        v.gf rPairRejoins 0 32 = satAdd 32 (s.gf rPairRejoins 0 32) 1) ∧
    (∀ j, s.pair.joining = some j → s.fcInSlot = 0 → s.now % 16 = 0 → s.pair.aborted = true → s.plState pl = .join →
      ∃ v : State, exec .joinResume s = .next (v.eachPlane (fun q t => t.resumePlane (s.now - j) q)) ∧ v.plState pl = .ready ∧
        v.pair.joining = none ∧ v.pair.aborted = false) ∧
    (∀ j, s.pair.joining = some j → j + s.gf rPairCfg 16 16 ≤ s.now → s.pair.resumeWait = false → s.pair.aborted = false →
      ∃ t : State, exec .joinAbort s = .next t ∧ t.pair.aborted = true ∧ t.pair.notBefore = s.now + 65536 ∧
        t.gf rPairAborts 0 32 = satAdd 32 (s.gf rPairAborts 0 32) 1))

/-! ### Pads -/

/-- R251, R252: at the slot boundary after a cause its groups go safe and the cause is recorded; a release of groups without
a cause takes effect at the next boundary; removal of the always-on supply makes every group safe. R307, R309, R310: a new
function of a pad holds the level that the pad has at the end of the slot of the write, until the fifth boundary after the
write; the pad hold keeps both levels until it is released, which starts each function as after a switch. -/
def Obligations.SafeOutputsAndPads : Prop :=
  (∀ s : State,
    (s.fcInSlot = 0 → s.pads.safePend ≠ 0 → ∃ t : State, exec .safeOutAssert s = .next t ∧
      t.pads.safe = s.pads.safe &&& ~~~s.pads.safePend ∧ t.pads.safePend = 0 ∧ t.safeCause = s.safeCause ||| s.pads.safePend) ∧
    (∀ r g, s.writeAllowed r 0x210C → exec (.safeRelease r g) s = .next (((s.touch 0x210C).safeRelease g).answer r stOk none)) ∧
    (∀ g, s.pads.held = false → s.test.mode = false → (s.safeRelease g).pads.releasePend =
      s.pads.releasePend ||| (g &&& ~~~s.safeCause &&& ~~~s.pads.safePend) ∧ (s.safeRelease g).pads.safe = s.pads.safe) ∧
    (∀ p : Pads, ∀ c, (p.release c).safe = p.safe ||| (p.releasePend &&& ~~~c &&& ~~~p.safePend) ∧ (p.release c).releasePend = 0) ∧
    ∃ t : State, exec .alwaysOnSupplyRemoved s = .next t ∧ t.pads.safe = 0 ∧ t.pads.held = false ∧
      t = { s with pads := t.pads }) ∧
  (∀ s : State,
    (∀ r v, s.writeAllowed r rMpFn → exec (.padFunctionSwitch r v) s = .next (((s.touch rMpFn).writeMpFn v).answer r stOk none)) ∧
    (∀ r, s.writeAllowed r 0x200C → exec (.padHoldRelease r) s = .next ((s.touch 0x200C).releasePads.answer r stOk none)) ∧
    (∀ m fn, m < 2 → fn < 5 → s.mpFn m ≠ fn → s.pads.held = false → (s.mp m).holdFrom = none →
      (s.switchPad m fn).mpFn m = fn ∧ ((s.switchPad m fn).mp m).switchAt = some s.now ∧ (s.switchPad m fn).mpOut m = s.mpOut m) ∧
    (∀ m w, m < 2 → (s.mp m).switchAt = some w → s.pads.held = false →
      (s.beginHolds.mp m).holdFrom = some w ∧ s.beginHolds.mpOut m = s.mpOut m) ∧
    (∀ m w, (s.mp m).holdFrom = some w → w + 5 ≤ s.now → s.fcInSlot = 0 →
      exec (.padHoldEnd m) s = .next (s.modMp m (fun _ => { active := s.mpFn m, switchAt := none, holdFrom := none, latched := none }))) ∧
    (∀ m, m < 2 → s.pads.held = false → s.holdPads.mpOut m = s.mpOut m ∧ s.holdPads.pads.safe = 0 ∧ s.holdPads.pads.held = true) ∧
    (∀ m, m < 2 → s.pads.held = true → s.releasePads.pads.held = false ∧ (s.releasePads.mp m).holdFrom = some s.now ∧
      s.releasePads.mpOut m = s.mpOut m))

/-! ### Reset, start-up and the flash -/

/-- R251, R346, R364, R373: DEV_RST_N takes the device to its reset state, with every SAFE_OUT safe; its release starts phase
0. R287, R288: after a failed start-up REBOOT starts again from phase 1; a flash command runs when no error stands against
it, and ends when the flash is no longer busy or has been busy too long. -/
def Obligations.DeviceResetAndReboot : Prop :=
  (∀ s : State,
    (s.pw.dev ≠ .off → ∃ t : State, exec .deviceReset s = .next t ∧ t.boot.inReset = true ∧ t.pads.safe = 0 ∧ t.rf = [] ∧ t.pa = {} ∧
      t.pb = {} ∧ t.ports = [] ∧ t.keys = {} ∧ t.img = {} ∧ t.phase = 0 ∧ t.done = false ∧ t.slot = 0 ∧ t.variant = s.variant ∧
      t.pending = s.pending ∧ t.pads.held = s.pads.held) ∧
    (s.boot.inReset = true → exec .deviceResetRelease s = .next { s with test := {}, boot := { s.boot with inReset := false } })) ∧
  (∀ (s : State) (r : CwReq),
    (s.writeAllowed r 0x4020 → exec (.imgReboot r) s = .next ((s.touch 0x4020).reboot.answer r stOk none)) ∧
    (s.inPhase 9 = true → s.reboot.phase = 1 ∧ s.reboot.boot.candidates = [] ∧ s.reboot.g rCopyA = 0) ∧
    (s.inPhase 9 = false → s.reboot = s) ∧
    (s.writeAllowed r 0x4030 →
      exec (.flashRead r) s = .next (((s.touch 0x4030).flStart 1).answer r stOk none) ∧
      exec (.flashProgram r) s = .next (((s.touch 0x4030).flStart 2).answer r stOk none) ∧
      exec (.flashErase r) s = .next (((s.touch 0x4030).flStart 3).answer r stOk none)) ∧
    (∀ op, s.flBusy = false → s.flErrs op = [] → (s.flStart op).flBusy = true ∧ (s.flStart op).boot.flOp = op) ∧
    (∀ op e, s.flBusy = false → s.flErrs op = [e] → e < 16 → (s.flStart op).flBusy = false ∧ (s.flStart op).gf rFlStat 1 4 = e) ∧
    (∀ data : List W32, s.flBusy = true → ∃ t : State, exec (.flashCommandDone data) s = .next t ∧ t.flBusy = false ∧
      t.gf rFlStat 1 4 = 0 ∧ (s.boot.flOp = 1 → ∀ i, i < 16 → t.g (rFlData i) = data.getD i 0)) ∧
    (s.flBusy = true → ∃ t : State, exec .flashTimeout s = .next t ∧ t.flBusy = false ∧ t.gf rFlStat 1 4 = 3))

/-- R197, R263, R265, R268, R281: phases 0 to 2: once the control island is locked the fuses are sampled, a blank root key is
reported; discovery selects the flash's highest mode, but no quad mode that takes a non-volatile write, and its density; both headers are checked, and the copies with a good header are candidates, the higher sequence
number first. R264, R279, R280, R281, R283, R285: phases 3 to 5: the digest of the copy read, Vigen's outcome, the checks of
the image; a copy that passes is in force, one that fails gives way to the other, or start-up fails and the minimal window
opens. R282: an island that has not locked is given up 65,536 slots after phase 6 begins. R98, R99, R281, R283: phases 6 to
8: the fabric is done when every island is locked or given up and all 17 keys are loaded; the table's header follows its
entries, and ends it once it is answered; at a slot boundary the block is DONE. -/
def Obligations.StartupPhases : Prop :=
  (∀ s : State,
    (s.inPhase 0 = true → s.islLocked .a 21 = true → ∀ v root khash, ∃ t : State, exec (.fuseSample v root khash) s = .next t ∧ t.phase = 1 ∧
      t.boot.root = (if v then root else 0) ∧ t.boot.khash = (if v then khash else 0) ∧
      (blank (if v then root else 0) = true → t.gf rKeyStatus 1 1 = 1)) ∧
    (s.inPhase 1 = true → ∀ d : Discovery, ∃ t : State, exec (.discoveryDone d) s = .next t ∧ t.phase = 2 ∧
      t.gf rFlash 0 2 = discoveryMode d ∧ t.boot.dqsMode = decide (discoveryMode d = 3) ∧
      t.boot.densityOk = (!d.signatureOk || decide (23 ≤ d.densityLog2 % 256)) ∧ t.gf rFlash 2 1 = b2n d.signatureOk ∧
      (d.signatureOk = false → discoveryMode d = 0) ∧ (d.signatureOk = true → d.octal = true → discoveryMode d = 3) ∧
      (d.qeNonVolatile = true → discoveryMode d ≠ 1 ∧ discoveryMode d ≠ 2) ∧
      (d.signatureOk = true → d.octal = false → d.quadIo = true → d.qeNonVolatile = false → discoveryMode d = 2)) ∧
    (s.inPhase 2 = true → s.boot.densityOk = true → ∀ a b : List (BitVec 8), a.length = 128 → b.length = 128 →
      (hdrResult s.variant a = 0 → hdrResult s.variant b = 0 →
        ∃ t : State, exec (.headersRead a b) s = .next t ∧ t.phase = 3 ∧ t.boot.tried = 0 ∧
          t.boot.candidates = (if hdrSeq a < hdrSeq b then [1, 0] else [0, 1])) ∧
      (hdrResult s.variant a = 0 → hdrResult s.variant b ≠ 0 →
        ∃ t : State, exec (.headersRead a b) s = .next t ∧ t.phase = 3 ∧ t.boot.candidates = [0]) ∧
      (hdrResult s.variant a ≠ 0 → hdrResult s.variant b = 0 →
        ∃ t : State, exec (.headersRead a b) s = .next t ∧ t.phase = 3 ∧ t.boot.candidates = [1]) ∧
      (hdrResult s.variant a ≠ 0 → hdrResult s.variant b ≠ 0 →
        ∃ t : State, exec (.headersRead a b) s = .next t ∧ t.phase = 9 ∧ t.minimal = true))) ∧
  (∀ s : State,
    (s.inPhase 3 = true → ∀ bytes, bytes.length = hdrLength s.copyHdr + 64 → ∃ t : State, exec (.imageReadDone bytes) s = .next t ∧
      t.phase = 4 ∧ t.boot.bytes = bytes ∧
      t.boot.digest = BitVec.ofNat 256 (ofBytesBE (sha256 (natBytes (bytes.take (hdrLength s.copyHdr)))))) ∧
    (s.inPhase 3 = true → s.boot.dqsMode = true → exec .flashDqsTimeout s = .next (s.setResult s.copy 6).nextCopy) ∧
    (s.inPhase 4 = true → ∀ ok,
      let code := vigenCode s.boot.bytes (hdrLength s.copyHdr) s.boot.digest.toNat s.boot.khash ok
      (code = 0xA5 → ∃ t : State, exec (.vigenOutcome ok) s = .next t ∧ t.phase = 5 ∧ t.gf (copyReg s.copy) 8 8 = 0xA5) ∧
      (code ≠ 0xA5 → exec (.vigenOutcome ok) s = .next ((s.gfset (copyReg s.copy) 8 8 code).setResult s.copy 7).nextCopy)) ∧
    (s.inPhase 5 = true →
      let i := readImage s.variant s.boot.bytes
      exec .applyDone s = .next (match i.2, valueErr s.variant i.1.words with
        | some e, _ => s.sectionFailed e
        | none, some off => ((s.setErrLoc (off % 2 ^ 24 + 2 ^ 24)).setResult s.copy 9).nextCopy
        | none, none => s.acceptImage i.1 i.1.words)) ∧
    (∀ i w, (s.acceptImage i w).img = i.config) ∧
    (s.boot.tried + 1 < s.boot.candidates.length → s.nextCopy.phase = 3 ∧ s.nextCopy.boot.tried = s.boot.tried + 1) ∧
    (s.boot.candidates.length ≤ s.boot.tried + 1 → s.nextCopy.phase = 9 ∧ s.nextCopy.minimal = true ∧ s.nextCopy.img = {})) ∧
  (∀ s : State,
    (∀ pl i, s.inPhase 6 = true → s.isIsland pl i = true → s.islLocked pl i = false → s.boot.phase6At + 65536 ≤ s.now → ∃ t : State,
      exec (.islandLockTimeout pl i) s = .next t ∧ ((t.pln pl).isl.rd i {}).gaveUp = true ∧ t.islLocked pl i = false) ∧
    (∀ measured, s.inPhase 6 = true → s.islandsSettled = true → s.allKeys = true →
      exec (.fabricDone measured) s =
        .next (((({ s with boot := { s.boot with measured := s.crossings } } : State).recordOff measured).setPhase 7).pltEntries)) ∧
    (s.inPhase 7 = true → bit (s.g rTiming) 0 = false → s.pltWritten = true →
      (s.boot.tableHdr = false → exec .tableDone s =
        .next (({ s with boot := { s.boot with tableHdr := true } } : State).pltAdd [pltOut s.img.plt benAll s.pltHeader])) ∧
      (s.boot.tableHdr = true → ∃ t : State, exec .tableDone s = .next t ∧ bit (t.g rTiming) 0 = true)) ∧
    (s.inPhase 7 = true → bit (s.g rTiming) 0 = true → s.fcInSlot = 0 →
      ∃ t : State, exec .startupDone s = .next t ∧ t.phase = 8 ∧ t.done = true ∧ t.g rBootTime = BitVec.ofNat 32 s.now ∧
        t.snp.armed = true ∧ ∀ p, p < s.variant.ports → (s.port p).live = true → (s.port p).draining = false →
          (s.port p).poisoning = false → (t.port p).ready = true))

/-! ### Power -/

/-- R294, R297, R304, R312: a power command acts on each quire it names: one in transition records it, one that would go
deeper begins its entry or is refused with RESULT, and any other is acknowledged with RESULT 0; a device command that one
quire must refuse is refused for all. R293, R295, R296: the automatic policy: a quiet quire goes Idle, an offered flit brings
it back to Run, and a quire that has been Idle long enough begins to go to Sleep, as by a command; an entry that has begun
from Idle goes on with what is recorded until its end. -/
def Obligations.PowerCommands : Prop :=
  (∀ s : State,
    (∀ r quires device, s.writeAllowed r 0x1200 →
      exec (.powerRun r quires device) s = .next (((s.touch 0x1200).powerCmd quires device .run).answer r stOk none) ∧
      exec (.powerSleep r quires device) s = .next (((s.touch 0x1200).powerCmd quires device .sleep).answer r stOk none) ∧
      exec (.powerDeepSleep r quires device) s = .next (((s.touch 0x1200).powerCmd quires device .deep).answer r stOk none) ∧
      exec (.powerOff r quires device) s = .next (((s.touch 0x1200).powerCmd quires device .off).answer r stOk none)) ∧
    (∀ q target, (s.qp q).moving = true → (s.quireOrPend target q).qp q = { s.qp q with pending := some target }) ∧
    (∀ q target, (s.qp q).moving = false → s.quireOrPend target q = s.quireCmd q (s.now + 1) target false) ∧
    (∀ q x target auto, target ≠ .run → (s.qp q).state.code < target.code →
      (s.refusal q = none → ((s.quireCmd q x target auto).qp q).state = (s.qp q).state ∧
        ((s.quireCmd q x target auto).qp q).entry =
          some { target := target, step := .close, slot := s.now, start := 0, auto := auto, device := false }) ∧
      (∀ r p, s.refusal q = some (r, p) → r < 16 → p < 128 → ∀ i,
        (s.quireCmd q x target auto).qp i = s.qp i ∧ (s.quireCmd q x target auto).gf rPwrResult 0 4 = r ∧
        (s.quireCmd q x target auto).gf rPwrResult 8 7 = p)) ∧
    (∀ q x target auto, target.code ≤ (s.qp q).state.code → (target = .run → (s.qp q).state = .run) →
      ∀ i, (s.quireCmd q x target auto).qp i = s.qp i ∧ (s.quireCmd q x target auto).gf rPwrResult 0 4 = 0) ∧
    (∀ q x auto, (s.qp q).state ≠ .run → ((s.quireCmd q x .run auto).qp q).supplyReq = true ∧
      ((s.quireCmd q x .run auto).qp q).exitFrom = (s.qp q).state ∧
      ((s.quireCmd q x .run auto).qp q).exitAt = if (s.qp q).state = .off then none else some x) ∧
    (∀ target q r p, target ≠ .run →
      ((List.range s.variant.quires).filter (fun q => decide ((s.qp q).state.code < target.code) || (s.qp q).returning)).findSome?
        (fun q => (s.refusal q).map (fun x => (q, x))) = some (q, r, p) →
      s.powerCmd 0 true target = s.pwrResult r q true false p)) ∧
  (∀ (s : State) (q : Nat),
    (bit (s.g rPwrPolicy) 0 = true → s.done = true → s.pw.dev = .run → s.pw.devTarget = none → (s.qp q).state = .run →
      (s.qp q).moving = false → s.gf rPwrPolicy 4 8 ≤ (s.qp q).quiet → (s.qp q).flitSeen = false →
      (if q = 4 then s.spineEmpty = true else q < s.variant.quires ∧ s.quireEmpty q = true ∧ s.gtIn q = false ∧ s.votes q 1 = true) →
      exec (.autoIdleEntry q) s = .next (s.modQp q (fun x => { x with state := .idle, idleSlots := 0 }))) ∧
    ((s.qp q).state = .idle → s.pw.dev = .run → (s.offered q = true ∨ (s.qp q).exitAt.isSome = true) →
      exec (.idleExit q) s = .next (s.idleOver q)) ∧
    (((s.qp q).entry.isSome = true ∨ ((s.qp q).pending = none ∧ (s.qp q).byWake = false ∧ (s.qp 4).byWake = false)) →
      ((s.idleOver q).qp q).state = .run ∧ ((s.idleOver q).qp q).exitAt = none ∧
      ((s.idleOver q).qp q).entry = (s.qp q).entry ∧ ((s.idleOver q).qp q).pending = (s.qp q).pending ∧
      ∀ i, i ≠ q → (s.idleOver q).qp i = s.qp i) ∧
    (bit (s.g rPwrPolicy) 1 = true → q < s.variant.quires → s.pw.dev = .run → (s.qp q).state = .idle → (s.qp q).moving = false →
      1024 * s.gf rPwrPolicy 16 16 ≤ (s.qp q).idleSlots → s.votes q 2 = true →
      exec (.autoSleepEntry q) s = .next (s.quireCmd q s.nextBoundary .sleep true)))

/-- R298, R299, R300: the steps of an entry: the ports close, the pages leave, the ports drain, the islands are parked, and
the quire commits two slots later; an entry that lasts longer than DRAIN ends with RESULT 3; the device commits after its
quires, and a wake that came during its entry begins the return at that commit (R304). -/
def Obligations.EntrySteps : Prop :=
  ∀ (s : State) (q : Nat),
    (∀ e, s.entryAt q .close = some e → s.fcInSlot = 0 → e.slot < s.now → s.ownerBusy = false → s.pair.joining = none →
      ∃ u : State, exec (.entryClose q) s = .next (u.vacate q) ∧ u.entryAt q .vacate = some { e with step := .vacate, start := s.now } ∧
        (∀ p ∈ portsOf q, (u.port p).ready = false ∧ (u.port p).draining = ((s.port p).live && !(s.port p).poisoning)) ∧
        ∀ p, p ∉ portsOf q → u.port p = s.port p) ∧
    (∀ e, s.entryAt q .vacate = some e → (s.vacate q).vacating q = false → (s.vacate q).quireMoving q = false →
      exec (.entryVacateDone q) s = .next ((s.vacate q).modEntry q (fun e => { e with step := .drain }))) ∧
    (∀ e, s.entryAt q .drain = some e → s.livePorts q = [] →
      exec (.entryDrainDone q) s = .next (s.modEntry q (fun e => { e with step := .park, slot := s.now }))) ∧
    (∀ e, s.entryAt q .park = some e → s.fcInSlot = 0 → e.slot < s.now →
      ∃ t : State, exec (.entryPark q) s = .next t ∧ t.entryAt q .commit = some { e with step := .commit, slot := s.now } ∧
        ∀ pl ∈ s.allPlanes, ∀ i ∈ quireIslands q, t.islLocked pl i = false) ∧
    (∀ e, q < 4 → s.entryAt q .commit = some e → s.fcInSlot = 0 → e.slot + 2 ≤ s.now →
      ∃ t : State, exec (.entryCommit q) s = .next t ∧ (t.qp q).state = e.target ∧
        (t.qp q).retained = (s.gf (rQpwr q) 0 16 + 1) % 65536 ∧ t.gf (rQpwr q) 0 16 = (s.gf (rQpwr q) 0 16 + 1) % 65536 ∧
        ((s.qp q).pending = none → (t.qp q).entry = none)) ∧
    (∀ d, s.pw.devTarget = some d → s.fcInSlot = 0 → s.pw.devSlot < s.now → s.deviceReady d = true → s.pw.devWake = false →
      ∃ t : State, exec (.entryCommit 4) s = .next t ∧ t.pw.dev = d ∧ t.pw.devTarget = none ∧
        ∀ pl ∈ s.allPlanes, t.islLocked pl 20 = false ∧ t.islLocked pl 21 = false) ∧
    (∀ d, s.pw.devTarget = some d → s.fcInSlot = 0 → s.pw.devSlot < s.now → s.deviceReady d = true → s.pw.devWake = true →
      ∃ t : State, exec (.entryCommit 4) s = .next t ∧ t.pw.dev = d ∧ t.pw.devTarget = none ∧ t.pw.devWake = false ∧
        (d = .off → t.pw.devSupplyReq = true) ∧ (d ≠ .off → t.pw.devExitAt = some s.now ∧ t.pw.devFrom = d)) ∧
    (∀ e, (s.qp q).entry = some e → s.gf rPwrLimit 0 24 ≠ 0 → (e.step = .vacate ∨ e.step = .drain) →
      e.start + s.gf rPwrLimit 0 24 ≤ s.now → (s.qp q).pending = none →
      ∃ t : State, exec (.entryDrainLimit q) s = .next t ∧ (t.qp q).entry = none ∧ (t.qp q).state = (s.qp q).state ∧
        t.gf rPwrResult 0 4 = 3 ∧ t.gf rPwrResult 8 7 = (s.livePorts q).headD 0x7F % 128)

/-- R293, R301, R303, R367: a wake sets its bit of WAKE_STATUS and begins the return of the quires that WAKE_CTRL names, and of
the spine-link island from Idle; one in Off waits for its supply, and WAKE_STATUS keeps what woke it; a return ends in Run after
its time, with a reload where retention is lost. -/
def Obligations.WakeAndReturn : Prop :=
  ∀ s : State,
    (s.wakeable = true → exec .wakeIn s = .next (s.wake 0)) ∧
    (s.wakeable = true → bit (s.g rWakeCtrl) 8 = true → (s.pw.dev = .run ∨ s.pw.dev = .sleep) →
      s.now = (s.g rAlarmLo).toNat + (s.g rAlarmHi).toNat * 2 ^ 32 → exec .alarmWake s = .next (s.wake 1)) ∧
    (∀ m, s.wakeable = true → s.mpArmed m 4 = true → (s.pw.dev = .run ∨ s.pw.dev = .sleep) → exec (.mpWake m) s = .next (s.wake (2 + m))) ∧
    (∀ c, c < 4 → s.pw.dev = .run → s.pw.devTarget = none →
      (s.wake c).gf rWakeStatus c 1 = 1 ∧
      ∀ q, q < s.variant.quires → s.gf rWakeCtrl q 1 = 1 → q < 4 → (s.qp q).entry = none → (s.qp q).state ≠ .run → (s.qp q).moving = false →
        ((s.wake c).qp q).supplyReq = true ∧ ((s.wake c).qp q).byWake = true ∧ ((s.wake c).qp q).exitFrom = (s.qp q).state ∧
        ((s.wake c).qp q).exitAt = if (s.qp q).state = .off then none else some s.nextBoundary) ∧
    (∀ c, s.pw.dev = .run → s.pw.devTarget = none → (s.qp 4).state = .idle → (s.qp 4).exitAt = none →
      ((s.wake c).qp 4).exitAt = some s.nextBoundary) ∧
    (∀ c, s.pw.dev = .off →
      s.wake c = { s.noteWake (bitMask c) with pw := { (s.noteWake (bitMask c)).pw with devSupplyReq := true } } ∧
      (s.wake c).pw.wakeBits = s.pw.wakeBits ||| bitMask c) ∧
    (∀ q, (s.qp q).state = .off → (s.qp q).supplyReq = true → (s.qp q).supplyAck = false →
      exec (.supplyAck false q) s = .next (s.modQp q (fun x => { x with supplyAck := true, exitAt := some s.nextBoundary }))) ∧
    (∀ q, s.pw.dev = .off → s.pw.devSupplyReq = true → s.pw.devSupplyAck = false → exec (.supplyAck true q) s =
      .next (s.afresh.gset rWakeStatus s.pw.wakeBits)) ∧
    (∀ q x ok, s.fcInSlot = 0 → q < s.variant.quires → q < 4 → s.pw.dev = .run → s.pw.devExitAt = none → (s.qp q).exitAt = some x →
      x + s.quireTime q (s.mustReload q ok) ≤ s.now → s.allKeys = true →
      exec (.quireExitComplete q ok) s =
        .next (if (s.qp q).exitFrom = .idle then s.idleOver q else s.quireBack q (s.mustReload q ok))) ∧
    (∀ q reload, q < 4 → (s.qp q).pending = none →
      ((s.quireBack q reload).qp q).state = .run ∧ ((s.quireBack q reload).qp q).exitAt = none) ∧
    (∀ x ok, s.fcInSlot = 0 → s.pw.devExitAt = none → (s.qp 4).exitAt = some x → x + 2 ≤ s.now →
      exec (.quireExitComplete 4 ok) s = .next (s.idleOver 4)) ∧
    (∀ x ok, s.fcInSlot = 0 → s.pw.devExitAt = some x → x + s.deviceTime ≤ s.now → (s.pw.devFrom = .sleep ∨ s.allKeys = true) →
      ∃ t : State, exec (.quireExitComplete 4 ok) s = .next t ∧ t.pw.dev = .run ∧ t.pw.devExitAt = none) ∧
    ∀ q ok, (s.mustReload q ok = true ↔ (s.qp q).exitFrom = .deep ∨ (s.qp q).exitFrom = .off ∨
      ((s.qp q).exitFrom = .sleep ∧ (ok = false ∨ (s.qp q).retained ≠ s.gf (rQpwr q) 0 16)))

/-! ### Events -/

/-- R314, R315, R317: an occurrence adds 1 to COUNT, saturating at 255, and an acknowledge takes N off, at least 1 and at
most COUNT; a source that comes to 0 becomes IDLE, one that is SENT with a rest is PENDING again ahead of its level, one in
HOLD stays. R316, R317, R318: a source that is chosen is SENT; its message becomes an LL WRITE of four bytes, in every plane
in service; an answer with another status than OK puts it on HOLD for 256 slots. Sources that become PENDING in one cc stand
in the order by ascending number. -/
def Obligations.EventsAndDeliveries : Prop :=
  (∀ s : State,
    (∀ r src, s.writeAllowed r 0x9204 →
      exec (.eventRaise r src) s = .next (((s.touch 0x9204).evtRaise (src % 512)).answer r stOk none)) ∧
    (∀ r src n, s.writeAllowed r 0x9200 →
      exec (.eventAck r src n) s = .next (((s.touch 0x9200).evtAck (src % 512) (n % 256)).answer r stOk none)) ∧
    (∀ src, (s.occur src).evCount src = min (s.evCount src + 1) 255) ∧
    ∀ src n, s.evCount src ≠ 0 →
      let left := s.evCount src - min (max n 1) (s.evCount src)
      let t := s.evtAck src n
      t.evCount src = left ∧
      ((s.evState src = .pending ∨ s.evState src = .sent) → left = 0 → t.evState src = .idle ∧ src ∉ t.evt.queue) ∧
      (s.evState src = .sent → left ≠ 0 → t.evState src = .pending ∧ t.evt.queue.head? = some src) ∧
      (s.evState src = .hold → t.evState src = .hold) ∧
      (s.evState src = .pending → left ≠ 0 → t.evt.queue = s.evt.queue)) ∧
  (∀ s : State,
    (∀ src, s.done = true → s.pw.dev = .run → s.evt.forming = none → s.evt.inflight < 8 → s.evPick = some src →
      ∃ t : State, exec .emitterSelect s = .next t ∧ t.evState src = .sent ∧ t.evt.forming = some src ∧ src ∉ t.evt.queue ∧
        t.evt.toSend = s.evt.toSend ++ [(src, s.gf (rSrcCfg src) 5 5, s.gf (rSrcCfg src) 16 16)]) ∧
    (∀ src x tgt v, s.evt.forming = some src → s.pw.dev = .run → s.evt.toSend.getLast? = some (x, tgt, v) →
      ∃ u : State, exec .eventHandoff s = .next (u.eachPlane (fun pl t =>
          t.sbAdd pl (.event src) true true 0 3 (s.evTarget tgt) 1 (benRange (s.evTarget tgt % 64) 4) [evLine (s.evTarget tgt) src v])) ∧
        u.evt.forming = none ∧ u.evt.inflight = s.evt.inflight + 1 ∧ u.planes = s.planes) ∧
    (∀ a src v, a % 4 = 0 → src < 2 ^ 16 → v < 2 ^ 16 → fld (evLine a src v) (8 * (a % 64)) 32 = v + src * 2 ^ 16) ∧
    (∀ pl q k o st src, ∀ u : State, s.runs pl = true → s.sbResponse pl q 2 isEvent = some (k, o, st, u) → o.purpose = .event src →
      pl = u.lead → exec (.eventDeliveryRack pl q) s = .next (u.evAnswered src st)) ∧
    (∀ src, (s.evAnswered src stOk).evState src = s.evState src ∧ (s.evAnswered src stOk).evt.inflight = s.evt.inflight - 1) ∧
    (∀ src st, st ≠ stOk → (s.evAnswered src st).evState src = .hold ∧ (s.evAnswered src st).evt.holdTill.rd src 0 = s.now + 256 ∧
      src ∉ (s.evAnswered src st).evt.queue ∧ (s.evAnswered src st).gf rDelivErr 0 32 = satAdd 32 (s.gf rDelivErr 0 32) 1) ∧
    ∀ src, s.evState src = .hold → s.evt.holdTill.rd src 0 ≤ s.now →
      let l := s.evt.queue.filter (fun x => decide (x ≠ src))
      let same := s.evt.ccNew.filter (fun x => l.contains x)
      ∃ t : State, exec (.eventHoldExpiry src) s = .next t ∧ t.evState src = .pending ∧ t.evt.ccAt = s.cc ∧
        (s.evt.ccAt ≠ s.cc → t.evt.queue = l ++ [src] ∧ t.evt.ccNew = [src]) ∧
        (s.evt.ccAt = s.cc → t.evt.queue = l.filter (fun x => !same.contains x) ++ insertUp src same))

/-- R318: the emitter takes, of the PENDING sources of highest PRIO, the one that became PENDING first. -/
def Obligations.EmitterPicksFirstOfHighestPriority : Prop :=
  ∀ (s : State) (src : Nat), s.evPick = some src ↔
    ∃ l r, s.evt.queue = l ++ src :: r ∧ (∀ x ∈ l, s.evPrio x < s.evPrio src) ∧ ∀ x ∈ r, s.evPrio x ≤ s.evPrio src

/-- R319: SUMMARY[n] is high exactly when some source with ENABLE, LINE_EN and LINE = n has COUNT > 0; MSG is not asked;
EVT.STATUS shows the levels. -/
def Obligations.SummaryLines : Prop :=
  ∀ (s : State) (n : Nat), n < 8 →
    (s.summary.testBit n = true ↔ ∃ src, 0 < s.evCount src ∧ bit (s.g (rSrcCfg src)) 0 = true ∧ bit (s.g (rSrcCfg src)) 10 = true ∧
      s.gf (rSrcCfg src) 11 3 = n) ∧
    ∀ pl, (s.regWord pl rEvtStatus).testBit n = s.summary.testBit n

/-! ### Registers and counters -/

/-- R10, R12, R13, R26, R189, R326, R343, R344: a write whose turn it is and that every word of its beat allows applies its
words in ascending order and is answered OK; a field takes a written value by its access code; a W1C bit that hardware sets in
the fc of the write stays set, and an increment of a counter in that fc counts on the written value. -/
def Obligations.RegisterWrites : Prop :=
  ∀ (s : State) (r : CwReq),
    (∀ off b, s.windowTakes r = true → s.writeStatus r off b.ben = stOk →
      exec (.registerWrite r off b) s = .next (((wordsOf b.ben).foldl (fun (t : State) i =>
        t.writeWord (off / 64 * 64 + 4 * i) (lineWord b.data i)) (s.touch off)).answer r stOk none)) ∧
    (∀ off v, s.writeAllowed r (off / 4 * 4) →
      exec (.w1cWrite r off v) s = .next (((s.touch (off / 4 * 4)).writeWord (off / 4 * 4) v).answer r stOk none)) ∧
    (∀ blk region attr, s.writeAllowed r (regionOff blk region + 16) →
      exec (.regionCommit r blk region attr) s = .next (((s.touch (regionOff blk region + 16)).eachPlane
        (fun pl t => t.commitRegion (regionOff blk region) attr pl)).answer r stOk none)) ∧
    (∀ idx lo, s.writeAllowed r (ctrBase (idx % 1000) + 4) →
      exec (.ctrValLoWrite r idx lo) s = .next (((s.touch (ctrBase (idx % 1000) + 4)).eachPlane
        (fun pl t => t.setCounter (idx % 1000) lo pl)).answer r stOk none)) ∧
    (∀ pl idx lo w, (s.pln pl).stage.find (ctrBase idx + 8) = some w →
      (((s.setCounter idx lo pl).pln pl).ctr.rd idx 0).toNat = (lo.toNat + w.toNat % 2 ^ 16 * 2 ^ 32 + s.ctrNow pl idx) % 2 ^ 48) ∧
    (∀ pl base attr, (s.commitRegion base attr pl).p pl (base + 16) = attr &&& 0x3F1F ∧
      ∀ o ∈ [0, 4, 8, 12], ∀ w, (s.pln pl).stage.find (base + o) = some w → (s.commitRegion base attr pl).p pl (base + o) = w) ∧
    ∀ (x : RegRow) (w v set : W32) i, x.ranges = [] → i < 32 →
      (x.written w v set).getLsbD i =
        ((if x.rw.testBit i then v.getLsbD i else w.getLsbD i) && !(x.w1c.testBit i && v.getLsbD i && !set.getLsbD i))

/-- R10, R12, R121, R326, R328, R343: a read that every word it enables allows is answered OK with the words of the plane it is
served from; it clears their RC bits, but for what hardware has added in the fc of the read, and latches the high half beside
a low one. -/
def Obligations.RegisterReads : Prop :=
  ∀ (s : State) (r : CwReq),
    (∀ off ben, s.aperWaits r off ben = false → s.readAllowed r off ben → ∃ v, ∃ t : State,
      (s.touch off).readLine (s.readPlane r) off ben = (v, t) ∧ exec (.readClear r off ben) s = .next (t.answer r stOk (some v))) ∧
    (∀ off ben, 0x900000 ≤ off → off < 0xA00000 → s.readAllowed r off ben → ∃ v, ∃ t : State,
      (s.touch off).readLine (s.readPlane r) off ben = (v, t) ∧ exec (.ownerMirrorRead r off ben) s = .next (t.answer r stOk (some v))) ∧
    (∀ idx, let o := ctrBase (idx % 1000) + 4
      s.readAllowed r o (benRange (o % 64) 4) → ∃ v, ∃ t : State,
        (s.touch o).readLine (s.readPlane r) o (benRange (o % 64) 4) = (v, t) ∧
        exec (.ctrValLoRead r idx) s = .next (t.answer r stOk (some v))) ∧
    (s.readAllowed r 0x1F00 (benRange 0 4) → ∃ v, ∃ t : State, s.readLine (s.readPlane r) 0x1F00 (benRange 0 4) = (v, t) ∧
      exec (.slotLoRead r) s = .next (t.answer r stOk (some v)) ∧ fld v 0 32 = s.now % 2 ^ 32 ∧
      t.g rSlotHi = BitVec.ofNat 32 (s.now / 2 ^ 32)) ∧
    (∀ pl idx, idx < 1000 → let x := s.readWord pl (ctrBase idx + 4)
      x.1 = ((s.pln pl).ctr.rd idx 0).toNat % 2 ^ 32 ∧
      ((x.2.pln pl).ctrHi.rd idx 0).toNat = ((s.pln pl).ctr.rd idx 0).toNat / 2 ^ 32) ∧
    ∀ pl off x, rowOf off = some x → ctrOf off = none → off ≠ 0x2008 → off ≠ 0x1F00 →
      (s.rcIncs pl off = [] → planeBlock off = true → (s.readWord pl off).2.p pl off = s.p pl off &&& ~~~BitVec.ofNat 32 x.rc) ∧
      (s.rcIncs pl off = [] → planeBlock off = false → (s.readWord pl off).2.g off = s.g off &&& ~~~BitVec.ofNat 32 x.rc) ∧
      ∀ lo len v n, s.rcIncs pl off = [(lo, len, v, n)] → lo + len ≤ 32 →
        (s.readWord pl off).1 = s.regWord pl off - fld (if planeBlock off then s.p pl off else s.g off) lo len * 2 ^ lo + v * 2 ^ lo ∧
        (if planeBlock off then (s.readWord pl off).2.pf pl off lo len else (s.readWord pl off).2.gf off lo len) = min n (2 ^ len - 1)

/-- R11, R16, R254, R343, R345: a refused access is answered once, with its status and no data, and changes no register; the
status is that of the word that ranks first; a poisoned request is always refused. -/
def Obligations.RefusedAccessesChangeNothing : Prop :=
  ∀ (s : State) (r : CwReq) (off : Nat), s.windowTakes r = true →
    (∀ b, s.writeStatus r off b.ben ≠ stOk → exec (.registerWrite r off b) s = .next (s.answer r (s.writeStatus r off b.ben) none)) ∧
    (∀ ben, s.aperWaits r off ben = false → s.beatStatus r off ben false ≠ stOk →
      exec (.readClear r off ben) s = .next (s.answer r (s.beatStatus r off ben false) (some 0))) ∧
    (∀ ben write, s.beatStatus r off ben write = stFirstOf ((wordsOf ben).map (fun i => s.accessStatus r (off / 64 * 64 + 4 * i) write))) ∧
    (∀ st d, (s.answer r st d).answers = s.answers ++ [{ src := r.src, tag := r.tag, status := st, data := d.getD 0 }] ∧
      (s.answer r st d).rf = s.rf ∧ (s.answer r st d).ports = s.ports ∧ (s.answer r st d).pw = s.pw ∧
      ∀ pl, ((s.answer r st d).pln pl).rf = (s.pln pl).rf ∧ ((s.answer r st d).pln pl).ctr = (s.pln pl).ctr) ∧
    (s.minimal = false → r.priv ≠ 3 → s.accessStatus r off true = stProt) ∧
    (s.minimal = false → r.priv = 3 → s.mOk s.lead r.src = false → ∀ w, s.accessStatus r off w = stProt) ∧
    (s.minimal = false → r.priv = 3 → s.mOk s.lead r.src = true → inBlock s.variant off = false → ∀ w, s.accessStatus r off w = stDecode) ∧
    (s.cwPoison r = true → ∀ w, s.accessStatus r off w ≠ stOk)

/-- R16: of several statuses, the answer carries the one that ranks first. R10, R16: a counter field keeps its greatest value
once it has reached it. -/
def Obligations.StatusRankAndSaturation : Prop :=
  ((∀ l : List Nat, (stFirstOf l = stOk ∨ stFirstOf l ∈ l) ∧ ∀ x ∈ l, stRank (stFirstOf l) ≤ stRank x) ∧
    [stProt, stDecode, stAlign, stPlace, stPoison, stLate, stBusy, stBroken, stOk].map stRank = [0, 1, 2, 3, 4, 5, 6, 7, 8]) ∧
  (∀ (s : State) (pl : Pl) (off lo len n : Nat), lo + len ≤ 32 →
    (s.pinc pl off lo len n).pf pl off lo len = min (s.pf pl off lo len + n) (2 ^ len - 1) ∧
    (s.ginc off lo len n).gf off lo len = min (s.gf off lo len + n) (2 ^ len - 1) ∧
    (∀ o, o ≠ off → (s.pinc pl off lo len n).p pl o = s.p pl o ∧ (s.ginc off lo len n).g o = s.g o) ∧
    ∀ l k, l + k ≤ lo ∨ lo + len ≤ l → (s.pinc pl off lo len n).pf pl off l k = s.pf pl off l k)

/-- R325: an increment past 2^48 - 1 wraps the counter and sets OVF, and a chained neighbour counts the wrap; a counter whose
lower neighbour is chained to it counts no event of its own. -/
def Obligations.CountersWrapAndChain : Prop :=
  ∀ (s : State) (pl : Pl) (idx n k : Nat), idx < 1000 →
    let v := ((s.pln pl).ctr.rd idx 0).toNat + n
    let t := State.ctrAdd (k + 2) s pl idx n
    ((t.pln pl).ctr.rd idx 0).toNat = v % 2 ^ 48 ∧
    (2 ^ 48 ≤ v → bit (t.p pl (ctrBase idx)) 31 = true) ∧
    (v < 2 ^ 48 → t.rf = s.rf ∧ (t.pln pl).rf = (s.pln pl).rf ∧ ∀ j, j ≠ idx → (t.pln pl).ctr.rd j 0 = (s.pln pl).ctr.rd j 0) ∧
    (2 ^ 48 ≤ v → bit (s.p pl (ctrBase idx)) 17 = true → idx + 1 < (hostOf idx).1 + (hostOf idx).2 →
      bit (s.p pl (ctrBase (idx + 1))) 16 = true →
      ((t.pln pl).ctr.rd (idx + 1) 0).toNat = (((s.pln pl).ctr.rd (idx + 1) 0).toNat + 1) % 2 ^ 48) ∧
    (bit (s.p pl (ctrBase idx)) 17 = false ∨ (hostOf idx).1 + (hostOf idx).2 ≤ idx + 1 →
      ∀ j, j ≠ idx → (t.pln pl).ctr.rd j 0 = (s.pln pl).ctr.rd j 0) ∧
    ((hostOf idx).1 < idx → bit (s.p pl (ctrBase (idx - 1))) 17 = true → ∀ code qual owner, s.ctrTakes pl idx code qual owner = false)

/-- R329: an entry of owner o's slice shows the mirrored value when the counter counts for o, or for nobody at a port that
only o may use and M may not; any other entry reads zero. -/
def Obligations.MirrorSlices : Prop :=
  ∀ (s : State) (pl : Pl) (o p i : Nat), o < 16 → p < s.variant.ports → i < 8 →
    let idx := 8 * p + i
    let sel := s.p pl (ctrBase idx)
    let a := 0x900000 + 0x10000 * o + 0x100 * (p + 1) + 8 * i
    let own := (bit sel 24 = true ∧ fld sel 20 4 = o) ∨
      (bit sel 24 = false ∧ s.pf pl (bNi p) 0 16 = 2 ^ o ∧ s.pf pl (bNi p) 16 1 = 0)
    (own → s.sliceWord pl a + s.sliceWord pl (a + 4) * 2 ^ 32 = ((s.sb pl).mirror.rd idx 0).toNat % 2 ^ 49) ∧
    (¬ own → s.sliceWord pl a = 0 ∧ s.sliceWord pl (a + 4) = 0)

/-- R327, R331: at a mirror boundary every NI latches its eight counters or, where the last transfer still waits, counts a
lost one; the service block stores what comes and acknowledges it, and the acknowledgement frees the NI's latch. R330, R331,
R332, R333, R339: a dump that falls due is taken, or counted as lost where the ring is full, an error is kept or the last one
is not written yet; a dump taken is written as a record, and its acknowledgement moves DG_HEAD on. -/
def Obligations.MirrorAndDumps : Prop :=
  (∀ (s : State) (pl : Pl), s.runs pl = true →
    (s.done = true → s.mirrorDue pl = true → exec (.mirrorRefresh pl) s =
      .next ((List.range s.variant.ports).foldl (fun t p => t.mirrorNi pl p) (s.modSb pl (fun b => { b with mirrorAt := some s.now })))) ∧
    (∀ p, s.quireUp (p / 24) = true → (s.ni pl p).mirrorLatch ≠ [] → s.mirrorNi pl p = s.pinc pl rMirrorLost 0 32 1) ∧
    (∀ p, s.quireUp (p / 24) = true → (s.ni pl p).mirrorLatch = [] → ((s.mirrorNi pl p).ni pl p).mirrorLatch =
      (List.range 8).map (fun i => s.ctrEntry pl (8 * p + i))) ∧
    (∀ k u q, s.popSbIn pl q 6 = some (k, u) → hKind k.hdr = kMgmt → hMop k.hdr = 5 → hMarg k.hdr % 16 = 8 →
      ∃ v : State, exec (.dumpPacket pl q) s = .next (v.sbMgmt pl (hSrc k.hdr) 6 (hMarg k.hdr) (hTag k.hdr) [0]) ∧
        ∀ i, i < hMarg k.hdr / 2 ^ 14 % 8 + 1 → (v.sb pl).mirror.rd (hMarg k.hdr / 16 % 1024 + i) 0 =
          BitVec.ofNat 64 (fld ((k.flits.head?).getD 0) (64 * i) 64)) ∧
    (∀ k u agent, agent ≤ 95 → s.takeMgmt pl agent 6 none = some (k, u) → hMarg k.hdr % 16 = 8 →
      ∃ v : State, exec (.dumpAcknowledge pl agent) s = .next (v.pumpHost pl agent) ∧ (v.ni pl agent).mirrorLatch = [] ∧
        (v.ni pl agent).dumpOut = (u.ni pl agent).dumpOut - 1)) ∧
  (∀ (s : State) (pl : Pl) (g : Nat), s.runs pl = true → g < 8 →
    (s.done = true → bit (s.p pl (bDg g)) 0 = true → s.fcInSlot = 0 → s.pw.dev = .run → (s.dumpG pl g).doneAt ≠ some s.now →
      ((s.dumpG pl g).owed = true ∨ s.dumpFalls pl g = true) → ∃ u : State,
        u.now = s.now ∧ (u.dumpG pl g).doneAt = some s.now ∧ (∀ o, u.p pl o = s.p pl o) ∧
        exec (.dumpBoundary pl g) s = .next (if s.dgUsed pl g = s.dgSlots pl g ∨ bit (s.p pl (bDg g)) 2 = true ∨ (s.dumpG pl g).active = true
          then u.dumpSkip pl g else u.dumpTake pl g)) ∧
    ((s.dumpSkip pl g).pf pl (bDg g + 0x28) 0 32 = satAdd 32 (s.pf pl (bDg g + 0x28) 0 32) 1 ∧
      (s.dumpSkip pl g).p pl (bDg g + 0x24) = s.p pl (bDg g + 0x24) + 1 ∧
      ((s.dumpSkip pl g).dumpG pl g).lostSince = (s.dumpG pl g).lostSince + 1 ∧
      (s.dgUsed pl g = s.dgSlots pl g → bit ((s.dumpSkip pl g).p pl (bDg g)) 1 = true)) ∧
    ((s.dumpTake pl g).p pl (bDg g + 0x24) = s.p pl (bDg g + 0x24) + 1 ∧ ((s.dumpTake pl g).dumpG pl g).active = true ∧
      ((s.dumpTake pl g).dumpG pl g).slot = s.now ∧ ((s.dumpTake pl g).dumpG pl g).seq = (s.p pl (bDg g + 0x24)).toNat) ∧
    (∀ k u q, s.popSbIn pl q 6 = some (k, u) → hKind k.hdr = kMgmt → hMop k.hdr = 5 → hMarg k.hdr % 16 = g →
      (u.dumpG pl g).active = true → hMarg k.hdr / 16 % 1024 ∈ (u.dumpG pl g).need →
      ∃ v : State, exec (.dumpPacket pl q) s = .next (v.sbMgmt pl (hSrc k.hdr) 6 (hMarg k.hdr) (hTag k.hdr) [0]) ∧
        hMarg k.hdr / 16 % 1024 ∉ (v.dumpG pl g).need ∧
        ∀ i, i < hMarg k.hdr / 2 ^ 14 % 8 + 1 → (v.dumpG pl g).entries.rd (hMarg k.hdr / 16 % 1024 + i) 0 =
          BitVec.ofNat 64 (fld ((k.flits.head?).getD 0) (64 * i) 64)) ∧
    ((s.dumpG pl g).active = true → (s.dumpG pl g).writing = false → s.dumpComplete (s.dumpG pl g) = true → s.pw.dev = .run →
      let l := s.dumpLines g (s.dumpG pl g)
      let a := s.dgBase pl g + 64 * l.length * ((s.p pl (bDg g + 0x1C)).toNat % s.dgSlots pl g)
      ∃ v : State, (v.dumpG pl g).writing = true ∧ (v.dumpG pl g).lostSince = 0 ∧
        (l.length ≤ 63 → exec (.dumpRecordWrite pl g) s = .next (v.sbAdd pl (.dump g) true false 0 3 a l.length benAll l)) ∧
        (63 < l.length → exec (.dumpRecordWrite pl g) s = .next ((v.sbAdd pl (.dump g) true false 0 3 a 63 benAll (l.take 63)).sbAdd pl
          (.dump g) true false 0 3 (a + 64 * 63) (l.length - 63) benAll (l.drop 63)))) ∧
    (∀ k o st q, ∀ u : State, s.sbResponse pl q 4 isDump = some (k, o, st, u) → o.purpose = .dump g →
      exec (.dumpWriteRack pl q) s = .next (u.dumpAnswered pl g st)) ∧
    ((s.dumpG pl g).writes = 1 → (s.dumpG pl g).bad = false → (s.dumpAnswered pl g stOk).p pl (bDg g + 0x1C) = s.p pl (bDg g + 0x1C) + 1 ∧
      ((s.dumpAnswered pl g stOk).dumpG pl g).active = false) ∧
    (∀ st, st ≠ stOk → bit ((s.dumpAnswered pl g st).p pl (bDg g)) 2 = true ∧
      (s.dumpAnswered pl g st).p pl (bDg g + 0x1C) = s.p pl (bDg g + 0x1C) ∧
      ∀ o ∈ ((s.dumpAnswered pl g st).sb pl).outs, o.purpose = .dump g → o.tag.isSome = true) ∧
    (∀ r v, s.writeAllowed r (bDg g + 0x20) → exec (.dgTailWrite r g v) s =
      .next (((s.touch (bDg g + 0x20)).eachPlane (fun pl t => t.dgTail g v pl)).answer r stOk none)) ∧
    (∀ v, let d := (s.p pl (bDg g + 0x1C) - v).toNat
      (s.dgSlots pl g < d → s.dgTail g v pl = s) ∧ (d ≤ s.dgSlots pl g → (s.dgTail g v pl).p pl (bDg g + 0x20) = v) ∧
      (d < s.dgSlots pl g → (s.dgTail g v pl).pf pl (bDg g) 1 1 = 0)) ∧
    (∀ r, s.writeAllowed r (bDg g) → exec (.dgEnable r g) s =
      .next (((s.touch (bDg g)).eachPlane (fun pl t => t.dgCtrl g 1 pl)).answer r stOk none)) ∧
    ((∃ h, h < 8 ∧ h ≠ g ∧ bit (s.p pl (bDg h)) 0 = true ∧ s.dgOverlap pl g h = true) → s.dgCtrl g 1 pl = s) ∧
    ((∀ h, h < 8 → h ≠ g → bit (s.p pl (bDg h)) 0 = true → s.dgOverlap pl g h = false) →
      (s.dgCtrl g 1 pl).pf pl (bDg g) 0 1 = 1 ∧ ∀ o, o ≠ bDg g → (s.dgCtrl g 1 pl).p pl o = s.p pl o))

/-! ### Snapshots and test access -/

/-- R335, R336: a trigger while armed is kept with its slot and cause; two slots later every island that is locked and on
latches, and the block is held until it is armed again; a trigger while held counts as missed, unless it is armed again in the
same slot, which accepts it. R372, R373: entering test mode
drops the keys and what the root store holds, and every port falls; the wrapper's instruction register takes what was shifted
in, and has effect only in test mode. -/
def Obligations.SnapshotsAndTestAccess : Prop :=
  (∀ s : State,
    (∀ r, s.writeAllowed r rSnpCtrl →
      exec (.snapshotTrigger r) s = .next (((s.touch rSnpCtrl).snapTrigger 1 0x1FF 0x3FF).answer r stOk none) ∧
      exec (.snapshotArm r) s = .next ((s.touch rSnpCtrl).snapArm.answer r stOk none)) ∧
    (∀ m, s.mpArmed m 2 = true → bit (s.g rSnpCtrl) 4 = true → s.pw.dev = .run →
      exec (.snapInEdge m) s = .next (s.snapTrigger 0 0x1FF 0x3FF)) ∧
    (∀ c src k, c < 4 → s.snp.held = false → s.snp.armed = true → s.snp.trig = none →
      (s.snapTrigger c src k).snp.trig = some s.now ∧ (s.snapTrigger c src k).snp.cause = BitVec.ofNat 4 (2 ^ c) ∧
      (s.snapTrigger c src k).g rTrigInfo = BitVec.ofNat 32 (src % 512 + k % 1024 * 2 ^ 16)) ∧
    (∀ c src k, s.snp.held = true → (s.snapTrigger c src k).snp.held = true ∧ (s.snapTrigger c src k).snp.trig = s.snp.trig ∧
      (s.snapTrigger c src k).snp.cause = s.snp.cause ∧ (s.snapTrigger c src k).snp.missAt = some s.now ∧
      (s.snapTrigger c src k).gf rMissed 0 32 = satAdd 32 (s.gf rMissed 0 32) 1) ∧
    (s.snapArm.snp.armed = true ∧ s.snapArm.snp.held = false ∧
      (s.snp.missAt ≠ some s.now → s.snapArm.snp.trig = s.snp.trig ∧ s.snapArm.g rMissed = s.g rMissed) ∧
      (s.snp.held = true → s.snp.missAt = some s.now → s.snapArm.snp.trig = some s.now ∧ s.snapArm.snp.cause = s.snp.missCause ∧
        s.snapArm.g rTrigInfo = s.snp.missInfo)) ∧
    (∀ w, s.snp.trig = some w → w + 2 ≤ s.now → s.fcInSlot = 0 → s.pw.dev = .run →
      ∃ u : State, exec .snapshotLatch s = .next (u.occurInfo 403 s.now) ∧ u.snp.held = true ∧ u.snp.armed = false ∧ u.snp.trig = none ∧
        u.snp.part = s.snapPartial ∧ u.pads.snapOut = true ∧ u.g rSnpSlotLo = BitVec.ofNat 32 s.now ∧
        ∀ pl idx, s.runs pl = true → idx < 1000 → s.islLatches pl (islandOfOff (ctrBase idx)) = true →
          u.p pl (ctrBase idx + 12) = BitVec.ofNat 32 ((s.pln pl).ctr.rd idx 0).toNat)) ∧
  (∀ s : State,
    (s.test.mode = false → ∃ t : State, exec .testModeEntry s = .next t ∧ t.test.mode = true ∧ t.test.wir = s.test.wir ∧ t.keys = {} ∧
      t.boot.root = 0 ∧ t.boot.store = [] ∧ t.img.pages = [] ∧ t.pads.safe = 0 ∧ t.gf rKeyStatus 0 1 = 0 ∧
      ∀ p, p < s.variant.ports → (t.port p).live = false) ∧
    (∀ w, exec (.wrapperInstructionUpdate w) s = .next { s with test := { s.test with wir := w } }) ∧
    ∀ x : Test, x.executes = if x.mode = true then x.wir else .bypass)

/-! ### Completion of migrations, recovery and dumps -/

/-- R140, R144, R147: the acknowledgements, the copies and the limits that a migration waits for are taken when they are there.
R138, R152, R155: so are the period boundary, the end of timed mode, and the page commands and the writes of PLC.CTRL. R239,
R245 to R249: so are a checker's report, the removal of a plane, each state of its recovery, the words of its sweep, and the
start, the drain, the resumption and the abort of its join. R327, R330 to R333: so are a mirror boundary, a dump boundary, the
packets, the acknowledgements and the records of dumps, and the writes of DG_TAIL and ENABLE. -/
def Obligations.MigrationRecoveryAndDumpCommandsComplete : Prop :=
  (∀ (s u : State) (pl : Pl) (q : Nat) (k : Packet), s.runs pl = true → s.popSbIn pl q 6 = some (k, u) → hKind k.hdr = kMgmt →
    (hMop k.hdr = 4 → hMarg k.hdr / 2 ^ 18 = 0 → exec (.invalidateAcknowledge pl q) s =
      .next ((u.modSb pl (fun b => { b with invWait := b.invWait.erase (hSrc k.hdr) })).migPump pl)) ∧
    (hMop k.hdr = 5 → ∃ v : State, exec (.dumpPacket pl q) s =
      .next (v.sbMgmt pl (hSrc k.hdr) 6 (hMarg k.hdr) (hTag k.hdr) [0]))) ∧
  (∀ (s : State) (pl : Pl) (m : Mig), s.runs pl = true → m.acks = [] → m.toFreeze = [] → m.stopping = false →
    (s.sb pl).migs = [m] → s.chanState pl m.engine 3 = 3 →
    (m.step = 2 → exec (.migrationCopyDone pl m.engine) s = .next (((s.setChan pl m.engine 3 0 0).modMig pl m.page
      (fun m => { m with step := 3, toFreeze := [m.oldHome] })).migPump pl)) ∧
    (m.step = 5 → s.freezeOver pl m = false → exec (.migrationRecopyDone pl m.engine) s =
      .next ((s.setChan pl m.engine 3 0 0).migSwitch pl m))) ∧
  (∀ (s : State) (pl : Pl) (page agent f : Nat) (m : Mig), s.runs pl = true → s.migOf pl page = some m → m.step = 4 →
    m.stopping = false →
    (s.freezeOver pl m = true → exec (.freezeLimitReached pl page) s = .next (s.migAbort pl page 3 0x7F)) ∧
    ((agent, f) ∈ m.acks → f + 4096 ≤ s.fc → agent ∈ s.initiators → exec (.silentInitiator pl agent page) s =
      .next (((s.placeFault pl page 3).modMig pl page (fun m =>
        { m with acks := m.acks.filter (fun x => decide (x.1 ≠ agent)) })).migAbort pl page 7 agent))) ∧
  (∀ (s : State) (pl : Pl), s.runs pl = true →
    (bit (s.p pl rPlcCtrl) 0 = true → s.now % 2 ^ (s.pf pl rPolicy0 4 4 + 10) = 0 → (s.sb pl).periodAt ≠ some s.now →
      s.pair.joining = none → exec (.periodBoundary pl) s =
        .next (((s.modSb pl (fun b => { b with periodAt := some s.now, slotWait := [] })).period pl).tryDemotes pl)) ∧
    ((s.sb pl).timed = true → s.timedCause pl = 0 → s.pf pl rResume 0 24 ≠ 0 → s.pf pl rResume 0 24 ≤ (s.sb pl).clearSlots →
      exec (.timedModeEnd pl) s = .next (s.modSb pl (fun b => { b with timed := false })))) ∧
  (∀ (s : State) (r : CwReq) (page : Nat) (v : Bool),
    (s.writeAllowed r rPlcCtrl →
      exec (.timedReq r v) s = .next (((s.touch rPlcCtrl).eachPlane (fun pl t => t.plcCtrl (if v then 2 else 0) pl)).answer r stOk none) ∧
      exec (.timedResume r) s = .next (((s.touch rPlcCtrl).eachPlane (fun pl t => t.plcCtrl 4 pl)).answer r stOk none)) ∧
    (s.writeAllowed r 0x20030 →
      exec (.pagePin r page) s = .next (((s.touch 0x20030).eachPlane (fun pl t => t.pageCmd (page % 2 ^ 18) 1 pl)).answer r stOk none) ∧
      exec (.pageUnpin r page) s = .next (((s.touch 0x20030).eachPlane (fun pl t => t.pageCmd (page % 2 ^ 18) 2 pl)).answer r stOk none) ∧
      exec (.pageDemote r page) s = .next (((s.touch 0x20030).eachPlane (fun pl t => t.pageCmd (page % 2 ^ 18) 3 pl)).answer r stOk none)) ∧
    (s.writeAllowed r rPairCtrl →
      exec (.forceOutA r) s = .next (((s.touch rPairCtrl).forceOut .a).answer r stOk none) ∧
      exec (.forceOutB r) s = .next (((s.touch rPairCtrl).forceOut .b).answer r stOk none))) ∧
  (∀ (s : State) (pl : Pl), s.variant.paired = true →
    (∀ site, exec (.planeCheckerFire pl site) s = .next (s.planeFault pl 2 site.port site.owners).wakeComparators) ∧
    (s.pair.faulty = some pl → s.pair.slot + 4 ≤ s.now → s.fcInSlot = 0 → s.runs pl = true →
      ∃ t : State, exec .planeOut s = .next t ∧ t.plState pl = .reset)) ∧
  (∀ (s : State) (pl : Pl), s.outPlane = some pl →
    (s.plState pl = .reset → s.pair.since + 2048 ≤ s.now →
      ∃ t : State, exec .planeResetDone s = .next t ∧ t.plState pl = .selftest) ∧
    (s.plState pl = .selftest → s.pair.since + 2400000 ≤ s.now → ∀ ok,
      ∃ t : State, exec (.selftestDone ok) s = .next t ∧ t.plState pl = (if ok then .sweep else .failed)) ∧
    (s.plState pl = .sweep → s.pair.kfails < 15 → ∀ w, w.crc ≠ kettleCrc w.data →
      ∃ t : State, exec (.kettleWordError w) s = .next t ∧ t.pair.kfails = s.pair.kfails + 1 ∧ t.pair.resent = s.pair.resent + 1) ∧
    (s.plState pl = .sweep → s.pair.sinceFc + 212992 + s.pair.resent ≤ s.fc →
      ∃ t : State, exec .sweepDone s = .next t ∧ t.plState pl = .ready) ∧
    (s.mayJoin = true → ∃ t : State, exec .joinStart s = .next t ∧ t.pair.joining = some s.now) ∧
    (s.plState pl = .join → s.pair.joining.isSome = true → s.pair.aborted = false → s.pair.resumeWait = false →
      (s.pln (otherPl pl)).joinDrained = true → s.edgeDrained = true →
      exec .joinDrainDone s = .next { s with pair := { s.pair with resumeWait := true, sinceFc := s.fc } }) ∧
    (∀ j, s.pair.joining = some j → s.fcInSlot = 0 → s.now % 16 = 0 → s.pair.aborted = false → s.pair.resumeWait = true →
      s.pair.sinceFc + 512 ≤ s.fc → ∃ t : State, exec .joinResume s = .next t ∧ t.plState pl = .inService) ∧
    (∀ j, s.pair.joining = some j → j + s.gf rPairCfg 16 16 ≤ s.now → s.pair.resumeWait = false →
      exec .joinAbort s = .next s.abortJoin)) ∧
  (∀ (s : State) (pl : Pl), s.runs pl = true → s.done = true → s.fcInSlot = 0 → s.pw.dev = .run →
    (s.mirrorDue pl = true → exec (.mirrorRefresh pl) s =
      .next ((List.range s.variant.ports).foldl (fun t p => t.mirrorNi pl p) (s.modSb pl (fun b => { b with mirrorAt := some s.now })))) ∧
    ∀ g, g < 8 → bit (s.p pl (bDg g)) 0 = true → bit (s.p pl (bDg g)) 2 = false → (s.dumpG pl g).doneAt ≠ some s.now →
      s.dumpFalls pl g = true → s.dgUsed pl g < s.dgSlots pl g → (s.dumpG pl g).active = false →
      ∃ u : State, exec (.dumpBoundary pl g) s = .next (u.dumpTake pl g) ∧ (u.dumpG pl g).doneAt = some s.now) ∧
  (∀ (s u : State) (pl : Pl), s.runs pl = true →
    (∀ agent k, agent ≤ 95 → s.takeMgmt pl agent 6 none = some (k, u) → ∃ v : State,
      exec (.dumpAcknowledge pl agent) s = .next (v.pumpHost pl agent) ∧ (v.ni pl agent).dumpOut = (u.ni pl agent).dumpOut - 1) ∧
    (∀ g, (s.dumpG pl g).active = true → (s.dumpG pl g).writing = false → s.dumpComplete (s.dumpG pl g) = true → s.pw.dev = .run →
      (s.dumpLines g (s.dumpG pl g)).length ≤ 63 →
      ∃ v : State, (v.dumpG pl g).writing = true ∧ exec (.dumpRecordWrite pl g) s = .next (v.sbAdd pl (.dump g) true false 0 3
        (s.dgBase pl g + 64 * (s.dumpLines g (s.dumpG pl g)).length * ((s.p pl (bDg g + 0x1C)).toNat % s.dgSlots pl g))
        (s.dumpLines g (s.dumpG pl g)).length benAll (s.dumpLines g (s.dumpG pl g)))) ∧
    (∀ g q k o st, s.sbResponse pl q 4 isDump = some (k, o, st, u) → o.purpose = .dump g →
      exec (.dumpWriteRack pl q) s = .next (u.dumpAnswered pl g st))) ∧
  (∀ (s : State) (r : CwReq) (g : Nat) (v : W32), g < 8 →
    (s.writeAllowed r (bDg g + 0x20) → exec (.dgTailWrite r g v) s =
      .next (((s.touch (bDg g + 0x20)).eachPlane (fun pl t => t.dgTail g v pl)).answer r stOk none)) ∧
    (s.writeAllowed r (bDg g) → exec (.dgEnable r g) s =
      .next (((s.touch (bDg g)).eachPlane (fun pl t => t.dgCtrl g 1 pl)).answer r stOk none)))

/-! ### The block as a whole -/

/-- One step takes the command at the front of the queue and runs it on the block with the queue's rest. -/
def Obligations.StepRunsFront : Prop :=
  ∀ (s : State) (c : Instr) (rest : List Instr), s.pending = c :: rest → step s = exec c { s with pending := rest }

/-- The model's choice (log 3): on an empty queue one fc passes; the slot, the keys and the accepted configuration stay, and
in an fc of the slot's W in which nothing is under way to plane B so do the units of the fabric, the ports and the power
states. Where the slot's W fc are over, the slot reference is lost and every island unlocks (R119, R120). While the slot
reference is off, nothing but the fc count moves (R292). -/
def Obligations.EmptyQueueTicks : Prop :=
  ∀ s : State, s.pending = [] →
    (s.referenceRuns = false → step s = .next { s with fc := s.fc + 1 }) ∧
    (s.referenceRuns = true → ∃ t : State, step s = .next t ∧ t.fc = s.fc + 1 ∧ t.fcInSlot = s.fcInSlot + 1 ∧ t.slot = s.slot ∧
      t.pending = [] ∧ t.variant = s.variant ∧ t.keys = s.keys ∧ t.img = s.img ∧
      ((s.boot.slotSeen = false ∨ s.fcInSlot < s.img.w) → s.pair.edges = [] → (∀ x ∈ s.ports, x.2.ingress = []) →
        t.pw = s.pw ∧ t.ports = s.ports ∧ t.answers = s.answers ∧ (∀ pl p, t.ni pl p = s.ni pl p) ∧
        (∀ pl i q, t.router pl q i = s.router pl q i) ∧ ∀ pl e, t.mul pl e = s.mul pl e) ∧
      (s.boot.slotSeen = true → s.img.w ≤ s.fcInSlot → s.pair.edges = [] →
        ∀ pl ∈ s.allPlanes, ∀ i ∈ s.islandsIn pl, t.islLocked pl i = false))

/-- R27, R28, R29, R30: the constants of COL, by part, in every plane view; SCHED reads 0 until an image is accepted. -/
def Obligations.ColophonConstants : Prop :=
  ∀ (s : State) (pl : Pl), s.regWord pl 0x00 = s.variant.ident.toNat ∧ s.regWord pl 0x08 = s.variant.gen.toNat ∧
    s.regWord pl 0x0C = s.variant.portmap.toNat ∧ s.regWord pl 0x14 = s.variant.limits.toNat ∧
    s.regWord pl 0x18 = s.variant.capacity.toNat ∧ s.regWord pl 0x1C = 0x04004000 ∧
    (s.img.ok = false → s.regWord pl 0x10 = 0)

/-- Every command has an outcome in the block: it never faults and is never refused, and it changes neither what waits in the
queue nor which part of R30 the block is. -/
def Obligations.EveryCommandAnswersAndKeepsTheQueue : Prop :=
  ∀ (s : State) (c : Instr), ∃ t : State, exec c s = .next t ∧ t.pending = s.pending ∧ t.variant = s.variant

/-- Time, the keys, the accepted configuration and the test port change by the commands that Safety names for them, and by no
other. -/
def Obligations.OnlyNamedCommandsReachTimeKeysImageAndTestPort : Prop :=
  ∀ (s t : State) (c : Instr), exec c s = .next t →
    (movesTime c = false → t.slot = s.slot ∧ t.fc = s.fc ∧ t.fcInSlot = s.fcInSlot) ∧ (changesKeys c = false → t.keys = s.keys) ∧
    (changesImage c = false → t.img = s.img) ∧ (changesTest c = false → t.test = s.test)

/-- The tables of the block are in order at reset. -/
def Obligations.ResetIsInOrder : Prop :=
  State.reset.Canon

/-- Every step keeps the tables of the block in order: register words in canonical form, units under strictly rising numbers.
-/
def Obligations.StepsKeepOrder : Prop :=
  ∀ s t : State, s.Canon → step s = .next t → t.Canon
end

