-- ==== Sys2Proof/Laws/Tab.lean ====
section
/-!
SUPPORT. Sparse tables: what a read gives after a write, and that every operation keeps the canonical form.
-/
namespace Sys2Proof

variable {α : Type}

@[simp] theorem Tab.find_nil (k : Nat) : Tab.find ([] : Tab α) k = none := rfl

theorem Tab.find_ins_same (t : Tab α) (k : Nat) (v : α) : Tab.find (Tab.ins t k v) k = some v := by
  induction t with
  | nil => simp [Tab.ins, Tab.find]
  | cons x rest ih =>
    obtain ⟨j, w⟩ := x
    by_cases h : k < j
    · simp [Tab.ins, Tab.find, h]
    · by_cases e : j = k
      · simp [Tab.ins, Tab.find, e]
      · simp [Tab.ins, Tab.find, h, e, ih]

theorem Tab.find_ins_ne (t : Tab α) {k i : Nat} (v : α) (h : i ≠ k) : Tab.find (Tab.ins t k v) i = Tab.find t i := by
  induction t with
  | nil => simp [Tab.ins, Tab.find, Ne.symm h]
  | cons x rest ih =>
    obtain ⟨j, w⟩ := x
    by_cases hk : k < j
    · simp [Tab.ins, Tab.find, hk, Ne.symm h]
    · by_cases e : j = k
      · subst e; simp [Tab.ins, Tab.find, Ne.symm h]
      · simp [Tab.ins, Tab.find, hk, e, ih]

theorem Tab.find_del_ne (t : Tab α) {k i : Nat} (h : i ≠ k) : Tab.find (Tab.del t k) i = Tab.find t i := by
  induction t with
  | nil => rfl
  | cons x rest ih =>
    obtain ⟨j, w⟩ := x
    by_cases e : j = k
    · subst e; simp [Tab.del, Tab.find, Ne.symm h, ih]
    · simp [Tab.del, Tab.find, e, ih]

theorem Tab.find_del_same (t : Tab α) (k : Nat) : Tab.find (Tab.del t k) k = none := by
  induction t with
  | nil => rfl
  | cons x rest ih =>
    obtain ⟨j, w⟩ := x
    by_cases e : j = k
    · subst e; simp [Tab.del, ih]
    · simp [Tab.del, Tab.find, e, ih]

theorem Tab.mem_ins (t : Tab α) (k : Nat) (v : α) (x : Nat × α) (h : x ∈ Tab.ins t k v) : x = (k, v) ∨ x ∈ t := by
  induction t with
  | nil => simp [Tab.ins] at h; exact Or.inl h
  | cons y rest ih =>
    obtain ⟨j, w⟩ := y
    by_cases hk : k < j
    · simp [Tab.ins, hk] at h ⊢; exact h
    · by_cases e : j = k
      · simp [Tab.ins, e] at h ⊢; exact h.imp id Or.inr
      · simp [Tab.ins, hk, e] at h ⊢
        rcases h with h | h
        · exact Or.inr (Or.inl h)
        · exact (ih h).imp id Or.inr

theorem Tab.mem_del (t : Tab α) (k : Nat) (x : Nat × α) (h : x ∈ Tab.del t k) : x ∈ t := by
  induction t with
  | nil => exact h
  | cons y rest ih =>
    obtain ⟨j, w⟩ := y
    by_cases e : j = k
    · simp [Tab.del, e] at h ⊢; exact Or.inr (ih h)
    · simp [Tab.del, e] at h ⊢
      exact h.imp id ih

theorem Tab.sorted_ins (t : Tab α) (k : Nat) (v : α) (hs : Tab.Sorted t) : Tab.Sorted (Tab.ins t k v) := by
  induction t with
  | nil => simp [Tab.ins, Tab.Sorted]
  | cons y rest ih =>
    obtain ⟨j, w⟩ := y
    have hs' := hs
    rw [Tab.Sorted, List.pairwise_cons] at hs'
    by_cases hk : k < j
    · rw [Tab.ins, if_pos hk, Tab.Sorted, List.pairwise_cons]
      refine ⟨fun x hx => ?_, hs⟩
      rcases List.mem_cons.1 hx with rfl | hx
      · exact hk
      · exact Nat.lt_trans hk (hs'.1 x hx)
    · by_cases e : j = k
      · subst e
        rw [Tab.ins, if_neg hk, if_pos rfl, Tab.Sorted, List.pairwise_cons]
        exact ⟨hs'.1, hs'.2⟩
      · rw [Tab.ins, if_neg hk, if_neg e, Tab.Sorted, List.pairwise_cons]
        refine ⟨fun x hx => ?_, ih hs'.2⟩
        rcases Tab.mem_ins rest k v x hx with rfl | hx
        · show j < k; omega
        · exact hs'.1 x hx

theorem Tab.sorted_del (t : Tab α) (k : Nat) (hs : Tab.Sorted t) : Tab.Sorted (Tab.del t k) := by
  induction t with
  | nil => exact hs
  | cons y rest ih =>
    obtain ⟨j, w⟩ := y
    rw [Tab.Sorted, List.pairwise_cons] at hs
    by_cases e : j = k
    · rw [Tab.del, if_pos e]; exact ih hs.2
    · rw [Tab.del, if_neg e, Tab.Sorted, List.pairwise_cons]
      exact ⟨fun x hx => hs.1 x (Tab.mem_del rest k x hx), ih hs.2⟩

theorem Tab.sorted_wr [DecidableEq α] {t : Tab α} (h : Tab.Sorted t) (k : Nat) (v d : α) : Tab.Sorted (Tab.wr t k v d) := by
  unfold Tab.wr
  split
  · exact Tab.sorted_del t k h
  · exact Tab.sorted_ins t k v h

theorem Tab.sorted_upd [DecidableEq α] {t : Tab α} (h : Tab.Sorted t) (k : Nat) (d : α) (f : α → α) :
    Tab.Sorted (Tab.upd t k d f) := Tab.sorted_wr h k _ d

/-- Any number of changes leaves the keys in order. -/
theorem Tab.sorted_foldl_upd [DecidableEq α] {β : Type} (l : List β) (k : β → Nat) (d : α) (f : β → α → α) {t : Tab α}
    (h : Tab.Sorted t) : Tab.Sorted (l.foldl (fun t x => Tab.upd t (k x) d (f x)) t) := by
  induction l generalizing t with
  | nil => exact h
  | cons x l ih => exact ih (Tab.sorted_upd h _ _ _)

theorem Tab.sorted_filter {t : Tab α} (h : Tab.Sorted t) (p : Nat × α → Bool) : Tab.Sorted (t.filter p) :=
  List.Pairwise.filter p h

/-- A change of the values leaves the keys in order. -/
theorem Tab.sorted_map {t : Tab α} (h : Tab.Sorted t) (f : Nat × α → Nat × α) (hf : ∀ x, (f x).1 = x.1) : Tab.Sorted (t.map f) :=
  List.pairwise_map.2 (List.Pairwise.imp (fun {x y} hxy => by rw [hf x, hf y]; exact hxy) h)

theorem Tab.sorted_filterMap {t : Tab α} (h : Tab.Sorted t) (f : Nat × α → Option (Nat × α)) (hf : ∀ x y, f x = some y → y.1 = x.1) :
    Tab.Sorted (t.filterMap f) :=
  List.Pairwise.filterMap f (fun x y hxy a ha b hb => by rw [hf x a ha, hf y b hb]; exact hxy) h

theorem Tab.wf_nil (d : Nat → α) : Tab.wf ([] : Tab α) d := ⟨List.Pairwise.nil, by simp⟩

theorem Tab.wf_ins {t : Tab α} {d : Nat → α} (h : Tab.wf t d) (k : Nat) {v : α} (hv : v ≠ d k) : Tab.wf (Tab.ins t k v) d := by
  refine ⟨Tab.sorted_ins t k v h.1, fun x hx => ?_⟩
  rcases Tab.mem_ins t k v x hx with rfl | hx
  · exact hv
  · exact h.2 x hx

theorem Tab.wf_del {t : Tab α} {d : Nat → α} (h : Tab.wf t d) (k : Nat) : Tab.wf (Tab.del t k) d :=
  ⟨Tab.sorted_del t k h.1, fun x hx => h.2 x (Tab.mem_del t k x hx)⟩

/-- Writing keeps the canonical form. -/
theorem Tab.wf_wr [DecidableEq α] {t : Tab α} {d : Nat → α} (h : Tab.wf t d) (k : Nat) (v : α) :
    Tab.wf (Tab.wr t k v (d k)) d := by
  unfold Tab.wr
  split
  · exact Tab.wf_del h k
  · next hv => exact Tab.wf_ins h k hv

theorem Tab.wf_upd [DecidableEq α] {t : Tab α} {d : Nat → α} (h : Tab.wf t d) (k : Nat) (f : α → α) :
    Tab.wf (Tab.upd t k (d k) f) d := Tab.wf_wr h k _

theorem Tab.wf_filter {t : Tab α} {d : Nat → α} (h : Tab.wf t d) (p : Nat × α → Bool) : Tab.wf (t.filter p) d :=
  ⟨List.Pairwise.filter p h.1, fun x hx => h.2 x (List.mem_filter.1 hx).1⟩

/-- A read of the key that was written gives the value written. -/
@[simp] theorem Tab.rd_wr_same [DecidableEq α] (t : Tab α) (k : Nat) (v d : α) : Tab.rd (Tab.wr t k v d) k d = v := by
  unfold Tab.wr Tab.rd
  split
  · next hv => rw [Tab.find_del_same t k, hv]; rfl
  · rw [Tab.find_ins_same]; rfl

/-- Every other key reads as before. -/
theorem Tab.rd_wr_ne [DecidableEq α] (t : Tab α) {k i : Nat} (v d e : α) (h : i ≠ k) :
    Tab.rd (Tab.wr t k v d) i e = Tab.rd t i e := by
  unfold Tab.wr Tab.rd
  split
  · rw [Tab.find_del_ne t h]
  · rw [Tab.find_ins_ne t v h]

theorem Tab.rd_upd_ne [DecidableEq α] (t : Tab α) {k i : Nat} (d e : α) (f : α → α) (h : i ≠ k) :
    Tab.rd (Tab.upd t k d f) i e = Tab.rd t i e := Tab.rd_wr_ne t _ d e h

/-- An update reads as the change. -/
@[simp] theorem Tab.rd_upd_same [DecidableEq α] (t : Tab α) (k : Nat) (d : α) (f : α → α) :
    Tab.rd (Tab.upd t k d f) k d = f (Tab.rd t k d) := Tab.rd_wr_same t k _ d

end Sys2Proof
end

