-- ==== Sys2Proof/Laws/State.lean ====
section
/-!
SUPPORT. The field updates of the state: what each named update leaves as it is, and what is read after it.
-/
namespace Sys2Proof.Machine

variable (s : State)

/-! ### Planes: an update of one plane -/

@[simp] theorem State.setPln_pending (pl : Pl) (x : Plane) : (s.setPln pl x).pending = s.pending := by cases pl <;> rfl
@[simp] theorem State.setPln_variant (pl : Pl) (x : Plane) : (s.setPln pl x).variant = s.variant := by cases pl <;> rfl
@[simp] theorem State.setPln_freeCtr (pl : Pl) (x : Plane) : (s.setPln pl x).freeCtr = s.freeCtr := by cases pl <;> rfl
@[simp] theorem State.setPln_fc (pl : Pl) (x : Plane) : (s.setPln pl x).fc = s.fc := by cases pl <;> rfl
@[simp] theorem State.setPln_fcInSlot (pl : Pl) (x : Plane) : (s.setPln pl x).fcInSlot = s.fcInSlot := by cases pl <;> rfl
@[simp] theorem State.setPln_slot (pl : Pl) (x : Plane) : (s.setPln pl x).slot = s.slot := by cases pl <;> rfl
@[simp] theorem State.setPln_rf (pl : Pl) (x : Plane) : (s.setPln pl x).rf = s.rf := by cases pl <;> rfl
@[simp] theorem State.setPln_hw (pl : Pl) (x : Plane) : (s.setPln pl x).hw = s.hw := by cases pl <;> rfl
@[simp] theorem State.setPln_answers (pl : Pl) (x : Plane) : (s.setPln pl x).answers = s.answers := by cases pl <;> rfl
@[simp] theorem State.setPln_img (pl : Pl) (x : Plane) : (s.setPln pl x).img = s.img := by cases pl <;> rfl
@[simp] theorem State.setPln_boot (pl : Pl) (x : Plane) : (s.setPln pl x).boot = s.boot := by cases pl <;> rfl
@[simp] theorem State.setPln_keys (pl : Pl) (x : Plane) : (s.setPln pl x).keys = s.keys := by cases pl <;> rfl
@[simp] theorem State.setPln_oreset (pl : Pl) (x : Plane) : (s.setPln pl x).oreset = s.oreset := by cases pl <;> rfl
@[simp] theorem State.setPln_pw (pl : Pl) (x : Plane) : (s.setPln pl x).pw = s.pw := by cases pl <;> rfl
@[simp] theorem State.setPln_pads (pl : Pl) (x : Plane) : (s.setPln pl x).pads = s.pads := by cases pl <;> rfl
@[simp] theorem State.setPln_evt (pl : Pl) (x : Plane) : (s.setPln pl x).evt = s.evt := by cases pl <;> rfl
@[simp] theorem State.setPln_snp (pl : Pl) (x : Plane) : (s.setPln pl x).snp = s.snp := by cases pl <;> rfl
@[simp] theorem State.setPln_pair (pl : Pl) (x : Plane) : (s.setPln pl x).pair = s.pair := by cases pl <;> rfl
@[simp] theorem State.setPln_ports (pl : Pl) (x : Plane) : (s.setPln pl x).ports = s.ports := by cases pl <;> rfl
@[simp] theorem State.setPln_test (pl : Pl) (x : Plane) : (s.setPln pl x).test = s.test := by cases pl <;> rfl

@[simp] theorem State.setPln_pln (pl : Pl) (x : Plane) : (s.setPln pl x).pln pl = x := by cases pl <;> rfl
theorem State.setPln_pln_ne {pl q : Pl} (h : q ≠ pl) (x : Plane) : (s.setPln pl x).pln q = s.pln q := by
  cases pl <;> cases q <;> first | rfl | exact absurd rfl h
@[simp] theorem State.modPln_pln (pl : Pl) (f : Plane → Plane) : (s.modPln pl f).pln pl = f (s.pln pl) := State.setPln_pln s pl _
theorem State.modPln_pln_ne {pl q : Pl} (h : q ≠ pl) (f : Plane → Plane) : (s.modPln pl f).pln q = s.pln q := State.setPln_pln_ne s h _

@[simp] theorem State.modPln_pending (pl : Pl) (f : Plane → Plane) : (s.modPln pl f).pending = s.pending := State.setPln_pending s pl _
@[simp] theorem State.modPln_variant (pl : Pl) (f : Plane → Plane) : (s.modPln pl f).variant = s.variant := State.setPln_variant s pl _
@[simp] theorem State.modPln_freeCtr (pl : Pl) (f : Plane → Plane) : (s.modPln pl f).freeCtr = s.freeCtr := State.setPln_freeCtr s pl _
@[simp] theorem State.modPln_fc (pl : Pl) (f : Plane → Plane) : (s.modPln pl f).fc = s.fc := State.setPln_fc s pl _
@[simp] theorem State.modPln_fcInSlot (pl : Pl) (f : Plane → Plane) : (s.modPln pl f).fcInSlot = s.fcInSlot := State.setPln_fcInSlot s pl _
@[simp] theorem State.modPln_slot (pl : Pl) (f : Plane → Plane) : (s.modPln pl f).slot = s.slot := State.setPln_slot s pl _
@[simp] theorem State.modPln_rf (pl : Pl) (f : Plane → Plane) : (s.modPln pl f).rf = s.rf := State.setPln_rf s pl _
@[simp] theorem State.modPln_hw (pl : Pl) (f : Plane → Plane) : (s.modPln pl f).hw = s.hw := State.setPln_hw s pl _
@[simp] theorem State.modPln_answers (pl : Pl) (f : Plane → Plane) : (s.modPln pl f).answers = s.answers := State.setPln_answers s pl _
@[simp] theorem State.modPln_img (pl : Pl) (f : Plane → Plane) : (s.modPln pl f).img = s.img := State.setPln_img s pl _
@[simp] theorem State.modPln_boot (pl : Pl) (f : Plane → Plane) : (s.modPln pl f).boot = s.boot := State.setPln_boot s pl _
@[simp] theorem State.modPln_keys (pl : Pl) (f : Plane → Plane) : (s.modPln pl f).keys = s.keys := State.setPln_keys s pl _
@[simp] theorem State.modPln_oreset (pl : Pl) (f : Plane → Plane) : (s.modPln pl f).oreset = s.oreset := State.setPln_oreset s pl _
@[simp] theorem State.modPln_pw (pl : Pl) (f : Plane → Plane) : (s.modPln pl f).pw = s.pw := State.setPln_pw s pl _
@[simp] theorem State.modPln_pads (pl : Pl) (f : Plane → Plane) : (s.modPln pl f).pads = s.pads := State.setPln_pads s pl _
@[simp] theorem State.modPln_evt (pl : Pl) (f : Plane → Plane) : (s.modPln pl f).evt = s.evt := State.setPln_evt s pl _
@[simp] theorem State.modPln_snp (pl : Pl) (f : Plane → Plane) : (s.modPln pl f).snp = s.snp := State.setPln_snp s pl _
@[simp] theorem State.modPln_pair (pl : Pl) (f : Plane → Plane) : (s.modPln pl f).pair = s.pair := State.setPln_pair s pl _
@[simp] theorem State.modPln_ports (pl : Pl) (f : Plane → Plane) : (s.modPln pl f).ports = s.ports := State.setPln_ports s pl _
@[simp] theorem State.modPln_test (pl : Pl) (f : Plane → Plane) : (s.modPln pl f).test = s.test := State.setPln_test s pl _

@[simp] theorem State.pset_pending (pl : Pl) (off : Nat) (v : W32) : (s.pset pl off v).pending = s.pending := State.setPln_pending s pl _
@[simp] theorem State.pset_variant (pl : Pl) (off : Nat) (v : W32) : (s.pset pl off v).variant = s.variant := State.setPln_variant s pl _
@[simp] theorem State.pset_freeCtr (pl : Pl) (off : Nat) (v : W32) : (s.pset pl off v).freeCtr = s.freeCtr := State.setPln_freeCtr s pl _
@[simp] theorem State.pset_fc (pl : Pl) (off : Nat) (v : W32) : (s.pset pl off v).fc = s.fc := State.setPln_fc s pl _
@[simp] theorem State.pset_fcInSlot (pl : Pl) (off : Nat) (v : W32) : (s.pset pl off v).fcInSlot = s.fcInSlot := State.setPln_fcInSlot s pl _
@[simp] theorem State.pset_slot (pl : Pl) (off : Nat) (v : W32) : (s.pset pl off v).slot = s.slot := State.setPln_slot s pl _
@[simp] theorem State.pset_rf (pl : Pl) (off : Nat) (v : W32) : (s.pset pl off v).rf = s.rf := State.setPln_rf s pl _
@[simp] theorem State.pset_hw (pl : Pl) (off : Nat) (v : W32) : (s.pset pl off v).hw = s.hw := State.setPln_hw s pl _
@[simp] theorem State.pset_answers (pl : Pl) (off : Nat) (v : W32) : (s.pset pl off v).answers = s.answers := State.setPln_answers s pl _
@[simp] theorem State.pset_img (pl : Pl) (off : Nat) (v : W32) : (s.pset pl off v).img = s.img := State.setPln_img s pl _
@[simp] theorem State.pset_boot (pl : Pl) (off : Nat) (v : W32) : (s.pset pl off v).boot = s.boot := State.setPln_boot s pl _
@[simp] theorem State.pset_keys (pl : Pl) (off : Nat) (v : W32) : (s.pset pl off v).keys = s.keys := State.setPln_keys s pl _
@[simp] theorem State.pset_oreset (pl : Pl) (off : Nat) (v : W32) : (s.pset pl off v).oreset = s.oreset := State.setPln_oreset s pl _
@[simp] theorem State.pset_pw (pl : Pl) (off : Nat) (v : W32) : (s.pset pl off v).pw = s.pw := State.setPln_pw s pl _
@[simp] theorem State.pset_pads (pl : Pl) (off : Nat) (v : W32) : (s.pset pl off v).pads = s.pads := State.setPln_pads s pl _
@[simp] theorem State.pset_evt (pl : Pl) (off : Nat) (v : W32) : (s.pset pl off v).evt = s.evt := State.setPln_evt s pl _
@[simp] theorem State.pset_snp (pl : Pl) (off : Nat) (v : W32) : (s.pset pl off v).snp = s.snp := State.setPln_snp s pl _
@[simp] theorem State.pset_pair (pl : Pl) (off : Nat) (v : W32) : (s.pset pl off v).pair = s.pair := State.setPln_pair s pl _
@[simp] theorem State.pset_ports (pl : Pl) (off : Nat) (v : W32) : (s.pset pl off v).ports = s.ports := State.setPln_ports s pl _
@[simp] theorem State.pset_test (pl : Pl) (off : Nat) (v : W32) : (s.pset pl off v).test = s.test := State.setPln_test s pl _

@[simp] theorem State.modNi_pending (pl : Pl) (p : Nat) (f : Ni → Ni) : (s.modNi pl p f).pending = s.pending := State.setPln_pending s pl _
@[simp] theorem State.modNi_variant (pl : Pl) (p : Nat) (f : Ni → Ni) : (s.modNi pl p f).variant = s.variant := State.setPln_variant s pl _
@[simp] theorem State.modNi_freeCtr (pl : Pl) (p : Nat) (f : Ni → Ni) : (s.modNi pl p f).freeCtr = s.freeCtr := State.setPln_freeCtr s pl _
@[simp] theorem State.modNi_fc (pl : Pl) (p : Nat) (f : Ni → Ni) : (s.modNi pl p f).fc = s.fc := State.setPln_fc s pl _
@[simp] theorem State.modNi_fcInSlot (pl : Pl) (p : Nat) (f : Ni → Ni) : (s.modNi pl p f).fcInSlot = s.fcInSlot := State.setPln_fcInSlot s pl _
@[simp] theorem State.modNi_slot (pl : Pl) (p : Nat) (f : Ni → Ni) : (s.modNi pl p f).slot = s.slot := State.setPln_slot s pl _
@[simp] theorem State.modNi_rf (pl : Pl) (p : Nat) (f : Ni → Ni) : (s.modNi pl p f).rf = s.rf := State.setPln_rf s pl _
@[simp] theorem State.modNi_hw (pl : Pl) (p : Nat) (f : Ni → Ni) : (s.modNi pl p f).hw = s.hw := State.setPln_hw s pl _
@[simp] theorem State.modNi_answers (pl : Pl) (p : Nat) (f : Ni → Ni) : (s.modNi pl p f).answers = s.answers := State.setPln_answers s pl _
@[simp] theorem State.modNi_img (pl : Pl) (p : Nat) (f : Ni → Ni) : (s.modNi pl p f).img = s.img := State.setPln_img s pl _
@[simp] theorem State.modNi_boot (pl : Pl) (p : Nat) (f : Ni → Ni) : (s.modNi pl p f).boot = s.boot := State.setPln_boot s pl _
@[simp] theorem State.modNi_keys (pl : Pl) (p : Nat) (f : Ni → Ni) : (s.modNi pl p f).keys = s.keys := State.setPln_keys s pl _
@[simp] theorem State.modNi_oreset (pl : Pl) (p : Nat) (f : Ni → Ni) : (s.modNi pl p f).oreset = s.oreset := State.setPln_oreset s pl _
@[simp] theorem State.modNi_pw (pl : Pl) (p : Nat) (f : Ni → Ni) : (s.modNi pl p f).pw = s.pw := State.setPln_pw s pl _
@[simp] theorem State.modNi_pads (pl : Pl) (p : Nat) (f : Ni → Ni) : (s.modNi pl p f).pads = s.pads := State.setPln_pads s pl _
@[simp] theorem State.modNi_evt (pl : Pl) (p : Nat) (f : Ni → Ni) : (s.modNi pl p f).evt = s.evt := State.setPln_evt s pl _
@[simp] theorem State.modNi_snp (pl : Pl) (p : Nat) (f : Ni → Ni) : (s.modNi pl p f).snp = s.snp := State.setPln_snp s pl _
@[simp] theorem State.modNi_pair (pl : Pl) (p : Nat) (f : Ni → Ni) : (s.modNi pl p f).pair = s.pair := State.setPln_pair s pl _
@[simp] theorem State.modNi_ports (pl : Pl) (p : Nat) (f : Ni → Ni) : (s.modNi pl p f).ports = s.ports := State.setPln_ports s pl _
@[simp] theorem State.modNi_test (pl : Pl) (p : Nat) (f : Ni → Ni) : (s.modNi pl p f).test = s.test := State.setPln_test s pl _

@[simp] theorem State.modSb_pending (pl : Pl) (f : Sb → Sb) : (s.modSb pl f).pending = s.pending := State.setPln_pending s pl _
@[simp] theorem State.modSb_variant (pl : Pl) (f : Sb → Sb) : (s.modSb pl f).variant = s.variant := State.setPln_variant s pl _
@[simp] theorem State.modSb_freeCtr (pl : Pl) (f : Sb → Sb) : (s.modSb pl f).freeCtr = s.freeCtr := State.setPln_freeCtr s pl _
@[simp] theorem State.modSb_fc (pl : Pl) (f : Sb → Sb) : (s.modSb pl f).fc = s.fc := State.setPln_fc s pl _
@[simp] theorem State.modSb_fcInSlot (pl : Pl) (f : Sb → Sb) : (s.modSb pl f).fcInSlot = s.fcInSlot := State.setPln_fcInSlot s pl _
@[simp] theorem State.modSb_slot (pl : Pl) (f : Sb → Sb) : (s.modSb pl f).slot = s.slot := State.setPln_slot s pl _
@[simp] theorem State.modSb_rf (pl : Pl) (f : Sb → Sb) : (s.modSb pl f).rf = s.rf := State.setPln_rf s pl _
@[simp] theorem State.modSb_hw (pl : Pl) (f : Sb → Sb) : (s.modSb pl f).hw = s.hw := State.setPln_hw s pl _
@[simp] theorem State.modSb_answers (pl : Pl) (f : Sb → Sb) : (s.modSb pl f).answers = s.answers := State.setPln_answers s pl _
@[simp] theorem State.modSb_img (pl : Pl) (f : Sb → Sb) : (s.modSb pl f).img = s.img := State.setPln_img s pl _
@[simp] theorem State.modSb_boot (pl : Pl) (f : Sb → Sb) : (s.modSb pl f).boot = s.boot := State.setPln_boot s pl _
@[simp] theorem State.modSb_keys (pl : Pl) (f : Sb → Sb) : (s.modSb pl f).keys = s.keys := State.setPln_keys s pl _
@[simp] theorem State.modSb_oreset (pl : Pl) (f : Sb → Sb) : (s.modSb pl f).oreset = s.oreset := State.setPln_oreset s pl _
@[simp] theorem State.modSb_pw (pl : Pl) (f : Sb → Sb) : (s.modSb pl f).pw = s.pw := State.setPln_pw s pl _
@[simp] theorem State.modSb_pads (pl : Pl) (f : Sb → Sb) : (s.modSb pl f).pads = s.pads := State.setPln_pads s pl _
@[simp] theorem State.modSb_evt (pl : Pl) (f : Sb → Sb) : (s.modSb pl f).evt = s.evt := State.setPln_evt s pl _
@[simp] theorem State.modSb_snp (pl : Pl) (f : Sb → Sb) : (s.modSb pl f).snp = s.snp := State.setPln_snp s pl _
@[simp] theorem State.modSb_pair (pl : Pl) (f : Sb → Sb) : (s.modSb pl f).pair = s.pair := State.setPln_pair s pl _
@[simp] theorem State.modSb_ports (pl : Pl) (f : Sb → Sb) : (s.modSb pl f).ports = s.ports := State.setPln_ports s pl _
@[simp] theorem State.modSb_test (pl : Pl) (f : Sb → Sb) : (s.modSb pl f).test = s.test := State.setPln_test s pl _

@[simp] theorem State.modMul_pending (pl : Pl) (e : Nat) (f : Mule → Mule) : (s.modMul pl e f).pending = s.pending := State.setPln_pending s pl _
@[simp] theorem State.modMul_variant (pl : Pl) (e : Nat) (f : Mule → Mule) : (s.modMul pl e f).variant = s.variant := State.setPln_variant s pl _
@[simp] theorem State.modMul_freeCtr (pl : Pl) (e : Nat) (f : Mule → Mule) : (s.modMul pl e f).freeCtr = s.freeCtr := State.setPln_freeCtr s pl _
@[simp] theorem State.modMul_fc (pl : Pl) (e : Nat) (f : Mule → Mule) : (s.modMul pl e f).fc = s.fc := State.setPln_fc s pl _
@[simp] theorem State.modMul_fcInSlot (pl : Pl) (e : Nat) (f : Mule → Mule) : (s.modMul pl e f).fcInSlot = s.fcInSlot := State.setPln_fcInSlot s pl _
@[simp] theorem State.modMul_slot (pl : Pl) (e : Nat) (f : Mule → Mule) : (s.modMul pl e f).slot = s.slot := State.setPln_slot s pl _
@[simp] theorem State.modMul_rf (pl : Pl) (e : Nat) (f : Mule → Mule) : (s.modMul pl e f).rf = s.rf := State.setPln_rf s pl _
@[simp] theorem State.modMul_hw (pl : Pl) (e : Nat) (f : Mule → Mule) : (s.modMul pl e f).hw = s.hw := State.setPln_hw s pl _
@[simp] theorem State.modMul_answers (pl : Pl) (e : Nat) (f : Mule → Mule) : (s.modMul pl e f).answers = s.answers := State.setPln_answers s pl _
@[simp] theorem State.modMul_img (pl : Pl) (e : Nat) (f : Mule → Mule) : (s.modMul pl e f).img = s.img := State.setPln_img s pl _
@[simp] theorem State.modMul_boot (pl : Pl) (e : Nat) (f : Mule → Mule) : (s.modMul pl e f).boot = s.boot := State.setPln_boot s pl _
@[simp] theorem State.modMul_keys (pl : Pl) (e : Nat) (f : Mule → Mule) : (s.modMul pl e f).keys = s.keys := State.setPln_keys s pl _
@[simp] theorem State.modMul_oreset (pl : Pl) (e : Nat) (f : Mule → Mule) : (s.modMul pl e f).oreset = s.oreset := State.setPln_oreset s pl _
@[simp] theorem State.modMul_pw (pl : Pl) (e : Nat) (f : Mule → Mule) : (s.modMul pl e f).pw = s.pw := State.setPln_pw s pl _
@[simp] theorem State.modMul_pads (pl : Pl) (e : Nat) (f : Mule → Mule) : (s.modMul pl e f).pads = s.pads := State.setPln_pads s pl _
@[simp] theorem State.modMul_evt (pl : Pl) (e : Nat) (f : Mule → Mule) : (s.modMul pl e f).evt = s.evt := State.setPln_evt s pl _
@[simp] theorem State.modMul_snp (pl : Pl) (e : Nat) (f : Mule → Mule) : (s.modMul pl e f).snp = s.snp := State.setPln_snp s pl _
@[simp] theorem State.modMul_pair (pl : Pl) (e : Nat) (f : Mule → Mule) : (s.modMul pl e f).pair = s.pair := State.setPln_pair s pl _
@[simp] theorem State.modMul_ports (pl : Pl) (e : Nat) (f : Mule → Mule) : (s.modMul pl e f).ports = s.ports := State.setPln_ports s pl _
@[simp] theorem State.modMul_test (pl : Pl) (e : Nat) (f : Mule → Mule) : (s.modMul pl e f).test = s.test := State.setPln_test s pl _

@[simp] theorem State.modRouter_pending (pl : Pl) (quire : Bool) (i : Nat) (f : Router → Router) : (s.modRouter pl quire i f).pending = s.pending := State.setPln_pending s pl _
@[simp] theorem State.modRouter_variant (pl : Pl) (quire : Bool) (i : Nat) (f : Router → Router) : (s.modRouter pl quire i f).variant = s.variant := State.setPln_variant s pl _
@[simp] theorem State.modRouter_freeCtr (pl : Pl) (quire : Bool) (i : Nat) (f : Router → Router) : (s.modRouter pl quire i f).freeCtr = s.freeCtr := State.setPln_freeCtr s pl _
@[simp] theorem State.modRouter_fc (pl : Pl) (quire : Bool) (i : Nat) (f : Router → Router) : (s.modRouter pl quire i f).fc = s.fc := State.setPln_fc s pl _
@[simp] theorem State.modRouter_fcInSlot (pl : Pl) (quire : Bool) (i : Nat) (f : Router → Router) : (s.modRouter pl quire i f).fcInSlot = s.fcInSlot := State.setPln_fcInSlot s pl _
@[simp] theorem State.modRouter_slot (pl : Pl) (quire : Bool) (i : Nat) (f : Router → Router) : (s.modRouter pl quire i f).slot = s.slot := State.setPln_slot s pl _
@[simp] theorem State.modRouter_rf (pl : Pl) (quire : Bool) (i : Nat) (f : Router → Router) : (s.modRouter pl quire i f).rf = s.rf := State.setPln_rf s pl _
@[simp] theorem State.modRouter_hw (pl : Pl) (quire : Bool) (i : Nat) (f : Router → Router) : (s.modRouter pl quire i f).hw = s.hw := State.setPln_hw s pl _
@[simp] theorem State.modRouter_answers (pl : Pl) (quire : Bool) (i : Nat) (f : Router → Router) : (s.modRouter pl quire i f).answers = s.answers := State.setPln_answers s pl _
@[simp] theorem State.modRouter_img (pl : Pl) (quire : Bool) (i : Nat) (f : Router → Router) : (s.modRouter pl quire i f).img = s.img := State.setPln_img s pl _
@[simp] theorem State.modRouter_boot (pl : Pl) (quire : Bool) (i : Nat) (f : Router → Router) : (s.modRouter pl quire i f).boot = s.boot := State.setPln_boot s pl _
@[simp] theorem State.modRouter_keys (pl : Pl) (quire : Bool) (i : Nat) (f : Router → Router) : (s.modRouter pl quire i f).keys = s.keys := State.setPln_keys s pl _
@[simp] theorem State.modRouter_oreset (pl : Pl) (quire : Bool) (i : Nat) (f : Router → Router) : (s.modRouter pl quire i f).oreset = s.oreset := State.setPln_oreset s pl _
@[simp] theorem State.modRouter_pw (pl : Pl) (quire : Bool) (i : Nat) (f : Router → Router) : (s.modRouter pl quire i f).pw = s.pw := State.setPln_pw s pl _
@[simp] theorem State.modRouter_pads (pl : Pl) (quire : Bool) (i : Nat) (f : Router → Router) : (s.modRouter pl quire i f).pads = s.pads := State.setPln_pads s pl _
@[simp] theorem State.modRouter_evt (pl : Pl) (quire : Bool) (i : Nat) (f : Router → Router) : (s.modRouter pl quire i f).evt = s.evt := State.setPln_evt s pl _
@[simp] theorem State.modRouter_snp (pl : Pl) (quire : Bool) (i : Nat) (f : Router → Router) : (s.modRouter pl quire i f).snp = s.snp := State.setPln_snp s pl _
@[simp] theorem State.modRouter_pair (pl : Pl) (quire : Bool) (i : Nat) (f : Router → Router) : (s.modRouter pl quire i f).pair = s.pair := State.setPln_pair s pl _
@[simp] theorem State.modRouter_ports (pl : Pl) (quire : Bool) (i : Nat) (f : Router → Router) : (s.modRouter pl quire i f).ports = s.ports := State.setPln_ports s pl _
@[simp] theorem State.modRouter_test (pl : Pl) (quire : Bool) (i : Nat) (f : Router → Router) : (s.modRouter pl quire i f).test = s.test := State.setPln_test s pl _

/-! ### Shared words, ports and quires -/

@[simp] theorem State.gset_pending (off : Nat) (v : W32) : (s.gset off v).pending = s.pending := rfl
@[simp] theorem State.gset_variant (off : Nat) (v : W32) : (s.gset off v).variant = s.variant := rfl
@[simp] theorem State.gset_freeCtr (off : Nat) (v : W32) : (s.gset off v).freeCtr = s.freeCtr := rfl
@[simp] theorem State.gset_fc (off : Nat) (v : W32) : (s.gset off v).fc = s.fc := rfl
@[simp] theorem State.gset_fcInSlot (off : Nat) (v : W32) : (s.gset off v).fcInSlot = s.fcInSlot := rfl
@[simp] theorem State.gset_slot (off : Nat) (v : W32) : (s.gset off v).slot = s.slot := rfl
@[simp] theorem State.gset_hw (off : Nat) (v : W32) : (s.gset off v).hw = s.hw := rfl
@[simp] theorem State.gset_answers (off : Nat) (v : W32) : (s.gset off v).answers = s.answers := rfl
@[simp] theorem State.gset_img (off : Nat) (v : W32) : (s.gset off v).img = s.img := rfl
@[simp] theorem State.gset_boot (off : Nat) (v : W32) : (s.gset off v).boot = s.boot := rfl
@[simp] theorem State.gset_keys (off : Nat) (v : W32) : (s.gset off v).keys = s.keys := rfl
@[simp] theorem State.gset_oreset (off : Nat) (v : W32) : (s.gset off v).oreset = s.oreset := rfl
@[simp] theorem State.gset_pw (off : Nat) (v : W32) : (s.gset off v).pw = s.pw := rfl
@[simp] theorem State.gset_pads (off : Nat) (v : W32) : (s.gset off v).pads = s.pads := rfl
@[simp] theorem State.gset_evt (off : Nat) (v : W32) : (s.gset off v).evt = s.evt := rfl
@[simp] theorem State.gset_snp (off : Nat) (v : W32) : (s.gset off v).snp = s.snp := rfl
@[simp] theorem State.gset_pair (off : Nat) (v : W32) : (s.gset off v).pair = s.pair := rfl
@[simp] theorem State.gset_ports (off : Nat) (v : W32) : (s.gset off v).ports = s.ports := rfl
@[simp] theorem State.gset_test (off : Nat) (v : W32) : (s.gset off v).test = s.test := rfl
@[simp] theorem State.gset_pa (off : Nat) (v : W32) : (s.gset off v).pa = s.pa := rfl
@[simp] theorem State.gset_pb (off : Nat) (v : W32) : (s.gset off v).pb = s.pb := rfl
@[simp] theorem State.gset_pln (off : Nat) (v : W32) (pl : Pl) : (s.gset off v).pln pl = s.pln pl := by cases pl <;> rfl

@[simp] theorem State.modPort_pending (p : Nat) (f : Port → Port) : (s.modPort p f).pending = s.pending := rfl
@[simp] theorem State.modPort_variant (p : Nat) (f : Port → Port) : (s.modPort p f).variant = s.variant := rfl
@[simp] theorem State.modPort_freeCtr (p : Nat) (f : Port → Port) : (s.modPort p f).freeCtr = s.freeCtr := rfl
@[simp] theorem State.modPort_fc (p : Nat) (f : Port → Port) : (s.modPort p f).fc = s.fc := rfl
@[simp] theorem State.modPort_fcInSlot (p : Nat) (f : Port → Port) : (s.modPort p f).fcInSlot = s.fcInSlot := rfl
@[simp] theorem State.modPort_slot (p : Nat) (f : Port → Port) : (s.modPort p f).slot = s.slot := rfl
@[simp] theorem State.modPort_rf (p : Nat) (f : Port → Port) : (s.modPort p f).rf = s.rf := rfl
@[simp] theorem State.modPort_hw (p : Nat) (f : Port → Port) : (s.modPort p f).hw = s.hw := rfl
@[simp] theorem State.modPort_answers (p : Nat) (f : Port → Port) : (s.modPort p f).answers = s.answers := rfl
@[simp] theorem State.modPort_img (p : Nat) (f : Port → Port) : (s.modPort p f).img = s.img := rfl
@[simp] theorem State.modPort_boot (p : Nat) (f : Port → Port) : (s.modPort p f).boot = s.boot := rfl
@[simp] theorem State.modPort_keys (p : Nat) (f : Port → Port) : (s.modPort p f).keys = s.keys := rfl
@[simp] theorem State.modPort_oreset (p : Nat) (f : Port → Port) : (s.modPort p f).oreset = s.oreset := rfl
@[simp] theorem State.modPort_pw (p : Nat) (f : Port → Port) : (s.modPort p f).pw = s.pw := rfl
@[simp] theorem State.modPort_pads (p : Nat) (f : Port → Port) : (s.modPort p f).pads = s.pads := rfl
@[simp] theorem State.modPort_evt (p : Nat) (f : Port → Port) : (s.modPort p f).evt = s.evt := rfl
@[simp] theorem State.modPort_snp (p : Nat) (f : Port → Port) : (s.modPort p f).snp = s.snp := rfl
@[simp] theorem State.modPort_pair (p : Nat) (f : Port → Port) : (s.modPort p f).pair = s.pair := rfl
@[simp] theorem State.modPort_test (p : Nat) (f : Port → Port) : (s.modPort p f).test = s.test := rfl
@[simp] theorem State.modPort_pa (p : Nat) (f : Port → Port) : (s.modPort p f).pa = s.pa := rfl
@[simp] theorem State.modPort_pb (p : Nat) (f : Port → Port) : (s.modPort p f).pb = s.pb := rfl
@[simp] theorem State.modPort_pln (p : Nat) (f : Port → Port) (pl : Pl) : (s.modPort p f).pln pl = s.pln pl := by cases pl <;> rfl

@[simp] theorem State.modQp_pending (q : Nat) (f : QPower → QPower) : (s.modQp q f).pending = s.pending := rfl
@[simp] theorem State.modQp_variant (q : Nat) (f : QPower → QPower) : (s.modQp q f).variant = s.variant := rfl
@[simp] theorem State.modQp_freeCtr (q : Nat) (f : QPower → QPower) : (s.modQp q f).freeCtr = s.freeCtr := rfl
@[simp] theorem State.modQp_fc (q : Nat) (f : QPower → QPower) : (s.modQp q f).fc = s.fc := rfl
@[simp] theorem State.modQp_fcInSlot (q : Nat) (f : QPower → QPower) : (s.modQp q f).fcInSlot = s.fcInSlot := rfl
@[simp] theorem State.modQp_slot (q : Nat) (f : QPower → QPower) : (s.modQp q f).slot = s.slot := rfl
@[simp] theorem State.modQp_rf (q : Nat) (f : QPower → QPower) : (s.modQp q f).rf = s.rf := rfl
@[simp] theorem State.modQp_hw (q : Nat) (f : QPower → QPower) : (s.modQp q f).hw = s.hw := rfl
@[simp] theorem State.modQp_answers (q : Nat) (f : QPower → QPower) : (s.modQp q f).answers = s.answers := rfl
@[simp] theorem State.modQp_img (q : Nat) (f : QPower → QPower) : (s.modQp q f).img = s.img := rfl
@[simp] theorem State.modQp_boot (q : Nat) (f : QPower → QPower) : (s.modQp q f).boot = s.boot := rfl
@[simp] theorem State.modQp_keys (q : Nat) (f : QPower → QPower) : (s.modQp q f).keys = s.keys := rfl
@[simp] theorem State.modQp_oreset (q : Nat) (f : QPower → QPower) : (s.modQp q f).oreset = s.oreset := rfl
@[simp] theorem State.modQp_pads (q : Nat) (f : QPower → QPower) : (s.modQp q f).pads = s.pads := rfl
@[simp] theorem State.modQp_evt (q : Nat) (f : QPower → QPower) : (s.modQp q f).evt = s.evt := rfl
@[simp] theorem State.modQp_snp (q : Nat) (f : QPower → QPower) : (s.modQp q f).snp = s.snp := rfl
@[simp] theorem State.modQp_pair (q : Nat) (f : QPower → QPower) : (s.modQp q f).pair = s.pair := rfl
@[simp] theorem State.modQp_ports (q : Nat) (f : QPower → QPower) : (s.modQp q f).ports = s.ports := rfl
@[simp] theorem State.modQp_test (q : Nat) (f : QPower → QPower) : (s.modQp q f).test = s.test := rfl
@[simp] theorem State.modQp_pa (q : Nat) (f : QPower → QPower) : (s.modQp q f).pa = s.pa := rfl
@[simp] theorem State.modQp_pb (q : Nat) (f : QPower → QPower) : (s.modQp q f).pb = s.pb := rfl
@[simp] theorem State.modQp_pln (q : Nat) (f : QPower → QPower) (pl : Pl) : (s.modQp q f).pln pl = s.pln pl := by cases pl <;> rfl

/-! ### What is read after an update -/

@[simp] theorem State.g_gset (off : Nat) (v : W32) : (s.gset off v).g off = v := Tab.rd_wr_same _ _ _ _
theorem State.g_gset_ne {o off : Nat} (h : o ≠ off) (v : W32) : (s.gset off v).g o = s.g o := Tab.rd_wr_ne _ _ _ _ h
@[simp] theorem State.p_pset (pl : Pl) (off : Nat) (v : W32) : (s.pset pl off v).p pl off = v := by
  simp [State.p, State.pset, Plane.w, Plane.wset, Tab.rd_wr_same]
theorem State.p_pset_ne (pl : Pl) {o off : Nat} (h : o ≠ off) (v : W32) : (s.pset pl off v).p pl o = s.p pl o := by
  simp [State.p, State.pset, Plane.w, Plane.wset, Tab.rd_wr_ne _ _ _ _ h]
@[simp] theorem State.ni_modNi (pl : Pl) (p : Nat) (f : Ni → Ni) : (s.modNi pl p f).ni pl p = f (s.ni pl p) := by
  simp [State.ni, State.modNi, Tab.upd, Tab.rd_wr_same]
theorem State.ni_modNi_ne (pl : Pl) {p q : Nat} (h : q ≠ p) (f : Ni → Ni) : (s.modNi pl p f).ni pl q = s.ni pl q := by
  simp [State.ni, State.modNi, Tab.upd, Tab.rd_wr_ne _ _ _ _ h]
@[simp] theorem State.sb_modSb (pl : Pl) (f : Sb → Sb) : (s.modSb pl f).sb pl = f (s.sb pl) := by simp [State.sb, State.modSb]
@[simp] theorem State.mul_modMul (pl : Pl) (e : Nat) (f : Mule → Mule) : (s.modMul pl e f).mul pl e = f (s.mul pl e) := by
  simp [State.mul, State.modMul, Tab.upd, Tab.rd_wr_same]
theorem State.mul_modMul_ne (pl : Pl) {e q : Nat} (h : q ≠ e) (f : Mule → Mule) : (s.modMul pl e f).mul pl q = s.mul pl q := by
  simp [State.mul, State.modMul, Tab.upd, Tab.rd_wr_ne _ _ _ _ h]
@[simp] theorem State.router_modRouter (pl : Pl) (quire : Bool) (i : Nat) (f : Router → Router) :
    (s.modRouter pl quire i f).router pl quire i = f (s.router pl quire i) := by
  cases quire <;> simp [State.router, State.modRouter, Tab.upd, Tab.rd_wr_same]
theorem State.router_modRouter_ne (pl : Pl) (quire : Bool) {i j : Nat} (h : j ≠ i) (f : Router → Router) :
    (s.modRouter pl quire i f).router pl quire j = s.router pl quire j := by
  cases quire <;> simp [State.router, State.modRouter, Tab.upd, Tab.rd_wr_ne _ _ _ _ h]
@[simp] theorem State.port_modPort (p : Nat) (f : Port → Port) : (s.modPort p f).port p = f (s.port p) := Tab.rd_wr_same _ _ _ _
theorem State.port_modPort_ne {p q : Nat} (h : q ≠ p) (f : Port → Port) : (s.modPort p f).port q = s.port q := Tab.rd_wr_ne _ _ _ _ h
@[simp] theorem State.qp_modQp (q : Nat) (f : QPower → QPower) : (s.modQp q f).qp q = f (s.qp q) := Tab.rd_wr_same _ _ _ _
theorem State.qp_modQp_ne {p q : Nat} (h : p ≠ q) (f : QPower → QPower) : (s.modQp q f).qp p = s.qp p := Tab.rd_wr_ne _ _ _ _ h

/-! ### Payloads of which some bytes are free -/

/-- The low bytes of a merged granule. -/
theorem fld_mergeLine_low (old new : Line) {m : BitVec 64} {k : Nat} (hk : k ≤ 512) (hm : benMask m = BitVec.ofNat 512 (2 ^ k - 1)) :
    fld (mergeLine old new m) 0 k = fld new 0 k := by
  apply Nat.eq_of_testBit_eq
  intro i
  simp only [fld, mergeLine, hm, Nat.pow_zero, Nat.div_one, Nat.testBit_mod_two_pow, BitVec.testBit_toNat, BitVec.getLsbD_or,
    BitVec.getLsbD_and, BitVec.getLsbD_not, BitVec.getLsbD_ofNat, Nat.testBit_two_pow_sub_one]
  by_cases h : i < k
  · have : i < 512 := by omega
    simp [h, this]
  · simp [h]

/-- The stated bytes of a payload are those given: the answer of a granted acquire, of a STATUS and of an ATOMIC. -/
theorem State.stated_low (s : State) (pl : Pl) (d : Line) : fld (s.stated pl 8 d).1 0 64 = fld d 0 64 ∧
    fld (s.stated pl 9 d).1 0 72 = fld d 0 72 ∧ fld (s.stated pl 16 d).1 0 128 = fld d 0 128 :=
  ⟨fld_mergeLine_low _ _ (by omega) (by decide +kernel), fld_mergeLine_low _ _ (by omega) (by decide +kernel),
    fld_mergeLine_low _ _ (by omega) (by decide +kernel)⟩

/-- Nothing but the plane's count of free values changes. -/
theorem State.stated_state (s : State) (pl : Pl) (n : Nat) (d : Line) :
    (s.stated pl n d).2 = s.modPln pl (fun x => { x with free := x.free + 1 }) := rfl

/-! ### The record of R12 -/

/-- What hardware notes changes nothing that is read but the record itself. -/
@[simp] theorem State.g_noteSet (s : State) (k : Nat) (m : W32) (o : Nat) : (s.noteSet k m).g o = s.g o := rfl
@[simp] theorem State.g_noteInc (s : State) (k lo len v n o : Nat) : (s.noteInc k lo len v n).g o = s.g o := rfl
@[simp] theorem State.pln_noteSet (s : State) (k : Nat) (m : W32) (pl : Pl) : (s.noteSet k m).pln pl = s.pln pl := by cases pl <;> rfl
@[simp] theorem State.pln_noteInc (s : State) (k lo len v n : Nat) (pl : Pl) : (s.noteInc k lo len v n).pln pl = s.pln pl := by
  cases pl <;> rfl

end Sys2Proof.Machine
end

