-- ==== Sys2Proof/Laws/Steady.lean ====
section
/-!
SUPPORT. What the named operations leave alone: `State.Steady` along the operations of Machine/Ops.lean, in the form in
which a chain of operations is followed backward from its end.
-/
namespace Sys2Proof.Machine

variable {r s : State}

theorem State.Keeps.refl (s : State) : s.Keeps s := ⟨rfl, rfl, rfl, rfl, rfl, rfl, id⟩

theorem State.Keeps.trans {a b c : State} (h : a.Keeps b) (k : b.Keeps c) : a.Keeps c :=
  ⟨k.pending.trans h.pending, k.variant.trans h.variant, k.fc.trans h.fc, k.fcInSlot.trans h.fcInSlot,
    k.slot.trans h.slot, k.test.trans h.test, fun x => k.canon (h.canon x)⟩

theorem State.Steady.refl (s : State) : s.Steady s := ⟨State.Keeps.refl s, rfl, rfl⟩

theorem State.Steady.trans {a b c : State} (h : a.Steady b) (k : b.Steady c) : a.Steady c :=
  ⟨h.toKeeps.trans k.toKeeps, k.img.trans h.img, k.keys.trans h.keys⟩

/-- Fields of no concern may change. -/
theorem State.Steady.upd (h : r.Steady s) (a b c d e f g i j k : _) :
    r.Steady { s with
      freeCtr := a, hw := b, answers := c, boot := d, oreset := e, pw := f, pads := g, evt := i, snp := j, pair := k } :=
  ⟨⟨h.pending, h.variant, h.fc, h.fcInSlot, h.slot, h.test, h.canon⟩, h.img, h.keys⟩

theorem ite_steady {c : Prop} [Decidable c] {a b : State} (ha : r.Steady a) (hb : r.Steady b) : r.Steady (if c then a else b) := by
  split
  · exact ha
  · exact hb

/-- A named intermediate state. -/
theorem cut_steady {t : State} {p : Prop} (h : r.Steady t) (k : r.Steady t → p) : p := k h

theorem foldl_steady {α : Type} (l : List α) (f : State → α → State) (h : r.Steady s)
    (hf : ∀ t a, r.Steady t → r.Steady (f t a)) : r.Steady (l.foldl f s) := by
  induction l generalizing s with
  | nil => exact h
  | cons a l ih => exact ih (hf s a h)

theorem foldl_fst_steady {α β : Type} (l : List α) (f : State × β → α → State × β) (x : State × β) (h : r.Steady x.1)
    (hf : ∀ t a, r.Steady t.1 → r.Steady (f t a).1) : r.Steady (l.foldl f x).1 := by
  induction l generalizing x with
  | nil => exact h
  | cons a l ih => exact ih _ (hf x a h)

theorem foldl_snd_steady {α β : Type} (l : List α) (f : β × State → α → β × State) (x : β × State) (h : r.Steady x.2)
    (hf : ∀ t a, r.Steady t.2 → r.Steady (f t a).2) : r.Steady (l.foldl f x).2 := by
  induction l generalizing x with
  | nil => exact h
  | cons a l ih => exact ih _ (hf x a h)

/-! ### Planes and register words -/

theorem State.Canon.pln (h : s.Canon) (pl : Pl) : (s.pln pl).Canon := by
  cases pl
  · exact h.2.2.1
  · exact h.2.2.2

/-- A plane may change, as long as its tables stay in order. -/
theorem State.setPln_steady (h : r.Steady s) (pl : Pl) (x : Plane) (hx : (s.pln pl).Canon → x.Canon) : r.Steady (s.setPln pl x) := by
  cases pl
  · exact ⟨⟨h.pending, h.variant, h.fc, h.fcInSlot, h.slot, h.test,
      fun c => ⟨(h.canon c).1, (h.canon c).2.1, hx (h.canon c).2.2.1, (h.canon c).2.2.2⟩⟩, h.img, h.keys⟩
  · exact ⟨⟨h.pending, h.variant, h.fc, h.fcInSlot, h.slot, h.test,
      fun c => ⟨(h.canon c).1, (h.canon c).2.1, (h.canon c).2.2.1, hx (h.canon c).2.2.2⟩⟩, h.img, h.keys⟩

theorem State.modPln_steady (h : r.Steady s) (pl : Pl) (f : Plane → Plane) (hf : ∀ x : Plane, x.Canon → (f x).Canon) :
    r.Steady (s.modPln pl f) :=
  State.setPln_steady h pl _ (hf _)

theorem Plane.Canon.of_tabs {x y : Plane} (e : y.tabs = x.tabs) (h : x.Canon) : y.Canon := by
  simp only [Plane.tabs, Prod.mk.injEq] at e
  obtain ⟨e1, e2, e3, e4, e5, e6⟩ := e
  unfold Plane.Canon
  rw [e1, e2, e3, e4, e5, e6]
  exact h

/-- Parts of a plane other than its tables change. -/
theorem State.modPln_same (h : r.Steady s) (pl : Pl) (f : Plane → Plane) (hf : ∀ x : Plane, (f x).tabs = x.tabs) :
    r.Steady (s.modPln pl f) :=
  State.modPln_steady h pl f (fun x hx => Plane.Canon.of_tabs (hf x) hx)

theorem State.gset_steady (h : r.Steady s) (off : Nat) (v : W32) : r.Steady (s.gset off v) :=
  ⟨⟨h.pending, h.variant, h.fc, h.fcInSlot, h.slot, h.test,
    fun c => ⟨Tab.wf_wr (d := fun _ => 0) (h.canon c).1 off v, (h.canon c).2⟩⟩, h.img, h.keys⟩

theorem State.gfset_steady (h : r.Steady s) (off lo len v : Nat) : r.Steady (s.gfset off lo len v) := State.gset_steady h _ _
theorem State.noteSet_steady (h : r.Steady s) (k : Nat) (m : W32) : r.Steady (s.noteSet k m) :=
  State.Steady.upd h s.freeCtr _ s.answers s.boot s.oreset s.pw s.pads s.evt s.snp s.pair
theorem State.noteInc_steady (h : r.Steady s) (k lo len v n : Nat) : r.Steady (s.noteInc k lo len v n) :=
  State.Steady.upd h s.freeCtr _ s.answers s.boot s.oreset s.pw s.pads s.evt s.snp s.pair
theorem State.ginc_steady (h : r.Steady s) (off lo len n : Nat) : r.Steady (s.ginc off lo len n) :=
  State.gset_steady (State.noteInc_steady h _ _ _ _ _) _ _
theorem State.gor_steady (h : r.Steady s) (off : Nat) (m : W32) : r.Steady (s.gor off m) :=
  State.gset_steady (State.noteSet_steady h _ _) _ _

theorem State.pset_steady (h : r.Steady s) (pl : Pl) (off : Nat) (v : W32) : r.Steady (s.pset pl off v) :=
  State.modPln_steady h pl _ (fun _ hx => ⟨Tab.wf_wr hx.1 off v, hx.2⟩)

theorem State.pfset_steady (h : r.Steady s) (pl : Pl) (off lo len v : Nat) : r.Steady (s.pfset pl off lo len v) :=
  State.pset_steady h _ _ _
theorem State.pinc_steady (h : r.Steady s) (pl : Pl) (off lo len n : Nat) : r.Steady (s.pinc pl off lo len n) :=
  State.pset_steady (State.noteInc_steady h _ _ _ _ _) _ _ _
theorem State.por_steady (h : r.Steady s) (pl : Pl) (off : Nat) (m : W32) : r.Steady (s.por pl off m) :=
  State.pset_steady (State.noteSet_steady h _ _) _ _ _

/-! ### Units -/

theorem State.modNi_steady (h : r.Steady s) (pl : Pl) (p : Nat) (f : Ni → Ni) : r.Steady (s.modNi pl p f) :=
  State.modPln_steady h pl _ (fun _ hx => ⟨hx.1, Tab.sorted_upd hx.2.1 _ _ _, hx.2.2⟩)
theorem State.modSb_steady (h : r.Steady s) (pl : Pl) (f : Sb → Sb) : r.Steady (s.modSb pl f) :=
  State.modPln_same h pl _ (fun _ => rfl)
theorem State.modMul_steady (h : r.Steady s) (pl : Pl) (e : Nat) (f : Mule → Mule) : r.Steady (s.modMul pl e f) :=
  State.modPln_steady h pl _ (fun _ hx => ⟨hx.1, hx.2.1, hx.2.2.1, hx.2.2.2.1, Tab.sorted_upd hx.2.2.2.2.1 _ _ _, hx.2.2.2.2.2⟩)
theorem State.modRouter_steady (h : r.Steady s) (pl : Pl) (quire : Bool) (i : Nat) (f : Router → Router) :
    r.Steady (s.modRouter pl quire i f) := by
  refine State.modPln_steady h pl _ (fun _ hx => ?_)
  split
  · exact ⟨hx.1, hx.2.1, hx.2.2.1, Tab.sorted_upd hx.2.2.2.1 _ _ _, hx.2.2.2.2⟩
  · exact ⟨hx.1, hx.2.1, Tab.sorted_upd hx.2.2.1 _ _ _, hx.2.2.2⟩
theorem State.modPort_steady (h : r.Steady s) (p : Nat) (f : Port → Port) : r.Steady (s.modPort p f) :=
  ⟨⟨h.pending, h.variant, h.fc, h.fcInSlot, h.slot, h.test,
    fun c => ⟨(h.canon c).1, Tab.sorted_upd (h.canon c).2.1 _ _ _, (h.canon c).2.2⟩⟩, h.img, h.keys⟩
theorem State.modQp_steady (h : r.Steady s) (q : Nat) (f : QPower → QPower) : r.Steady (s.modQp q f) :=
  State.Steady.upd h s.freeCtr s.hw s.answers s.boot s.oreset _ s.pads s.evt s.snp s.pair

/-- What is done in every plane in service. -/
theorem State.eachPlane_steady (h : r.Steady s) (f : Pl → State → State) (hf : ∀ pl t, r.Steady t → r.Steady (f pl t)) :
    r.Steady (s.eachPlane f) :=
  foldl_steady _ _ h (fun t pl ht => hf pl t ht)

end Sys2Proof.Machine
end

