-- ==== Sys2Proof/Laws/SteadyFabric.lean ====
section
/-!
SUPPORT. What the operations of the fabric, the NIs and the lock unit leave alone (`State.Steady`): the queue, the part, time, the test port, the accepted
configuration and the keys; and that the tables stay in order.
-/
namespace Sys2Proof.Machine

variable {r s : State}

/-! ### Machine/Ops.lean -/

theorem State.pclear_steady (h : r.Steady s) (pl : Pl) (off : Nat) (m : W32) : r.Steady (State.pclear s pl off m) := by
  unfold State.pclear
  repeat' first
    | with_reducible assumption
    | with_reducible apply State.pset_steady

theorem State.freshLine_steady (h : r.Steady s) : r.Steady (State.freshLine s).2 := by
  unfold State.freshLine
  repeat' first
    | with_reducible assumption
    | with_reducible apply ite_steady
    | split
    | (extract_lets -underBinder t; refine cut_steady (t := t) ?_ (fun _ => ?_); unfold t; rotate_left; clear_value t; rotate_right)
    | extract_lets -underBinder _
    | dsimp only
    | (dsimp +zetaDelta only)
    | with_reducible apply State.Steady.upd

theorem State.freshWord_steady (h : r.Steady s) : r.Steady (State.freshWord s).2 := by
  unfold State.freshWord
  repeat' first
    | with_reducible assumption
    | with_reducible apply ite_steady
    | split
    | (extract_lets -underBinder t; refine cut_steady (t := t) ?_ (fun _ => ?_); unfold t; rotate_left; clear_value t; rotate_right)
    | extract_lets -underBinder _
    | dsimp only
    | (dsimp +zetaDelta only)
    | with_reducible apply State.Steady.upd

theorem State.usedFree_steady (h : r.Steady s) (pl : Pl) : r.Steady (State.usedFree s pl) := by
  unfold State.usedFree
  repeat' first
    | with_reducible assumption
    | with_reducible refine State.modPln_same ?_ _ _ (fun _ => rfl)

theorem State.freeLine_steady (h : r.Steady s) (pl : Pl) : r.Steady (State.freeLine s pl).2 := by
  unfold State.freeLine
  repeat' first
    | with_reducible assumption
    | with_reducible apply State.usedFree_steady

theorem State.freeWord_steady (h : r.Steady s) (pl : Pl) : r.Steady (State.freeWord s pl).2 := by
  unfold State.freeWord
  repeat' first
    | with_reducible assumption
    | with_reducible apply State.usedFree_steady

theorem State.stated_steady (h : r.Steady s) (pl : Pl) (n : Nat) (d : Line) : r.Steady (State.stated s pl n d).2 := by
  unfold State.stated
  repeat' first
    | with_reducible assumption
    | with_reducible apply State.freeLine_steady

theorem State.snapTrigger_steady (h : r.Steady s) (c : Nat) (src : Nat) (ctr : Nat) : r.Steady (State.snapTrigger s c src ctr) := by
  unfold State.snapTrigger
  repeat' first
    | with_reducible assumption
    | with_reducible apply ite_steady
    | split
    | with_reducible apply State.ginc_steady
    | with_reducible apply State.gset_steady
    | (extract_lets -underBinder t; refine cut_steady (t := t) ?_ (fun _ => ?_); unfold t; rotate_left; clear_value t; rotate_right)
    | extract_lets -underBinder _
    | dsimp only
    | (dsimp +zetaDelta only)
    | with_reducible apply State.Steady.upd

theorem State.evTail_steady (h : r.Steady s) (src : Nat) : r.Steady (State.evTail s src) := by
  unfold State.evTail
  repeat' first
    | with_reducible assumption
    | with_reducible apply ite_steady
    | split
    | (extract_lets -underBinder t; refine cut_steady (t := t) ?_ (fun _ => ?_); unfold t; rotate_left; clear_value t; rotate_right)
    | extract_lets -underBinder _
    | dsimp only
    | (dsimp +zetaDelta only)
    | with_reducible apply State.Steady.upd

theorem State.evtKick_steady (h : r.Steady s) (src : Nat) : r.Steady (State.evtKick s src) := by
  unfold State.evtKick
  repeat' first
    | with_reducible assumption
    | with_reducible apply ite_steady
    | split
    | with_reducible apply State.evTail_steady
    | (extract_lets -underBinder t; refine cut_steady (t := t) ?_ (fun _ => ?_); unfold t; rotate_left; clear_value t; rotate_right)
    | extract_lets -underBinder _
    | dsimp only
    | (dsimp +zetaDelta only)
    | with_reducible apply State.Steady.upd

theorem State.occur_steady (h : r.Steady s) (src : Nat) : r.Steady (State.occur s src) := by
  unfold State.occur
  repeat' first
    | with_reducible assumption
    | with_reducible apply ite_steady
    | split
    | with_reducible apply State.evtKick_steady
    | with_reducible apply State.snapTrigger_steady
    | (extract_lets -underBinder t; refine cut_steady (t := t) ?_ (fun _ => ?_); unfold t; rotate_left; clear_value t; rotate_right)
    | extract_lets -underBinder _
    | dsimp only
    | (dsimp +zetaDelta only)
    | with_reducible apply State.Steady.upd

theorem State.occurInfo_steady (h : r.Steady s) (src : Nat) (info : Nat) : r.Steady (State.occurInfo s src info) := by
  unfold State.occurInfo
  repeat' first
    | with_reducible assumption
    | with_reducible apply State.gset_steady
    | with_reducible apply State.occur_steady

theorem State.occurP_steady (h : r.Steady s) (pl : Pl) (src : Nat) (info : Nat) : r.Steady (State.occurP s pl src info) := by
  unfold State.occurP
  repeat' first
    | with_reducible assumption
    | with_reducible apply ite_steady
    | with_reducible apply State.occur_steady
    | with_reducible apply State.occurInfo_steady

theorem State.niEvent_steady (h : r.Steady s) (pl : Pl) (p : Nat) (c : Nat) : r.Steady (State.niEvent s pl p c) := by
  unfold State.niEvent
  repeat' first
    | with_reducible assumption
    | with_reducible apply State.occurP_steady
    | with_reducible apply State.por_steady

theorem State.rtrEvent_steady (h : r.Steady s) (pl : Pl) (quire : Bool) (i : Nat) (c : Nat) : r.Steady (State.rtrEvent s pl quire i c) := by
  unfold State.rtrEvent
  repeat' first
    | with_reducible assumption
    | with_reducible apply ite_steady
    | with_reducible apply State.occurP_steady
    | with_reducible apply State.por_steady

theorem State.chanEvent_steady (h : r.Steady s) (pl : Pl) (e : Nat) (c : Nat) (k : Nat) : r.Steady (State.chanEvent s pl e c k) := by
  unfold State.chanEvent
  repeat' first
    | with_reducible assumption
    | with_reducible apply State.occurP_steady
    | with_reducible apply State.por_steady

theorem State.placeFault_steady (h : r.Steady s) (pl : Pl) (page : Nat) (kind : Nat) : r.Steady (State.placeFault s pl page kind) := by
  unfold State.placeFault
  repeat' first
    | with_reducible assumption
    | with_reducible apply State.occurP_steady

theorem State.queueFault_steady (h : r.Steady s) (pl : Pl) (q : Nat) (doorbell : Bool) (read : Bool) : r.Steady (State.queueFault s pl q doorbell read) := by
  unfold State.queueFault
  repeat' first
    | with_reducible assumption
    | with_reducible apply State.occurP_steady

theorem State.wrapEvent_steady (h : r.Steady s) (pl : Pl) (idx : Nat) : r.Steady (State.wrapEvent s pl idx) := by
  unfold State.wrapEvent
  repeat' first
    | with_reducible assumption
    | with_reducible apply ite_steady
    | with_reducible apply State.niEvent_steady
    | with_reducible apply State.occurP_steady
    | with_reducible apply State.por_steady
    | with_reducible apply State.rtrEvent_steady

theorem State.ctrAdd_steady (h : r.Steady s) (fuel : Nat) (pl : Pl) (idx n : Nat) : r.Steady (State.ctrAdd fuel s pl idx n) := by
  induction fuel generalizing s idx n with
  | zero => exact h
  | succ fuel ih =>
    rw [State.ctrAdd]
    repeat' first
      | with_reducible assumption
      | with_reducible apply ite_steady
      | with_reducible apply ih
      | with_reducible apply State.snapTrigger_steady
      | with_reducible apply State.wrapEvent_steady
      | with_reducible apply State.por_steady
      | with_reducible refine State.modPln_same ?_ _ _ (fun _ => rfl)
      | with_reducible apply State.noteInc_steady

theorem State.countN_steady (h : r.Steady s) (pl : Pl) (first : Nat) (cnt : Nat) (code : Nat) (qual : Nat) (owner : Option Nat) (n : Nat) : r.Steady (State.countN s pl first cnt code qual owner n) := by
  unfold State.countN
  repeat' first
    | with_reducible assumption
    | with_reducible apply ite_steady
    | with_reducible apply State.ctrAdd_steady
    | with_reducible apply foldl_steady
    | intro _ _ _

theorem State.countNi_steady (h : r.Steady s) (pl : Pl) (p : Nat) (code : Nat) (qual : Nat) (owner : Option Nat) : r.Steady (State.countNi s pl p code qual owner) := by
  unfold State.countNi
  repeat' first
    | with_reducible assumption
    | with_reducible apply ite_steady
    | with_reducible apply State.countN_steady

theorem State.countRtr_steady (h : r.Steady s) (pl : Pl) (quire : Bool) (i : Nat) (code : Nat) (qual : Nat) : r.Steady (State.countRtr s pl quire i code qual) := by
  unfold State.countRtr
  repeat' first
    | with_reducible assumption
    | with_reducible apply ite_steady
    | with_reducible apply State.countN_steady

theorem State.countMul_steady (h : r.Steady s) (pl : Pl) (e : Nat) (code : Nat) (qual : Nat) (n : Nat) : r.Steady (State.countMul s pl e code qual n) := by
  unfold State.countMul
  repeat' first
    | with_reducible assumption
    | with_reducible apply ite_steady
    | with_reducible apply State.countN_steady

theorem State.countPlc_steady (h : r.Steady s) (pl : Pl) (code : Nat) : r.Steady (State.countPlc s pl code) := by
  unfold State.countPlc
  repeat' first
    | with_reducible assumption
    | with_reducible apply State.countN_steady

theorem State.countQ_steady (h : r.Steady s) (pl : Pl) (code : Nat) : r.Steady (State.countQ s pl code) := by
  unfold State.countQ
  repeat' first
    | with_reducible assumption
    | with_reducible apply State.countN_steady

theorem State.countLock_steady (h : r.Steady s) (pl : Pl) (code : Nat) : r.Steady (State.countLock s pl code) := by
  unfold State.countLock
  repeat' first
    | with_reducible assumption
    | with_reducible apply State.countN_steady

theorem State.countSpine_steady (h : r.Steady s) (pl : Pl) (code : Nat) (qual : Nat) : r.Steady (State.countSpine s pl code qual) := by
  unfold State.countSpine
  repeat' first
    | with_reducible assumption
    | with_reducible apply State.countN_steady

theorem State.poisonOwner_steady (h : r.Steady s) (owner : Nat) (priv : Nat) : r.Steady (State.poisonOwner s owner priv) := by
  unfold State.poisonOwner
  repeat' first
    | with_reducible assumption
    | with_reducible apply ite_steady
    | split
    | (extract_lets -underBinder t; refine cut_steady (t := t) ?_ (fun _ => ?_); unfold t; rotate_left; clear_value t; rotate_right)
    | extract_lets -underBinder _
    | dsimp only
    | (dsimp +zetaDelta only)
    | with_reducible apply State.Steady.upd

theorem State.modMp_steady (h : r.Steady s) (m : Nat) (f : MpPad → MpPad) : r.Steady (State.modMp s m f) := by
  unfold State.modMp
  repeat' first
    | with_reducible assumption
    | with_reducible apply ite_steady
    | split
    | (extract_lets -underBinder t; refine cut_steady (t := t) ?_ (fun _ => ?_); unfold t; rotate_left; clear_value t; rotate_right)
    | extract_lets -underBinder _
    | dsimp only
    | (dsimp +zetaDelta only)
    | with_reducible apply State.Steady.upd

theorem State.beginHolds_steady (h : r.Steady s) : r.Steady (State.beginHolds s) := by
  unfold State.beginHolds
  repeat' first
    | with_reducible assumption
    | split
    | with_reducible apply State.modMp_steady
    | with_reducible apply foldl_steady
    | intro _ _ _

theorem State.niPass_steady (h : r.Steady s) (pl : Pl) (p : Nat) (vc : Nat) (fs : List Flit) : r.Steady (State.niPass s pl p vc fs) := by
  unfold State.niPass
  repeat' first
    | with_reducible assumption
    | with_reducible apply ite_steady
    | with_reducible apply State.modNi_steady
    | with_reducible apply State.modPort_steady

theorem State.niSend_steady (h : r.Steady s) (pl : Pl) (p : Nat) (hdr : BitVec 64) (lines : List Line) : r.Steady (State.niSend s pl p hdr lines) := by
  unfold State.niSend
  repeat' first
    | with_reducible assumption
    | with_reducible apply State.niPass_steady

theorem State.sbSend_steady (h : r.Steady s) (pl : Pl) (hdr : BitVec 64) (lines : List Line) : r.Steady (State.sbSend s pl hdr lines) := by
  unfold State.sbSend
  repeat' first
    | with_reducible assumption
    | with_reducible apply State.modSb_steady

theorem State.mulSend_steady (h : r.Steady s) (pl : Pl) (e : Nat) (hdr : BitVec 64) (lines : List Line) : r.Steady (State.mulSend s pl e hdr lines) := by
  unfold State.mulSend
  repeat' first
    | with_reducible assumption
    | with_reducible apply State.modMul_steady

theorem State.epSend_steady (h : r.Steady s) (pl : Pl) (ep : Nat) (hdr : BitVec 64) (lines : List Line) : r.Steady (State.epSend s pl ep hdr lines) := by
  unfold State.epSend
  repeat' first
    | with_reducible assumption
    | split
    | with_reducible apply State.mulSend_steady
    | with_reducible apply State.niSend_steady

theorem State.sbMgmt_steady (h : r.Steady s) (pl : Pl) (dest : Nat) (mop : Nat) (marg : Nat) (tag : Nat) (lines : List Line) : r.Steady (State.sbMgmt s pl dest mop marg tag lines) := by
  unfold State.sbMgmt
  repeat' first
    | with_reducible assumption
    | with_reducible apply State.sbSend_steady

theorem State.sbReply_steady (h : r.Steady s) (pl : Pl) (dest : Nat) (vc : Nat) (tag : Nat) (status : Nat) (data : Option Line) : r.Steady (State.sbReply s pl dest vc tag status data) := by
  unfold State.sbReply
  repeat' first
    | with_reducible assumption
    | with_reducible apply State.sbSend_steady

/-! ### Machine/Topology.lean -/

theorem State.setEntry_steady (h : r.Steady s) (pl : Pl) (page : Nat) (e : W32) : r.Steady (State.setEntry s pl page e) := by
  unfold State.setEntry
  repeat' first
    | with_reducible assumption
    | with_reducible apply State.modSb_steady

/-! ### Machine/Access.lean -/

theorem State.modCredit_steady (h : r.Steady s) (pl : Pl) (out : OutPort) (vc : Nat) (f : Nat → Nat) : r.Steady (State.modCredit s pl out vc f) := by
  unfold State.modCredit
  repeat' first
    | with_reducible assumption
    | split
    | with_reducible apply State.modMul_steady
    | with_reducible apply State.modNi_steady
    | with_reducible apply State.modRouter_steady
    | with_reducible apply State.modSb_steady

theorem State.giveCredit_steady (h : r.Steady s) (pl : Pl) (out : OutPort) (vc : Nat) (n : Nat) : r.Steady (State.giveCredit s pl out vc n) := by
  unfold State.giveCredit
  repeat' first
    | with_reducible assumption
    | with_reducible apply State.modCredit_steady

theorem State.popNi_steady {pl : Pl} {p vc : Nat} {k : Packet} {t : State} (h : r.Steady s) (e : s.popNi pl p vc = some (k, t)) :
    r.Steady t := by
  unfold State.popNi at e
  split at e
  · cases e; exact State.giveCredit_steady (State.modNi_steady h _ _ _) _ _ _ _
  · cases e

theorem State.popNiIn_steady {pl : Pl} {p vc : Nat} {k : Packet} {t : State} (h : r.Steady s) (e : s.popNiIn pl p vc = some (k, t)) :
    r.Steady t := by
  unfold State.popNiIn at e
  split at e
  · cases e; exact State.modNi_steady h _ _ _
  · cases e

theorem State.popSb_steady {pl : Pl} {q vc : Nat} {k : Packet} {t : State} (h : r.Steady s) (e : s.popSb pl q vc = some (k, t)) :
    r.Steady t := by
  unfold State.popSb at e
  split at e
  · cases e; exact State.giveCredit_steady (State.modSb_steady h _ _) _ _ _ _
  · cases e

theorem State.popSbIn_steady {pl : Pl} {q vc : Nat} {k : Packet} {t : State} (h : r.Steady s) (e : s.popSbIn pl q vc = some (k, t)) :
    r.Steady t := by
  unfold State.popSbIn at e
  split at e
  · cases e; exact State.modSb_steady h _ _
  · cases e

theorem State.popMul_steady {pl : Pl} {e' vc : Nat} {k : Packet} {t : State} (h : r.Steady s) (e : s.popMul pl e' vc = some (k, t)) :
    r.Steady t := by
  unfold State.popMul at e
  split at e
  · cases e; exact State.giveCredit_steady (State.modMul_steady h _ _ _) _ _ _ _
  · cases e

theorem State.popMulIn_steady {pl : Pl} {e' vc : Nat} {k : Packet} {t : State} (h : r.Steady s) (e : s.popMulIn pl e' vc = some (k, t)) :
    r.Steady t := by
  unfold State.popMulIn at e
  split at e
  · cases e; exact State.modMul_steady h _ _ _
  · cases e

theorem State.popEpIn_steady {pl : Pl} {ep vc : Nat} {k : Packet} {t : State} (h : r.Steady s) (e : s.popEpIn pl ep vc = some (k, t)) :
    r.Steady t := by
  unfold State.popEpIn at e
  split at e
  · exact State.popMulIn_steady h e
  · exact State.popNiIn_steady h e

theorem State.answerPlane_steady (h : r.Steady s) (r₀ : CwReq) (status : Nat) (data : Option Line) (pl : Pl)  : r.Steady (State.answerPlane r₀ status data pl s) := by
  unfold State.answerPlane
  repeat' first
    | with_reducible assumption
    | with_reducible apply ite_steady
    | split
    | exact State.popSb_steady (by assumption) (by assumption)
    | with_reducible apply State.sbReply_steady

theorem State.answer_steady (h : r.Steady s) (r₀ : CwReq) (status : Nat) (data : Option Line) : r.Steady (State.answer s r₀ status data) := by
  unfold State.answer
  repeat' first
    | with_reducible assumption
    | with_reducible apply ite_steady
    | split
    | with_reducible apply State.answerPlane_steady
    | with_reducible apply State.eachPlane_steady
    | intro _ _ _
    | (extract_lets -underBinder t; refine cut_steady (t := t) ?_ (fun _ => ?_); unfold t; rotate_left; clear_value t; rotate_right)
    | extract_lets -underBinder _
    | dsimp only
    | (dsimp +zetaDelta only)
    | with_reducible apply State.Steady.upd

theorem State.touch_steady (h : r.Steady s) (off : Nat) : r.Steady (State.touch s off) := by
  unfold State.touch
  repeat' first
    | with_reducible assumption
    | split
    | with_reducible apply State.modQp_steady

/-! ### Machine/Faults.lean -/

theorem State.affectOwners_steady (h : r.Steady s) (m : BitVec 16) : r.Steady (State.affectOwners s m) := by
  unfold State.affectOwners
  repeat' first
    | with_reducible assumption
    | with_reducible apply ite_steady
    | split
    | with_reducible apply State.gor_steady
    | with_reducible apply foldl_steady
    | with_reducible apply foldl_fst_steady
    | with_reducible apply foldl_snd_steady
    | intro _ _ _
    | (extract_lets -underBinder t; refine cut_steady (t := t) ?_ (fun _ => ?_); unfold t; rotate_left; clear_value t; rotate_right)
    | extract_lets -underBinder _
    | dsimp only
    | (dsimp +zetaDelta only)
    | with_reducible apply State.Steady.upd

theorem State.abortJoin_steady (h : r.Steady s) : r.Steady (State.abortJoin s) := by
  unfold State.abortJoin
  repeat' first
    | with_reducible assumption
    | with_reducible apply ite_steady
    | split
    | with_reducible apply State.ginc_steady
    | (extract_lets -underBinder t; refine cut_steady (t := t) ?_ (fun _ => ?_); unfold t; rotate_left; clear_value t; rotate_right)
    | extract_lets -underBinder _
    | dsimp only
    | (dsimp +zetaDelta only)
    | with_reducible apply State.Steady.upd

theorem State.resetPlane_steady (h : r.Steady s) (pl : Pl) : r.Steady (State.resetPlane s pl) := by
  unfold State.resetPlane
  extract_lets t
  have ht : r.Steady t := State.setPln_steady h pl _ (fun hx => by
    exact ⟨⟨List.Pairwise.nil, fun _ h => nomatch h⟩, List.Pairwise.nil, List.Pairwise.nil, List.Pairwise.nil, List.Pairwise.nil,
      Tab.sorted_filter hx.2.2.2.2.2 _⟩)
  clear_value t
  refine ⟨⟨ht.pending, ht.variant, ht.fc, ht.fcInSlot, ht.slot, ht.test, fun c => ⟨(ht.canon c).1, ?_, (ht.canon c).2.2⟩⟩, ht.img, ht.keys⟩
  dsimp only
  split
  · exact Tab.sorted_foldl_upd _ _ _ _ (ht.canon c).2.1
  · exact (ht.canon c).2.1

theorem State.restartPlane_steady (h : r.Steady s) (pl : Pl) : r.Steady (State.restartPlane s pl) := by
  unfold State.restartPlane
  repeat' first
    | with_reducible assumption
    | with_reducible apply ite_steady
    | split
    | with_reducible apply State.resetPlane_steady
    | (extract_lets -underBinder t; refine cut_steady (t := t) ?_ (fun _ => ?_); unfold t; rotate_left; clear_value t; rotate_right)
    | extract_lets -underBinder _
    | dsimp only
    | (dsimp +zetaDelta only)
    | with_reducible apply State.Steady.upd

theorem State.planeFault_steady (h : r.Steady s) (pl : Pl) (cause : Nat) (port : Nat) (owners : Option (BitVec 16)) : r.Steady (State.planeFault s pl cause port owners) := by
  unfold State.planeFault
  repeat' first
    | with_reducible assumption
    | with_reducible apply ite_steady
    | split
    | with_reducible apply State.abortJoin_steady
    | with_reducible apply State.affectOwners_steady
    | with_reducible apply State.occurInfo_steady
    | with_reducible apply State.restartPlane_steady
    | (extract_lets -underBinder t; refine cut_steady (t := t) ?_ (fun _ => ?_); unfold t; rotate_left; clear_value t; rotate_right)
    | extract_lets -underBinder _
    | dsimp only
    | (dsimp +zetaDelta only)
    | with_reducible apply State.Steady.upd

theorem State.checkFault_steady (h : r.Steady s) (pl : Pl) (port : Nat) (f : Flit) : r.Steady (State.checkFault s pl port f) := by
  unfold State.checkFault
  repeat' first
    | with_reducible assumption
    | with_reducible apply State.planeFault_steady

/-! ### Machine/Fabric.lean -/

theorem State.seeFlit_steady (h : r.Steady s) (q : Nat) : r.Steady (State.seeFlit s q) := by
  unfold State.seeFlit
  repeat' first
    | with_reducible assumption
    | with_reducible apply State.modQp_steady

theorem State.arriveRouter_steady (h : r.Steady s) (pl : Pl) (quire : Bool) (i : Nat) (n : Nat) (f : Flit) : r.Steady (State.arriveRouter s pl quire i n f) := by
  unfold State.arriveRouter
  repeat' first
    | with_reducible assumption
    | with_reducible apply ite_steady
    | with_reducible apply State.modRouter_steady
    | with_reducible apply State.seeFlit_steady

theorem State.gtArrive_steady (h : r.Steady s) (p : Nat) (f : Flit) : r.Steady (State.gtArrive s p f) := by
  unfold State.gtArrive
  repeat' first
    | with_reducible assumption
    | with_reducible apply State.modPort_steady

theorem State.enterNi_steady (h : r.Steady s) (pl : Pl) (p : Nat) (f : Flit) : r.Steady (State.enterNi s pl p f) := by
  unfold State.enterNi
  repeat' first
    | with_reducible assumption
    | with_reducible apply ite_steady
    | with_reducible apply State.countNi_steady
    | with_reducible apply State.giveCredit_steady
    | with_reducible apply State.modNi_steady

theorem State.edgeGt_steady (h : r.Steady s) (p : Nat) (f : Flit) : r.Steady (State.edgeGt s p f) := by
  unfold State.edgeGt
  repeat' first
    | with_reducible assumption
    | with_reducible apply ite_steady
    | with_reducible apply State.gtArrive_steady

theorem State.arriveNi_steady (h : r.Steady s) (pl : Pl) (p : Nat) (f : Flit) : r.Steady (State.arriveNi s pl p f) := by
  unfold State.arriveNi
  repeat' first
    | with_reducible assumption
    | with_reducible apply ite_steady
    | split
    | with_reducible apply State.checkFault_steady
    | with_reducible apply State.edgeGt_steady
    | with_reducible apply State.enterNi_steady
    | with_reducible apply State.giveCredit_steady
    | with_reducible apply State.seeFlit_steady
    | (extract_lets -underBinder t; refine cut_steady (t := t) ?_ (fun _ => ?_); unfold t; rotate_left; clear_value t; rotate_right)
    | extract_lets -underBinder _
    | dsimp only
    | (dsimp +zetaDelta only)
    | with_reducible apply State.Steady.upd

theorem State.arriveMul_steady (h : r.Steady s) (pl : Pl) (e : Nat) (f : Flit) : r.Steady (State.arriveMul s pl e f) := by
  unfold State.arriveMul
  repeat' first
    | with_reducible assumption
    | with_reducible apply ite_steady
    | with_reducible apply State.checkFault_steady
    | with_reducible apply State.giveCredit_steady
    | with_reducible apply State.modMul_steady

theorem State.arriveSb_steady (h : r.Steady s) (pl : Pl) (q : Nat) (f : Flit) : r.Steady (State.arriveSb s pl q f) := by
  unfold State.arriveSb
  repeat' first
    | with_reducible assumption
    | with_reducible apply ite_steady
    | with_reducible apply State.checkFault_steady
    | with_reducible apply State.giveCredit_steady
    | with_reducible apply State.modSb_steady
    | with_reducible apply State.seeFlit_steady

theorem State.leaveRouter_steady (h : r.Steady s) (pl : Pl) (quire : Bool) (i : Nat) (o : Nat) (f : Flit) : r.Steady (State.leaveRouter s pl quire i o f) := by
  unfold State.leaveRouter
  repeat' first
    | with_reducible assumption
    | with_reducible apply ite_steady
    | with_reducible apply State.arriveMul_steady
    | with_reducible apply State.arriveNi_steady
    | with_reducible apply State.arriveRouter_steady
    | with_reducible apply State.arriveSb_steady
    | with_reducible apply State.countSpine_steady

/-! ### Machine/NiBase.lean -/

theorem State.setVrec_steady (h : r.Steady s) (pl : Pl) (p : Nat) (d : Line) : r.Steady (State.setVrec s pl p d) := by
  unfold State.setVrec
  repeat' first
    | with_reducible assumption
    | with_reducible apply State.pset_steady
    | with_reducible apply foldl_steady
    | intro _ _ _

theorem State.violation_steady (h : r.Steady s) (pl : Pl) (p : Nat) (owner : Nat) (priv : Nat) (paddr : Nat) (kind : Nat) (cause : Nat) (region : Nat) (need : Nat) (len : Nat) : r.Steady (State.violation s pl p owner priv paddr kind cause region need len) := by
  unfold State.violation
  repeat' first
    | with_reducible assumption
    | with_reducible apply ite_steady
    | with_reducible apply State.countNi_steady
    | with_reducible apply State.modNi_steady
    | with_reducible apply State.niEvent_steady
    | with_reducible apply State.pinc_steady
    | with_reducible apply State.por_steady
    | with_reducible apply State.setVrec_steady

theorem State.niLookup_steady (h : r.Steady s) (pl : Pl) (p : Nat) (page : Nat) (owner : Nat) (priv : Nat) (sample : Bool) (write : Bool) : r.Steady (State.niLookup s pl p page owner priv sample write) := by
  unfold State.niLookup
  repeat' first
    | with_reducible assumption
    | with_reducible apply ite_steady
    | with_reducible apply State.modNi_steady
    | with_reducible apply State.niSend_steady

theorem State.sendPiece_steady (h : r.Steady s) (pl : Pl) (p : Nat) (q : Piece) : r.Steady (State.sendPiece s pl p q) := by
  unfold State.sendPiece
  repeat' first
    | with_reducible assumption
    | with_reducible apply State.niSend_steady

theorem State.demote_steady (h : r.Steady s) (pl : Pl) (p : Nat) (q : Piece) : r.Steady (State.demote s pl p q).1 := by
  unfold State.demote
  repeat' first
    | with_reducible assumption
    | split
    | with_reducible apply State.modNi_steady
    | with_reducible apply State.pinc_steady

theorem State.resolvePiece_steady (h : r.Steady s) (pl : Pl) (p : Nat) (q : Piece) : r.Steady (State.resolvePiece s pl p q).1 := by
  unfold State.resolvePiece
  repeat' first
    | with_reducible assumption
    | split
    | with_reducible apply State.countNi_steady
    | with_reducible apply State.demote_steady
    | with_reducible apply State.modNi_steady
    | with_reducible apply State.niLookup_steady
    | with_reducible apply State.pinc_steady
    | extract_lets -underBinder _

theorem State.resolveAll_steady (h : r.Steady s) (pl : Pl) (p : Nat) : r.Steady (State.resolveAll s pl p) := by
  unfold State.resolveAll
  repeat' first
    | with_reducible assumption
    | split
    | with_reducible apply State.demote_steady
    | with_reducible apply State.modNi_steady
    | with_reducible apply State.resolvePiece_steady
    | with_reducible apply foldl_fst_steady
    | intro _ _ _

theorem State.niSettle_steady (h : r.Steady s) (pl : Pl) (p : Nat) : r.Steady (State.niSettle s pl p) := by
  unfold State.niSettle
  repeat' first
    | with_reducible assumption
    | with_reducible apply State.modNi_steady
    | with_reducible apply State.resolveAll_steady

/-! ### Machine/Stitch.lean -/

theorem State.refuse_steady (h : r.Steady s) (pl : Pl) (p : Nat) (kind : Nat) (st : Nat) (owner : Nat) (priv : Nat) (addr : Nat) (len : Nat) (n : Nat) (first : Option (Nat × Nat × Nat)) : r.Steady (State.refuse s pl p kind st owner priv addr len n first) := by
  unfold State.refuse
  repeat' first
    | with_reducible assumption
    | split
    | with_reducible apply State.modNi_steady
    | with_reducible apply State.violation_steady

theorem State.nextUnkeyed_steady (h : r.Steady s) (pl : Pl) (p : Nat) : r.Steady (State.nextUnkeyed s pl p).2 := by
  unfold State.nextUnkeyed
  repeat' first
    | with_reducible assumption
    | with_reducible apply State.modNi_steady

theorem State.mkPiece_steady (h : r.Steady s) (pl : Pl) (p kind subop asize ord cls : Nat) (r₀ : Stitch) (i : Nat) :
    r.Steady (State.mkPiece s pl p kind subop asize ord cls r₀ i).1 := by
  unfold State.mkPiece
  extract_lets len a t conv page beat range ben nn sh sampled s1 u mh k c
  have h1 : r.Steady s1 := ite_steady (State.modNi_steady h _ _ _) h
  have h2 : r.Steady u.2 := State.nextUnkeyed_steady h1 pl p
  show r.Steady mh.2
  clear_value u s1 sampled sh nn ben range beat page
  clear_value t
  unfold mh
  cases t <;> first | exact h2 | exact h1

theorem State.stitch_steady (h : r.Steady s) (pl : Pl) (p : Nat) (kind : Nat) (subop : Nat) (asize : Nat) (r₀ : Stitch) : r.Steady (State.stitch s pl p kind subop asize r₀) := by
  unfold State.stitch
  repeat' first
    | with_reducible assumption
    | with_reducible apply ite_steady
    | with_reducible apply State.demote_steady
    | with_reducible apply State.mkPiece_steady
    | with_reducible apply State.modNi_steady
    | with_reducible apply State.niSettle_steady
    | with_reducible apply State.refuse_steady
    | with_reducible apply foldl_fst_steady
    | intro _ _ _

theorem State.stitchFence_steady (h : r.Steady s) (pl : Pl) (p : Nat) (fcls : BitVec 4) : r.Steady (State.stitchFence s pl p fcls) := by
  unfold State.stitchFence
  repeat' first
    | with_reducible assumption
    | with_reducible apply ite_steady
    | with_reducible apply State.modNi_steady

theorem State.stitchMessage_steady (h : r.Steady s) (pl : Pl) (p : Nat) (m : MsgReq) : r.Steady (State.stitchMessage s pl p m) := by
  unfold State.stitchMessage
  repeat' first
    | with_reducible assumption
    | split
    | with_reducible apply State.modNi_steady
    | with_reducible apply State.nextUnkeyed_steady
    | with_reducible apply State.refuse_steady
    | extract_lets -underBinder _

/-! ### Machine/NiIssue.lean -/

theorem State.postedError_steady (h : r.Steady s) (pl : Pl) (p : Nat) (q : Piece) (status : Nat) : r.Steady (State.postedError s pl p q status) := by
  unfold State.postedError
  repeat' first
    | with_reducible assumption
    | with_reducible apply ite_steady
    | with_reducible apply State.modNi_steady
    | with_reducible apply State.niEvent_steady
    | with_reducible apply State.pinc_steady
    | with_reducible apply State.por_steady
    | with_reducible apply State.pset_steady

theorem State.pieceAnswered_steady (h : r.Steady s) (pl : Pl) (p : Nat) (q : Piece) (status : Nat) (data : Line) : r.Steady (State.pieceAnswered s pl p q status data) := by
  unfold State.pieceAnswered
  repeat' first
    | with_reducible assumption
    | with_reducible apply ite_steady
    | with_reducible apply State.countNi_steady
    | with_reducible apply State.modNi_steady
    | with_reducible apply State.niSettle_steady
    | with_reducible apply State.postedError_steady

theorem State.headResponse_steady {pl : Pl} {p vc : Nat} {k : Packet} {st : Nat} {t : State} (h : r.Steady s)
    (e : s.headResponse pl p vc = some (k, st, t)) : r.Steady t := by
  unfold State.headResponse at e
  split at e
  · cases e; exact State.popNiIn_steady h (by assumption)
  · split at e
    · split at e
      · cases e; exact State.popNiIn_steady h (by assumption)
      · cases e
    · cases e

theorem State.takeResponse_steady (h : r.Steady s) (pl : Pl) (p : Nat) (vc : Nat) (kind : Nat) : r.Steady (State.takeResponse s pl p vc kind) := by
  unfold State.takeResponse
  repeat' first
    | with_reducible assumption
    | split
    | exact State.headResponse_steady (by assumption) (by assumption)
    | with_reducible apply State.pieceAnswered_steady
    | with_reducible apply State.poisonOwner_steady

theorem State.recTail_steady (h : r.Steady s) (p : Nat) (v : W32) (pl : Pl) : r.Steady (State.recTail s p v pl) := by
  unfold State.recTail
  repeat' first
    | with_reducible assumption
    | with_reducible apply ite_steady
    | with_reducible apply State.pfset_steady
    | with_reducible apply State.pset_steady

theorem State.commitRegion_steady (h : r.Steady s) (b : Nat) (attr : W32) (pl : Pl) : r.Steady (State.commitRegion s b attr pl) := by
  unfold State.commitRegion
  repeat' first
    | with_reducible assumption
    | split
    | with_reducible apply State.pset_steady
    | with_reducible apply foldl_steady
    | intro _ _ _

/-! ### Machine/Target.lean -/

theorem State.freeFlits_steady (h : r.Steady s) (pl : Pl) (p : Nat) (vc : Nat) (n : Nat) : r.Steady (State.freeFlits s pl p vc n) := by
  unfold State.freeFlits
  repeat' first
    | with_reducible assumption
    | with_reducible apply ite_steady
    | with_reducible apply State.giveCredit_steady

theorem State.popReq_steady {pl : Pl} {p vc : Nat} {x : Req} (h : r.Steady s) (e : s.popReq pl p vc = some x) : r.Steady x.rest := by
  unfold State.popReq at e
  split at e
  · split at e
    · cases e; exact State.popNiIn_steady h (by assumption)
    · obtain ⟨⟨k, t⟩, e1, e2⟩ := Option.map_eq_some_iff.1 e
      cases e2; exact State.popNiIn_steady h e1
  · split at e
    · obtain ⟨⟨k, t⟩, e1, e2⟩ := Option.map_eq_some_iff.1 e
      cases e2; exact State.popNiIn_steady h e1
    · obtain ⟨⟨k, l, n, m⟩, e1, e2⟩ := Option.map_eq_some_iff.1 e
      cases e2; exact State.freeFlits_steady (State.modNi_steady h _ _ _) _ _ _ _

theorem State.respond_steady (h : r.Steady s) (pl : Pl) (p : Nat) (src : Nat) (vc : Nat) (tag : Nat) (priv : Nat) (owner : Nat) (gts : Nat) (status : Nat) (lines : List Line) : r.Steady (State.respond s pl p src vc tag priv owner gts status lines) := by
  unfold State.respond
  repeat' first
    | with_reducible assumption
    | with_reducible apply ite_steady
    | with_reducible apply State.modNi_steady
    | with_reducible apply State.niSend_steady

theorem State.freeLines_steady (h : r.Steady s) (pl : Pl) (n : Nat) : r.Steady (State.freeLines pl n s).2 := by
  induction n generalizing s with
  | zero => exact h
  | succ n ih => rw [State.freeLines]; exact ih (State.freeLine_steady h pl)

theorem State.answerUnpresented_steady (h : r.Steady s) (pl : Pl) (p : Nat) (k : Packet) (late : Bool) (status : Nat) : r.Steady (State.answerUnpresented s pl p k late status) := by
  unfold State.answerUnpresented
  repeat' first
    | with_reducible assumption
    | with_reducible apply State.freeLines_steady
    | with_reducible apply State.respond_steady

theorem State.takeRequest_steady (h : r.Steady s) (pl : Pl) (p : Nat) (x : Req) (hx : r.Steady x.rest) :
    r.Steady (State.takeRequest s pl p x) := by
  unfold State.takeRequest
  extract_lets k late t cmd n kind rmw
  have ht : r.Steady t := State.freeFlits_steady hx _ _ _ _
  clear_value t
  repeat' first
    | with_reducible assumption
    | with_reducible apply ite_steady
    | split
    | with_reducible apply State.answerUnpresented_steady
    | with_reducible apply State.placeFault_steady
    | with_reducible apply State.countPlc_steady
    | with_reducible apply State.pinc_steady
    | with_reducible apply State.poisonOwner_steady
    | with_reducible apply State.modNi_steady

theorem State.markDirty_steady (h : r.Steady s) (pl : Pl) (p : Nat) (j : Job) (gran : Nat) : r.Steady (State.markDirty s pl p j gran) := by
  unfold State.markDirty
  repeat' first
    | with_reducible assumption
    | split
    | with_reducible apply State.modNi_steady

theorem State.present_steady (h : r.Steady s) (pl : Pl) (p : Nat) (j : Job) (i : Nat) (write : Bool) (data : Line) : r.Steady (State.present s pl p j i write data) := by
  unfold State.present
  repeat' first
    | with_reducible assumption
    | split
    | with_reducible apply State.freeFlits_steady
    | with_reducible apply State.markDirty_steady
    | with_reducible apply State.modNi_steady

theorem State.finishJob_steady (h : r.Steady s) (pl : Pl) (p : Nat) (j : Job) (status : Nat) (lines : List Line) : r.Steady (State.finishJob s pl p j status lines) := by
  unfold State.finishJob
  repeat' first
    | with_reducible assumption
    | with_reducible apply State.modNi_steady
    | with_reducible apply State.respond_steady

theorem State.unitAnswer_steady (h : r.Steady s) (pl : Pl) (p : Nat) (x : TPres) (j : Job) (status : Nat) (data : Line) : r.Steady (State.unitAnswer s pl p x j status data) := by
  unfold State.unitAnswer
  repeat' first
    | with_reducible assumption
    | with_reducible apply ite_steady
    | split
    | with_reducible apply State.finishJob_steady
    | with_reducible apply State.modNi_steady
    | with_reducible apply State.stated_steady

theorem State.unitResponse_steady (h : r.Steady s) (pl : Pl) (p : Nat) (ttag : Nat) (status : Nat) (data : Line) : r.Steady (State.unitResponse s pl p ttag status data) := by
  unfold State.unitResponse
  repeat' first
    | with_reducible assumption
    | split
    | with_reducible apply State.modNi_steady
    | with_reducible apply State.unitAnswer_steady
    | extract_lets -underBinder _

theorem State.writeBack_steady (h : r.Steady s) (pl : Pl) (p : Nat) (j : Job) (d : Line) : r.Steady (State.writeBack s pl p j d) := by
  unfold State.writeBack
  repeat' first
    | with_reducible assumption
    | with_reducible apply ite_steady
    | with_reducible apply State.modNi_steady
    | with_reducible apply State.present_steady

/-! ### Machine/LockUnit.lean -/

theorem State.modLock_steady (h : r.Steady s) (pl : Pl) (n : Nat) (f : Lock → Lock) : r.Steady (State.modLock s pl n f) := by
  unfold State.modLock
  repeat' first
    | with_reducible assumption
    | with_reducible apply State.modSb_steady

theorem State.breakLock_steady (h : r.Steady s) (pl : Pl) (n : Nat) (cause : Nat) : r.Steady (State.breakLock s pl n cause) := by
  unfold State.breakLock
  repeat' first
    | with_reducible assumption
    | with_reducible apply ite_steady
    | with_reducible apply State.countLock_steady
    | with_reducible apply State.modLock_steady
    | with_reducible apply State.occurP_steady

theorem State.expireLock_steady (h : r.Steady s) (pl : Pl) (n : Nat) : r.Steady (State.expireLock s pl n) := by
  unfold State.expireLock
  repeat' first
    | with_reducible assumption
    | with_reducible apply ite_steady
    | with_reducible apply State.breakLock_steady

theorem State.lockReply_steady (h : r.Steady s) (pl : Pl) (hdr : BitVec 64) (st : Nat) (d : Line) : r.Steady (State.lockReply s pl hdr st d) := by
  unfold State.lockReply
  repeat' first
    | with_reducible assumption
    | with_reducible apply State.sbReply_steady

theorem State.acquire_steady (h : r.Steady s) (pl : Pl) (n : Nat) (hdr : BitVec 64) : r.Steady (State.acquire s pl n hdr) := by
  unfold State.acquire
  repeat' first
    | with_reducible assumption
    | with_reducible apply ite_steady
    | with_reducible apply State.countLock_steady
    | with_reducible apply State.freeLine_steady
    | with_reducible apply State.lockReply_steady
    | with_reducible apply State.modLock_steady
    | with_reducible apply State.stated_steady

theorem State.release_steady (h : r.Steady s) (pl : Pl) (n : Nat) (hdr : BitVec 64) : r.Steady (State.release s pl n hdr) := by
  unfold State.release
  repeat' first
    | with_reducible assumption
    | with_reducible apply ite_steady
    | with_reducible apply State.modLock_steady
    | with_reducible apply State.sbReply_steady

theorem State.lockPoisoned_steady (h : r.Steady s) (pl : Pl) (n : Nat) (op : Nat) (hdr : BitVec 64) : r.Steady (State.lockPoisoned s pl n op hdr) := by
  unfold State.lockPoisoned
  repeat' first
    | with_reducible assumption
    | with_reducible apply ite_steady
    | with_reducible apply State.freeLine_steady
    | with_reducible apply State.poisonOwner_steady
    | with_reducible apply State.sbReply_steady

theorem State.lockRequest_steady (h : r.Steady s) (pl : Pl) (q vc op : Nat) (f : State → Nat → BitVec 64 → State)
    (hf : ∀ t n w, r.Steady t → r.Steady (f t n w)) : r.Steady (State.lockRequest s pl q vc op f) := by
  unfold State.lockRequest
  repeat' first
    | with_reducible assumption
    | split
    | (refine State.popSb_steady ?_ (by assumption))
    | with_reducible apply hf
    | with_reducible apply State.lockPoisoned_steady
    | with_reducible apply State.expireLock_steady

theorem State.freeLock_steady (h : r.Steady s) (n : Nat) (pl : Pl) : r.Steady (State.freeLock s n pl) := by
  unfold State.freeLock
  repeat' first
    | with_reducible assumption
    | with_reducible apply ite_steady
    | with_reducible apply State.expireLock_steady
    | with_reducible apply State.modLock_steady
    | with_reducible apply State.pset_steady

end Sys2Proof.Machine
end

