-- ==== Sys2Proof/Laws/SteadyService.lean ====
section
/-!
SUPPORT. What the operations of placement and queues leave alone (`State.Steady`): the queue, the part, time, the test port, the accepted
configuration and the keys; and that the tables stay in order.
-/
namespace Sys2Proof.Machine

variable {r s : State}

/-! ### Machine/Lookaside.lean -/

theorem State.takeMgmt_steady {pl : Pl} {agent mop : Nat} {act : Option Nat} {k : Packet} {t : State} (h : r.Steady s)
    (e : s.takeMgmt pl agent mop act = some (k, t)) : r.Steady t := by
  unfold State.takeMgmt at e
  split at e
  · split at e
    · cases e; exact State.popEpIn_steady h (by assumption)
    · cases e
  · cases e

theorem State.modPlacement_steady (h : r.Steady s) (pl : Pl) (agent : Nat) (f : List Look × List (Nat × Nat) × List Frozen → List Look × List (Nat × Nat) × List Frozen) : r.Steady (State.modPlacement s pl agent f) := by
  unfold State.modPlacement
  repeat' first
    | with_reducible assumption
    | split
    | with_reducible apply State.modMul_steady
    | with_reducible apply State.modNi_steady

theorem State.settleAgent_steady (h : r.Steady s) (pl : Pl) (agent : Nat) : r.Steady (State.settleAgent s pl agent) := by
  unfold State.settleAgent
  repeat' first
    | with_reducible assumption
    | split
    | with_reducible apply State.niSettle_steady

theorem State.ackMgmt_steady (h : r.Steady s) (pl : Pl) (agent : Nat) (h : BitVec 64) (lines : List Line) : r.Steady (State.ackMgmt s pl agent h lines) := by
  unfold State.ackMgmt
  repeat' first
    | with_reducible assumption
    | with_reducible apply State.epSend_steady

theorem State.poisonWaiting_steady (h : r.Steady s) (pl : Pl) (p : Nat) (page : Nat) : r.Steady (State.poisonWaiting s pl p page) := by
  unfold State.poisonWaiting
  repeat' first
    | with_reducible assumption
    | with_reducible apply ite_steady
    | with_reducible apply State.modNi_steady
    | with_reducible apply State.por_steady
    | with_reducible apply State.postedError_steady
    | with_reducible apply foldl_steady
    | intro _ _ _

theorem State.freezeNi_steady (h : r.Steady s) (pl : Pl) (p : Nat) (page : Nat) (home : Nat) : r.Steady (State.freezeNi s pl p page home) := by
  unfold State.freezeNi
  repeat' first
    | with_reducible assumption
    | with_reducible apply State.modNi_steady
    | with_reducible apply State.resolveAll_steady

theorem State.freezeMul_steady (h : r.Steady s) (pl : Pl) (e : Nat) (page : Nat) (home : Nat) : r.Steady (State.freezeMul s pl e page home) := by
  unfold State.freezeMul
  repeat' first
    | with_reducible assumption
    | split
    | with_reducible apply State.modMul_steady
    | with_reducible apply State.mulSend_steady

/-! ### Machine/Service.lean -/

theorem State.sbIssueOne_steady (h : r.Steady s) (pl : Pl) (i : Nat) : r.Steady (State.sbIssueOne s pl i) := by
  unfold State.sbIssueOne
  extract_lets b
  split
  · refine ite_steady h ?_
    extract_lets -underBinder g s2 own
    have h2 : r.Steady s2 := State.modSb_steady h _ _
    have ho : ∀ st, r.Steady (own st) := fun st => State.modSb_steady h2 _ _
    clear_value own s2 g
    refine ite_steady (ho _) ?_
    split
    · exact State.sbSend_steady h2 _ _ _
    · exact ho _
  · exact h

theorem State.sbIssue_steady (h : r.Steady s) (pl : Pl) : r.Steady (State.sbIssue s pl) := by
  unfold State.sbIssue
  repeat' first
    | with_reducible assumption
    | with_reducible apply ite_steady
    | with_reducible apply State.sbIssueOne_steady
    | with_reducible apply foldl_steady
    | intro _ _ _

theorem State.sbAdd_steady (h : r.Steady s) (pl : Pl) (purpose : SbPurpose) (write : Bool) (ll : Bool) (owner : Nat) (priv : Nat) (addr : Nat) (span : Nat) (ben : BitVec 64) (data : List Line) : r.Steady (State.sbAdd s pl purpose write ll owner priv addr span ben data) := by
  unfold State.sbAdd
  repeat' first
    | with_reducible assumption
    | with_reducible apply State.modSb_steady
    | with_reducible apply State.sbIssue_steady

/-! ### Machine/PowerBase.lean -/

theorem State.pwrResult_steady (h : r.Steady s) (result : Nat) (quire : Nat) (device : Bool) (auto : Bool) (port : Nat) : r.Steady (State.pwrResult s result quire device auto port) := by
  unfold State.pwrResult
  repeat' first
    | with_reducible assumption
    | with_reducible apply State.gset_steady

theorem State.beginEntry_steady (h : r.Steady s) (q : Nat) (target : PState) (auto : Bool) (device : Bool) : r.Steady (State.beginEntry s q target auto device) := by
  unfold State.beginEntry
  repeat' first
    | with_reducible assumption
    | with_reducible apply State.modQp_steady

theorem State.beginExit_steady (h : r.Steady s) (q : Nat) (x : Nat) (wake : Bool) : r.Steady (State.beginExit s q x wake) := by
  unfold State.beginExit
  repeat' first
    | with_reducible assumption
    | with_reducible apply State.modQp_steady

theorem State.quireCmd_steady (h : r.Steady s) (q : Nat) (x : Nat) (target : PState) (auto : Bool) : r.Steady (State.quireCmd s q x target auto) := by
  unfold State.quireCmd
  repeat' first
    | with_reducible assumption
    | with_reducible apply ite_steady
    | split
    | with_reducible apply State.beginEntry_steady
    | with_reducible apply State.beginExit_steady
    | with_reducible apply State.pwrResult_steady

theorem State.runPending_steady (h : r.Steady s) (q : Nat) : r.Steady (State.runPending s q) := by
  unfold State.runPending
  repeat' first
    | with_reducible assumption
    | split
    | with_reducible apply State.beginEntry_steady
    | with_reducible apply State.modQp_steady
    | with_reducible apply State.quireCmd_steady

theorem State.abortEntry_steady (h : r.Steady s) (q : Nat) (result : Nat) (port : Nat) : r.Steady (State.abortEntry s q result port) := by
  unfold State.abortEntry
  repeat' first
    | with_reducible assumption
    | with_reducible apply ite_steady
    | split
    | with_reducible apply State.modPort_steady
    | with_reducible apply State.modQp_steady
    | with_reducible apply State.pwrResult_steady
    | with_reducible apply State.runPending_steady
    | with_reducible apply foldl_steady
    | with_reducible apply foldl_fst_steady
    | with_reducible apply foldl_snd_steady
    | intro _ _ _
    | (extract_lets -underBinder t; refine cut_steady (t := t) ?_ (fun _ => ?_); unfold t; rotate_left; clear_value t; rotate_right)
    | extract_lets -underBinder _
    | dsimp only
    | (dsimp +zetaDelta only)
    | with_reducible apply State.Steady.upd

theorem State.abortVacates_steady (h : r.Steady s) (pl : Pl) : r.Steady (State.abortVacates s pl) := by
  unfold State.abortVacates
  repeat' first
    | with_reducible assumption
    | split
    | with_reducible apply State.abortEntry_steady
    | with_reducible apply State.modSb_steady
    | with_reducible apply foldl_steady
    | intro _ _ _

/-! ### Machine/Bellwether.lean -/

theorem State.setChan_steady (h : r.Steady s) (pl : Pl) (e : Nat) (c : Nat) (st : Nat) (cause : Nat) : r.Steady (State.setChan s pl e c st cause) := by
  unfold State.setChan
  repeat' first
    | with_reducible assumption
    | with_reducible apply State.pfset_steady

theorem State.modChan_steady (h : r.Steady s) (pl : Pl) (e : Nat) (c : Nat) (f : Chan → Chan) : r.Steady (State.modChan s pl e c f) := by
  unfold State.modChan
  repeat' first
    | with_reducible assumption
    | with_reducible apply State.modMul_steady

theorem State.stopChan_steady (h : r.Steady s) (pl : Pl) (e : Nat) (c : Nat) (cause : Nat) : r.Steady (State.stopChan s pl e c cause) := by
  unfold State.stopChan
  repeat' first
    | with_reducible assumption
    | with_reducible apply ite_steady
    | with_reducible apply State.modChan_steady
    | with_reducible apply State.setChan_steady

theorem State.startCopy_steady (h : r.Steady s) (pl : Pl) (e : Nat) (src : Nat) (dst : Nat) (lines : List Nat) (recopy : Bool) : r.Steady (State.startCopy s pl e src dst lines recopy) := by
  unfold State.startCopy
  repeat' first
    | with_reducible assumption
    | with_reducible apply State.modChan_steady
    | with_reducible apply State.pset_steady

theorem State.modMig_steady (h : r.Steady s) (pl : Pl) (page : Nat) (f : Mig → Mig) : r.Steady (State.modMig s pl page f) := by
  unfold State.modMig
  repeat' first
    | with_reducible assumption
    | with_reducible apply State.modSb_steady

theorem State.migSendOne_steady (h : r.Steady s) (pl : Pl) (page : Nat) (d : Nat) : r.Steady (State.migSendOne s pl page d) := by
  unfold State.migSendOne
  repeat' first
    | with_reducible assumption
    | split
    | with_reducible apply State.modMig_steady
    | with_reducible apply State.sbMgmt_steady

theorem State.migPump_steady (h : r.Steady s) (pl : Pl) : r.Steady (State.migPump s pl) := by
  unfold State.migPump
  repeat' first
    | with_reducible assumption
    | with_reducible apply ite_steady
    | with_reducible apply State.migSendOne_steady
    | with_reducible apply State.modSb_steady
    | with_reducible apply State.sbMgmt_steady
    | with_reducible apply foldl_steady
    | intro _ _ _

theorem State.startMig_steady (h : r.Steady s) (pl : Pl) (page : Nat) (newIn : Bool) (newFrame : Nat) (byCmd : Bool) : r.Steady (State.startMig s pl page newIn newFrame byCmd) := by
  unfold State.startMig
  repeat' first
    | with_reducible assumption
    | with_reducible apply ite_steady
    | split
    | with_reducible apply State.countPlc_steady
    | with_reducible apply State.migPump_steady
    | with_reducible apply State.modSb_steady
    | with_reducible apply State.setEntry_steady

theorem State.cmdDone_steady (h : r.Steady s) (pl : Pl) (result : Nat) : r.Steady (State.cmdDone s pl result) := by
  unfold State.cmdDone
  repeat' first
    | with_reducible assumption
    | with_reducible apply State.pset_steady

theorem State.dropDemote_steady (h : r.Steady s) (pl : Pl) (page : Nat) (byCmd : Bool) : r.Steady (State.dropDemote s pl page byCmd) := by
  unfold State.dropDemote
  repeat' first
    | with_reducible assumption
    | with_reducible apply State.modSb_steady

theorem State.tryDemote_steady (h : r.Steady s) (pl : Pl) (page : Nat) (byCmd : Bool) : r.Steady (State.tryDemote s pl page byCmd) := by
  unfold State.tryDemote
  repeat' first
    | with_reducible assumption
    | with_reducible apply ite_steady
    | with_reducible apply State.cmdDone_steady
    | with_reducible apply State.dropDemote_steady
    | with_reducible apply State.modSb_steady
    | with_reducible apply State.startMig_steady

theorem State.tryDemotes_steady (h : r.Steady s) (pl : Pl) : r.Steady (State.tryDemotes s pl) := by
  unfold State.tryDemotes
  repeat' first
    | with_reducible assumption
    | split
    | with_reducible apply State.tryDemote_steady
    | with_reducible apply foldl_steady
    | intro _ _ _

theorem State.migCopy_steady (h : r.Steady s) (pl : Pl) (m : Mig) (lines : List Nat) (recopy : Bool) : r.Steady (State.migCopy s pl m lines recopy) := by
  unfold State.migCopy
  repeat' first
    | with_reducible assumption
    | with_reducible apply State.startCopy_steady

theorem State.migEnd_steady (h : r.Steady s) (pl : Pl) (page : Nat) : r.Steady (State.migEnd s pl page) := by
  unfold State.migEnd
  repeat' first
    | with_reducible assumption
    | with_reducible apply State.modSb_steady
    | with_reducible apply State.tryDemotes_steady

theorem State.migFinish_steady (h : r.Steady s) (pl : Pl) (m : Mig) : r.Steady (State.migFinish s pl m) := by
  unfold State.migFinish
  repeat' first
    | with_reducible assumption
    | with_reducible apply ite_steady
    | with_reducible apply State.cmdDone_steady
    | with_reducible apply State.migEnd_steady
    | with_reducible apply State.pinc_steady
    | with_reducible apply State.setEntry_steady

theorem State.migAdvance_steady (h : r.Steady s) (pl : Pl) (page : Nat) : r.Steady (State.migAdvance s pl page) := by
  unfold State.migAdvance
  repeat' first
    | with_reducible assumption
    | split
    | with_reducible apply State.migFinish_steady
    | with_reducible apply State.migPump_steady
    | with_reducible apply State.modMig_steady

theorem State.migSettle_steady (h : r.Steady s) (pl : Pl) : r.Steady (State.migSettle s pl) := by
  unfold State.migSettle
  repeat' first
    | with_reducible assumption
    | with_reducible apply State.migAdvance_steady
    | with_reducible apply State.migPump_steady
    | with_reducible apply foldl_steady
    | intro _ _ _

theorem State.noteFreeze_steady (h : r.Steady s) (pl : Pl) (m : Mig) : r.Steady (State.noteFreeze s pl m) := by
  unfold State.noteFreeze
  repeat' first
    | with_reducible assumption
    | split
    | with_reducible apply State.pset_steady

theorem State.migAbort_steady (h : r.Steady s) (pl : Pl) (page : Nat) (cause : Nat) (port : Nat) : r.Steady (State.migAbort s pl page cause port) := by
  unfold State.migAbort
  repeat' first
    | with_reducible assumption
    | split
    | with_reducible apply State.cmdDone_steady
    | with_reducible apply State.countPlc_steady
    | with_reducible apply State.migAdvance_steady
    | with_reducible apply State.migPump_steady
    | with_reducible apply State.modMig_steady
    | with_reducible apply State.modSb_steady
    | with_reducible apply State.noteFreeze_steady
    | with_reducible apply State.pinc_steady
    | with_reducible apply State.pset_steady
    | with_reducible apply State.sbIssue_steady
    | with_reducible apply State.setEntry_steady
    | with_reducible apply State.stopChan_steady

theorem State.migAbortAll_steady (h : r.Steady s) (pl : Pl) (cause : Nat) (f : Mig → Bool) : r.Steady (State.migAbortAll s pl cause f) := by
  unfold State.migAbortAll
  repeat' first
    | with_reducible assumption
    | with_reducible apply State.migAbort_steady
    | with_reducible apply foldl_steady
    | intro _ _ _

theorem State.migCollect_steady (h : r.Steady s) (pl : Pl) (m : Mig) : r.Steady (State.migCollect s pl m) := by
  unfold State.migCollect
  repeat' first
    | with_reducible assumption
    | with_reducible apply ite_steady
    | with_reducible apply State.migAbort_steady
    | with_reducible apply State.migAdvance_steady
    | with_reducible apply State.migCopy_steady
    | with_reducible apply State.migPump_steady
    | with_reducible apply State.modMig_steady

theorem State.migWatched_steady (h : r.Steady s) (pl : Pl) (m : Mig) (d : BitVec 1024) : r.Steady (State.migWatched s pl m d) := by
  unfold State.migWatched
  repeat' first
    | with_reducible assumption
    | with_reducible apply ite_steady
    | with_reducible apply State.migCollect_steady
    | with_reducible apply State.migCopy_steady
    | with_reducible apply State.modMig_steady

theorem State.migSwitch_steady (h : r.Steady s) (pl : Pl) (m : Mig) : r.Steady (State.migSwitch s pl m) := by
  unfold State.migSwitch
  repeat' first
    | with_reducible assumption
    | with_reducible apply ite_steady
    | with_reducible apply State.cmdDone_steady
    | with_reducible apply State.migAdvance_steady
    | with_reducible apply State.migPump_steady
    | with_reducible apply State.modMig_steady
    | with_reducible apply State.noteFreeze_steady
    | with_reducible apply State.sbIssue_steady
    | with_reducible apply State.setEntry_steady

theorem State.promote_steady (h : r.Steady s) (pl : Pl) (page : Nat) : r.Steady (State.promote s pl page) := by
  unfold State.promote
  repeat' first
    | with_reducible assumption
    | split
    | with_reducible apply State.startMig_steady
    | extract_lets -underBinder _

theorem State.period_steady (h : r.Steady s) (pl : Pl) : r.Steady (State.period s pl) := by
  unfold State.period
  repeat' first
    | with_reducible assumption
    | with_reducible apply ite_steady
    | with_reducible apply State.modSb_steady
    | with_reducible apply State.promote_steady
    | with_reducible apply State.startMig_steady
    | with_reducible apply foldl_steady
    | intro _ _ _

theorem State.timedCheck_steady (h : r.Steady s) (pl : Pl) : r.Steady (State.timedCheck s pl) := by
  unfold State.timedCheck
  repeat' first
    | with_reducible assumption
    | with_reducible apply ite_steady
    | with_reducible apply State.abortVacates_steady
    | with_reducible apply State.migAbortAll_steady
    | with_reducible apply State.modSb_steady

theorem State.timedCheckAll_steady (h : r.Steady s) : r.Steady (State.timedCheckAll s) := by
  unfold State.timedCheckAll
  repeat' first
    | with_reducible assumption
    | with_reducible apply State.eachPlane_steady
    | with_reducible apply State.timedCheck_steady
    | intro _ _ _

theorem State.timedSlot_steady (h : r.Steady s) (pl : Pl) : r.Steady (State.timedSlot s pl) := by
  unfold State.timedSlot
  repeat' first
    | with_reducible assumption
    | with_reducible apply State.modSb_steady

theorem State.plcCtrl_steady (h : r.Steady s) (v : W32) (pl : Pl) : r.Steady (State.plcCtrl s v pl) := by
  unfold State.plcCtrl
  repeat' first
    | with_reducible assumption
    | with_reducible apply ite_steady
    | with_reducible apply State.modSb_steady
    | with_reducible apply State.pfset_steady
    | with_reducible apply State.timedCheck_steady

theorem State.pageCmd_steady (h : r.Steady s) (page : Nat) (op : Nat) (pl : Pl) : r.Steady (State.pageCmd s page op pl) := by
  unfold State.pageCmd
  repeat' first
    | with_reducible assumption
    | with_reducible apply ite_steady
    | split
    | with_reducible apply State.cmdDone_steady
    | with_reducible apply State.migAbort_steady
    | with_reducible apply State.modMig_steady
    | with_reducible apply State.modSb_steady
    | with_reducible apply State.pset_steady
    | with_reducible apply State.setEntry_steady
    | with_reducible apply State.tryDemote_steady

theorem State.bwEndDown_steady (h : r.Steady s) (agent : Nat) (pl : Pl) : r.Steady (State.bwEndDown s agent pl) := by
  unfold State.bwEndDown
  repeat' first
    | with_reducible assumption
    | with_reducible apply State.migAbortAll_steady
    | with_reducible apply State.migSettle_steady
    | with_reducible apply State.modSb_steady

theorem State.bwPortUp_steady (h : r.Steady s) (p : Nat) (pl : Pl) : r.Steady (State.bwPortUp s p pl) := by
  unfold State.bwPortUp
  repeat' first
    | with_reducible assumption
    | with_reducible apply State.modSb_steady

theorem State.bwClean_steady (h : r.Steady s) (o : Nat) (pl : Pl) : r.Steady (State.bwClean s o pl) := by
  unfold State.bwClean
  repeat' first
    | with_reducible assumption
    | with_reducible apply ite_steady
    | with_reducible apply State.migPump_steady
    | with_reducible apply State.modSb_steady
    | with_reducible apply State.setEntry_steady
    | with_reducible apply foldl_steady
    | intro _ _ _

/-! ### Machine/QueueBase.lean -/

theorem State.sbResponse_steady {pl : Pl} {q vc : Nat} {f : SbPurpose → Bool} {k : Packet} {o : SbOut} {st : Nat} {t : State}
    (h : r.Steady s) (e : s.sbResponse pl q vc f = some (k, o, st, t)) : r.Steady t := by
  unfold State.sbResponse at e
  split at e
  · cases e
  · split at e
    · cases e
    · split at e
      · cases e
        repeat' first
          | with_reducible assumption
          | split
          | (refine State.popSbIn_steady ?_ (by assumption))
          | with_reducible apply State.migSettle_steady
          | with_reducible apply State.sbIssue_steady
          | with_reducible apply State.poisonOwner_steady
          | with_reducible apply State.modSb_steady
      · cases e

theorem State.qdset_steady (h : r.Steady s) (pl : Pl) (n : Nat) (off : Nat) (lo : Nat) (len : Nat) (v : Nat) : r.Steady (State.qdset s pl n off lo len v) := by
  unfold State.qdset
  repeat' first
    | with_reducible assumption
    | with_reducible apply State.pfset_steady

theorem State.modQ_steady (h : r.Steady s) (pl : Pl) (n : Nat) (f : QDyn → QDyn) : r.Steady (State.modQ s pl n f) := by
  unfold State.modQ
  repeat' first
    | with_reducible assumption
    | with_reducible apply State.modSb_steady

theorem State.qSetBit_steady (h : r.Steady s) (pl : Pl) (n : Nat) (i : Nat) (v : Bool) : r.Steady (State.qSetBit s pl n i v) := by
  unfold State.qSetBit
  repeat' first
    | with_reducible assumption
    | with_reducible apply State.qdset_steady

theorem State.setHead_steady (h : r.Steady s) (pl : Pl) (n : Nat) (v : Nat) : r.Steady (State.setHead s pl n v) := by
  unfold State.setHead
  repeat' first
    | with_reducible assumption
    | with_reducible apply State.modQ_steady
    | with_reducible apply State.qdset_steady

theorem State.setK_steady (h : r.Steady s) (pl : Pl) (f : Nat) (k : Nat) (v : Nat) : r.Steady (State.setK s pl f k v) := by
  unfold State.setK
  repeat' first
    | with_reducible assumption
    | with_reducible apply State.modSb_steady

theorem State.enqueue_steady (h : r.Steady s) (pl : Pl) (n : Nat) (src : Nat) (tag : Nat) (reply : Bool) (keyslot : Nat) (owner : Nat) (redel : Bool) (flock : Bool) (lines : List Line) : r.Steady (State.enqueue s pl n src tag reply keyslot owner redel flock lines) := by
  unfold State.enqueue
  repeat' first
    | with_reducible assumption
    | with_reducible apply ite_steady
    | with_reducible apply State.countQ_steady
    | with_reducible apply State.modQ_steady
    | with_reducible apply State.qdset_steady
    | with_reducible apply State.sbAdd_steady

theorem State.ackProducer_steady (h : r.Steady s) (pl : Pl) (src : Nat) (tag : Nat) (st : Nat) : r.Steady (State.ackProducer s pl src tag st) := by
  unfold State.ackProducer
  repeat' first
    | with_reducible assumption
    | with_reducible apply State.sbReply_steady

theorem State.admitHeld_steady {pl : Pl} {x : Held} {t : State} (h : r.Steady s) (e : s.admitHeld pl x = some t) : r.Steady t := by
  unfold State.admitHeld at e
  split at e
  · cases e
  · split at e
    · cases e
    · split at e
      · cases e
        exact State.enqueue_steady (State.modSb_steady (State.setK_steady h _ _ _ _) _ _) _ _ _ _ _ _ _ _ _ _
      · cases e

theorem State.clearMoving_steady (h : r.Steady s) (pl : Pl) (f : Nat) (k : Nat) : r.Steady (State.clearMoving s pl f k) := by
  unfold State.clearMoving
  repeat' first
    | with_reducible assumption
    | with_reducible apply ite_steady
    | with_reducible apply State.setK_steady

theorem State.settleLeft_steady (h : r.Steady s) (pl : Pl) (f : Nat) : r.Steady (State.settleLeft s pl f) := by
  unfold State.settleLeft
  repeat' first
    | with_reducible assumption
    | with_reducible apply ite_steady
    | with_reducible apply State.modQ_steady
    | with_reducible apply State.qSetBit_steady
    | with_reducible apply foldl_steady
    | intro _ _ _

theorem State.drain_steady (h : r.Steady s) (pl : Pl) (f : Nat) (ks : List Nat) : r.Steady (State.drain s pl f ks) := by
  unfold State.drain
  refine State.settleLeft_steady (foldl_steady _ _ (foldl_fst_steady _ _ _ h (fun a x ha => ?_))
    (fun t k ht => State.clearMoving_steady ht _ _ _)) _ _
  split
  · exact ha
  · split
    · exact State.admitHeld_steady ha (by assumption)
    · exact ha

theorem State.moveDone_steady (h : r.Steady s) (pl : Pl) (m : Move) : r.Steady (State.moveDone s pl m) := by
  unfold State.moveDone
  repeat' first
    | with_reducible assumption
    | with_reducible apply State.countQ_steady
    | with_reducible apply State.modSb_steady
    | with_reducible apply State.pinc_steady
    | with_reducible apply State.setK_steady

theorem State.headMoved_steady (h : r.Steady s) (pl : Pl) (n : Nat) : r.Steady (State.headMoved s pl n) := by
  unfold State.headMoved
  repeat' first
    | with_reducible assumption
    | split
    | with_reducible apply State.drain_steady
    | with_reducible apply State.modQ_steady
    | with_reducible apply State.moveDone_steady
    | with_reducible apply State.qSetBit_steady
    | with_reducible apply State.setK_steady
    | with_reducible apply foldl_steady
    | intro _ _ _
    | extract_lets -underBinder _

theorem State.doorbell_steady (h : r.Steady s) (pl : Pl) (n : Nat) : r.Steady (State.doorbell s pl n) := by
  unfold State.doorbell
  repeat' first
    | with_reducible assumption
    | with_reducible apply ite_steady
    | with_reducible apply State.countQ_steady
    | with_reducible apply State.qSetBit_steady
    | with_reducible apply State.sbAdd_steady

theorem State.takeKeys_steady (h : r.Steady s) (pl : Pl) (n : Nat) : r.Steady (State.takeKeys s pl n) := by
  unfold State.takeKeys
  repeat' first
    | with_reducible assumption
    | with_reducible apply State.modQ_steady
    | with_reducible apply State.modSb_steady
    | with_reducible apply State.setK_steady
    | with_reducible apply foldl_steady
    | intro _ _ _

theorem State.readRecord_steady (h : r.Steady s) (pl : Pl) (n : Nat) (l : Loss) : r.Steady (State.readRecord s pl n l) := by
  unfold State.readRecord
  repeat' first
    | with_reducible assumption
    | with_reducible apply State.modQ_steady
    | with_reducible apply State.sbAdd_steady

theorem State.readmit_steady (h : r.Steady s) (pl : Pl) (n : Nat) (l : Loss) (w : BitVec 64) : r.Steady (State.readmit s pl n l w) := by
  unfold State.readmit
  repeat' first
    | with_reducible assumption
    | split
    | with_reducible apply State.countQ_steady
    | with_reducible apply State.enqueue_steady
    | with_reducible apply State.modQ_steady
    | with_reducible apply State.pinc_steady
    | with_reducible apply State.setK_steady
    | extract_lets -underBinder _

theorem State.lossStep_steady (h : r.Steady s) (pl : Pl) (n : Nat) : r.Steady (State.lossStep s pl n) := by
  unfold State.lossStep
  repeat' first
    | with_reducible assumption
    | split
    | with_reducible apply State.modQ_steady
    | with_reducible apply State.readRecord_steady
    | with_reducible apply State.readmit_steady
    | extract_lets -underBinder _

theorem State.lossSettle_steady (h : r.Steady s) (pl : Pl) : r.Steady (State.lossSettle s pl) := by
  unfold State.lossSettle
  repeat' first
    | with_reducible assumption
    | with_reducible apply State.lossStep_steady
    | with_reducible apply foldl_steady
    | intro _ _ _

theorem State.loseMember_steady (h : r.Steady s) (pl : Pl) (n : Nat) : r.Steady (State.loseMember s pl n) := by
  unfold State.loseMember
  repeat' first
    | with_reducible assumption
    | with_reducible apply ite_steady
    | with_reducible apply State.lossStep_steady
    | with_reducible apply State.modQ_steady
    | with_reducible apply State.occurP_steady
    | with_reducible apply State.pinc_steady
    | with_reducible apply State.qSetBit_steady
    | with_reducible apply State.takeKeys_steady

theorem State.commit_steady (h : r.Steady s) (fuel : Nat) (pl : Pl) (n : Nat) : r.Steady (State.commit fuel s pl n) := by
  induction fuel generalizing s with
  | zero => exact h
  | succ fuel ih =>
    rw [State.commit]
    repeat' first
      | with_reducible assumption
      | split
      | with_reducible apply ih
      | with_reducible apply State.ackProducer_steady
      | with_reducible apply State.countQ_steady
      | with_reducible apply State.modQ_steady
      | with_reducible apply State.qdset_steady

theorem State.dropAdms_steady (h : r.Steady s) (pl : Pl) (n : Nat) (st : Nat) (l : List Adm) : r.Steady (State.dropAdms s pl n st l) := by
  unfold State.dropAdms
  repeat' first
    | with_reducible assumption
    | with_reducible apply ite_steady
    | with_reducible apply State.ackProducer_steady
    | with_reducible apply State.modQ_steady
    | with_reducible apply State.modSb_steady
    | with_reducible apply State.qdset_steady
    | with_reducible apply foldl_steady
    | intro _ _ _

theorem State.ringFailed_steady (h : r.Steady s) (pl : Pl) (n : Nat) (q : Nat) : r.Steady (State.ringFailed s pl n q) := by
  unfold State.ringFailed
  repeat' first
    | with_reducible assumption
    | with_reducible apply State.dropAdms_steady
    | with_reducible apply State.loseMember_steady
    | with_reducible apply State.qSetBit_steady
    | with_reducible apply State.queueFault_steady

theorem State.queueSettle_steady (h : r.Steady s) (pl : Pl) (n : Nat) : r.Steady (State.queueSettle s pl n) := by
  unfold State.queueSettle
  repeat' first
    | with_reducible assumption
    | with_reducible apply State.lossSettle_steady
    | with_reducible apply State.modSb_steady

theorem State.joinFlag_steady (h : r.Steady s) (pl : Pl) (n : Nat) : r.Steady (State.joinFlag s pl n) := by
  unfold State.joinFlag
  repeat' first
    | with_reducible assumption
    | with_reducible apply ite_steady
    | with_reducible apply State.modQ_steady
    | with_reducible apply State.qSetBit_steady

theorem State.queueFcEnd_steady (h : r.Steady s) (pl : Pl)  : r.Steady (State.queueFcEnd pl s) := by
  unfold State.queueFcEnd
  repeat' first
    | with_reducible assumption
    | with_reducible apply ite_steady
    | with_reducible apply State.doorbell_steady
    | with_reducible apply State.joinFlag_steady
    | with_reducible apply State.modQ_steady
    | with_reducible apply State.modSb_steady
    | with_reducible apply foldl_steady
    | intro _ _ _

theorem State.queuesPortDown_steady (h : r.Steady s) (p : Nat) (pl : Pl) : r.Steady (State.queuesPortDown s p pl) := by
  unfold State.queuesPortDown
  repeat' first
    | with_reducible assumption
    | with_reducible apply State.loseMember_steady
    | with_reducible apply foldl_steady
    | intro _ _ _

theorem State.queuesClean_steady (h : r.Steady s) (o : Nat) (pl : Pl) : r.Steady (State.queuesClean s o pl) := by
  unfold State.queuesClean
  repeat' first
    | with_reducible assumption
    | with_reducible apply State.ackProducer_steady
    | with_reducible apply State.dropAdms_steady
    | with_reducible apply State.modQ_steady
    | with_reducible apply State.modSb_steady
    | with_reducible apply State.qSetBit_steady
    | with_reducible apply State.setHead_steady
    | with_reducible apply foldl_steady
    | intro _ _ _

/-! ### Machine/Queues.lean -/

theorem State.msgAnswer_steady (h : r.Steady s) (pl : Pl) (k : Packet) (st : Nat) : r.Steady (State.msgAnswer s pl k st) := by
  unfold State.msgAnswer
  repeat' first
    | with_reducible assumption
    | with_reducible apply ite_steady
    | with_reducible apply State.ackProducer_steady
    | with_reducible apply State.countQ_steady

theorem State.gateQueue_steady (h : r.Steady s) (pl : Pl) (n : Nat) (k : Packet) : r.Steady (State.gateQueue s pl n k) := by
  unfold State.gateQueue
  repeat' first
    | with_reducible assumption
    | with_reducible apply ite_steady
    | with_reducible apply State.enqueue_steady
    | with_reducible apply State.msgAnswer_steady
    | with_reducible apply State.pinc_steady

theorem State.gateFlock_steady (h : r.Steady s) (pl : Pl) (f : Nat) (k : Packet) : r.Steady (State.gateFlock s pl f k) := by
  unfold State.gateFlock
  repeat' first
    | with_reducible assumption
    | with_reducible apply ite_steady
    | split
    | with_reducible apply State.countQ_steady
    | with_reducible apply State.enqueue_steady
    | with_reducible apply State.modSb_steady
    | with_reducible apply State.msgAnswer_steady
    | with_reducible apply State.pinc_steady
    | with_reducible apply State.setK_steady

theorem State.ringAnswered_steady (h : r.Steady s) (pl : Pl) (n : Nat) (seq : Nat) (st : Nat) : r.Steady (State.ringAnswered s pl n seq st) := by
  unfold State.ringAnswered
  repeat' first
    | with_reducible assumption
    | with_reducible apply ite_steady
    | with_reducible apply State.commit_steady
    | with_reducible apply State.modQ_steady
    | with_reducible apply State.queueSettle_steady
    | with_reducible apply State.ringFailed_steady

theorem State.qopReply_steady (h : r.Steady s) (pl : Pl) (h : BitVec 64) (st : Nat) (d : Line) : r.Steady (State.qopReply s pl h st d) := by
  unfold State.qopReply
  repeat' first
    | with_reducible assumption
    | with_reducible apply State.sbReply_steady

theorem State.leaveFlag_steady (h : r.Steady s) (pl : Pl) (n : Nat) : r.Steady (State.leaveFlag s pl n) := by
  unfold State.leaveFlag
  repeat' first
    | with_reducible assumption
    | with_reducible apply ite_steady
    | with_reducible apply State.modQ_steady
    | with_reducible apply State.qSetBit_steady
    | with_reducible apply State.takeKeys_steady

theorem State.consume_steady (h : r.Steady s) (pl : Pl) (n : Nat) (h : BitVec 64) (cnt : Nat) (flags : BitVec 8) : r.Steady (State.consume s pl n h cnt flags) := by
  unfold State.consume
  repeat' first
    | with_reducible assumption
    | with_reducible apply ite_steady
    | with_reducible apply State.headMoved_steady
    | with_reducible apply State.joinFlag_steady
    | with_reducible apply State.leaveFlag_steady
    | with_reducible apply State.qSetBit_steady
    | with_reducible apply State.qopReply_steady
    | with_reducible apply State.queueSettle_steady
    | with_reducible apply State.setHead_steady
    | with_reducible apply State.stated_steady

theorem State.qop_steady (h : r.Steady s) (pl : Pl) (q : Nat) (vc : Nat) (pick : Nat → BitVec 8 → Bool) : r.Steady (State.qop s pl q vc pick) := by
  unfold State.qop
  repeat' first
    | with_reducible assumption
    | with_reducible apply ite_steady
    | split
    | with_reducible apply State.consume_steady
    | with_reducible apply State.modQ_steady
    | with_reducible apply State.poisonOwner_steady
    | exact State.popSb_steady (by assumption) (by assumption)
    | with_reducible apply State.qopReply_steady
    | with_reducible apply State.stated_steady

theorem State.startMoves_steady (h : r.Steady s) (pl : Pl) (f : Nat) (a : Nat × Nat) (b : Nat × Nat) : r.Steady (State.startMoves s pl f a b) := by
  unfold State.startMoves
  repeat' first
    | with_reducible assumption
    | split
    | with_reducible apply State.modSb_steady
    | with_reducible apply State.setK_steady
    | with_reducible apply foldl_fst_steady
    | intro _ _ _
    | extract_lets -underBinder _

theorem State.rebalance_steady (h : r.Steady s) (pl : Pl) (f : Nat) : r.Steady (State.rebalance s pl f) := by
  unfold State.rebalance
  repeat' first
    | with_reducible assumption
    | split
    | with_reducible apply State.headMoved_steady
    | with_reducible apply State.startMoves_steady
    | (dsimp +zetaDelta only)

theorem State.skipMessage_steady (h : r.Steady s) (pl : Pl) (n : Nat) (l : Loss) : r.Steady (State.skipMessage s pl n l) := by
  unfold State.skipMessage
  repeat' first
    | with_reducible assumption
    | with_reducible apply State.lossStep_steady
    | with_reducible apply State.modQ_steady
    | with_reducible apply State.queueFault_steady

theorem State.recordRead_steady (h : r.Steady s) (pl : Pl) (n : Nat) (seq : Nat) (d : Line) (l : Loss) : r.Steady (State.recordRead s pl n seq d l) := by
  unfold State.recordRead
  repeat' first
    | with_reducible assumption
    | with_reducible apply State.modQ_steady
    | with_reducible apply State.sbAdd_steady

theorem State.qCtrl_steady (h : r.Steady s) (n : Nat) (v : W32) (pl : Pl) : r.Steady (State.qCtrl s n v pl) := by
  unfold State.qCtrl
  repeat' first
    | with_reducible assumption
    | with_reducible apply ite_steady
    | with_reducible apply State.headMoved_steady
    | with_reducible apply State.loseMember_steady
    | with_reducible apply State.lossSettle_steady
    | with_reducible apply State.qSetBit_steady
    | with_reducible apply State.setHead_steady

end Sys2Proof.Machine
end

