-- ==== Sys2Proof/Laws/SteadyPorts.lean ====
section
/-!
SUPPORT. What the operations of ports, timing, Mule engines, owners, routers, the pair and the pads leave alone (`State.Steady`): the queue, the part, time, the test port, the accepted
configuration and the keys; and that the tables stay in order.
-/
namespace Sys2Proof.Machine

variable {r s : State}

/-! ### Machine/Ports.lean -/

theorem State.portDown_steady (h : r.Steady s) (p : Nat) (pl : Pl) : r.Steady (State.portDown s p pl) := by
  unfold State.portDown
  repeat' first
    | with_reducible assumption
    | with_reducible apply State.bwEndDown_steady
    | with_reducible apply State.modNi_steady
    | with_reducible apply State.modRouter_steady
    | with_reducible apply State.queuesPortDown_steady

theorem State.fallPort_steady (h : r.Steady s) (p : Nat) : r.Steady (State.fallPort s p) := by
  unfold State.fallPort
  repeat' first
    | with_reducible assumption
    | with_reducible apply ite_steady
    | split
    | with_reducible apply State.eachPlane_steady
    | with_reducible apply State.modPort_steady
    | with_reducible apply State.portDown_steady
    | intro _ _ _
    | (extract_lets -underBinder t; refine cut_steady (t := t) ?_ (fun _ => ?_); unfold t; rotate_left; clear_value t; rotate_right)
    | extract_lets -underBinder _
    | dsimp only
    | (dsimp +zetaDelta only)
    | with_reducible apply State.Steady.upd

theorem State.risePort_steady (h : r.Steady s) (p : Nat) : r.Steady (State.risePort s p) := by
  unfold State.risePort
  repeat' first
    | with_reducible assumption
    | with_reducible apply State.bwPortUp_steady
    | with_reducible apply State.eachPlane_steady
    | with_reducible apply State.modPort_steady
    | intro _ _ _

theorem State.poisonJobs_steady (h : r.Steady s) (p : Nat) (pl : Pl) : r.Steady (State.poisonJobs s p pl) := by
  unfold State.poisonJobs
  repeat' first
    | with_reducible assumption
    | with_reducible apply State.finishJob_steady
    | with_reducible apply State.freeLines_steady
    | with_reducible apply State.modNi_steady
    | with_reducible apply foldl_steady
    | intro _ _ _

theorem State.startPoison_steady (h : r.Steady s) (p : Nat) : r.Steady (State.startPoison s p) := by
  unfold State.startPoison
  repeat' first
    | with_reducible assumption
    | with_reducible apply ite_steady
    | with_reducible apply State.eachPlane_steady
    | with_reducible apply State.modPort_steady
    | with_reducible apply State.poisonJobs_steady
    | intro _ _ _

/-! ### Machine/Latency.lean -/

theorem State.modIsl_steady (h : r.Steady s) (pl : Pl) (i : Nat) (f : Island → Island) : r.Steady (State.modIsl s pl i f) :=
  State.modPln_steady h pl _ (fun _ hx => by
    exact ⟨hx.1, hx.2.1, hx.2.2.1, hx.2.2.2.1, hx.2.2.2.2.1, Tab.sorted_upd hx.2.2.2.2.2 _ _ _⟩)

theorem State.pltAdd_steady (h : r.Steady s) (l : List SbOut) : r.Steady (State.pltAdd s l) := by
  unfold State.pltAdd
  repeat' first
    | with_reducible assumption
    | with_reducible apply State.eachPlane_steady
    | with_reducible apply State.modSb_steady
    | with_reducible apply State.sbIssue_steady
    | intro _ _ _

theorem State.pltEntries_steady (h : r.Steady s) : r.Steady (State.pltEntries s) := by
  unfold State.pltEntries
  repeat' first
    | with_reducible assumption
    | with_reducible apply State.pltAdd_steady

theorem State.pltFlags_steady (h : r.Steady s) (hit : TabEnd → TabEnd → Bool) : r.Steady (State.pltFlags s hit) := by
  unfold State.pltFlags
  repeat' first
    | with_reducible assumption
    | with_reducible apply ite_steady
    | with_reducible apply State.pltAdd_steady

/-! ### Machine/Tick.lean -/

theorem State.useFree_steady (h : r.Steady s) (pl : Pl) (idx : Nat) : r.Steady (State.useFree s pl idx) := by
  unfold State.useFree
  repeat' first
    | with_reducible assumption
    | with_reducible apply ite_steady
    | with_reducible apply State.usedFree_steady

theorem State.tickCounters_steady (h : r.Steady s) (pl : Pl) : r.Steady (State.tickCounters s pl) := by
  unfold State.tickCounters
  repeat' first
    | with_reducible assumption
    | with_reducible apply ite_steady
    | with_reducible apply State.ctrAdd_steady
    | with_reducible apply State.useFree_steady
    | with_reducible apply foldl_steady
    | intro _ _ _

theorem State.tickPlane_steady (h : r.Steady s) (pl : Pl)  : r.Steady (State.tickPlane pl s) := by
  unfold State.tickPlane
  repeat' first
    | with_reducible assumption
    | with_reducible apply ite_steady
    | with_reducible apply State.modSb_steady
    | with_reducible apply State.tickCounters_steady

/-! ### Machine/Timing.lean -/

theorem State.gtReturn_steady (h : r.Steady s) (pl : Pl) (p : Nat) (n : Nat) : r.Steady (State.gtReturn s pl p n) := by
  unfold State.gtReturn
  repeat' first
    | with_reducible assumption
    | with_reducible apply State.demote_steady
    | with_reducible apply State.modNi_steady
    | with_reducible apply State.niSettle_steady
    | with_reducible apply foldl_fst_steady
    | intro _ _ _

theorem State.gtReserve_steady (h : r.Steady s) (pl : Pl) (r₀ : GtRec) (off : Bool) : r.Steady (State.gtReserve s pl r₀ off) := by
  unfold State.gtReserve
  repeat' first
    | with_reducible assumption
    | with_reducible apply State.modNi_steady

theorem State.gtDisable_steady (h : r.Steady s) (pl : Pl) (r₀ : GtRec) : r.Steady (State.gtDisable s pl r₀) := by
  unfold State.gtDisable
  repeat' first
    | with_reducible assumption
    | with_reducible apply ite_steady
    | with_reducible apply State.gtReserve_steady
    | with_reducible apply State.gtReturn_steady
    | with_reducible apply State.por_steady

theorem State.gtDisableUnlocked_steady (h : r.Steady s) (pl : Pl) : r.Steady (State.gtDisableUnlocked s pl) := by
  unfold State.gtDisableUnlocked
  repeat' first
    | with_reducible assumption
    | with_reducible apply ite_steady
    | with_reducible apply State.gtDisable_steady
    | with_reducible apply foldl_steady
    | intro _ _ _

theorem State.markUnlocked_steady (h : r.Steady s) (pl : Pl) : r.Steady (State.markUnlocked s pl) := by
  unfold State.markUnlocked
  repeat' first
    | with_reducible assumption
    | with_reducible apply ite_steady
    | with_reducible apply State.modIsl_steady
    | with_reducible apply State.pltFlags_steady
    | with_reducible apply foldl_steady
    | intro _ _ _

theorem State.unlock_steady (h : r.Steady s) (pl : Pl) (i : Nat) : r.Steady (State.unlock s pl i) := by
  unfold State.unlock
  repeat' first
    | with_reducible assumption
    | with_reducible apply ite_steady
    | with_reducible apply State.ginc_steady
    | with_reducible apply State.modIsl_steady
    | with_reducible apply State.occurInfo_steady
    | with_reducible apply State.timedCheck_steady

theorem State.lockIsland_steady (h : r.Steady s) (pl : Pl) (i : Nat) : r.Steady (State.lockIsland s pl i) := by
  unfold State.lockIsland
  repeat' first
    | with_reducible assumption
    | with_reducible apply State.modIsl_steady

theorem State.setOff_steady (h : r.Steady s) (l : List (Nat × Nat)) : r.Steady (State.setOff s l) := by
  unfold State.setOff
  repeat' first
    | with_reducible assumption
    | with_reducible apply ite_steady
    | split
    | (extract_lets -underBinder t; refine cut_steady (t := t) ?_ (fun _ => ?_); unfold t; rotate_left; clear_value t; rotate_right)
    | extract_lets -underBinder _
    | dsimp only
    | (dsimp +zetaDelta only)
    | with_reducible apply State.Steady.upd

theorem State.forgetOff_steady (h : r.Steady s) (pl : Pl) (i : Nat) : r.Steady (State.forgetOff s pl i) := by
  unfold State.forgetOff
  repeat' first
    | with_reducible assumption
    | with_reducible apply State.setOff_steady

theorem State.relocked_steady (h : r.Steady s) (pl : Pl) (i : Nat) : r.Steady (State.relocked s pl i) := by
  unfold State.relocked
  repeat' first
    | with_reducible assumption
    | with_reducible apply ite_steady
    | with_reducible apply State.lockIsland_steady
    | with_reducible apply State.modIsl_steady
    | with_reducible apply State.pltFlags_steady

theorem State.lockDueIn_steady (h : r.Steady s) (pl : Pl) (l : List Nat) : r.Steady (State.lockDueIn s pl l) := by
  unfold State.lockDueIn
  repeat' first
    | with_reducible assumption
    | with_reducible apply State.relocked_steady
    | with_reducible apply foldl_steady
    | intro _ _ _

theorem State.recordOff_steady (h : r.Steady s) (m : List Crossing) : r.Steady (State.recordOff s m) := by
  unfold State.recordOff
  repeat' first
    | with_reducible assumption
    | with_reducible apply State.ginc_steady
    | with_reducible apply State.setOff_steady
    | with_reducible apply State.unlock_steady
    | with_reducible apply foldl_steady
    | intro _ _ _

theorem State.gtRefill_steady (h : r.Steady s) (pl : Pl) (p : Nat) : r.Steady (State.gtRefill s pl p) := by
  unfold State.gtRefill
  repeat' first
    | with_reducible assumption
    | with_reducible apply State.modNi_steady

theorem State.admitRet_steady (h : r.Steady s) (pl : Pl) (p : Nat) (r₀ : RetRes) : r.Steady (State.admitRet s pl p r₀) := by
  unfold State.admitRet
  repeat' first
    | with_reducible assumption
    | split
    | with_reducible apply State.modNi_steady
    | with_reducible apply State.niPass_steady

theorem State.admitStream_steady (h : r.Steady s) (pl : Pl) (p : Nat) (n : Nat) : r.Steady (State.admitStream s pl p n) := by
  unfold State.admitStream
  repeat' first
    | with_reducible assumption
    | split
    | with_reducible apply State.countNi_steady
    | with_reducible apply State.modNi_steady
    | with_reducible apply State.sendPiece_steady

theorem State.gtAdmit_steady (h : r.Steady s) (pl : Pl) (p : Nat) : r.Steady (State.gtAdmit s pl p) := by
  unfold State.gtAdmit
  repeat' first
    | with_reducible assumption
    | split
    | with_reducible apply State.admitRet_steady
    | with_reducible apply State.admitStream_steady
    | with_reducible apply State.gtRefill_steady
    | extract_lets -underBinder _

theorem State.gtAdmitAll_steady (h : r.Steady s) (pl : Pl) : r.Steady (State.gtAdmitAll s pl) := by
  unfold State.gtAdmitAll
  repeat' first
    | with_reducible assumption
    | with_reducible apply ite_steady
    | with_reducible apply State.gtAdmit_steady
    | with_reducible apply foldl_steady
    | intro _ _ _

theorem State.slotIslands_steady (h : r.Steady s) (pl : Pl) (slot : BitVec 64) : r.Steady (State.slotIslands s pl slot) := by
  unfold State.slotIslands
  extract_lets -underBinder t
  have ht : r.Steady t := State.modPln_steady h pl _ (fun _ hx => by
    exact ⟨hx.1, hx.2.1, hx.2.2.1, hx.2.2.2.1, hx.2.2.2.2.1, Tab.sorted_foldl_upd _ _ _ _ hx.2.2.2.2.2⟩)
  clear_value t
  exact foldl_steady _ _ ht (fun u i hu => State.unlock_steady hu _ _)

theorem State.slotInside_steady (h : r.Steady s) (pl : Pl) : r.Steady (State.slotInside pl s) :=
  State.timedSlot_steady (State.modPln_steady h pl _ (fun _ hx => by
    exact ⟨hx.1, hx.2.1, Tab.sorted_map hx.2.2.1 _ (fun _ => rfl), Tab.sorted_map hx.2.2.2.1 _ (fun _ => rfl), hx.2.2.2.2⟩)) pl

theorem State.slotEnds_steady (h : r.Steady s) (pl : Pl)  : r.Steady (State.slotEnds pl s) := by
  unfold State.slotEnds
  repeat' first
    | with_reducible assumption
    | with_reducible apply State.gtAdmitAll_steady
    | with_reducible apply State.gtDisableUnlocked_steady
    | with_reducible apply State.markUnlocked_steady

theorem State.planeEdge_steady (h : r.Steady s) (pl : Pl) (slot : BitVec 64) : r.Steady (State.planeEdge s pl slot) :=
  ite_steady (State.slotInside_steady (State.slotIslands_steady h pl slot) pl) (State.slotIslands_steady h pl slot)

theorem State.lateEdges_steady (h : r.Steady s) : r.Steady (State.lateEdges s) := by
  unfold State.lateEdges
  repeat' first
    | with_reducible assumption
    | with_reducible apply ite_steady
    | split
    | with_reducible apply State.planeEdge_steady
    | with_reducible apply foldl_steady
    | with_reducible apply foldl_fst_steady
    | with_reducible apply foldl_snd_steady
    | intro _ _ _
    | (extract_lets -underBinder t; refine cut_steady (t := t) ?_ (fun _ => ?_); unfold t; rotate_left; clear_value t; rotate_right)
    | extract_lets -underBinder _
    | dsimp only
    | (dsimp +zetaDelta only)
    | with_reducible apply State.Steady.upd

theorem State.slotEdges_steady (h : r.Steady s) : r.Steady (State.slotEdges s) := by
  unfold State.slotEdges
  repeat' first
    | with_reducible assumption
    | with_reducible apply ite_steady
    | split
    | with_reducible apply State.planeEdge_steady
    | (extract_lets -underBinder t; refine cut_steady (t := t) ?_ (fun _ => ?_); unfold t; rotate_left; clear_value t; rotate_right)
    | extract_lets -underBinder _
    | dsimp only
    | (dsimp +zetaDelta only)
    | with_reducible apply State.Steady.upd

theorem State.ingressPass_steady (h : r.Steady s) (p : Nat) : r.Steady (State.ingressPass s p) := by
  unfold State.ingressPass
  repeat' first
    | with_reducible assumption
    | with_reducible apply State.modNi_steady
    | with_reducible apply State.modPort_steady

theorem State.skewed_steady (h : r.Steady s) : r.Steady (State.skewed s) := by
  unfold State.skewed
  repeat' first
    | with_reducible assumption
    | with_reducible apply ite_steady
    | with_reducible apply State.ingressPass_steady
    | with_reducible apply State.lateEdges_steady
    | with_reducible apply foldl_steady
    | intro _ _ _

theorem State.unlockAll_steady (h : r.Steady s) : r.Steady (State.unlockAll s) := by
  unfold State.unlockAll
  repeat' first
    | with_reducible assumption
    | with_reducible apply State.unlock_steady
    | with_reducible apply foldl_steady
    | intro _ _ _

theorem State.gtFill_steady (h : r.Steady s) (pl : Pl) (r₀ : GtRec) : r.Steady (State.gtFill s pl r₀) := by
  unfold State.gtFill
  repeat' first
    | with_reducible assumption
    | with_reducible apply State.modNi_steady

theorem State.gtPass_steady (h : r.Steady s) (p : Nat) (g : GtPkt) (late : Bool) : r.Steady (State.gtPass s p g late) := by
  unfold State.gtPass
  repeat' first
    | with_reducible assumption
    | with_reducible apply ite_steady
    | with_reducible apply State.countNi_steady
    | with_reducible apply State.eachPlane_steady
    | with_reducible apply State.modNi_steady
    | with_reducible apply State.modPort_steady
    | with_reducible apply State.niEvent_steady
    | with_reducible apply State.pinc_steady
    | intro _ _ _

/-! ### Machine/MuleBase.lean -/

theorem State.csetN_steady (h : r.Steady s) (pl : Pl) (e : Nat) (c : Nat) (off : Nat) (v : Nat) : r.Steady (State.csetN s pl e c off v) := by
  unfold State.csetN
  repeat' first
    | with_reducible assumption
    | with_reducible apply State.pset_steady

theorem State.setIgnored_steady (h : r.Steady s) (pl : Pl) (e : Nat) (c : Nat) : r.Steady (State.setIgnored s pl e c) := by
  unfold State.setIgnored
  repeat' first
    | with_reducible assumption
    | with_reducible apply State.por_steady

theorem State.mulLookup_steady (h : r.Steady s) (pl : Pl) (e : Nat) (page : Nat) (owner : Nat) (priv : Nat) (sample : Bool) (write : Bool) : r.Steady (State.mulLookup s pl e page owner priv sample write) := by
  unfold State.mulLookup
  repeat' first
    | with_reducible assumption
    | with_reducible apply ite_steady
    | with_reducible apply State.modMul_steady
    | with_reducible apply State.mulSend_steady

theorem State.mulMeet_steady (h : r.Steady s) (pl : Pl) (e c a k : Nat) (write : Bool) (mark : Option Bool) :
    r.Steady (State.mulMeet s pl e c a k write mark).1 := by
  unfold State.mulMeet
  generalize s.pageOf pl a = o
  cases o with
  | none => exact h
  | some page =>
    dsimp only
    repeat' first
      | with_reducible assumption
      | split
      | with_reducible apply State.countMul_steady
      | with_reducible apply State.modMul_steady
      | with_reducible apply State.mulLookup_steady
      | with_reducible apply State.pinc_steady

theorem State.mulUse_steady (h : r.Steady s) (pl : Pl) (e c a : Nat) : r.Steady (State.mulUse s pl e c a) := by
  unfold State.mulUse
  generalize s.pageOf pl a = o
  cases o with
  | none => exact h
  | some page => exact ite_steady h (State.modMul_steady h _ _ _)

theorem State.mulSendSub_steady (h : r.Steady s) (pl : Pl) (e : Nat) (c : Nat) (base : Nat) (r₀ : Place) (tag : Nat) (q : SubReq) : r.Steady (State.mulSendSub s pl e c base r₀ tag q) := by
  unfold State.mulSendSub
  repeat' first
    | with_reducible assumption
    | with_reducible apply State.mulSend_steady

theorem State.mulIssue_steady (h : r.Steady s) (pl : Pl) (e : Nat) (c : Nat) (base : Nat) (r₀ : Place) (l : List SubReq) : r.Steady (State.mulIssue s pl e c base r₀ l).1 := by
  unfold State.mulIssue
  repeat' first
    | with_reducible assumption
    | split
    | with_reducible apply State.modMul_steady
    | with_reducible apply State.mulSendSub_steady
    | with_reducible apply foldl_fst_steady
    | intro _ _ _

theorem State.endChan_steady (h : r.Steady s) (pl : Pl) (e : Nat) (c : Nat) (st : Nat) (code : Nat) (reason : Nat) (cause : Nat) : r.Steady (State.endChan s pl e c st code reason cause) := by
  unfold State.endChan
  repeat' first
    | with_reducible assumption
    | with_reducible apply State.pfset_steady

theorem State.setErrAddr_steady (h : r.Steady s) (pl : Pl) (e : Nat) (c : Nat) (a : Nat) : r.Steady (State.setErrAddr s pl e c a) := by
  unfold State.setErrAddr
  repeat' first
    | with_reducible assumption
    | with_reducible apply State.csetN_steady

theorem State.bellwetherFailed_steady (h : r.Steady s) (pl : Pl) (e : Nat) (c : Nat) (write : Bool) : r.Steady (State.bellwetherFailed s pl e c write) := by
  unfold State.bellwetherFailed
  repeat' first
    | with_reducible assumption
    | split
    | with_reducible apply State.migAbort_steady

theorem State.finishStop_steady (h : r.Steady s) (pl : Pl) (e : Nat) (c : Nat) : r.Steady (State.finishStop s pl e c) := by
  unfold State.finishStop
  repeat' first
    | with_reducible assumption
    | with_reducible apply ite_steady
    | split
    | with_reducible apply State.bellwetherFailed_steady
    | with_reducible apply State.chanEvent_steady
    | with_reducible apply State.endChan_steady
    | with_reducible apply State.modChan_steady
    | with_reducible apply State.setErrAddr_steady

theorem State.chanFail_steady (h : r.Steady s) (pl : Pl) (e : Nat) (c : Nat) (l : List Failed) : r.Steady (State.chanFail s pl e c l) := by
  unfold State.chanFail
  repeat' first
    | with_reducible assumption
    | with_reducible apply ite_steady
    | with_reducible apply State.finishStop_steady
    | with_reducible apply State.modChan_steady
    | with_reducible apply State.pfset_steady

theorem State.setDone_steady (h : r.Steady s) (pl : Pl) (e : Nat) (c : Nat) (d : Nat) : r.Steady (State.setDone s pl e c d) := by
  unfold State.setDone
  repeat' first
    | with_reducible assumption
    | with_reducible apply ite_steady
    | with_reducible apply State.chanEvent_steady
    | with_reducible apply State.csetN_steady
    | with_reducible apply State.modChan_steady

theorem State.reachedCount_steady (h : r.Steady s) (pl : Pl) (e : Nat) (c : Nat) : r.Steady (State.reachedCount s pl e c) := by
  unfold State.reachedCount
  repeat' first
    | with_reducible assumption
    | with_reducible apply ite_steady
    | with_reducible apply State.chanEvent_steady
    | with_reducible apply State.csetN_steady
    | with_reducible apply State.endChan_steady
    | with_reducible apply State.modChan_steady
    | with_reducible apply State.pinc_steady

theorem State.judged_steady (h : r.Steady s) (pl : Pl) (e : Nat) (c : Nat) (off : Nat) (j : Judged) : r.Steady (State.judged s pl e c off j) := by
  unfold State.judged
  repeat' first
    | with_reducible assumption
    | with_reducible apply ite_steady
    | with_reducible apply State.countMul_steady
    | with_reducible apply State.csetN_steady
    | with_reducible apply State.endChan_steady
    | with_reducible apply State.modChan_steady
    | with_reducible apply State.setDone_steady

theorem State.chanAdvance_steady (h : r.Steady s) (pl : Pl) (e : Nat) (c : Nat) : r.Steady (State.chanAdvance s pl e c) := by
  unfold State.chanAdvance
  repeat' first
    | with_reducible assumption
    | split
    | with_reducible apply State.judged_steady
    | with_reducible apply State.modChan_steady
    | with_reducible apply State.setDone_steady

theorem State.chanSettle_steady (h : r.Steady s) (pl : Pl) (e : Nat) (c : Nat) : r.Steady (State.chanSettle s pl e c) := by
  unfold State.chanSettle
  repeat' first
    | with_reducible assumption
    | with_reducible apply ite_steady
    | with_reducible apply State.chanAdvance_steady
    | with_reducible apply State.finishStop_steady
    | with_reducible apply State.reachedCount_steady

theorem State.modBurst_steady (h : r.Steady s) (pl : Pl) (e : Nat) (c : Nat) (off : Nat) (f : Burst → Burst) : r.Steady (State.modBurst s pl e c off f) := by
  unfold State.modBurst
  repeat' first
    | with_reducible assumption
    | with_reducible apply State.modChan_steady

theorem State.routeBurst_steady (h : r.Steady s) (pl : Pl) (e c : Nat) (b : Burst) : r.Steady (State.routeBurst s pl e c b).1 := by
  unfold State.routeBurst
  generalize b.dRoute = o
  cases o with
  | some _ => exact h
  | none =>
    generalize s.resolveMul pl e c b.dAddr = x
    dsimp only
    split
    · exact State.modBurst_steady (State.mulUse_steady h _ _ _ _) _ _ _ _ _
    · exact State.mulMeet_steady h _ _ _ _ _ _ _

theorem State.pumpBurst_steady (h : r.Steady s) (pl : Pl) (e : Nat) (c : Nat) (off : Nat) : r.Steady (State.pumpBurst s pl e c off) := by
  unfold State.pumpBurst
  repeat' first
    | with_reducible assumption
    | split
    | with_reducible apply State.modBurst_steady
    | with_reducible apply State.mulIssue_steady
    | with_reducible apply State.routeBurst_steady
    | extract_lets -underBinder _

theorem State.pumpChan_steady (h : r.Steady s) (pl : Pl) (e : Nat) (c : Nat) : r.Steady (State.pumpChan s pl e c) := by
  unfold State.pumpChan
  repeat' first
    | with_reducible assumption
    | with_reducible apply State.pumpBurst_steady
    | with_reducible apply foldl_steady
    | intro _ _ _

theorem State.mulPump_steady (h : r.Steady s) (pl : Pl) (e : Nat) : r.Steady (State.mulPump s pl e) := by
  unfold State.mulPump
  repeat' first
    | with_reducible assumption
    | with_reducible apply State.pumpChan_steady
    | with_reducible apply foldl_steady
    | intro _ _ _

/-! ### Machine/MuleCh.lean -/

theorem State.mulStop_steady (h : r.Steady s) (pl : Pl) (e : Nat) (c : Nat) (cause : Nat) : r.Steady (State.mulStop s pl e c cause) := by
  unfold State.mulStop
  repeat' first
    | with_reducible assumption
    | with_reducible apply ite_steady
    | with_reducible apply State.finishStop_steady
    | with_reducible apply State.stopChan_steady

theorem State.mulStopAll_steady (h : r.Steady s) (pl : Pl) (e : Nat) (cause : Nat) (f : Nat → Bool) : r.Steady (State.mulStopAll s pl e cause f) := by
  unfold State.mulStopAll
  repeat' first
    | with_reducible assumption
    | with_reducible apply ite_steady
    | with_reducible apply State.mulStop_steady
    | with_reducible apply foldl_steady
    | intro _ _ _

theorem State.runChan_steady (h : r.Steady s) (pl : Pl) (e : Nat) (c : Nat) : r.Steady (State.runChan s pl e c) := by
  unfold State.runChan
  repeat' first
    | with_reducible assumption
    | with_reducible apply State.csetN_steady
    | with_reducible apply State.endChan_steady
    | with_reducible apply State.modChan_steady

theorem State.startFails_steady (h : r.Steady s) (pl : Pl) (e : Nat) (c : Nat) (code : Nat) (reason : Nat) : r.Steady (State.startFails s pl e c code reason) := by
  unfold State.startFails
  repeat' first
    | with_reducible assumption
    | with_reducible apply State.chanEvent_steady
    | with_reducible apply State.endChan_steady
    | with_reducible apply State.modChan_steady

theorem State.startChan_steady (h : r.Steady s) (pl : Pl) (e : Nat) (c : Nat) : r.Steady (State.startChan s pl e c) := by
  unfold State.startChan
  repeat' first
    | with_reducible assumption
    | with_reducible apply ite_steady
    | split
    | with_reducible apply State.endChan_steady
    | with_reducible apply State.modChan_steady
    | with_reducible apply State.runChan_steady
    | with_reducible apply State.setIgnored_steady
    | with_reducible apply State.startFails_steady

theorem State.chanCtrl_steady (h : r.Steady s) (pl : Pl) (e : Nat) (c : Nat) (v : W32) : r.Steady (State.chanCtrl s pl e c v) := by
  unfold State.chanCtrl
  repeat' first
    | with_reducible assumption
    | with_reducible apply ite_steady
    | with_reducible apply State.mulStop_steady
    | with_reducible apply State.startChan_steady

theorem State.chanWord_steady (h : r.Steady s) (pl : Pl) (e : Nat) (c : Nat) (off : Nat) (v : W32) : r.Steady (State.chanWord s pl e c off v) := by
  unfold State.chanWord
  repeat' first
    | with_reducible assumption
    | with_reducible apply ite_steady
    | split
    | with_reducible apply State.chanCtrl_steady
    | with_reducible apply State.csetN_steady
    | with_reducible apply State.pclear_steady
    | with_reducible apply State.setIgnored_steady

theorem State.chanBeat_steady (h : r.Steady s) (pl : Pl) (e : Nat) (c : Nat) (off : Nat) (b : Beat) : r.Steady (State.chanBeat s pl e c off b) := by
  unfold State.chanBeat
  repeat' first
    | with_reducible assumption
    | with_reducible apply State.chanWord_steady
    | with_reducible apply foldl_steady
    | intro _ _ _

theorem State.mulReply_steady (h : r.Steady s) (pl : Pl) (e : Nat) (r₀ : CwReq) (status : Nat) (data : Option Line) : r.Steady (State.mulReply s pl e r₀ status data) := by
  unfold State.mulReply
  repeat' first
    | with_reducible assumption
    | with_reducible apply State.mulSend_steady

theorem State.aperTake_steady {pl : Pl} {e' : Nat} {r' : CwReq} {kind c off : Nat} {ben : BitVec 64} {hit : Line → Bool} {k : Packet}
    {t : State} (h : r.Steady s) (e : s.aperTake pl e' r' kind c off ben hit = some (k, t)) : r.Steady t := by
  unfold State.aperTake at e
  split at e
  · split at e
    · split at e
      · cases e; exact State.popMul_steady h (by assumption)
      · cases e
    · cases e
  · cases e

theorem State.aperWrite_steady (h : r.Steady s) (r₀ : CwReq) (e c off : Nat) (ben : BitVec 64) (hit : Line → Bool)
    (f : Pl → State → State) (pl : Pl) (hf : ∀ pl t, r.Steady t → r.Steady (f pl t)) :
    r.Steady (State.aperWrite r₀ e c off ben hit f pl s) := by
  unfold State.aperWrite
  split
  · exact h
  · next k t e0 =>
    have ht : r.Steady t := State.aperTake_steady h e0
    extract_lets st t1 t2
    have h1 : r.Steady t1 := ite_steady (State.poisonOwner_steady ht _ _) ht
    have h2 : r.Steady t2 := ite_steady (State.Steady.upd h1 _ _ _ _ _ _ _ _ _ _) h1
    exact State.mulReply_steady (ite_steady (hf _ _ h2) h2) _ _ _ _ _

theorem State.chanWindow_steady (h : r.Steady s) (r₀ : CwReq) (e c off : Nat) (ben : BitVec 64) (f : Pl → State → State)
    (hf : ∀ pl t, r.Steady t → r.Steady (f pl t)) : r.Steady (State.chanWindow s r₀ e c off ben f) := by
  unfold State.chanWindow
  split
  · exact h
  · exact State.answer_steady (ite_steady (State.eachPlane_steady (State.touch_steady h _) _ hf) h) _ _ _

theorem State.sendLists_steady (h : r.Steady s) (pl : Pl) (e : Nat) (c : Nat) : r.Steady (State.sendLists s pl e c) := by
  unfold State.sendLists
  repeat' first
    | with_reducible assumption
    | with_reducible apply ite_steady
    | split
    | with_reducible apply State.countMul_steady
    | with_reducible apply State.modChan_steady
    | with_reducible apply State.mulIssue_steady
    | with_reducible apply State.mulMeet_steady
    | with_reducible apply State.mulUse_steady
    | with_reducible apply State.pinc_steady
    | with_reducible apply foldl_fst_steady
    | intro _ _ _
    | extract_lets -underBinder _

theorem State.judgeLists_steady (h : r.Steady s) (pl : Pl) (e : Nat) (c : Nat) : r.Steady (State.judgeLists s pl e c) := by
  unfold State.judgeLists
  repeat' first
    | with_reducible assumption
    | split
    | with_reducible apply State.freeWord_steady
    | with_reducible apply State.modChan_steady
    | with_reducible apply State.runChan_steady
    | with_reducible apply State.setErrAddr_steady
    | with_reducible apply State.startFails_steady
    | extract_lets -underBinder _

theorem State.mulPoison_steady (h : r.Steady s) (pl : Pl) (e : Nat) (c : Nat) (k : Packet) : r.Steady (State.mulPoison s pl e c k) := by
  unfold State.mulPoison
  repeat' first
    | with_reducible assumption
    | with_reducible apply ite_steady
    | with_reducible apply State.poisonOwner_steady

theorem State.burstMeets_steady (h : r.Steady s) (pl : Pl) (e : Nat) (c : Nat) : r.Steady (State.burstMeets s pl e c) := by
  unfold State.burstMeets
  repeat' first
    | with_reducible assumption
    | split
    | with_reducible apply State.modChan_steady
    | with_reducible apply State.mulMeet_steady

theorem State.startBurst_steady (h : r.Steady s) (pl : Pl) (e : Nat) (c : Nat) : r.Steady (State.startBurst s pl e c) := by
  unfold State.startBurst
  repeat' first
    | with_reducible assumption
    | with_reducible apply ite_steady
    | split
    | with_reducible apply State.chanFail_steady
    | with_reducible apply State.countMul_steady
    | with_reducible apply State.modChan_steady
    | with_reducible apply State.mulIssue_steady
    | with_reducible apply State.mulUse_steady
    | with_reducible apply State.pinc_steady
    | extract_lets -underBinder _

theorem State.burstAnswer_steady (h : r.Steady s) (pl : Pl) (e : Nat) (c : Nat) (k : Packet) : r.Steady (State.burstAnswer s pl e c k) := by
  unfold State.burstAnswer
  repeat' first
    | with_reducible assumption
    | split
    | with_reducible apply State.chanFail_steady
    | with_reducible apply State.chanSettle_steady
    | with_reducible apply State.countMul_steady
    | with_reducible apply State.modBurst_steady
    | with_reducible apply State.mulPoison_steady
    | extract_lets -underBinder _

theorem State.mulPoisoned_steady (h : r.Steady s) (pl : Pl) (e : Nat) (page : Nat) : r.Steady (State.mulPoisoned s pl e page) := by
  unfold State.mulPoisoned
  repeat' first
    | with_reducible assumption
    | with_reducible apply ite_steady
    | with_reducible apply State.chanFail_steady
    | with_reducible apply State.judgeLists_steady
    | with_reducible apply State.modChan_steady
    | with_reducible apply foldl_steady
    | intro _ _ _

theorem State.faultChan_steady (h : r.Steady s) (pl : Pl) (e : Nat) (c : Nat) : r.Steady (State.faultChan s pl e c) := by
  unfold State.faultChan
  repeat' first
    | with_reducible assumption
    | with_reducible apply ite_steady
    | with_reducible apply State.endChan_steady
    | with_reducible apply State.modChan_steady

theorem State.mulStopOwner_steady (h : r.Steady s) (o : Nat) (pl : Pl) : r.Steady (State.mulStopOwner s o pl) := by
  unfold State.mulStopOwner
  repeat' first
    | with_reducible assumption
    | with_reducible apply State.mulStopAll_steady
    | with_reducible apply foldl_steady
    | intro _ _ _

theorem State.chanReset_steady (h : r.Steady s) (pl : Pl) (e : Nat) (c : Nat) : r.Steady (State.chanReset s pl e c) := by
  unfold State.chanReset
  repeat' first
    | with_reducible assumption
    | with_reducible apply State.modChan_steady
    | with_reducible apply State.pset_steady
    | with_reducible apply foldl_steady
    | intro _ _ _

theorem State.mulClean_steady (h : r.Steady s) (o : Nat) (pl : Pl) : r.Steady (State.mulClean s o pl) := by
  unfold State.mulClean
  repeat' first
    | with_reducible assumption
    | with_reducible apply ite_steady
    | with_reducible apply State.chanReset_steady
    | with_reducible apply foldl_steady
    | intro _ _ _

/-! ### Machine/Owners.lean -/

theorem State.oresetStep_steady (h : r.Steady s) (step : Nat) (busy : Bool) (result : Nat) : r.Steady (State.oresetStep s step busy result) := by
  unfold State.oresetStep
  repeat' first
    | with_reducible assumption
    | with_reducible apply State.gfset_steady

theorem State.ownerGo_steady (h : r.Steady s) (o : Nat) : r.Steady (State.ownerGo s o) := by
  unfold State.ownerGo
  repeat' first
    | with_reducible assumption
    | with_reducible apply ite_steady
    | split
    | with_reducible apply State.gset_steady
    | with_reducible apply State.oresetStep_steady
    | (extract_lets -underBinder t; refine cut_steady (t := t) ?_ (fun _ => ?_); unfold t; rotate_left; clear_value t; rotate_right)
    | extract_lets -underBinder _
    | dsimp only
    | (dsimp +zetaDelta only)
    | with_reducible apply State.Steady.upd

theorem State.refusePiece_steady (h : r.Steady s) (pl : Pl) (p : Nat) (unanswered : List Nat) (q : Piece) : r.Steady (State.refusePiece s pl p unanswered q) := by
  unfold State.refusePiece
  repeat' first
    | with_reducible assumption
    | split
    | with_reducible apply State.modNi_steady
    | with_reducible apply State.postedError_steady

theorem State.closeRecord_steady (h : r.Steady s) (pl : Pl) (p : Nat) (q : Piece) : r.Steady (State.closeRecord s pl p q) := by
  unfold State.closeRecord
  repeat' first
    | with_reducible assumption
    | with_reducible apply State.violation_steady

theorem State.closeNi_steady (h : r.Steady s) (o : Nat) (p : Nat) (pl : Pl) : r.Steady (State.closeNi s o p pl) := by
  unfold State.closeNi
  repeat' first
    | with_reducible assumption
    | with_reducible apply ite_steady
    | with_reducible apply State.closeRecord_steady
    | with_reducible apply State.modNi_steady
    | with_reducible apply State.niSettle_steady
    | with_reducible apply State.refusePiece_steady
    | with_reducible apply foldl_steady
    | intro _ _ _

theorem State.closePlane_steady (h : r.Steady s) (o : Nat) (pl : Pl) : r.Steady (State.closePlane s o pl) := by
  unfold State.closePlane
  repeat' first
    | with_reducible assumption
    | with_reducible apply State.closeNi_steady
    | with_reducible apply State.migAbortAll_steady
    | with_reducible apply State.mulStopOwner_steady
    | with_reducible apply foldl_steady
    | intro _ _ _

theorem State.countKey_steady (h : r.Steady s) : r.Steady (State.countKey s) := by
  unfold State.countKey
  repeat' first
    | with_reducible assumption
    | with_reducible apply State.ginc_steady

theorem State.cleanPlane_steady (h : r.Steady s) (o : Nat) (pl : Pl) : r.Steady (State.cleanPlane s o pl) := by
  unfold State.cleanPlane
  repeat' first
    | with_reducible assumption
    | with_reducible apply State.breakLock_steady
    | with_reducible apply State.bwClean_steady
    | with_reducible apply State.mulClean_steady
    | with_reducible apply State.queuesClean_steady
    | with_reducible apply foldl_steady
    | intro _ _ _

/-! ### Machine/Router.lean -/

theorem State.keepSent_steady (h : r.Steady s) (pl : Pl) (quire : Bool) (i : Nat) (k : Nat) (f : Flit) : r.Steady (State.keepSent s pl quire i k f) := by
  unfold State.keepSent
  repeat' first
    | with_reducible assumption
    | with_reducible apply ite_steady
    | with_reducible apply State.modRouter_steady

theorem State.grantFlit_steady (h : r.Steady s) (pl : Pl) (quire : Bool) (i n vc o : Nat) :
    r.Steady (State.grantFlit s pl quire i n vc o) := by
  unfold State.grantFlit
  extract_lets -underBinder r1
  split
  · exact h
  · extract_lets -underBinder hh head tail spine j key held drain late s1 s2 s3 s4 s5 s6 cmd s7 bad
    have h1 : r.Steady s1 := State.modRouter_steady h _ _ _ _
    have h2 : r.Steady s2 := by
      unfold s2
      split
      · exact ite_steady (State.giveCredit_steady h1 _ _ _ _) h1
      · exact h1
    have h3 : r.Steady s3 := State.countRtr_steady (State.countRtr_steady h2 _ _ _ _ _) _ _ _ _ _
    have h4 : r.Steady s4 := ite_steady (State.countRtr_steady (ite_steady (State.pinc_steady h3 _ _ _ _ _) h3) _ _ _ _ _) h3
    have h5 : r.Steady s5 := ite_steady (State.rtrEvent_steady (State.countRtr_steady h4 _ _ _ _ _) _ _ _ _) h4
    have h6 : r.Steady s6 := State.modRouter_steady h5 _ _ _ _
    have h7 : r.Steady s7 := State.pinc_steady h6 _ _ _ _ _
    clear_value s7 s6 s5
    exact ite_steady (ite_steady (ite_steady (State.modRouter_steady h7 _ _ _ _) h7) h6) (State.leaveRouter_steady (State.keepSent_steady h5 _ _ _ _ _) _ _ _ _ _)

theorem State.countWaits_steady (h : r.Steady s) (pl : Pl) (quire : Bool) (i : Nat) (asks : List (Nat × Nat)) (grants : List (Nat × Nat)) (dry : List Nat) : r.Steady (State.countWaits s pl quire i asks grants dry) := by
  unfold State.countWaits
  repeat' first
    | with_reducible assumption
    | with_reducible apply State.countRtr_steady
    | with_reducible apply foldl_steady
    | intro _ _ _

theorem ArbStep.grant_steady {a : ArbStep} (h : r.Steady a.st) (pl : Pl) (quire : Bool) (i tier o w vc : Nat) :
    r.Steady (a.grant pl quire i tier o w vc).st :=
  State.grantFlit_steady (State.modRouter_steady h _ _ _ _) _ _ _ _ _ _

theorem ArbStep.round0_steady {a : ArbStep} (h : r.Steady a.st) (pl : Pl) (quire : Bool) (i o : Nat) :
    r.Steady (ArbStep.round0 pl quire i a o).st := by
  unfold ArbStep.round0
  split
  · exact ArbStep.grant_steady h _ _ _ _ _ _ _
  · exact h

theorem ArbStep.round1_steady {a : ArbStep} (h : r.Steady a.st) (pl : Pl) (quire : Bool) (i : Nat) (c2 barred : List Nat) (o : Nat) :
    r.Steady (ArbStep.round1 pl quire i c2 barred a o).st := by
  unfold ArbStep.round1
  dsimp only
  split
  · exact h
  · split
    · refine ArbStep.grant_steady ?_ _ _ _ _ _ _ _
      split
      · exact State.modRouter_steady h _ _ _ _
      · exact h
    · exact h

theorem ArbStep.round2_steady {a : ArbStep} (h : r.Steady a.st) (pl : Pl) (quire : Bool) (i o : Nat) :
    r.Steady (ArbStep.round2 pl quire i a o).st := by
  unfold ArbStep.round2
  split
  · exact h
  · extract_lets -underBinder r1 c aged cnt best pool
    split
    · extract_lets -underBinder forced s1 s2 s3
      have h1 : r.Steady s1 := State.modRouter_steady h _ _ _ _
      have h2 : r.Steady s2 := ite_steady h1 (State.countRtr_steady (State.pinc_steady h1 _ _ _ _ _) _ _ _ _ _)
      have h3 : r.Steady s3 := ite_steady (State.countRtr_steady h2 _ _ _ _ _) h2
      clear_value s3
      exact ArbStep.grant_steady h3 _ _ _ _ _ _ _
    · exact h

theorem foldl_arb_steady {α : Type} (l : List α) (f : ArbStep → α → ArbStep) {a : ArbStep} (h : r.Steady a.st)
    (hf : ∀ b x, r.Steady b.st → r.Steady (f b x).st) : r.Steady (l.foldl f a).st := by
  induction l generalizing a with
  | nil => exact h
  | cons x l ih => exact ih (hf a x h)

theorem State.arbitrate_steady (h : r.Steady s) (pl : Pl) (quire : Bool) (i : Nat) : r.Steady (State.arbitrate s pl quire i) := by
  unfold State.arbitrate
  extract_lets -underBinder outs ins has2 burst barred a1 c2 a2 c2o a3 a4 t
  have h1 : r.Steady a1.st := foldl_arb_steady _ _ h (fun b x hb => ArbStep.round0_steady hb _ _ _ _)
  have h2 : r.Steady a2.st := State.modRouter_steady h1 _ _ _ _
  have h3 : r.Steady a3.st := foldl_arb_steady _ _ h2 (fun b x hb => ArbStep.round1_steady hb _ _ _ _ _ _)
  have h4 : r.Steady a4.st := foldl_arb_steady _ _ h3 (fun b x hb => ArbStep.round2_steady hb _ _ _ _)
  have h5 : r.Steady t := State.modRouter_steady h4 _ _ _ _
  clear_value t
  exact State.countWaits_steady h5 _ _ _ _ _ _

theorem State.ontoLink_steady (h : r.Steady s) (pl : Pl) (o : OutPort) (vc : Nat) (f : Flit) : r.Steady (State.ontoLink s pl o vc f).1 := by
  unfold State.ontoLink
  repeat' first
    | with_reducible assumption
    | split
    | with_reducible apply State.keepSent_steady
    | with_reducible apply State.modRouter_steady

theorem State.niLinkStep_steady (h : r.Steady s) (pl : Pl) (p : Nat) : r.Steady (State.niLinkStep s pl p) := by
  unfold State.niLinkStep
  repeat' first
    | with_reducible assumption
    | split
    | with_reducible apply State.arriveRouter_steady
    | with_reducible apply State.countNi_steady
    | with_reducible apply State.modNi_steady
    | with_reducible apply State.ontoLink_steady
    | (dsimp +zetaDelta only)

theorem State.sbLinkDrain_steady (h : r.Steady s) (pl : Pl) (q : Nat) (vc : Nat) : r.Steady (State.sbLinkDrain s pl q vc) := by
  unfold State.sbLinkDrain
  repeat' first
    | with_reducible assumption
    | split
    | with_reducible apply State.modSb_steady

theorem State.sbLinkStep_steady (h : r.Steady s) (pl : Pl) (q vc : Nat) : r.Steady (State.sbLinkStep s pl q vc) := by
  unfold State.sbLinkStep
  dsimp only
  split
  · exact h
  · next f rest _ =>
    have e := State.ontoLink_steady h pl (.service q) vc f
    generalize s.ontoLink pl (.service q) vc f = x at e ⊢
    exact ite_steady (State.arriveRouter_steady (State.countSpine_steady (State.modSb_steady e _ _) _ _ _) _ _ _ _ _) h

theorem State.muleLinkStep_steady (h : r.Steady s) (pl : Pl) (e vc : Nat) : r.Steady (State.muleLinkStep s pl e vc) := by
  unfold State.muleLinkStep
  dsimp only
  split
  · exact h
  · next f rest _ =>
    have e' := State.ontoLink_steady h pl (.mule e) vc f
    generalize s.ontoLink pl (.mule e) vc f = x at e' ⊢
    exact ite_steady (State.arriveRouter_steady (State.modMul_steady e' _ _ _) _ _ _ _ _) h

theorem State.modFar_steady (h : r.Steady s) (pl : Pl) (e : FarEnd) (vc : Nat) (g : List Flit → List Flit) : r.Steady (State.modFar s pl e vc g) := by
  unfold State.modFar
  repeat' first
    | with_reducible assumption
    | split
    | with_reducible apply State.modMul_steady
    | with_reducible apply State.modNi_steady
    | with_reducible apply State.modRouter_steady
    | with_reducible apply State.modSb_steady

theorem State.changeFar_steady (h : r.Steady s) (pl : Pl) (e : FarEnd) (vc : Nat) (f : Flit) (g : Flit) : r.Steady (State.changeFar s pl e vc f g) := by
  unfold State.changeFar
  repeat' first
    | with_reducible assumption
    | with_reducible apply ite_steady
    | split
    | with_reducible apply State.modFar_steady
    | with_reducible apply State.modPort_steady
    | (extract_lets -underBinder t; refine cut_steady (t := t) ?_ (fun _ => ?_); unfold t; rotate_left; clear_value t; rotate_right)
    | extract_lets -underBinder _
    | dsimp only
    | (dsimp +zetaDelta only)
    | with_reducible apply State.Steady.upd

theorem State.cutFar_steady (h : r.Steady s) (pl : Pl) (e : FarEnd) (vc : Nat) (n : Nat) : r.Steady (State.cutFar s pl e vc n) := by
  unfold State.cutFar
  repeat' first
    | with_reducible assumption
    | split
    | with_reducible apply State.modFar_steady
    | with_reducible apply State.modPort_steady

theorem State.resendFar_steady (h : r.Steady s) (pl : Pl) (e : FarEnd) (vc : Nat) (fs : List Flit) : r.Steady (State.resendFar s pl e vc fs) := by
  unfold State.resendFar
  repeat' first
    | with_reducible assumption
    | split
    | with_reducible apply State.gtArrive_steady
    | with_reducible apply State.modFar_steady
    | with_reducible apply foldl_steady
    | intro _ _ _

theorem State.reportLink_steady (h : r.Steady s) (pl : Pl) (out : OutPort) (vc : Nat) : r.Steady (State.reportLink s pl out vc) := by
  unfold State.reportLink
  repeat' first
    | with_reducible assumption
    | with_reducible apply State.countRtr_steady
    | with_reducible apply State.pinc_steady
    | with_reducible apply State.rtrEvent_steady

theorem State.failPaired_steady (h : r.Steady s) (pl : Pl) (out : OutPort) (got : LinkFlit) (f : Flit) : r.Steady (State.failPaired s pl out got f) := by
  unfold State.failPaired
  repeat' first
    | with_reducible assumption
    | with_reducible apply State.changeFar_steady
    | with_reducible apply State.planeFault_steady
    | with_reducible apply State.reportLink_steady

theorem State.failFirst_steady (h : r.Steady s) (pl : Pl) (out : OutPort) (got : LinkFlit) : r.Steady (State.failFirst s pl out got) := by
  unfold State.failFirst
  repeat' first
    | with_reducible assumption
    | with_reducible apply ite_steady
    | with_reducible apply State.cutFar_steady
    | with_reducible apply State.giveCredit_steady
    | with_reducible apply State.modRouter_steady
    | with_reducible apply State.reportLink_steady

theorem State.failSecond_steady (h : r.Steady s) (pl : Pl) (out : OutPort) (got : LinkFlit) (f : Flit) : r.Steady (State.failSecond s pl out got f) := by
  unfold State.failSecond
  repeat' first
    | with_reducible assumption
    | with_reducible apply State.changeFar_steady
    | with_reducible apply State.countRtr_steady
    | with_reducible apply State.modRouter_steady
    | with_reducible apply State.pinc_steady
    | with_reducible apply State.rtrEvent_steady

/-! ### Machine/Pair.lean -/

theorem State.modCmp_steady (h : r.Steady s) (p : Nat) (f : Cmp → Cmp) : r.Steady (State.modCmp s p f) := by
  unfold State.modCmp
  repeat' first
    | with_reducible assumption
    | with_reducible apply ite_steady
    | split
    | (extract_lets -underBinder t; refine cut_steady (t := t) ?_ (fun _ => ?_); unfold t; rotate_left; clear_value t; rotate_right)
    | extract_lets -underBinder _
    | dsimp only
    | (dsimp +zetaDelta only)
    | with_reducible apply State.Steady.upd

theorem State.edgeEnter_steady (h : r.Steady s) (p : Nat) (f : Flit) : r.Steady (State.edgeEnter s p f) := by
  unfold State.edgeEnter
  repeat' first
    | with_reducible assumption
    | with_reducible apply State.eachPlane_steady
    | with_reducible apply State.edgeGt_steady
    | with_reducible apply State.enterNi_steady
    | intro _ _ _

theorem State.deliver_steady (h : r.Steady s) (p : Nat) (f : Flit) (poison : Bool) : r.Steady (State.deliver s p f poison) := by
  unfold State.deliver
  repeat' first
    | with_reducible assumption
    | with_reducible apply ite_steady
    | with_reducible apply State.edgeEnter_steady
    | with_reducible apply State.ginc_steady
    | with_reducible apply State.poisonOwner_steady

theorem State.cmpFault_steady (h : r.Steady s) (p : Nat) (pl : Pl) (f : Flit) : r.Steady (State.cmpFault s p pl f) := by
  unfold State.cmpFault
  repeat' first
    | with_reducible assumption
    | with_reducible apply State.modCmp_steady
    | with_reducible apply State.planeFault_steady
    | with_reducible apply State.timedCheckAll_steady

theorem State.suspectPort_steady (h : r.Steady s) (p : Nat) : r.Steady (State.suspectPort s p) := by
  unfold State.suspectPort
  repeat' first
    | with_reducible assumption
    | with_reducible apply State.modCmp_steady
    | with_reducible apply State.timedCheckAll_steady

theorem State.decideA_steady (h : r.Steady s) (p : Nat) (fa : Option Seen) : r.Steady (State.decideA s p fa) := by
  unfold State.decideA
  repeat' first
    | with_reducible assumption
    | with_reducible apply ite_steady
    | split
    | with_reducible apply State.deliver_steady
    | with_reducible apply State.planeFault_steady
    | with_reducible apply State.suspectPort_steady

theorem State.decideB_steady (h : r.Steady s) (p : Nat) (fb : Option Seen) : r.Steady (State.decideB s p fb) := by
  unfold State.decideB
  repeat' first
    | with_reducible assumption
    | split
    | with_reducible apply State.deliver_steady
    | with_reducible apply State.planeFault_steady

theorem State.decidePair_steady (h : r.Steady s) (p : Nat) (fa : Option Seen) (fb : Option Seen) : r.Steady (State.decidePair s p fa fb) := by
  unfold State.decidePair
  repeat' first
    | with_reducible assumption
    | split
    | with_reducible apply State.affectOwners_steady
    | with_reducible apply State.cmpFault_steady
    | with_reducible apply State.decideA_steady
    | with_reducible apply State.decideB_steady
    | with_reducible apply State.deliver_steady
    | with_reducible apply State.modCmp_steady
    | with_reducible apply State.occurInfo_steady

theorem State.decideAt_steady (h : r.Steady s) (p : Nat) (fa : Option Seen) (fb : Option Seen) : r.Steady (State.decideAt s p fa fb) := by
  unfold State.decideAt
  repeat' first
    | with_reducible assumption
    | split
    | with_reducible apply State.decideA_steady
    | with_reducible apply State.decideB_steady
    | with_reducible apply State.decidePair_steady

theorem State.endWait_steady (h : r.Steady s) (p : Nat) (pl : Pl) (poison : Bool) : r.Steady (State.endWait s p pl poison) := by
  unfold State.endWait
  repeat' first
    | with_reducible assumption
    | split
    | with_reducible apply State.deliver_steady
    | with_reducible apply State.modCmp_steady
    | extract_lets -underBinder _

theorem State.takeHeads_steady (h : r.Steady s) (p : Nat) : r.Steady (State.takeHeads s p) := by
  unfold State.takeHeads
  repeat' first
    | with_reducible assumption
    | with_reducible apply State.modCmp_steady

theorem State.cmpQueue_steady (h : r.Steady s) (p : Nat) : r.Steady (State.cmpQueue s p) := by
  unfold State.cmpQueue
  repeat' first
    | with_reducible assumption
    | with_reducible apply ite_steady
    | split
    | with_reducible apply State.decideAt_steady
    | with_reducible apply State.modCmp_steady

theorem State.wakeComparator_steady (h : r.Steady s) (p : Nat) : r.Steady (State.wakeComparator s p) := by
  unfold State.wakeComparator
  repeat' first
    | with_reducible assumption
    | split
    | with_reducible apply State.endWait_steady
    | with_reducible apply State.modCmp_steady

theorem State.cmpFlits_steady (h : r.Steady s) (p : Nat) (fa : Option HalfFault) (fb : Option HalfFault) : r.Steady (State.cmpFlits s p fa fb) := by
  unfold State.cmpFlits
  repeat' first
    | with_reducible assumption
    | with_reducible apply ite_steady
    | with_reducible apply State.cmpQueue_steady
    | with_reducible apply State.decideAt_steady
    | with_reducible apply State.modCmp_steady
    | with_reducible apply State.takeHeads_steady

theorem State.transient_steady (h : r.Steady s) (p : Nat) : r.Steady (State.transient s p) := by
  unfold State.transient
  repeat' first
    | with_reducible assumption
    | with_reducible apply ite_steady
    | with_reducible apply State.ginc_steady
    | with_reducible apply State.modCmp_steady
    | with_reducible apply State.occurInfo_steady
    | with_reducible apply State.suspectPort_steady

theorem State.wakeComparators_steady (h : r.Steady s) : r.Steady (State.wakeComparators s) := by
  unfold State.wakeComparators
  repeat' first
    | with_reducible assumption
    | with_reducible apply State.wakeComparator_steady
    | with_reducible apply foldl_steady
    | intro _ _ _

theorem State.setPlState_steady (h : r.Steady s) (pl : Pl) (st : PlState) : r.Steady (State.setPlState s pl st) := by
  unfold State.setPlState
  repeat' first
    | with_reducible assumption
    | with_reducible apply ite_steady
    | split
    | (extract_lets -underBinder t; refine cut_steady (t := t) ?_ (fun _ => ?_); unfold t; rotate_left; clear_value t; rotate_right)
    | extract_lets -underBinder _
    | dsimp only
    | (dsimp +zetaDelta only)
    | with_reducible apply State.Steady.upd

theorem State.forceOut_steady (h : r.Steady s) (pl : Pl) : r.Steady (State.forceOut s pl) := by
  unfold State.forceOut
  repeat' first
    | with_reducible assumption
    | with_reducible apply ite_steady
    | with_reducible apply State.planeFault_steady

theorem State.recover_steady (h : r.Steady s) (was next : PlState) (f : Pl → State → State)
    (hf : ∀ pl t, r.Steady t → r.Steady (f pl t)) : r.Steady (State.recover s was next f) := by
  unfold State.recover
  split
  · split
    · exact hf _ _ (State.Steady.upd (State.setPlState_steady h _ _) _ _ _ _ _ _ _ _ _ _)
    · exact h
  · exact h

theorem State.kettleWord_steady (h : r.Steady s) (pl : Pl) (w : KettleWord) : r.Steady (State.kettleWord s pl w) := by
  unfold State.kettleWord
  extract_lets st p1 t p2 u
  have hu : r.Steady u := State.Steady.upd (State.ginc_steady h _ _ _ _) _ _ _ _ _ _ _ _ _ _
  clear_value u
  refine ite_steady (State.Steady.upd h _ _ _ _ _ _ _ _ _ _) (ite_steady ?_ hu)
  exact State.recover_steady (State.ginc_steady hu _ _ _ _) _ _ _ (fun _ _ ht => State.Steady.upd ht _ _ _ _ _ _ _ _ _ _)

theorem Plane.copyTo_canon {x y : Plane} (hx : x.Canon) (hy : y.Canon) : (x.copyTo y).Canon :=
  ⟨hx.1, Tab.sorted_map hx.2.1 _ (fun _ => rfl), Tab.sorted_map hx.2.2.1 _ (fun _ => rfl), Tab.sorted_map hx.2.2.2.1 _ (fun _ => rfl),
    Tab.sorted_map hx.2.2.2.2.1 _ (fun _ => rfl), hy.2.2.2.2.2⟩

theorem State.copyPlane_steady (h : r.Steady s) (pl : Pl) : r.Steady (State.copyPlane s pl) := by
  cases pl
  · refine ⟨⟨h.pending, h.variant, h.fc, h.fcInSlot, h.slot, h.test, fun c => ?_⟩, h.img, h.keys⟩
    obtain ⟨c1, c2, c3, c4⟩ := h.canon c
    exact ⟨c1, c2, Plane.copyTo_canon c4 c3, c4⟩
  · refine ⟨⟨h.pending, h.variant, h.fc, h.fcInSlot, h.slot, h.test, fun c => ?_⟩, h.img, h.keys⟩
    obtain ⟨c1, c2, c3, c4⟩ := h.canon c
    exact ⟨c1, c2, c3, Plane.copyTo_canon c3 c4⟩

theorem State.resumePlane_steady (h : r.Steady s) (d : Nat) (pl : Pl) : r.Steady (State.resumePlane d pl s) :=
  State.sbIssue_steady (State.modPln_steady h pl _ (fun _ hx => by
    exact ⟨hx.1, Tab.sorted_map hx.2.1 _ (fun _ => rfl), hx.2.2⟩)) pl

theorem State.clearSuspects_steady (h : r.Steady s) : r.Steady (State.clearSuspects s) := by
  unfold State.clearSuspects
  repeat' first
    | with_reducible assumption
    | with_reducible apply ite_steady
    | split
    | with_reducible apply foldl_steady
    | with_reducible apply foldl_fst_steady
    | with_reducible apply foldl_snd_steady
    | intro _ _ _
    | (extract_lets -underBinder t; refine cut_steady (t := t) ?_ (fun _ => ?_); unfold t; rotate_left; clear_value t; rotate_right)
    | extract_lets -underBinder _
    | dsimp only
    | (dsimp +zetaDelta only)
    | with_reducible apply State.Steady.upd

theorem State.pairCtrl_steady (h : r.Steady s) (v : W32) : r.Steady (State.pairCtrl s v) := by
  unfold State.pairCtrl
  repeat' first
    | with_reducible assumption
    | with_reducible apply ite_steady
    | split
    | with_reducible apply State.clearSuspects_steady
    | with_reducible apply State.forceOut_steady
    | with_reducible apply State.gset_steady
    | (extract_lets -underBinder t; refine cut_steady (t := t) ?_ (fun _ => ?_); unfold t; rotate_left; clear_value t; rotate_right)
    | extract_lets -underBinder _
    | dsimp only
    | (dsimp +zetaDelta only)
    | with_reducible apply State.Steady.upd

/-! ### Machine/Pads.lean -/

theorem State.safeRelease_steady (h : r.Steady s) (groups : BitVec 4) : r.Steady (State.safeRelease s groups) := by
  unfold State.safeRelease
  repeat' first
    | with_reducible assumption
    | with_reducible apply ite_steady
    | split
    | (extract_lets -underBinder t; refine cut_steady (t := t) ?_ (fun _ => ?_); unfold t; rotate_left; clear_value t; rotate_right)
    | extract_lets -underBinder _
    | dsimp only
    | (dsimp +zetaDelta only)
    | with_reducible apply State.Steady.upd

theorem State.switchPad_steady (h : r.Steady s) (m : Nat) (fn : Nat) : r.Steady (State.switchPad s m fn) := by
  unfold State.switchPad
  repeat' first
    | with_reducible assumption
    | with_reducible apply ite_steady
    | with_reducible apply State.gfset_steady
    | with_reducible apply State.modMp_steady

theorem State.writeMpFn_steady (h : r.Steady s) (v : W32) : r.Steady (State.writeMpFn s v) := by
  unfold State.writeMpFn
  repeat' first
    | with_reducible assumption
    | with_reducible apply State.switchPad_steady

theorem State.holdPads_steady (h : r.Steady s) : r.Steady (State.holdPads s) := by
  unfold State.holdPads
  repeat' first
    | with_reducible assumption
    | with_reducible apply ite_steady
    | split
    | with_reducible apply State.modMp_steady
    | (extract_lets -underBinder t; refine cut_steady (t := t) ?_ (fun _ => ?_); unfold t; rotate_left; clear_value t; rotate_right)
    | extract_lets -underBinder _
    | dsimp only
    | (dsimp +zetaDelta only)
    | with_reducible apply State.Steady.upd

theorem State.releasePads_steady (h : r.Steady s) : r.Steady (State.releasePads s) := by
  unfold State.releasePads
  repeat' first
    | with_reducible assumption
    | with_reducible apply ite_steady
    | split
    | with_reducible apply State.modMp_steady
    | (extract_lets -underBinder t; refine cut_steady (t := t) ?_ (fun _ => ?_); unfold t; rotate_left; clear_value t; rotate_right)
    | extract_lets -underBinder _
    | dsimp only
    | (dsimp +zetaDelta only)
    | with_reducible apply State.Steady.upd

theorem State.padStatus_steady (h : r.Steady s) : r.Steady (State.padStatus s).2 := by
  unfold State.padStatus
  repeat' first
    | with_reducible assumption
    | with_reducible apply State.freshWord_steady

end Sys2Proof.Machine
end

