-- ==== Sys2Proof/Laws/SteadyImage.lean ====
section
/-!
SUPPORT. What the operations of start-up, events, dumps, power, snapshots and the control window leave alone (`State.Steady`): the queue, the part, time, the test port, the accepted
configuration and the keys; and that the tables stay in order.
-/
namespace Sys2Proof.Machine

variable {r s : State}

/-! ### Machine/Image.lean -/

theorem Plane.loadWords_canon (ws : Tab W32) {x : Plane} (h : x.Canon) : (x.loadWords ws).Canon := by
  unfold Plane.loadWords
  induction ws generalizing x with
  | nil => exact h
  | cons w ws ih =>
    refine ih ?_
    dsimp only
    split
    · exact ⟨Tab.wf_wr h.1 _ _, h.2⟩
    · exact h

theorem State.loadWords_steady (h : r.Steady s) (ws : Tab W32) : r.Steady (State.loadWords s ws) := by
  have h1 : r.Steady (ws.foldl (fun t w => if planeBlock w.1 then t else t.gset w.1 w.2) s) :=
    foldl_steady _ _ h (fun t w ht => ite_steady ht (State.gset_steady ht _ _))
  unfold State.loadWords
  generalize ws.foldl (fun t w => if planeBlock w.1 then t else t.gset w.1 w.2) s = t at h1
  refine ⟨⟨h1.pending, h1.variant, h1.fc, h1.fcInSlot, h1.slot, h1.test, fun c => ?_⟩, h1.img, h1.keys⟩
  obtain ⟨c1, c2, c3, c4⟩ := h1.canon c
  refine ⟨c1, c2, Plane.loadWords_canon ws c3, ?_⟩
  dsimp only
  split
  · exact Plane.loadWords_canon ws c4
  · exact c4

/-! ### Machine/Boot.lean -/

theorem State.setPhase_steady (h : r.Steady s) (n : Nat) : r.Steady (State.setPhase s n) := by
  unfold State.setPhase
  repeat' first
    | with_reducible assumption
    | with_reducible apply State.gfset_steady

theorem State.setResult_steady (h : r.Steady s) (c : Nat) (v : Nat) : r.Steady (State.setResult s c v) := by
  unfold State.setResult
  repeat' first
    | with_reducible assumption
    | with_reducible apply State.gfset_steady

theorem State.checkHdr_steady (h : r.Steady s) (c : Nat) (h : List (BitVec 8)) : r.Steady (State.checkHdr s c h) := by
  unfold State.checkHdr
  repeat' first
    | with_reducible assumption
    | with_reducible apply State.gset_steady
    | with_reducible apply State.setResult_steady

theorem State.setErrLoc_steady (h : r.Steady s) (v : Nat) : r.Steady (State.setErrLoc s v) := by
  unfold State.setErrLoc
  repeat' first
    | with_reducible assumption
    | with_reducible apply ite_steady
    | with_reducible apply State.gset_steady

theorem State.kickAll_steady (h : r.Steady s) : r.Steady (State.kickAll s) := by
  unfold State.kickAll
  repeat' first
    | with_reducible assumption
    | with_reducible apply State.evtKick_steady
    | with_reducible apply foldl_steady
    | intro _ _ _

theorem State.gtOpen_steady (h : r.Steady s) (pl : Pl) : r.Steady (State.gtOpen s pl) := by
  unfold State.gtOpen
  repeat' first
    | with_reducible assumption
    | with_reducible apply State.modNi_steady
    | with_reducible apply foldl_steady
    | intro _ _ _

theorem State.startPads_steady (h : r.Steady s) : r.Steady (State.startPads s) := by
  unfold State.startPads
  repeat' first
    | with_reducible assumption
    | with_reducible apply ite_steady
    | with_reducible apply State.modMp_steady
    | with_reducible apply foldl_steady
    | intro _ _ _

theorem State.openPorts_steady (h : r.Steady s) : r.Steady (State.openPorts s) := by
  unfold State.openPorts
  repeat' first
    | with_reducible assumption
    | with_reducible apply ite_steady
    | with_reducible apply State.modPort_steady
    | with_reducible apply State.risePort_steady
    | with_reducible apply foldl_steady
    | intro _ _ _

theorem State.reboot_steady (h : r.Steady s) : r.Steady (State.reboot s) := by
  unfold State.reboot
  repeat' first
    | with_reducible assumption
    | with_reducible apply ite_steady
    | split
    | with_reducible apply State.gset_steady
    | with_reducible apply State.setPhase_steady
    | with_reducible apply foldl_steady
    | with_reducible apply foldl_fst_steady
    | with_reducible apply foldl_snd_steady
    | intro _ _ _
    | (extract_lets -underBinder t; refine cut_steady (t := t) ?_ (fun _ => ?_); unfold t; rotate_left; clear_value t; rotate_right)
    | extract_lets -underBinder _
    | dsimp only
    | (dsimp +zetaDelta only)
    | with_reducible apply State.Steady.upd

theorem State.flEnd_steady (h : r.Steady s) (err : Nat) : r.Steady (State.flEnd s err) := by
  unfold State.flEnd
  repeat' first
    | with_reducible assumption
    | with_reducible apply State.gset_steady

theorem State.flStart_steady (h : r.Steady s) (op : Nat) : r.Steady (State.flStart s op) := by
  unfold State.flStart
  repeat' first
    | with_reducible assumption
    | with_reducible apply ite_steady
    | split
    | with_reducible apply State.flEnd_steady
    | with_reducible apply State.freshWord_steady
    | with_reducible apply State.gset_steady
    | (extract_lets -underBinder t; refine cut_steady (t := t) ?_ (fun _ => ?_); unfold t; rotate_left; clear_value t; rotate_right)
    | extract_lets -underBinder _
    | dsimp only
    | (dsimp +zetaDelta only)
    | with_reducible apply State.Steady.upd

/-! ### Machine/Events.lean -/

theorem State.evLeave_steady (h : r.Steady s) (src : Nat) (st : EvState) : r.Steady (State.evLeave s src st) := by
  unfold State.evLeave
  repeat' first
    | with_reducible assumption
    | with_reducible apply ite_steady
    | split
    | (extract_lets -underBinder t; refine cut_steady (t := t) ?_ (fun _ => ?_); unfold t; rotate_left; clear_value t; rotate_right)
    | extract_lets -underBinder _
    | dsimp only
    | (dsimp +zetaDelta only)
    | with_reducible apply State.Steady.upd

theorem State.evPend_steady (h : r.Steady s) (src : Nat) (front : Bool) : r.Steady (State.evPend s src front) := by
  unfold State.evPend
  repeat' first
    | with_reducible assumption
    | with_reducible apply ite_steady
    | split
    | with_reducible apply State.evLeave_steady
    | with_reducible apply State.evTail_steady
    | (extract_lets -underBinder t; refine cut_steady (t := t) ?_ (fun _ => ?_); unfold t; rotate_left; clear_value t; rotate_right)
    | extract_lets -underBinder _
    | dsimp only
    | (dsimp +zetaDelta only)
    | with_reducible apply State.Steady.upd

theorem State.evtAck_steady (h : r.Steady s) (src : Nat) (n : Nat) : r.Steady (State.evtAck s src n) := by
  unfold State.evtAck
  repeat' first
    | with_reducible assumption
    | with_reducible apply ite_steady
    | split
    | with_reducible apply State.evLeave_steady
    | with_reducible apply State.evPend_steady
    | (extract_lets -underBinder t; refine cut_steady (t := t) ?_ (fun _ => ?_); unfold t; rotate_left; clear_value t; rotate_right)
    | extract_lets -underBinder _
    | dsimp only
    | (dsimp +zetaDelta only)
    | with_reducible apply State.Steady.upd

theorem State.evtRaise_steady (h : r.Steady s) (src : Nat) : r.Steady (State.evtRaise s src) := by
  unfold State.evtRaise
  repeat' first
    | with_reducible assumption
    | with_reducible apply ite_steady
    | with_reducible apply State.freshWord_steady
    | with_reducible apply State.occur_steady
    | with_reducible apply State.occurInfo_steady

theorem State.evtConfig_steady (h : r.Steady s) (src : Nat) (v : W32) : r.Steady (State.evtConfig s src v) := by
  unfold State.evtConfig
  repeat' first
    | with_reducible assumption
    | with_reducible apply ite_steady
    | with_reducible apply State.evLeave_steady
    | with_reducible apply State.evtKick_steady
    | with_reducible apply State.gset_steady

theorem State.evAnswered_steady (h : r.Steady s) (src : Nat) (st : Nat) : r.Steady (State.evAnswered s src st) := by
  unfold State.evAnswered
  repeat' first
    | with_reducible assumption
    | with_reducible apply ite_steady
    | split
    | with_reducible apply State.evLeave_steady
    | with_reducible apply State.ginc_steady
    | with_reducible apply State.gor_steady
    | with_reducible apply State.gset_steady
    | (extract_lets -underBinder t; refine cut_steady (t := t) ?_ (fun _ => ?_); unfold t; rotate_left; clear_value t; rotate_right)
    | extract_lets -underBinder _
    | dsimp only
    | (dsimp +zetaDelta only)
    | with_reducible apply State.Steady.upd

/-! ### Machine/Dumps.lean -/

theorem State.modDumpOut_steady (h : r.Steady s) (pl : Pl) (ep : Nat) (f : Nat → Nat) : r.Steady (State.modDumpOut s pl ep f) := by
  unfold State.modDumpOut
  repeat' first
    | with_reducible assumption
    | split
    | with_reducible apply State.modMul_steady
    | with_reducible apply State.modNi_steady
    | with_reducible apply State.modRouter_steady

theorem State.sendDump_steady (h : r.Steady s) (pl : Pl) (ep : Nat) (g : Nat) (first : Nat) (l : List (BitVec 64)) : r.Steady (State.sendDump s pl ep g first l) := by
  unfold State.sendDump
  repeat' first
    | with_reducible assumption
    | with_reducible apply ite_steady
    | with_reducible apply State.epSend_steady
    | with_reducible apply State.modDumpOut_steady
    | with_reducible apply State.modRouter_steady

theorem State.pumpMirror_steady (h : r.Steady s) (pl : Pl) (p : Nat) : r.Steady (State.pumpMirror s pl p) := by
  unfold State.pumpMirror
  repeat' first
    | with_reducible assumption
    | with_reducible apply ite_steady
    | with_reducible apply State.modNi_steady
    | with_reducible apply State.sendDump_steady

theorem State.modDump_steady (h : r.Steady s) (pl : Pl) (g : Nat) (f : DumpG → DumpG) : r.Steady (State.modDump s pl g f) := by
  unfold State.modDump
  repeat' first
    | with_reducible assumption
    | with_reducible apply State.modSb_steady

theorem State.pumpRun_steady (h : r.Steady s) (pl : Pl) (g : Nat) (i : Nat) : r.Steady (State.pumpRun s pl g i) := by
  unfold State.pumpRun
  repeat' first
    | with_reducible assumption
    | split
    | with_reducible apply State.modDump_steady
    | with_reducible apply State.sendDump_steady

theorem State.pumpHost_steady (h : r.Steady s) (pl : Pl) (ep : Nat) : r.Steady (State.pumpHost s pl ep) := by
  unfold State.pumpHost
  repeat' first
    | with_reducible assumption
    | with_reducible apply ite_steady
    | with_reducible apply State.pumpMirror_steady
    | with_reducible apply State.pumpRun_steady
    | with_reducible apply foldl_steady
    | intro _ _ _

theorem State.mirrorNi_steady (h : r.Steady s) (pl : Pl) (p : Nat) : r.Steady (State.mirrorNi s pl p) := by
  unfold State.mirrorNi
  repeat' first
    | with_reducible assumption
    | with_reducible apply ite_steady
    | with_reducible apply State.modNi_steady
    | with_reducible apply State.pinc_steady
    | with_reducible apply State.pumpHost_steady

theorem State.dumpSkip_steady (h : r.Steady s) (pl : Pl) (g : Nat) : r.Steady (State.dumpSkip s pl g) := by
  unfold State.dumpSkip
  repeat' first
    | with_reducible assumption
    | with_reducible apply ite_steady
    | with_reducible apply State.modDump_steady
    | with_reducible apply State.occurP_steady
    | with_reducible apply State.pinc_steady
    | with_reducible apply State.por_steady
    | with_reducible apply State.pset_steady

theorem State.dumpTake_steady (h : r.Steady s) (pl : Pl) (g : Nat) : r.Steady (State.dumpTake s pl g) := by
  unfold State.dumpTake
  repeat' first
    | with_reducible assumption
    | with_reducible apply State.modDump_steady
    | with_reducible apply State.pset_steady
    | with_reducible apply State.pumpHost_steady
    | with_reducible apply foldl_steady
    | intro _ _ _

theorem State.takeAgent_steady {pl : Pl} {quire : Bool} {i : Nat} {k : Packet} {t : State} (h : r.Steady s)
    (e : s.takeAgent pl quire i = some (k, t)) : r.Steady t := by
  unfold State.takeAgent at e
  dsimp only at e
  split at e
  · cases e
  · split at e
    · cases e
    · cases e
      split
      · exact State.giveCredit_steady (State.modRouter_steady h _ _ _ _) _ _ _ _
      · exact State.modRouter_steady h _ _ _ _

theorem State.dumpWithdraw_steady (h : r.Steady s) (pl : Pl) (g : Nat) : r.Steady (State.dumpWithdraw s pl g) := by
  unfold State.dumpWithdraw
  repeat' first
    | with_reducible assumption
    | with_reducible apply State.modDump_steady
    | with_reducible apply State.modSb_steady

theorem State.dumpAnswered_steady (h : r.Steady s) (pl : Pl) (g : Nat) (st : Nat) : r.Steady (State.dumpAnswered s pl g st) := by
  unfold State.dumpAnswered
  repeat' first
    | with_reducible assumption
    | with_reducible apply ite_steady
    | with_reducible apply State.dumpWithdraw_steady
    | with_reducible apply State.modDump_steady
    | with_reducible apply State.occurP_steady
    | with_reducible apply State.por_steady
    | with_reducible apply State.pset_steady

theorem State.dgTail_steady (h : r.Steady s) (g : Nat) (v : W32) (pl : Pl) : r.Steady (State.dgTail s g v pl) := by
  unfold State.dgTail
  repeat' first
    | with_reducible assumption
    | with_reducible apply ite_steady
    | with_reducible apply State.pfset_steady
    | with_reducible apply State.pset_steady

theorem State.dgCtrl_steady (h : r.Steady s) (g : Nat) (v : W32) (pl : Pl) : r.Steady (State.dgCtrl s g v pl) := by
  unfold State.dgCtrl
  repeat' first
    | with_reducible assumption
    | with_reducible apply ite_steady
    | with_reducible apply State.pclear_steady
    | with_reducible apply State.pfset_steady

/-! ### Machine/Power.lean -/

theorem State.quireOrPend_steady (h : r.Steady s) (target : PState) (q : Nat) : r.Steady (State.quireOrPend s target q) := by
  unfold State.quireOrPend
  repeat' first
    | with_reducible assumption
    | with_reducible apply ite_steady
    | with_reducible apply State.modQp_steady
    | with_reducible apply State.quireCmd_steady

theorem State.deviceEntry_steady (h : r.Steady s) (target : PState) : r.Steady (State.deviceEntry s target) := by
  unfold State.deviceEntry
  repeat' first
    | with_reducible assumption
    | with_reducible apply ite_steady
    | split
    | with_reducible apply State.beginEntry_steady
    | with_reducible apply State.modQp_steady
    | with_reducible apply State.pwrResult_steady
    | with_reducible apply foldl_steady
    | with_reducible apply foldl_fst_steady
    | with_reducible apply foldl_snd_steady
    | intro _ _ _
    | (extract_lets -underBinder t; refine cut_steady (t := t) ?_ (fun _ => ?_); unfold t; rotate_left; clear_value t; rotate_right)
    | extract_lets -underBinder _
    | dsimp only
    | (dsimp +zetaDelta only)
    | with_reducible apply State.Steady.upd

theorem State.powerCmd_steady (h : r.Steady s) (quires : BitVec 4) (device : Bool) (target : PState) : r.Steady (State.powerCmd s quires device target) := by
  unfold State.powerCmd
  repeat' first
    | with_reducible assumption
    | with_reducible apply ite_steady
    | split
    | with_reducible apply State.beginExit_steady
    | with_reducible apply State.deviceEntry_steady
    | with_reducible apply State.quireOrPend_steady
    | with_reducible apply foldl_steady
    | with_reducible apply foldl_fst_steady
    | with_reducible apply foldl_snd_steady
    | intro _ _ _
    | (extract_lets -underBinder t; refine cut_steady (t := t) ?_ (fun _ => ?_); unfold t; rotate_left; clear_value t; rotate_right)
    | extract_lets -underBinder _
    | dsimp only
    | (dsimp +zetaDelta only)
    | with_reducible apply State.Steady.upd

theorem State.wakeDone_steady (h : r.Steady s) : r.Steady (State.wakeDone s) := by
  unfold State.wakeDone
  repeat' first
    | with_reducible assumption
    | with_reducible apply ite_steady
    | with_reducible apply State.modQp_steady
    | with_reducible apply State.occurInfo_steady

theorem State.idleOver_steady (h : r.Steady s) (q : Nat) : r.Steady (State.idleOver s q) := by
  unfold State.idleOver
  repeat' first
    | with_reducible assumption
    | with_reducible apply ite_steady
    | with_reducible apply State.modQp_steady
    | with_reducible apply State.runPending_steady
    | with_reducible apply State.wakeDone_steady

theorem State.modEntry_steady (h : r.Steady s) (q : Nat) (f : Entry → Entry) : r.Steady (State.modEntry s q f) := by
  unfold State.modEntry
  repeat' first
    | with_reducible assumption
    | with_reducible apply State.modQp_steady

theorem State.stopQuire_steady (h : r.Steady s) (q : Nat) (pl : Pl) : r.Steady (State.stopQuire s q pl) := by
  unfold State.stopQuire
  repeat' first
    | with_reducible assumption
    | with_reducible apply State.mulStopAll_steady
    | with_reducible apply foldl_steady
    | intro _ _ _

theorem State.vacate_steady (h : r.Steady s) (q : Nat) : r.Steady (State.vacate s q) := by
  unfold State.vacate
  repeat' first
    | with_reducible assumption
    | with_reducible apply ite_steady
    | with_reducible apply State.eachPlane_steady
    | with_reducible apply State.modSb_steady
    | with_reducible apply State.stopQuire_steady
    | with_reducible apply State.tryDemotes_steady
    | intro _ _ _

theorem State.parkIslands_steady (h : r.Steady s) (pl : Pl) (l : List Nat) : r.Steady (State.parkIslands s pl l) := by
  unfold State.parkIslands
  repeat' first
    | with_reducible assumption
    | with_reducible apply State.forgetOff_steady
    | with_reducible apply State.modIsl_steady
    | with_reducible apply foldl_steady
    | intro _ _ _

theorem State.quireLinksDown_steady (h : r.Steady s) (q : Nat) (pl : Pl) : r.Steady (State.quireLinksDown s q pl) := by
  unfold State.quireLinksDown
  repeat' first
    | with_reducible assumption
    | with_reducible apply State.modMul_steady
    | with_reducible apply State.modNi_steady
    | with_reducible apply State.modRouter_steady
    | with_reducible apply State.modSb_steady
    | with_reducible apply foldl_steady
    | intro _ _ _

theorem State.quireCommit_steady (h : r.Steady s) (q : Nat) (e : Entry) : r.Steady (State.quireCommit s q e) := by
  unfold State.quireCommit
  repeat' first
    | with_reducible assumption
    | with_reducible apply ite_steady
    | split
    | with_reducible apply State.bwEndDown_steady
    | with_reducible apply State.eachPlane_steady
    | with_reducible apply State.gfset_steady
    | with_reducible apply State.modQp_steady
    | with_reducible apply State.pwrResult_steady
    | with_reducible apply State.quireLinksDown_steady
    | with_reducible apply State.runPending_steady
    | with_reducible apply foldl_steady
    | with_reducible apply foldl_fst_steady
    | with_reducible apply foldl_snd_steady
    | intro _ _ _
    | (extract_lets -underBinder t; refine cut_steady (t := t) ?_ (fun _ => ?_); unfold t; rotate_left; clear_value t; rotate_right)
    | extract_lets -underBinder _
    | dsimp only
    | (dsimp +zetaDelta only)
    | with_reducible apply State.Steady.upd

theorem Tab.wf_foldl_wr (ws : List (Nat × W32)) {t : Tab W32} (h : Tab.wf t (fun _ => 0)) :
    Tab.wf (ws.foldl (fun r w => r.wr w.1 w.2 0) t) (fun _ => 0) := by
  induction ws generalizing t with
  | nil => exact h
  | cons w ws ih => exact ih (Tab.wf_wr (d := fun _ => 0) h _ _)

theorem State.beginDeviceExit_steady (h : r.Steady s) (x : Nat) : r.Steady (State.beginDeviceExit s x) := by
  unfold State.beginDeviceExit
  extract_lets -underBinder kr kp reload pw t sh a b rf
  have ht : r.Steady t := State.Steady.upd h s.freeCtr s.hw s.answers s.boot s.oreset _ s.pads s.evt s.snp s.pair
  have hr : ∀ x : Plane, x.Canon → (reload x).Canon := fun x hx => Plane.loadWords_canon _ ⟨Tab.wf_filter hx.1 _, hx.2⟩
  have ha : t.Canon → a.Canon := by
    intro c; unfold a; split
    · exact c.2.2.2
    · exact c.2.2.1
  have hb : t.Canon → b.Canon := by
    intro c; unfold b; split
    · exact c.2.2.1
    · exact c.2.2.2
  have hrf : t.Canon → Tab.wf rf (fun _ => 0) := fun c => Tab.wf_foldl_wr _ (Tab.wf_filter c.1 _)
  clear_value rf b a sh t reload
  split
  · refine ⟨⟨ht.pending, ht.variant, ht.fc, ht.fcInSlot, ht.slot, ht.test, fun c =>
      ⟨Tab.wf_wr (d := fun _ => 0) (hrf (ht.canon c)) _ _, (ht.canon c).2.1, ?_, ?_⟩⟩, ht.img, ht.keys⟩
    · exact ⟨(hr _ (ha (ht.canon c))).1, (hr _ (ha (ht.canon c))).2.1, (hr _ (ha (ht.canon c))).2.2.1,
        (hr _ (ha (ht.canon c))).2.2.2.1, (hr _ (ha (ht.canon c))).2.2.2.2.1, (ht.canon c).2.2.1.2.2.2.2.2⟩
    · dsimp only
      split
      · exact ⟨(hr _ (hb (ht.canon c))).1, (hr _ (hb (ht.canon c))).2.1, (hr _ (hb (ht.canon c))).2.2.1,
          (hr _ (hb (ht.canon c))).2.2.2.1, (hr _ (hb (ht.canon c))).2.2.2.2.1, (ht.canon c).2.2.2.2.2.2.2.2⟩
      · exact (ht.canon c).2.2.2
  · exact ht

theorem State.noteWake_steady (h : r.Steady s) (bits : W32) : r.Steady (State.noteWake s bits) := by
  unfold State.noteWake
  repeat' first
    | with_reducible assumption
    | with_reducible apply ite_steady
    | split
    | with_reducible apply State.gor_steady
    | (extract_lets -underBinder t; refine cut_steady (t := t) ?_ (fun _ => ?_); unfold t; rotate_left; clear_value t; rotate_right)
    | extract_lets -underBinder _
    | dsimp only
    | (dsimp +zetaDelta only)
    | with_reducible apply State.Steady.upd

theorem State.wakeQuire_steady (h : r.Steady s) (x : Nat) (q : Nat) : r.Steady (State.wakeQuire s x q) := by
  unfold State.wakeQuire
  repeat' first
    | with_reducible assumption
    | with_reducible apply ite_steady
    | with_reducible apply State.beginExit_steady
    | with_reducible apply State.modQp_steady
    | with_reducible apply State.noteWake_steady

theorem State.wake_steady (h : r.Steady s) (cause : Nat) : r.Steady (State.wake s cause) := by
  unfold State.wake
  repeat' first
    | with_reducible assumption
    | with_reducible apply ite_steady
    | split
    | with_reducible apply State.beginDeviceExit_steady
    | with_reducible apply State.beginExit_steady
    | with_reducible apply State.modQp_steady
    | with_reducible apply State.noteWake_steady
    | with_reducible apply State.wakeQuire_steady
    | with_reducible apply foldl_steady
    | with_reducible apply foldl_fst_steady
    | with_reducible apply foldl_snd_steady
    | intro _ _ _
    | (extract_lets -underBinder t; refine cut_steady (t := t) ?_ (fun _ => ?_); unfold t; rotate_left; clear_value t; rotate_right)
    | extract_lets -underBinder _
    | dsimp only
    | (dsimp +zetaDelta only)
    | with_reducible apply State.Steady.upd

theorem State.islandsBack_steady (h : r.Steady s) (l : List Nat) : r.Steady (State.islandsBack s l) := by
  unfold State.islandsBack
  repeat' first
    | with_reducible assumption
    | with_reducible apply State.lockDueIn_steady
    | with_reducible apply foldl_steady
    | intro _ _ _

theorem State.deviceBack_steady (h : r.Steady s) : r.Steady (State.deviceBack s) := by
  unfold State.deviceBack
  repeat' first
    | with_reducible assumption
    | with_reducible apply ite_steady
    | split
    | with_reducible apply State.eachPlane_steady
    | with_reducible apply State.islandsBack_steady
    | with_reducible apply State.modQp_steady
    | with_reducible apply State.sbIssue_steady
    | intro _ _ _
    | (extract_lets -underBinder t; refine cut_steady (t := t) ?_ (fun _ => ?_); unfold t; rotate_left; clear_value t; rotate_right)
    | extract_lets -underBinder _
    | dsimp only
    | (dsimp +zetaDelta only)
    | with_reducible apply State.Steady.upd

theorem State.reloadPlane_steady (h : r.Steady s) (q : Nat) (pl : Pl) : r.Steady (State.reloadPlane s q pl) := by
  unfold State.reloadPlane
  extract_lets -underBinder mine t
  have ht : r.Steady t := State.modPln_steady h _ _ (fun x hx => Plane.loadWords_canon _
    ⟨Tab.wf_filter hx.1 _, Tab.sorted_filter hx.2.1 _, Tab.sorted_filter hx.2.2.1 _, Tab.sorted_filter hx.2.2.2.1 _,
      Tab.sorted_filterMap hx.2.2.2.2.1 _ (fun w y e => by
        split at e
        · cases e; rfl
        · split at e
          · cases e; rfl
          · cases e), hx.2.2.2.2.2⟩)
  clear_value t
  refine foldl_steady _ _ ht (fun u w hu => ?_)
  extract_lets -underBinder v
  have hv : r.Steady v := ite_steady (State.modNi_steady hu _ _ _) hu
  exact ite_steady (State.por_steady hv _ _ _) hv

theorem State.openQuire_steady (h : r.Steady s) (q : Nat) : r.Steady (State.openQuire s q) := by
  unfold State.openQuire
  repeat' first
    | with_reducible assumption
    | with_reducible apply ite_steady
    | with_reducible apply State.risePort_steady
    | with_reducible apply foldl_steady
    | intro _ _ _

theorem State.quireBack_steady (h : r.Steady s) (q : Nat) (reload : Bool) : r.Steady (State.quireBack s q reload) := by
  unfold State.quireBack
  repeat' first
    | with_reducible assumption
    | with_reducible apply ite_steady
    | with_reducible apply State.gfset_steady
    | with_reducible apply State.islandsBack_steady
    | with_reducible apply State.modQp_steady
    | with_reducible apply State.openQuire_steady
    | with_reducible apply State.reloadPlane_steady
    | with_reducible apply State.runPending_steady
    | with_reducible apply State.wakeDone_steady
    | with_reducible apply foldl_steady
    | intro _ _ _

/-! ### Machine/Snapshots.lean -/

theorem State.snapArm_steady (h : r.Steady s) : r.Steady (State.snapArm s) := by
  unfold State.snapArm
  repeat' first
    | with_reducible assumption
    | with_reducible apply ite_steady
    | split
    | with_reducible apply State.gset_steady
    | (extract_lets -underBinder t; refine cut_steady (t := t) ?_ (fun _ => ?_); unfold t; rotate_left; clear_value t; rotate_right)
    | extract_lets -underBinder _
    | dsimp only
    | (dsimp +zetaDelta only)
    | with_reducible apply State.Steady.upd

theorem State.snapCtrl_steady (h : r.Steady s) (v : W32) : r.Steady (State.snapCtrl s v) := by
  unfold State.snapCtrl
  repeat' first
    | with_reducible assumption
    | with_reducible apply ite_steady
    | with_reducible apply State.gset_steady
    | with_reducible apply State.snapArm_steady
    | with_reducible apply State.snapTrigger_steady

theorem State.latchRouter_steady (h : r.Steady s) (pl : Pl) (quire : Bool) (i : Nat) (b : Nat) : r.Steady (State.latchRouter s pl quire i b) := by
  unfold State.latchRouter
  repeat' first
    | with_reducible assumption
    | with_reducible apply State.pset_steady

theorem State.latchCounters_steady (h : r.Steady s) (pl : Pl) : r.Steady (State.latchCounters s pl) := by
  unfold State.latchCounters
  extract_lets -underBinder ok t
  have ht : r.Steady t := State.modPln_steady h _ _ (fun _ hx => ⟨Tab.wf_filter hx.1 _, hx.2⟩)
  clear_value t
  refine foldl_steady _ _ ht (fun u w hu => ?_)
  extract_lets -underBinder b
  exact ite_steady (State.pset_steady (State.pset_steady hu _ _ _) _ _ _) hu

theorem State.latchPlane_steady (h : r.Steady s) (pl : Pl)  : r.Steady (State.latchPlane pl s) := by
  unfold State.latchPlane
  repeat' first
    | with_reducible assumption
    | with_reducible apply ite_steady
    | with_reducible apply State.latchCounters_steady
    | with_reducible apply State.latchRouter_steady
    | with_reducible apply State.pset_steady
    | with_reducible apply foldl_steady
    | intro _ _ _

/-! ### Machine/Observe.lean -/

theorem State.clearRc_steady (h : r.Steady s) (pl : Pl) (off : Nat) : r.Steady (State.clearRc s pl off) := by
  unfold State.clearRc
  repeat' first
    | with_reducible assumption
    | split
    | with_reducible apply State.gset_steady
    | with_reducible apply State.pset_steady

theorem State.readWord_steady (h : r.Steady s) (pl : Pl) (off : Nat) : r.Steady (State.readWord s pl off).2 := by
  unfold State.readWord
  repeat' first
    | with_reducible assumption
    | split
    | with_reducible apply State.clearRc_steady
    | with_reducible apply State.gset_steady
    | with_reducible apply State.padStatus_steady
    | with_reducible refine State.modPln_same ?_ _ _ (fun _ => rfl)

theorem State.readLine_steady (h : r.Steady s) (pl : Pl) (off : Nat) (ben : BitVec 64) : r.Steady (State.readLine s pl off ben).2 := by
  unfold State.readLine
  repeat' first
    | with_reducible assumption
    | with_reducible apply State.freshLine_steady
    | with_reducible apply State.readWord_steady
    | with_reducible apply foldl_snd_steady
    | intro _ _ _

theorem State.cwRead_steady (h : r.Steady s) (r₀ : CwReq) (off : Nat) (ben : BitVec 64) : r.Steady (State.cwRead s r₀ off ben) := by
  unfold State.cwRead
  repeat' first
    | with_reducible assumption
    | with_reducible apply ite_steady
    | with_reducible apply State.answer_steady
    | with_reducible apply State.readLine_steady
    | with_reducible apply State.touch_steady

theorem State.aperRead_steady (h : r.Steady s) (r₀ : CwReq) (e : Nat) (c : Nat) (off : Nat) (ben : BitVec 64) (pl : Pl)  : r.Steady (State.aperRead r₀ e c off ben pl s) := by
  unfold State.aperRead
  repeat' first
    | with_reducible assumption
    | with_reducible apply ite_steady
    | split
    | exact State.aperTake_steady (by assumption) (by assumption)
    | (refine State.aperTake_steady ?_ (by assumption))
    | with_reducible apply State.mulReply_steady
    | with_reducible apply State.poisonOwner_steady
    | with_reducible apply State.readLine_steady
    | (extract_lets -underBinder t; refine cut_steady (t := t) ?_ (fun _ => ?_); unfold t; rotate_left; clear_value t; rotate_right)
    | extract_lets -underBinder _
    | dsimp only
    | (dsimp +zetaDelta only)
    | with_reducible apply State.Steady.upd

/-! ### Machine/Window.lean -/

theorem State.plainShared_steady (h : r.Steady s) (off : Nat) (v : W32) : r.Steady (State.plainShared s off v) := by
  unfold State.plainShared
  repeat' first
    | with_reducible assumption
    | split
    | with_reducible apply State.gset_steady

theorem State.plainPlane_steady (h : r.Steady s) (pl : Pl) (off : Nat) (v : W32) : r.Steady (State.plainPlane s pl off v) := by
  unfold State.plainPlane
  repeat' first
    | with_reducible assumption
    | split
    | with_reducible apply State.pset_steady

theorem State.writePwrCmd_steady (h : r.Steady s) (v : W32) : r.Steady (State.writePwrCmd s v) := by
  unfold State.writePwrCmd
  repeat' first
    | with_reducible assumption
    | split
    | with_reducible apply State.powerCmd_steady
    | with_reducible apply State.pwrResult_steady

theorem State.writeShared_steady (h : r.Steady s) (off : Nat) (v : W32) : r.Steady (State.writeShared s off v) := by
  unfold State.writeShared
  repeat' first
    | with_reducible assumption
    | with_reducible apply ite_steady
    | with_reducible apply State.evtAck_steady
    | with_reducible apply State.evtConfig_steady
    | with_reducible apply State.evtRaise_steady
    | with_reducible apply State.flStart_steady
    | with_reducible apply State.ownerGo_steady
    | with_reducible apply State.pairCtrl_steady
    | with_reducible apply State.plainShared_steady
    | with_reducible apply State.reboot_steady
    | with_reducible apply State.releasePads_steady
    | with_reducible apply State.safeRelease_steady
    | with_reducible apply State.snapCtrl_steady
    | with_reducible apply State.writeMpFn_steady
    | with_reducible apply State.writePwrCmd_steady

theorem State.setCounter_steady (h : r.Steady s) (idx : Nat) (lo : W32) (pl : Pl) : r.Steady (State.setCounter s idx lo pl) := by
  unfold State.setCounter
  refine State.modPln_same h pl _ ?_
  intro x
  simp only [Plane.tabs]

theorem State.stageWord_steady (h : r.Steady s) (pl : Pl) (off : Nat) (v : W32) : r.Steady (State.stageWord s pl off v) := by
  unfold State.stageWord
  repeat' first
    | with_reducible assumption
    | split
    | with_reducible refine State.modPln_same ?_ _ _ (fun _ => rfl)

theorem State.writeRegion_steady (h : r.Steady s) (pl : Pl) (off : Nat) (v : W32) : r.Steady (State.writeRegion s pl off v) := by
  unfold State.writeRegion
  repeat' first
    | with_reducible assumption
    | with_reducible apply ite_steady
    | with_reducible apply State.commitRegion_steady
    | with_reducible apply State.stageWord_steady

theorem State.writeDump_steady (h : r.Steady s) (pl : Pl) (off : Nat) (v : W32) : r.Steady (State.writeDump s pl off v) := by
  unfold State.writeDump
  repeat' first
    | with_reducible assumption
    | with_reducible apply ite_steady
    | with_reducible apply State.dgCtrl_steady
    | with_reducible apply State.dgTail_steady
    | with_reducible apply State.plainPlane_steady

theorem State.writePlane_steady (h : r.Steady s) (off : Nat) (v : W32) (pl : Pl)  : r.Steady (State.writePlane off v pl s) := by
  unfold State.writePlane
  repeat' first
    | with_reducible assumption
    | split
    | with_reducible apply State.chanWord_steady
    | with_reducible apply State.freeLock_steady
    | with_reducible apply State.pageCmd_steady
    | with_reducible apply State.plainPlane_steady
    | with_reducible apply State.plcCtrl_steady
    | with_reducible apply State.qCtrl_steady
    | with_reducible apply State.recTail_steady
    | with_reducible apply State.setCounter_steady
    | with_reducible apply State.stageWord_steady
    | with_reducible apply State.writeDump_steady
    | with_reducible apply State.writeRegion_steady

theorem State.writeWord_steady (h : r.Steady s) (off : Nat) (v : W32) : r.Steady (State.writeWord s off v) := by
  unfold State.writeWord
  repeat' first
    | with_reducible assumption
    | with_reducible apply ite_steady
    | with_reducible apply State.eachPlane_steady
    | with_reducible apply State.writePlane_steady
    | with_reducible apply State.writeShared_steady
    | intro _ _ _

theorem State.cwBeat_steady (h : r.Steady s) (r₀ : CwReq) (off : Nat) (b : Beat) : r.Steady (State.cwBeat s r₀ off b) := by
  unfold State.cwBeat
  repeat' first
    | with_reducible assumption
    | with_reducible apply ite_steady
    | with_reducible apply State.answer_steady
    | with_reducible apply State.touch_steady
    | with_reducible apply State.writeWord_steady
    | with_reducible apply foldl_steady
    | intro _ _ _

end Sys2Proof.Machine
end

