-- ==== Sys2Proof/Laws/SteadyExec.lean ====
section
/-!
SUPPORT. What the commands leave alone (`State.Steady`): the queue, the part, time, the test port, the accepted configuration and
the keys; and that the tables stay in order. The commands that start-up, device power, owner keys, time and the test port
belong to change some of these and have no lemma here.
-/
namespace Sys2Proof.Machine
variable {r s : State}
/-- The outcome is a next state to which nothing of `State.Steady` changes. -/
def State.SteadyOut (r : State) (o : Out) : Prop := ∃ t, o = .next t ∧ r.Steady t

theorem next_steady (h : r.Steady s) : r.SteadyOut (.next s) := ⟨s, rfl, h⟩

theorem inPlane_steady (h : r.Steady s) (pl : Pl) (f : State → State) (hf : r.Steady (f s)) : r.SteadyOut (inPlane s pl f) :=
  next_steady (ite_steady hf h)

theorem cwWrite_steady (h : r.Steady s) (q : CwReq) (off : Nat) (f : State → State) (hf : ∀ t, r.Steady t → r.Steady (f t)) :
    r.SteadyOut (s.cwWrite q off f) := by
  refine next_steady (ite_steady ?_ h)
  exact State.answer_steady (ite_steady (hf _ (State.touch_steady h _)) h) _ _ _

theorem atUnit_steady (h : r.Steady s) (pl : Pl) (f : Pl → State → State) (hf : ∀ pl t, r.Steady t → r.Steady (f pl t)) :
    r.SteadyOut (atUnit s pl f) :=
  next_steady (ite_steady (State.eachPlane_steady h f hf) h)

/-! ### Machine/NiIssue.lean -/

theorem execPieceIssue_steady (h : r.Steady s) (pl : Pl) (p : Nat) : r.SteadyOut (execPieceIssue pl p s) := by
  unfold execPieceIssue
  first
    | (refine inPlane_steady h _ _ ?_; dsimp only)
    | refine inPlane_steady h _ _ ?_
    | (refine cwWrite_steady h _ _ _ ?_; try intro t h)
    | apply next_steady
  all_goals repeat' first
    | with_reducible assumption
    | with_reducible apply ite_steady
    | split
    | with_reducible apply State.countNi_steady
    | with_reducible apply State.modNi_steady
    | with_reducible apply State.niSettle_steady
    | with_reducible apply State.sendPiece_steady
    | intro _ _ _
    | (extract_lets -underBinder t; refine cut_steady (t := t) ?_ (fun _ => ?_); unfold t; rotate_left; clear_value t; rotate_right)
    | extract_lets -underBinder _
    | dsimp only
    | (dsimp +zetaDelta only)
    | with_reducible apply State.Steady.upd

theorem execRackReceived_steady (h : r.Steady s) (pl : Pl) (p : Nat) (vc : Nat) : r.SteadyOut (execRackReceived pl p vc s) := by
  unfold execRackReceived
  first
    | (refine inPlane_steady h _ _ ?_; dsimp only)
    | refine inPlane_steady h _ _ ?_
    | (refine cwWrite_steady h _ _ _ ?_; try intro t h)
    | apply next_steady
  all_goals repeat' first
    | with_reducible assumption
    | with_reducible apply ite_steady
    | split
    | with_reducible apply State.takeResponse_steady
    | intro _ _ _
    | (extract_lets -underBinder t; refine cut_steady (t := t) ?_ (fun _ => ?_); unfold t; rotate_left; clear_value t; rotate_right)
    | extract_lets -underBinder _
    | dsimp only
    | (dsimp +zetaDelta only)
    | with_reducible apply State.Steady.upd

theorem execRdataReceived_steady (h : r.Steady s) (pl : Pl) (p : Nat) (vc : Nat) : r.SteadyOut (execRdataReceived pl p vc s) := by
  unfold execRdataReceived
  first
    | (refine inPlane_steady h _ _ ?_; dsimp only)
    | refine inPlane_steady h _ _ ?_
    | (refine cwWrite_steady h _ _ _ ?_; try intro t h)
    | apply next_steady
  all_goals repeat' first
    | with_reducible assumption
    | with_reducible apply ite_steady
    | split
    | with_reducible apply State.takeResponse_steady
    | intro _ _ _
    | (extract_lets -underBinder t; refine cut_steady (t := t) ?_ (fun _ => ?_); unfold t; rotate_left; clear_value t; rotate_right)
    | extract_lets -underBinder _
    | dsimp only
    | (dsimp +zetaDelta only)
    | with_reducible apply State.Steady.upd

theorem execFenceComplete_steady (h : r.Steady s) (pl : Pl) (p : Nat) : r.SteadyOut (execFenceComplete pl p s) := by
  unfold execFenceComplete
  first
    | (refine inPlane_steady h _ _ ?_; dsimp only)
    | refine inPlane_steady h _ _ ?_
    | (refine cwWrite_steady h _ _ _ ?_; try intro t h)
    | apply next_steady
  all_goals repeat' first
    | with_reducible assumption
    | with_reducible apply ite_steady
    | split
    | with_reducible apply State.modNi_steady
    | with_reducible apply State.niSettle_steady
    | intro _ _ _
    | (extract_lets -underBinder t; refine cut_steady (t := t) ?_ (fun _ => ?_); unfold t; rotate_left; clear_value t; rotate_right)
    | extract_lets -underBinder _
    | dsimp only
    | (dsimp +zetaDelta only)
    | with_reducible apply State.Steady.upd

theorem execRetryReceived_steady (h : r.Steady s) (pl : Pl) (p : Nat) (vc : Nat) : r.SteadyOut (execRetryReceived pl p vc s) := by
  unfold execRetryReceived
  first
    | (refine inPlane_steady h _ _ ?_; dsimp only)
    | refine inPlane_steady h _ _ ?_
    | (refine cwWrite_steady h _ _ _ ?_; try intro t h)
    | apply next_steady
  all_goals repeat' first
    | with_reducible assumption
    | with_reducible apply ite_steady
    | split
    | with_reducible apply State.countNi_steady
    | with_reducible apply State.modNi_steady
    | with_reducible apply State.pieceAnswered_steady
    | exact State.popNiIn_steady (by assumption) (by assumption)
    | (refine State.popNiIn_steady ?_ (by assumption))
    | intro _ _ _
    | (extract_lets -underBinder t; refine cut_steady (t := t) ?_ (fun _ => ?_); unfold t; rotate_left; clear_value t; rotate_right)
    | extract_lets -underBinder _
    | dsimp only
    | (dsimp +zetaDelta only)
    | with_reducible apply State.Steady.upd

theorem execReissue_steady (h : r.Steady s) (pl : Pl) (p : Nat) (tag : Nat) : r.SteadyOut (execReissue pl p tag s) := by
  unfold execReissue
  first
    | (refine inPlane_steady h _ _ ?_; dsimp only)
    | refine inPlane_steady h _ _ ?_
    | (refine cwWrite_steady h _ _ _ ?_; try intro t h)
    | apply next_steady
  all_goals repeat' first
    | with_reducible assumption
    | with_reducible apply ite_steady
    | split
    | with_reducible apply State.modNi_steady
    | with_reducible apply State.resolveAll_steady
    | with_reducible apply State.sendPiece_steady
    | intro _ _ _
    | (extract_lets -underBinder t; refine cut_steady (t := t) ?_ (fun _ => ?_); unfold t; rotate_left; clear_value t; rotate_right)
    | extract_lets -underBinder _
    | dsimp only
    | (dsimp +zetaDelta only)
    | with_reducible apply State.Steady.upd

theorem execRecordWrite_steady (h : r.Steady s) (pl : Pl) (p : Nat) : r.SteadyOut (execRecordWrite pl p s) := by
  unfold execRecordWrite
  first
    | (refine inPlane_steady h _ _ ?_; dsimp only)
    | refine inPlane_steady h _ _ ?_
    | (refine cwWrite_steady h _ _ _ ?_; try intro t h)
    | apply next_steady
  all_goals repeat' first
    | with_reducible assumption
    | with_reducible apply ite_steady
    | split
    | with_reducible apply State.modNi_steady
    | with_reducible apply State.por_steady
    | intro _ _ _
    | (extract_lets -underBinder t; refine cut_steady (t := t) ?_ (fun _ => ?_); unfold t; rotate_left; clear_value t; rotate_right)
    | extract_lets -underBinder _
    | dsimp only
    | (dsimp +zetaDelta only)
    | with_reducible apply State.Steady.upd

theorem execRecordWriteRack_steady (h : r.Steady s) (pl : Pl) (p : Nat) (vc : Nat) : r.SteadyOut (execRecordWriteRack pl p vc s) := by
  unfold execRecordWriteRack
  first
    | (refine inPlane_steady h _ _ ?_; dsimp only)
    | refine inPlane_steady h _ _ ?_
    | (refine cwWrite_steady h _ _ _ ?_; try intro t h)
    | apply next_steady
  all_goals repeat' first
    | with_reducible assumption
    | with_reducible apply ite_steady
    | split
    | with_reducible apply State.countNi_steady
    | exact State.headResponse_steady (by assumption) (by assumption)
    | (refine State.headResponse_steady ?_ (by assumption))
    | with_reducible apply State.modNi_steady
    | with_reducible apply State.niSettle_steady
    | with_reducible apply State.por_steady
    | with_reducible apply State.pset_steady
    | intro _ _ _
    | (extract_lets -underBinder t; refine cut_steady (t := t) ?_ (fun _ => ?_); unfold t; rotate_left; clear_value t; rotate_right)
    | extract_lets -underBinder _
    | dsimp only
    | (dsimp +zetaDelta only)
    | with_reducible apply State.Steady.upd

theorem execRecTailWrite_steady (h : r.Steady s) (r₀ : CwReq) (p : Nat) (v : W32) : r.SteadyOut (execRecTailWrite r₀ p v s) := by
  unfold execRecTailWrite
  first
    | (refine inPlane_steady h _ _ ?_; dsimp only)
    | refine inPlane_steady h _ _ ?_
    | (refine cwWrite_steady h _ _ _ ?_; try intro t h)
    | apply next_steady
  all_goals repeat' first
    | with_reducible assumption
    | with_reducible apply ite_steady
    | split
    | with_reducible apply State.eachPlane_steady
    | with_reducible apply State.recTail_steady
    | intro _ _ _
    | (extract_lets -underBinder t; refine cut_steady (t := t) ?_ (fun _ => ?_); unfold t; rotate_left; clear_value t; rotate_right)
    | extract_lets -underBinder _
    | dsimp only
    | (dsimp +zetaDelta only)
    | with_reducible apply State.Steady.upd

theorem execRegionCommit_steady (h : r.Steady s) (r₀ : CwReq) (blk : RegionBlock) (region : Nat) (attr : W32) :
    r.SteadyOut (execRegionCommit r₀ blk region attr s) := by
  unfold execRegionCommit
  first
    | (refine inPlane_steady h _ _ ?_; dsimp only)
    | refine inPlane_steady h _ _ ?_
    | (refine cwWrite_steady h _ _ _ ?_; try intro t h)
    | apply next_steady
  all_goals repeat' first
    | with_reducible assumption
    | with_reducible apply ite_steady
    | split
    | with_reducible apply State.commitRegion_steady
    | with_reducible apply State.eachPlane_steady
    | intro _ _ _
    | (extract_lets -underBinder t; refine cut_steady (t := t) ?_ (fun _ => ?_); unfold t; rotate_left; clear_value t; rotate_right)
    | extract_lets -underBinder _
    | dsimp only
    | (dsimp +zetaDelta only)
    | with_reducible apply State.Steady.upd

/-! ### Machine/Target.lean -/

theorem execTargetRequest_steady (h : r.Steady s) (pl : Pl) (p : Nat) (vc : Nat) : r.SteadyOut (execTargetRequest pl p vc s) := by
  unfold execTargetRequest
  first
    | (refine inPlane_steady h _ _ ?_; dsimp only)
    | refine inPlane_steady h _ _ ?_
    | (refine cwWrite_steady h _ _ _ ?_; try intro t h)
    | apply next_steady
  all_goals repeat' first
    | with_reducible assumption
    | with_reducible apply ite_steady
    | split
    | exact State.popReq_steady (by assumption) (by assumption)
    | (refine State.popReq_steady ?_ (by assumption))
    | with_reducible apply State.takeRequest_steady
    | intro _ _ _
    | (extract_lets -underBinder t; refine cut_steady (t := t) ?_ (fun _ => ?_); unfold t; rotate_left; clear_value t; rotate_right)
    | extract_lets -underBinder _
    | dsimp only
    | (dsimp +zetaDelta only)
    | with_reducible apply State.Steady.upd

theorem execTreqPresent_steady (h : r.Steady s) (pl : Pl) (p : Nat) : r.SteadyOut (execTreqPresent pl p s) := by
  unfold execTreqPresent
  first
    | (refine inPlane_steady h _ _ ?_; dsimp only)
    | refine inPlane_steady h _ _ ?_
    | (refine cwWrite_steady h _ _ _ ?_; try intro t h)
    | apply next_steady
  all_goals repeat' first
    | with_reducible assumption
    | with_reducible apply ite_steady
    | split
    | with_reducible apply State.present_steady
    | intro _ _ _
    | (extract_lets -underBinder t; refine cut_steady (t := t) ?_ (fun _ => ?_); unfold t; rotate_left; clear_value t; rotate_right)
    | extract_lets -underBinder _
    | dsimp only
    | (dsimp +zetaDelta only)
    | with_reducible apply State.Steady.upd

theorem execAtomicWriteBack_steady (h : r.Steady s) (pl : Pl) (p : Nat) (job : Nat) : r.SteadyOut (execAtomicWriteBack pl p job s) := by
  unfold execAtomicWriteBack
  first
    | (refine inPlane_steady h _ _ ?_; dsimp only)
    | refine inPlane_steady h _ _ ?_
    | (refine cwWrite_steady h _ _ _ ?_; try intro t h)
    | apply next_steady
  all_goals repeat' first
    | with_reducible assumption
    | with_reducible apply ite_steady
    | split
    | with_reducible apply State.writeBack_steady
    | intro _ _ _
    | (extract_lets -underBinder t; refine cut_steady (t := t) ?_ (fun _ => ?_); unfold t; rotate_left; clear_value t; rotate_right)
    | extract_lets -underBinder _
    | dsimp only
    | (dsimp +zetaDelta only)
    | with_reducible apply State.Steady.upd

theorem execWriteMerge_steady (h : r.Steady s) (pl : Pl) (p : Nat) (job : Nat) : r.SteadyOut (execWriteMerge pl p job s) := by
  unfold execWriteMerge
  first
    | (refine inPlane_steady h _ _ ?_; dsimp only)
    | refine inPlane_steady h _ _ ?_
    | (refine cwWrite_steady h _ _ _ ?_; try intro t h)
    | apply next_steady
  all_goals repeat' first
    | with_reducible assumption
    | with_reducible apply ite_steady
    | split
    | with_reducible apply State.writeBack_steady
    | intro _ _ _
    | (extract_lets -underBinder t; refine cut_steady (t := t) ?_ (fun _ => ?_); unfold t; rotate_left; clear_value t; rotate_right)
    | extract_lets -underBinder _
    | dsimp only
    | (dsimp +zetaDelta only)
    | with_reducible apply State.Steady.upd

theorem execPathFence_steady (h : r.Steady s) (pl : Pl) (p : Nat) (vc : Nat) : r.SteadyOut (execPathFence pl p vc s) := by
  unfold execPathFence
  first
    | (refine inPlane_steady h _ _ ?_; dsimp only)
    | refine inPlane_steady h _ _ ?_
    | (refine cwWrite_steady h _ _ _ ?_; try intro t h)
    | apply next_steady
  all_goals repeat' first
    | with_reducible assumption
    | with_reducible apply ite_steady
    | split
    | with_reducible apply State.freeFlits_steady
    | with_reducible apply State.modNi_steady
    | exact State.popReq_steady (by assumption) (by assumption)
    | (refine State.popReq_steady ?_ (by assumption))
    | intro _ _ _
    | (extract_lets -underBinder t; refine cut_steady (t := t) ?_ (fun _ => ?_); unfold t; rotate_left; clear_value t; rotate_right)
    | extract_lets -underBinder _
    | dsimp only
    | (dsimp +zetaDelta only)
    | with_reducible apply State.Steady.upd

theorem execPathFenceAck_steady (h : r.Steady s) (pl : Pl) (p : Nat) : r.SteadyOut (execPathFenceAck pl p s) := by
  unfold execPathFenceAck
  first
    | (refine inPlane_steady h _ _ ?_; dsimp only)
    | refine inPlane_steady h _ _ ?_
    | (refine cwWrite_steady h _ _ _ ?_; try intro t h)
    | apply next_steady
  all_goals repeat' first
    | with_reducible assumption
    | with_reducible apply ite_steady
    | split
    | with_reducible apply State.modNi_steady
    | with_reducible apply State.respond_steady
    | intro _ _ _
    | (extract_lets -underBinder t; refine cut_steady (t := t) ?_ (fun _ => ?_); unfold t; rotate_left; clear_value t; rotate_right)
    | extract_lets -underBinder _
    | dsimp only
    | (dsimp +zetaDelta only)
    | with_reducible apply State.Steady.upd

/-! ### Machine/LockUnit.lean -/

theorem execLockExpiry_steady (h : r.Steady s) (pl : Pl) (n : Nat) : r.SteadyOut (execLockExpiry pl n s) := by
  unfold execLockExpiry
  first
    | (refine inPlane_steady h _ _ ?_; dsimp only)
    | refine inPlane_steady h _ _ ?_
    | (refine cwWrite_steady h _ _ _ ?_; try intro t h)
    | apply next_steady
  all_goals repeat' first
    | with_reducible assumption
    | with_reducible apply ite_steady
    | split
    | with_reducible apply State.expireLock_steady
    | intro _ _ _
    | (extract_lets -underBinder t; refine cut_steady (t := t) ?_ (fun _ => ?_); unfold t; rotate_left; clear_value t; rotate_right)
    | extract_lets -underBinder _
    | dsimp only
    | (dsimp +zetaDelta only)
    | with_reducible apply State.Steady.upd

theorem execLockBreak_steady (h : r.Steady s) (pl : Pl) (n : Nat) (niFault : Bool) : r.SteadyOut (execLockBreak pl n niFault s) := by
  unfold execLockBreak
  first
    | (refine inPlane_steady h _ _ ?_; dsimp only)
    | refine inPlane_steady h _ _ ?_
    | (refine cwWrite_steady h _ _ _ ?_; try intro t h)
    | apply next_steady
  all_goals repeat' first
    | with_reducible assumption
    | with_reducible apply ite_steady
    | split
    | with_reducible apply State.breakLock_steady
    | intro _ _ _
    | (extract_lets -underBinder t; refine cut_steady (t := t) ?_ (fun _ => ?_); unfold t; rotate_left; clear_value t; rotate_right)
    | extract_lets -underBinder _
    | dsimp only
    | (dsimp +zetaDelta only)
    | with_reducible apply State.Steady.upd

theorem execLockFree_steady (h : r.Steady s) (r₀ : CwReq) (n : Nat) : r.SteadyOut (execLockFree r₀ n s) := by
  unfold execLockFree
  first
    | (refine inPlane_steady h _ _ ?_; dsimp only)
    | refine inPlane_steady h _ _ ?_
    | (refine cwWrite_steady h _ _ _ ?_; try intro t h)
    | apply next_steady
  all_goals repeat' first
    | with_reducible assumption
    | with_reducible apply ite_steady
    | split
    | with_reducible apply State.eachPlane_steady
    | with_reducible apply State.freeLock_steady
    | intro _ _ _
    | (extract_lets -underBinder t; refine cut_steady (t := t) ?_ (fun _ => ?_); unfold t; rotate_left; clear_value t; rotate_right)
    | extract_lets -underBinder _
    | dsimp only
    | (dsimp +zetaDelta only)
    | with_reducible apply State.Steady.upd

/-! ### Machine/Lookaside.lean -/

theorem execLookasideInvalidate_steady (h : r.Steady s) (pl : Pl) (agent : Nat) : r.SteadyOut (execLookasideInvalidate pl agent s) := by
  unfold execLookasideInvalidate
  first
    | (refine inPlane_steady h _ _ ?_; dsimp only)
    | refine inPlane_steady h _ _ ?_
    | (refine cwWrite_steady h _ _ _ ?_; try intro t h)
    | apply next_steady
  all_goals repeat' first
    | with_reducible assumption
    | with_reducible apply ite_steady
    | split
    | with_reducible apply State.ackMgmt_steady
    | with_reducible apply State.modPlacement_steady
    | exact State.takeMgmt_steady (by assumption) (by assumption)
    | (refine State.takeMgmt_steady ?_ (by assumption))
    | intro _ _ _
    | (extract_lets -underBinder t; refine cut_steady (t := t) ?_ (fun _ => ?_); unfold t; rotate_left; clear_value t; rotate_right)
    | extract_lets -underBinder _
    | dsimp only
    | (dsimp +zetaDelta only)
    | with_reducible apply State.Steady.upd

theorem execLookasideFreeze_steady (h : r.Steady s) (pl : Pl) (agent : Nat) : r.SteadyOut (execLookasideFreeze pl agent s) := by
  unfold execLookasideFreeze
  first
    | (refine inPlane_steady h _ _ ?_; dsimp only)
    | refine inPlane_steady h _ _ ?_
    | (refine cwWrite_steady h _ _ _ ?_; try intro t h)
    | apply next_steady
  all_goals repeat' first
    | with_reducible assumption
    | with_reducible apply ite_steady
    | split
    | with_reducible apply State.freezeMul_steady
    | with_reducible apply State.freezeNi_steady
    | exact State.takeMgmt_steady (by assumption) (by assumption)
    | (refine State.takeMgmt_steady ?_ (by assumption))
    | intro _ _ _
    | (extract_lets -underBinder t; refine cut_steady (t := t) ?_ (fun _ => ?_); unfold t; rotate_left; clear_value t; rotate_right)
    | extract_lets -underBinder _
    | dsimp only
    | (dsimp +zetaDelta only)
    | with_reducible apply State.Steady.upd

theorem execFreezeAcknowledge_steady (h : r.Steady s) (pl : Pl) (agent : Nat) (page : Nat) :
    r.SteadyOut (execFreezeAcknowledge pl agent page s) := by
  unfold execFreezeAcknowledge
  first
    | (refine inPlane_steady h _ _ ?_; dsimp only)
    | refine inPlane_steady h _ _ ?_
    | (refine cwWrite_steady h _ _ _ ?_; try intro t h)
    | apply next_steady
  all_goals repeat' first
    | with_reducible assumption
    | with_reducible apply ite_steady
    | split
    | with_reducible apply State.epSend_steady
    | with_reducible apply State.modPlacement_steady
    | intro _ _ _
    | (extract_lets -underBinder t; refine cut_steady (t := t) ?_ (fun _ => ?_); unfold t; rotate_left; clear_value t; rotate_right)
    | extract_lets -underBinder _
    | dsimp only
    | (dsimp +zetaDelta only)
    | with_reducible apply State.Steady.upd

theorem execLookasideRelease_steady (h : r.Steady s) (pl : Pl) (agent : Nat) : r.SteadyOut (execLookasideRelease pl agent s) := by
  unfold execLookasideRelease
  first
    | (refine inPlane_steady h _ _ ?_; dsimp only)
    | refine inPlane_steady h _ _ ?_
    | (refine cwWrite_steady h _ _ _ ?_; try intro t h)
    | apply next_steady
  all_goals repeat' first
    | with_reducible assumption
    | with_reducible apply ite_steady
    | split
    | with_reducible apply State.ackMgmt_steady
    | with_reducible apply State.modNi_steady
    | with_reducible apply State.modPlacement_steady
    | with_reducible apply State.settleAgent_steady
    | exact State.takeMgmt_steady (by assumption) (by assumption)
    | (refine State.takeMgmt_steady ?_ (by assumption))
    | intro _ _ _
    | (extract_lets -underBinder t; refine cut_steady (t := t) ?_ (fun _ => ?_); unfold t; rotate_left; clear_value t; rotate_right)
    | extract_lets -underBinder _
    | dsimp only
    | (dsimp +zetaDelta only)
    | with_reducible apply State.Steady.upd

theorem execLookasideWatch_steady (h : r.Steady s) (pl : Pl) (p : Nat) : r.SteadyOut (execLookasideWatch pl p s) := by
  unfold execLookasideWatch
  first
    | (refine inPlane_steady h _ _ ?_; dsimp only)
    | refine inPlane_steady h _ _ ?_
    | (refine cwWrite_steady h _ _ _ ?_; try intro t h)
    | apply next_steady
  all_goals repeat' first
    | with_reducible assumption
    | with_reducible apply ite_steady
    | split
    | with_reducible apply State.ackMgmt_steady
    | with_reducible apply State.modNi_steady
    | exact State.takeMgmt_steady (by assumption) (by assumption)
    | (refine State.takeMgmt_steady ?_ (by assumption))
    | intro _ _ _
    | (extract_lets -underBinder t; refine cut_steady (t := t) ?_ (fun _ => ?_); unfold t; rotate_left; clear_value t; rotate_right)
    | extract_lets -underBinder _
    | dsimp only
    | (dsimp +zetaDelta only)
    | with_reducible apply State.Steady.upd

/-! ### Machine/Bellwether.lean -/

theorem execInvalidateAcknowledge_steady (h : r.Steady s) (pl : Pl) (q : Nat) : r.SteadyOut (execInvalidateAcknowledge pl q s) := by
  unfold execInvalidateAcknowledge
  first
    | (refine inPlane_steady h _ _ ?_; dsimp only)
    | refine inPlane_steady h _ _ ?_
    | (refine cwWrite_steady h _ _ _ ?_; try intro t h)
    | apply next_steady
  all_goals repeat' first
    | with_reducible assumption
    | with_reducible apply ite_steady
    | split
    | with_reducible apply State.migPump_steady
    | with_reducible apply State.migSettle_steady
    | with_reducible apply State.migWatched_steady
    | with_reducible apply State.modMig_steady
    | with_reducible apply State.modSb_steady
    | exact State.popSbIn_steady (by assumption) (by assumption)
    | (refine State.popSbIn_steady ?_ (by assumption))
    | intro _ _ _
    | (extract_lets -underBinder t; refine cut_steady (t := t) ?_ (fun _ => ?_); unfold t; rotate_left; clear_value t; rotate_right)
    | extract_lets -underBinder _
    | dsimp only
    | (dsimp +zetaDelta only)
    | with_reducible apply State.Steady.upd

theorem execMigrationCopyDone_steady (h : r.Steady s) (pl : Pl) (e : Nat) : r.SteadyOut (execMigrationCopyDone pl e s) := by
  unfold execMigrationCopyDone
  first
    | (refine inPlane_steady h _ _ ?_; dsimp only)
    | refine inPlane_steady h _ _ ?_
    | (refine cwWrite_steady h _ _ _ ?_; try intro t h)
    | apply next_steady
  all_goals repeat' first
    | with_reducible assumption
    | with_reducible apply ite_steady
    | split
    | with_reducible apply State.migPump_steady
    | with_reducible apply State.modMig_steady
    | with_reducible apply State.setChan_steady
    | intro _ _ _
    | (extract_lets -underBinder t; refine cut_steady (t := t) ?_ (fun _ => ?_); unfold t; rotate_left; clear_value t; rotate_right)
    | extract_lets -underBinder _
    | dsimp only
    | (dsimp +zetaDelta only)
    | with_reducible apply State.Steady.upd

theorem execMigrationRecopyDone_steady (h : r.Steady s) (pl : Pl) (e : Nat) : r.SteadyOut (execMigrationRecopyDone pl e s) := by
  unfold execMigrationRecopyDone
  first
    | (refine inPlane_steady h _ _ ?_; dsimp only)
    | refine inPlane_steady h _ _ ?_
    | (refine cwWrite_steady h _ _ _ ?_; try intro t h)
    | apply next_steady
  all_goals repeat' first
    | with_reducible assumption
    | with_reducible apply ite_steady
    | split
    | with_reducible apply State.migAbort_steady
    | with_reducible apply State.migSwitch_steady
    | with_reducible apply State.setChan_steady
    | intro _ _ _
    | (extract_lets -underBinder t; refine cut_steady (t := t) ?_ (fun _ => ?_); unfold t; rotate_left; clear_value t; rotate_right)
    | extract_lets -underBinder _
    | dsimp only
    | (dsimp +zetaDelta only)
    | with_reducible apply State.Steady.upd

theorem execFreezeLimitReached_steady (h : r.Steady s) (pl : Pl) (page : Nat) : r.SteadyOut (execFreezeLimitReached pl page s) := by
  unfold execFreezeLimitReached
  first
    | (refine inPlane_steady h _ _ ?_; dsimp only)
    | refine inPlane_steady h _ _ ?_
    | (refine cwWrite_steady h _ _ _ ?_; try intro t h)
    | apply next_steady
  all_goals repeat' first
    | with_reducible assumption
    | with_reducible apply ite_steady
    | split
    | with_reducible apply State.migAbort_steady
    | intro _ _ _
    | (extract_lets -underBinder t; refine cut_steady (t := t) ?_ (fun _ => ?_); unfold t; rotate_left; clear_value t; rotate_right)
    | extract_lets -underBinder _
    | dsimp only
    | (dsimp +zetaDelta only)
    | with_reducible apply State.Steady.upd

theorem execSilentInitiator_steady (h : r.Steady s) (pl : Pl) (agent : Nat) (page : Nat) :
    r.SteadyOut (execSilentInitiator pl agent page s) := by
  unfold execSilentInitiator
  first
    | (refine inPlane_steady h _ _ ?_; dsimp only)
    | refine inPlane_steady h _ _ ?_
    | (refine cwWrite_steady h _ _ _ ?_; try intro t h)
    | apply next_steady
  all_goals repeat' first
    | with_reducible assumption
    | with_reducible apply ite_steady
    | split
    | with_reducible apply State.migAbort_steady
    | with_reducible apply State.migSettle_steady
    | with_reducible apply State.modMig_steady
    | with_reducible apply State.pfset_steady
    | with_reducible apply State.placeFault_steady
    | intro _ _ _
    | (extract_lets -underBinder t; refine cut_steady (t := t) ?_ (fun _ => ?_); unfold t; rotate_left; clear_value t; rotate_right)
    | extract_lets -underBinder _
    | dsimp only
    | (dsimp +zetaDelta only)
    | with_reducible apply State.Steady.upd

theorem execPlacementLookup_steady (h : r.Steady s) (pl : Pl) (q : Nat) : r.SteadyOut (execPlacementLookup pl q s) := by
  unfold execPlacementLookup
  first
    | (refine inPlane_steady h _ _ ?_; dsimp only)
    | refine inPlane_steady h _ _ ?_
    | (refine cwWrite_steady h _ _ _ ?_; try intro t h)
    | apply next_steady
  all_goals repeat' first
    | with_reducible assumption
    | with_reducible apply ite_steady
    | split
    | with_reducible apply State.countPlc_steady
    | with_reducible apply State.modSb_steady
    | exact State.popSbIn_steady (by assumption) (by assumption)
    | (refine State.popSbIn_steady ?_ (by assumption))
    | with_reducible apply State.sbMgmt_steady
    | intro _ _ _
    | (extract_lets -underBinder t; refine cut_steady (t := t) ?_ (fun _ => ?_); unfold t; rotate_left; clear_value t; rotate_right)
    | extract_lets -underBinder _
    | dsimp only
    | (dsimp +zetaDelta only)
    | with_reducible apply State.Steady.upd

theorem execPeriodBoundary_steady (h : r.Steady s) (pl : Pl) : r.SteadyOut (execPeriodBoundary pl s) := by
  unfold execPeriodBoundary
  first
    | (refine inPlane_steady h _ _ ?_; dsimp only)
    | refine inPlane_steady h _ _ ?_
    | (refine cwWrite_steady h _ _ _ ?_; try intro t h)
    | apply next_steady
  all_goals repeat' first
    | with_reducible assumption
    | with_reducible apply ite_steady
    | split
    | with_reducible apply State.modSb_steady
    | with_reducible apply State.period_steady
    | with_reducible apply State.tryDemotes_steady
    | intro _ _ _
    | (extract_lets -underBinder t; refine cut_steady (t := t) ?_ (fun _ => ?_); unfold t; rotate_left; clear_value t; rotate_right)
    | extract_lets -underBinder _
    | dsimp only
    | (dsimp +zetaDelta only)
    | with_reducible apply State.Steady.upd

theorem execTimedModeEnd_steady (h : r.Steady s) (pl : Pl) : r.SteadyOut (execTimedModeEnd pl s) := by
  unfold execTimedModeEnd
  first
    | (refine inPlane_steady h _ _ ?_; dsimp only)
    | refine inPlane_steady h _ _ ?_
    | (refine cwWrite_steady h _ _ _ ?_; try intro t h)
    | apply next_steady
  all_goals repeat' first
    | with_reducible assumption
    | with_reducible apply ite_steady
    | split
    | with_reducible apply State.modSb_steady
    | intro _ _ _
    | (extract_lets -underBinder t; refine cut_steady (t := t) ?_ (fun _ => ?_); unfold t; rotate_left; clear_value t; rotate_right)
    | extract_lets -underBinder _
    | dsimp only
    | (dsimp +zetaDelta only)
    | with_reducible apply State.Steady.upd

theorem execTimedReq_steady (h : r.Steady s) (r₀ : CwReq) (value : Bool) : r.SteadyOut (execTimedReq r₀ value s) := by
  unfold execTimedReq
  first
    | (refine inPlane_steady h _ _ ?_; dsimp only)
    | refine inPlane_steady h _ _ ?_
    | (refine cwWrite_steady h _ _ _ ?_; try intro t h)
    | apply next_steady
  all_goals repeat' first
    | with_reducible assumption
    | with_reducible apply ite_steady
    | split
    | with_reducible apply State.eachPlane_steady
    | with_reducible apply State.plcCtrl_steady
    | intro _ _ _
    | (extract_lets -underBinder t; refine cut_steady (t := t) ?_ (fun _ => ?_); unfold t; rotate_left; clear_value t; rotate_right)
    | extract_lets -underBinder _
    | dsimp only
    | (dsimp +zetaDelta only)
    | with_reducible apply State.Steady.upd

theorem execTimedResume_steady (h : r.Steady s) (r₀ : CwReq) : r.SteadyOut (execTimedResume r₀ s) := by
  unfold execTimedResume
  first
    | (refine inPlane_steady h _ _ ?_; dsimp only)
    | refine inPlane_steady h _ _ ?_
    | (refine cwWrite_steady h _ _ _ ?_; try intro t h)
    | apply next_steady
  all_goals repeat' first
    | with_reducible assumption
    | with_reducible apply ite_steady
    | split
    | with_reducible apply State.eachPlane_steady
    | with_reducible apply State.plcCtrl_steady
    | intro _ _ _
    | (extract_lets -underBinder t; refine cut_steady (t := t) ?_ (fun _ => ?_); unfold t; rotate_left; clear_value t; rotate_right)
    | extract_lets -underBinder _
    | dsimp only
    | (dsimp +zetaDelta only)
    | with_reducible apply State.Steady.upd

theorem execTableError_steady (h : r.Steady s) (pl : Pl) (err : EntryErr) : r.SteadyOut (execTableError pl err s) := by
  unfold execTableError
  first
    | (refine inPlane_steady h _ _ ?_; dsimp only)
    | refine inPlane_steady h _ _ ?_
    | (refine cwWrite_steady h _ _ _ ?_; try intro t h)
    | apply next_steady
  all_goals repeat' first
    | with_reducible assumption
    | with_reducible apply ite_steady
    | split
    | with_reducible apply State.migAbort_steady
    | with_reducible apply State.modSb_steady
    | with_reducible apply State.pinc_steady
    | with_reducible apply State.placeFault_steady
    | with_reducible apply State.planeFault_steady
    | with_reducible apply State.timedCheck_steady
    | intro _ _ _
    | (extract_lets -underBinder t; refine cut_steady (t := t) ?_ (fun _ => ?_); unfold t; rotate_left; clear_value t; rotate_right)
    | extract_lets -underBinder _
    | dsimp only
    | (dsimp +zetaDelta only)
    | with_reducible apply State.Steady.upd

theorem execPagePin_steady (h : r.Steady s) (r₀ : CwReq) (page : Nat) : r.SteadyOut (execPagePin r₀ page s) := by
  unfold execPagePin
  first
    | (refine inPlane_steady h _ _ ?_; dsimp only)
    | refine inPlane_steady h _ _ ?_
    | (refine cwWrite_steady h _ _ _ ?_; try intro t h)
    | apply next_steady
  all_goals repeat' first
    | with_reducible assumption
    | with_reducible apply ite_steady
    | split
    | with_reducible apply State.eachPlane_steady
    | with_reducible apply State.pageCmd_steady
    | intro _ _ _
    | (extract_lets -underBinder t; refine cut_steady (t := t) ?_ (fun _ => ?_); unfold t; rotate_left; clear_value t; rotate_right)
    | extract_lets -underBinder _
    | dsimp only
    | (dsimp +zetaDelta only)
    | with_reducible apply State.Steady.upd

theorem execPageUnpin_steady (h : r.Steady s) (r₀ : CwReq) (page : Nat) : r.SteadyOut (execPageUnpin r₀ page s) := by
  unfold execPageUnpin
  first
    | (refine inPlane_steady h _ _ ?_; dsimp only)
    | refine inPlane_steady h _ _ ?_
    | (refine cwWrite_steady h _ _ _ ?_; try intro t h)
    | apply next_steady
  all_goals repeat' first
    | with_reducible assumption
    | with_reducible apply ite_steady
    | split
    | with_reducible apply State.eachPlane_steady
    | with_reducible apply State.pageCmd_steady
    | intro _ _ _
    | (extract_lets -underBinder t; refine cut_steady (t := t) ?_ (fun _ => ?_); unfold t; rotate_left; clear_value t; rotate_right)
    | extract_lets -underBinder _
    | dsimp only
    | (dsimp +zetaDelta only)
    | with_reducible apply State.Steady.upd

theorem execPageDemote_steady (h : r.Steady s) (r₀ : CwReq) (page : Nat) : r.SteadyOut (execPageDemote r₀ page s) := by
  unfold execPageDemote
  first
    | (refine inPlane_steady h _ _ ?_; dsimp only)
    | refine inPlane_steady h _ _ ?_
    | (refine cwWrite_steady h _ _ _ ?_; try intro t h)
    | apply next_steady
  all_goals repeat' first
    | with_reducible assumption
    | with_reducible apply ite_steady
    | split
    | with_reducible apply State.eachPlane_steady
    | with_reducible apply State.pageCmd_steady
    | intro _ _ _
    | (extract_lets -underBinder t; refine cut_steady (t := t) ?_ (fun _ => ?_); unfold t; rotate_left; clear_value t; rotate_right)
    | extract_lets -underBinder _
    | dsimp only
    | (dsimp +zetaDelta only)
    | with_reducible apply State.Steady.upd

/-! ### Machine/Queues.lean -/

theorem execQueueTailGate_steady (h : r.Steady s) (pl : Pl) (q : Nat) : r.SteadyOut (execQueueTailGate pl q s) := by
  unfold execQueueTailGate
  first
    | (refine inPlane_steady h _ _ ?_; dsimp only)
    | refine inPlane_steady h _ _ ?_
    | (refine cwWrite_steady h _ _ _ ?_; try intro t h)
    | apply next_steady
  all_goals repeat' first
    | with_reducible assumption
    | with_reducible apply ite_steady
    | split
    | with_reducible apply State.gateFlock_steady
    | with_reducible apply State.gateQueue_steady
    | with_reducible apply State.poisonOwner_steady
    | exact State.popSb_steady (by assumption) (by assumption)
    | (refine State.popSb_steady ?_ (by assumption))
    | intro _ _ _
    | (extract_lets -underBinder t; refine cut_steady (t := t) ?_ (fun _ => ?_); unfold t; rotate_left; clear_value t; rotate_right)
    | extract_lets -underBinder _
    | dsimp only
    | (dsimp +zetaDelta only)
    | with_reducible apply State.Steady.upd

theorem execRingWriteRack_steady (h : r.Steady s) (pl : Pl) (q : Nat) : r.SteadyOut (execRingWriteRack pl q s) := by
  unfold execRingWriteRack
  first
    | (refine inPlane_steady h _ _ ?_; dsimp only)
    | refine inPlane_steady h _ _ ?_
    | (refine cwWrite_steady h _ _ _ ?_; try intro t h)
    | apply next_steady
  all_goals repeat' first
    | with_reducible assumption
    | with_reducible apply ite_steady
    | split
    | with_reducible apply State.ringAnswered_steady
    | exact State.sbResponse_steady (by assumption) (by assumption)
    | (refine State.sbResponse_steady ?_ (by assumption))
    | intro _ _ _
    | (extract_lets -underBinder t; refine cut_steady (t := t) ?_ (fun _ => ?_); unfold t; rotate_left; clear_value t; rotate_right)
    | extract_lets -underBinder _
    | dsimp only
    | (dsimp +zetaDelta only)
    | with_reducible apply State.Steady.upd

theorem execDoorbellRack_steady (h : r.Steady s) (pl : Pl) (q : Nat) : r.SteadyOut (execDoorbellRack pl q s) := by
  unfold execDoorbellRack
  first
    | (refine inPlane_steady h _ _ ?_; dsimp only)
    | refine inPlane_steady h _ _ ?_
    | (refine cwWrite_steady h _ _ _ ?_; try intro t h)
    | apply next_steady
  all_goals repeat' first
    | with_reducible assumption
    | with_reducible apply ite_steady
    | split
    | with_reducible apply State.doorbell_steady
    | with_reducible apply State.qSetBit_steady
    | with_reducible apply State.queueFault_steady
    | exact State.sbResponse_steady (by assumption) (by assumption)
    | (refine State.sbResponse_steady ?_ (by assumption))
    | intro _ _ _
    | (extract_lets -underBinder t; refine cut_steady (t := t) ?_ (fun _ => ?_); unfold t; rotate_left; clear_value t; rotate_right)
    | extract_lets -underBinder _
    | dsimp only
    | (dsimp +zetaDelta only)
    | with_reducible apply State.Steady.upd

theorem execQueueStatus_steady (h : r.Steady s) (pl : Pl) (q : Nat) (vc : Nat) : r.SteadyOut (execQueueStatus pl q vc s) := by
  unfold execQueueStatus
  first
    | (refine inPlane_steady h _ _ ?_; dsimp only)
    | refine inPlane_steady h _ _ ?_
    | (refine cwWrite_steady h _ _ _ ?_; try intro t h)
    | apply next_steady
  all_goals repeat' first
    | with_reducible assumption
    | with_reducible apply ite_steady
    | split
    | with_reducible apply State.qop_steady
    | intro _ _ _
    | (extract_lets -underBinder t; refine cut_steady (t := t) ?_ (fun _ => ?_); unfold t; rotate_left; clear_value t; rotate_right)
    | extract_lets -underBinder _
    | dsimp only
    | (dsimp +zetaDelta only)
    | with_reducible apply State.Steady.upd

theorem execQueueConsume_steady (h : r.Steady s) (pl : Pl) (q : Nat) (vc : Nat) : r.SteadyOut (execQueueConsume pl q vc s) := by
  unfold execQueueConsume
  first
    | (refine inPlane_steady h _ _ ?_; dsimp only)
    | refine inPlane_steady h _ _ ?_
    | (refine cwWrite_steady h _ _ _ ?_; try intro t h)
    | apply next_steady
  all_goals repeat' first
    | with_reducible assumption
    | with_reducible apply ite_steady
    | split
    | with_reducible apply State.qop_steady
    | intro _ _ _
    | (extract_lets -underBinder t; refine cut_steady (t := t) ?_ (fun _ => ?_); unfold t; rotate_left; clear_value t; rotate_right)
    | extract_lets -underBinder _
    | dsimp only
    | (dsimp +zetaDelta only)
    | with_reducible apply State.Steady.upd

theorem execConsumeArm_steady (h : r.Steady s) (pl : Pl) (q : Nat) (vc : Nat) : r.SteadyOut (execConsumeArm pl q vc s) := by
  unfold execConsumeArm
  first
    | (refine inPlane_steady h _ _ ?_; dsimp only)
    | refine inPlane_steady h _ _ ?_
    | (refine cwWrite_steady h _ _ _ ?_; try intro t h)
    | apply next_steady
  all_goals repeat' first
    | with_reducible assumption
    | with_reducible apply ite_steady
    | split
    | with_reducible apply State.qop_steady
    | intro _ _ _
    | (extract_lets -underBinder t; refine cut_steady (t := t) ?_ (fun _ => ?_); unfold t; rotate_left; clear_value t; rotate_right)
    | extract_lets -underBinder _
    | dsimp only
    | (dsimp +zetaDelta only)
    | with_reducible apply State.Steady.upd

theorem execMemberLeave_steady (h : r.Steady s) (pl : Pl) (q : Nat) (vc : Nat) : r.SteadyOut (execMemberLeave pl q vc s) := by
  unfold execMemberLeave
  first
    | (refine inPlane_steady h _ _ ?_; dsimp only)
    | refine inPlane_steady h _ _ ?_
    | (refine cwWrite_steady h _ _ _ ?_; try intro t h)
    | apply next_steady
  all_goals repeat' first
    | with_reducible assumption
    | with_reducible apply ite_steady
    | split
    | with_reducible apply State.qop_steady
    | intro _ _ _
    | (extract_lets -underBinder t; refine cut_steady (t := t) ?_ (fun _ => ?_); unfold t; rotate_left; clear_value t; rotate_right)
    | extract_lets -underBinder _
    | dsimp only
    | (dsimp +zetaDelta only)
    | with_reducible apply State.Steady.upd

theorem execMemberJoin_steady (h : r.Steady s) (pl : Pl) (q : Nat) (vc : Nat) : r.SteadyOut (execMemberJoin pl q vc s) := by
  unfold execMemberJoin
  first
    | (refine inPlane_steady h _ _ ?_; dsimp only)
    | refine inPlane_steady h _ _ ?_
    | (refine cwWrite_steady h _ _ _ ?_; try intro t h)
    | apply next_steady
  all_goals repeat' first
    | with_reducible assumption
    | with_reducible apply ite_steady
    | split
    | with_reducible apply State.qop_steady
    | intro _ _ _
    | (extract_lets -underBinder t; refine cut_steady (t := t) ?_ (fun _ => ?_); unfold t; rotate_left; clear_value t; rotate_right)
    | extract_lets -underBinder _
    | dsimp only
    | (dsimp +zetaDelta only)
    | with_reducible apply State.Steady.upd

theorem execHeldMessageAdmit_steady (h : r.Steady s) (pl : Pl) (f : Nat) (k : Nat) : r.SteadyOut (execHeldMessageAdmit pl f k s) := by
  unfold execHeldMessageAdmit
  first
    | (refine inPlane_steady h _ _ ?_; dsimp only)
    | refine inPlane_steady h _ _ ?_
    | (refine cwWrite_steady h _ _ _ ?_; try intro t h)
    | apply next_steady
  all_goals repeat' first
    | with_reducible assumption
    | with_reducible apply ite_steady
    | split
    | with_reducible apply State.drain_steady
    | intro _ _ _
    | (extract_lets -underBinder t; refine cut_steady (t := t) ?_ (fun _ => ?_); unfold t; rotate_left; clear_value t; rotate_right)
    | extract_lets -underBinder _
    | dsimp only
    | (dsimp +zetaDelta only)
    | with_reducible apply State.Steady.upd

theorem execRebalanceBoundary_steady (h : r.Steady s) (pl : Pl) : r.SteadyOut (execRebalanceBoundary pl s) := by
  unfold execRebalanceBoundary
  first
    | (refine inPlane_steady h _ _ ?_; dsimp only)
    | refine inPlane_steady h _ _ ?_
    | (refine cwWrite_steady h _ _ _ ?_; try intro t h)
    | apply next_steady
  all_goals repeat' first
    | with_reducible assumption
    | with_reducible apply ite_steady
    | split
    | with_reducible apply State.modSb_steady
    | with_reducible apply State.rebalance_steady
    | with_reducible apply foldl_steady
    | with_reducible apply foldl_fst_steady
    | with_reducible apply foldl_snd_steady
    | intro _ _ _
    | (extract_lets -underBinder t; refine cut_steady (t := t) ?_ (fun _ => ?_); unfold t; rotate_left; clear_value t; rotate_right)
    | extract_lets -underBinder _
    | dsimp only
    | (dsimp +zetaDelta only)
    | with_reducible apply State.Steady.upd

theorem execKeywaitExpiry_steady (h : r.Steady s) (pl : Pl) (n : Nat) : r.SteadyOut (execKeywaitExpiry pl n s) := by
  unfold execKeywaitExpiry
  first
    | (refine inPlane_steady h _ _ ?_; dsimp only)
    | refine inPlane_steady h _ _ ?_
    | (refine cwWrite_steady h _ _ _ ?_; try intro t h)
    | apply next_steady
  all_goals repeat' first
    | with_reducible assumption
    | with_reducible apply ite_steady
    | split
    | with_reducible apply State.loseMember_steady
    | intro _ _ _
    | (extract_lets -underBinder t; refine cut_steady (t := t) ?_ (fun _ => ?_); unfold t; rotate_left; clear_value t; rotate_right)
    | extract_lets -underBinder _
    | dsimp only
    | (dsimp +zetaDelta only)
    | with_reducible apply State.Steady.upd

theorem execRedeliveryRead_steady (h : r.Steady s) (pl : Pl) (q : Nat) : r.SteadyOut (execRedeliveryRead pl q s) := by
  unfold execRedeliveryRead
  first
    | (refine inPlane_steady h _ _ ?_; dsimp only)
    | refine inPlane_steady h _ _ ?_
    | (refine cwWrite_steady h _ _ _ ?_; try intro t h)
    | apply next_steady
  all_goals repeat' first
    | with_reducible assumption
    | with_reducible apply ite_steady
    | split
    | with_reducible apply State.lossStep_steady
    | with_reducible apply State.modQ_steady
    | with_reducible apply State.recordRead_steady
    | exact State.sbResponse_steady (by assumption) (by assumption)
    | (refine State.sbResponse_steady ?_ (by assumption))
    | with_reducible apply State.skipMessage_steady
    | intro _ _ _
    | (extract_lets -underBinder t; refine cut_steady (t := t) ?_ (fun _ => ?_); unfold t; rotate_left; clear_value t; rotate_right)
    | extract_lets -underBinder _
    | dsimp only
    | (dsimp +zetaDelta only)
    | with_reducible apply State.Steady.upd

theorem execLossFinish_steady (h : r.Steady s) (pl : Pl) (n : Nat) : r.SteadyOut (execLossFinish pl n s) := by
  unfold execLossFinish
  first
    | (refine inPlane_steady h _ _ ?_; dsimp only)
    | refine inPlane_steady h _ _ ?_
    | (refine cwWrite_steady h _ _ _ ?_; try intro t h)
    | apply next_steady
  all_goals repeat' first
    | with_reducible assumption
    | with_reducible apply ite_steady
    | split
    | with_reducible apply State.drain_steady
    | with_reducible apply State.lossStep_steady
    | with_reducible apply State.modQ_steady
    | with_reducible apply State.setHead_steady
    | with_reducible apply State.setK_steady
    | with_reducible apply foldl_steady
    | with_reducible apply foldl_fst_steady
    | with_reducible apply foldl_snd_steady
    | intro _ _ _
    | (extract_lets -underBinder t; refine cut_steady (t := t) ?_ (fun _ => ?_); unfold t; rotate_left; clear_value t; rotate_right)
    | extract_lets -underBinder _
    | dsimp only
    | (dsimp +zetaDelta only)
    | with_reducible apply State.Steady.upd

theorem execQueueStop_steady (h : r.Steady s) (r₀ : CwReq) (n : Nat) (stop : Bool) : r.SteadyOut (execQueueStop r₀ n stop s) := by
  unfold execQueueStop
  first
    | (refine inPlane_steady h _ _ ?_; dsimp only)
    | refine inPlane_steady h _ _ ?_
    | (refine cwWrite_steady h _ _ _ ?_; try intro t h)
    | apply next_steady
  all_goals repeat' first
    | with_reducible assumption
    | with_reducible apply ite_steady
    | split
    | with_reducible apply State.eachPlane_steady
    | with_reducible apply State.qCtrl_steady
    | intro _ _ _
    | (extract_lets -underBinder t; refine cut_steady (t := t) ?_ (fun _ => ?_); unfold t; rotate_left; clear_value t; rotate_right)
    | extract_lets -underBinder _
    | dsimp only
    | (dsimp +zetaDelta only)
    | with_reducible apply State.Steady.upd

theorem execQueueFlush_steady (h : r.Steady s) (r₀ : CwReq) (n : Nat) (stop : Bool) : r.SteadyOut (execQueueFlush r₀ n stop s) := by
  unfold execQueueFlush
  first
    | (refine inPlane_steady h _ _ ?_; dsimp only)
    | refine inPlane_steady h _ _ ?_
    | (refine cwWrite_steady h _ _ _ ?_; try intro t h)
    | apply next_steady
  all_goals repeat' first
    | with_reducible assumption
    | with_reducible apply ite_steady
    | split
    | with_reducible apply State.eachPlane_steady
    | with_reducible apply State.qCtrl_steady
    | intro _ _ _
    | (extract_lets -underBinder t; refine cut_steady (t := t) ?_ (fun _ => ?_); unfold t; rotate_left; clear_value t; rotate_right)
    | extract_lets -underBinder _
    | dsimp only
    | (dsimp +zetaDelta only)
    | with_reducible apply State.Steady.upd

/-! ### Machine/Ports.lean -/

theorem execPortLiveFall_steady (h : r.Steady s) (p : Nat) : r.SteadyOut (execPortLiveFall p s) := by
  unfold execPortLiveFall
  first
    | (refine inPlane_steady h _ _ ?_; dsimp only)
    | refine inPlane_steady h _ _ ?_
    | (refine cwWrite_steady h _ _ _ ?_; try intro t h)
    | apply next_steady
  all_goals repeat' first
    | with_reducible assumption
    | with_reducible apply ite_steady
    | split
    | with_reducible apply State.fallPort_steady
    | intro _ _ _
    | (extract_lets -underBinder t; refine cut_steady (t := t) ?_ (fun _ => ?_); unfold t; rotate_left; clear_value t; rotate_right)
    | extract_lets -underBinder _
    | dsimp only
    | (dsimp +zetaDelta only)
    | with_reducible apply State.Steady.upd

theorem execPortLiveRise_steady (h : r.Steady s) (p : Nat) : r.SteadyOut (execPortLiveRise p s) := by
  unfold execPortLiveRise
  first
    | (refine inPlane_steady h _ _ ?_; dsimp only)
    | refine inPlane_steady h _ _ ?_
    | (refine cwWrite_steady h _ _ _ ?_; try intro t h)
    | apply next_steady
  all_goals repeat' first
    | with_reducible assumption
    | with_reducible apply ite_steady
    | split
    | with_reducible apply State.risePort_steady
    | intro _ _ _
    | (extract_lets -underBinder t; refine cut_steady (t := t) ?_ (fun _ => ?_); unfold t; rotate_left; clear_value t; rotate_right)
    | extract_lets -underBinder _
    | dsimp only
    | (dsimp +zetaDelta only)
    | with_reducible apply State.Steady.upd

theorem execPortResetRequest_steady (h : r.Steady s) (p : Nat) : r.SteadyOut (execPortResetRequest p s) := by
  unfold execPortResetRequest
  first
    | (refine inPlane_steady h _ _ ?_; dsimp only)
    | refine inPlane_steady h _ _ ?_
    | (refine cwWrite_steady h _ _ _ ?_; try intro t h)
    | apply next_steady
  all_goals repeat' first
    | with_reducible assumption
    | with_reducible apply ite_steady
    | split
    | with_reducible apply State.modPort_steady
    | intro _ _ _
    | (extract_lets -underBinder t; refine cut_steady (t := t) ?_ (fun _ => ?_); unfold t; rotate_left; clear_value t; rotate_right)
    | extract_lets -underBinder _
    | dsimp only
    | (dsimp +zetaDelta only)
    | with_reducible apply State.Steady.upd

theorem execPortResetAssert_steady (h : r.Steady s) (p : Nat) : r.SteadyOut (execPortResetAssert p s) := by
  unfold execPortResetAssert
  first
    | (refine inPlane_steady h _ _ ?_; dsimp only)
    | refine inPlane_steady h _ _ ?_
    | (refine cwWrite_steady h _ _ _ ?_; try intro t h)
    | apply next_steady
  all_goals repeat' first
    | with_reducible assumption
    | with_reducible apply ite_steady
    | split
    | with_reducible apply State.eachPlane_steady
    | with_reducible apply State.modNi_steady
    | with_reducible apply State.modPort_steady
    | with_reducible apply State.startPoison_steady
    | intro _ _ _
    | (extract_lets -underBinder t; refine cut_steady (t := t) ?_ (fun _ => ?_); unfold t; rotate_left; clear_value t; rotate_right)
    | extract_lets -underBinder _
    | dsimp only
    | (dsimp +zetaDelta only)
    | with_reducible apply State.Steady.upd

theorem execPortResetRelease_steady (h : r.Steady s) (p : Nat) : r.SteadyOut (execPortResetRelease p s) := by
  unfold execPortResetRelease
  first
    | (refine inPlane_steady h _ _ ?_; dsimp only)
    | refine inPlane_steady h _ _ ?_
    | (refine cwWrite_steady h _ _ _ ?_; try intro t h)
    | apply next_steady
  all_goals repeat' first
    | with_reducible assumption
    | with_reducible apply ite_steady
    | split
    | with_reducible apply State.modPort_steady
    | intro _ _ _
    | (extract_lets -underBinder t; refine cut_steady (t := t) ?_ (fun _ => ?_); unfold t; rotate_left; clear_value t; rotate_right)
    | extract_lets -underBinder _
    | dsimp only
    | (dsimp +zetaDelta only)
    | with_reducible apply State.Steady.upd

theorem execPortResetWithdraw_steady (h : r.Steady s) (p : Nat) : r.SteadyOut (execPortResetWithdraw p s) := by
  unfold execPortResetWithdraw
  first
    | (refine inPlane_steady h _ _ ?_; dsimp only)
    | refine inPlane_steady h _ _ ?_
    | (refine cwWrite_steady h _ _ _ ?_; try intro t h)
    | apply next_steady
  all_goals repeat' first
    | with_reducible assumption
    | with_reducible apply ite_steady
    | split
    | with_reducible apply State.modPort_steady
    | intro _ _ _
    | (extract_lets -underBinder t; refine cut_steady (t := t) ?_ (fun _ => ?_); unfold t; rotate_left; clear_value t; rotate_right)
    | extract_lets -underBinder _
    | dsimp only
    | (dsimp +zetaDelta only)
    | with_reducible apply State.Steady.upd

theorem execUnitDown_steady (h : r.Steady s) (p : Nat) : r.SteadyOut (execUnitDown p s) := by
  unfold execUnitDown
  first
    | (refine inPlane_steady h _ _ ?_; dsimp only)
    | refine inPlane_steady h _ _ ?_
    | (refine cwWrite_steady h _ _ _ ?_; try intro t h)
    | apply next_steady
  all_goals repeat' first
    | with_reducible assumption
    | with_reducible apply ite_steady
    | split
    | with_reducible apply State.eachPlane_steady
    | with_reducible apply State.modNi_steady
    | with_reducible apply State.modPort_steady
    | with_reducible apply State.startPoison_steady
    | intro _ _ _
    | (extract_lets -underBinder t; refine cut_steady (t := t) ?_ (fun _ => ?_); unfold t; rotate_left; clear_value t; rotate_right)
    | extract_lets -underBinder _
    | dsimp only
    | (dsimp +zetaDelta only)
    | with_reducible apply State.Steady.upd

/-! ### Machine/Timing.lean -/

theorem execIslandUnlock_steady (h : r.Steady s) (pl : Pl) (i : Nat) : r.SteadyOut (execIslandUnlock pl i s) := by
  unfold execIslandUnlock
  first
    | (refine inPlane_steady h _ _ ?_; dsimp only)
    | refine inPlane_steady h _ _ ?_
    | (refine cwWrite_steady h _ _ _ ?_; try intro t h)
    | apply next_steady
  all_goals repeat' first
    | with_reducible assumption
    | with_reducible apply ite_steady
    | split
    | with_reducible apply State.unlock_steady
    | intro _ _ _
    | (extract_lets -underBinder t; refine cut_steady (t := t) ?_ (fun _ => ?_); unfold t; rotate_left; clear_value t; rotate_right)
    | extract_lets -underBinder _
    | dsimp only
    | (dsimp +zetaDelta only)
    | with_reducible apply State.Steady.upd

theorem execIslandLock_steady (h : r.Steady s) (pl : Pl) (i : Nat) : r.SteadyOut (execIslandLock pl i s) := by
  unfold execIslandLock
  first
    | (refine inPlane_steady h _ _ ?_; dsimp only)
    | refine inPlane_steady h _ _ ?_
    | (refine cwWrite_steady h _ _ _ ?_; try intro t h)
    | apply next_steady
  all_goals repeat' first
    | with_reducible assumption
    | with_reducible apply ite_steady
    | split
    | with_reducible apply State.lockIsland_steady
    | intro _ _ _
    | (extract_lets -underBinder t; refine cut_steady (t := t) ?_ (fun _ => ?_); unfold t; rotate_left; clear_value t; rotate_right)
    | extract_lets -underBinder _
    | dsimp only
    | (dsimp +zetaDelta only)
    | with_reducible apply State.Steady.upd

theorem execIslandRelock_steady (h : r.Steady s) (pl : Pl) (i : Nat) (measured : List Crossing) :
    r.SteadyOut (execIslandRelock pl i measured s) := by
  unfold execIslandRelock
  first
    | (refine inPlane_steady h _ _ ?_; dsimp only)
    | refine inPlane_steady h _ _ ?_
    | (refine cwWrite_steady h _ _ _ ?_; try intro t h)
    | apply next_steady
  all_goals repeat' first
    | with_reducible assumption
    | with_reducible apply ite_steady
    | split
    | with_reducible apply State.forgetOff_steady
    | with_reducible apply State.recordOff_steady
    | with_reducible apply State.relocked_steady
    | intro _ _ _
    | (extract_lets -underBinder t; refine cut_steady (t := t) ?_ (fun _ => ?_); unfold t; rotate_left; clear_value t; rotate_right)
    | extract_lets -underBinder _
    | dsimp only
    | (dsimp +zetaDelta only)
    | with_reducible apply State.Steady.upd

theorem execGtStreamEnable_steady (h : r.Steady s) : r.SteadyOut (execGtStreamEnable s) := by
  unfold execGtStreamEnable
  first
    | (refine inPlane_steady h _ _ ?_; dsimp only)
    | refine inPlane_steady h _ _ ?_
    | (refine cwWrite_steady h _ _ _ ?_; try intro t h)
    | apply next_steady
  all_goals repeat' first
    | with_reducible assumption
    | with_reducible apply ite_steady
    | split
    | with_reducible apply State.eachPlane_steady
    | with_reducible apply State.gtFill_steady
    | with_reducible apply State.pfset_steady
    | with_reducible apply foldl_steady
    | with_reducible apply foldl_fst_steady
    | with_reducible apply foldl_snd_steady
    | intro _ _ _
    | (extract_lets -underBinder t; refine cut_steady (t := t) ?_ (fun _ => ?_); unfold t; rotate_left; clear_value t; rotate_right)
    | extract_lets -underBinder _
    | dsimp only
    | (dsimp +zetaDelta only)
    | with_reducible apply State.Steady.upd

theorem execGtRelease_steady (h : r.Steady s) (p : Nat) : r.SteadyOut (execGtRelease p s) := by
  unfold execGtRelease
  first
    | (refine inPlane_steady h _ _ ?_; dsimp only)
    | refine inPlane_steady h _ _ ?_
    | (refine cwWrite_steady h _ _ _ ?_; try intro t h)
    | apply next_steady
  all_goals repeat' first
    | with_reducible assumption
    | with_reducible apply ite_steady
    | split
    | with_reducible apply State.gtPass_steady
    | intro _ _ _
    | (extract_lets -underBinder t; refine cut_steady (t := t) ?_ (fun _ => ?_); unfold t; rotate_left; clear_value t; rotate_right)
    | extract_lets -underBinder _
    | dsimp only
    | (dsimp +zetaDelta only)
    | with_reducible apply State.Steady.upd

theorem execGtLateDelivery_steady (h : r.Steady s) (p : Nat) : r.SteadyOut (execGtLateDelivery p s) := by
  unfold execGtLateDelivery
  first
    | (refine inPlane_steady h _ _ ?_; dsimp only)
    | refine inPlane_steady h _ _ ?_
    | (refine cwWrite_steady h _ _ _ ?_; try intro t h)
    | apply next_steady
  all_goals repeat' first
    | with_reducible assumption
    | with_reducible apply ite_steady
    | split
    | with_reducible apply State.gtPass_steady
    | intro _ _ _
    | (extract_lets -underBinder t; refine cut_steady (t := t) ?_ (fun _ => ?_); unfold t; rotate_left; clear_value t; rotate_right)
    | extract_lets -underBinder _
    | dsimp only
    | (dsimp +zetaDelta only)
    | with_reducible apply State.Steady.upd

/-! ### Machine/MuleCh.lean -/

theorem execListReadAnswer_steady (h : r.Steady s) (pl : Pl) (e : Nat) : r.SteadyOut (execListReadAnswer pl e s) := by
  unfold execListReadAnswer
  first
    | (refine inPlane_steady h _ _ ?_; dsimp only)
    | refine inPlane_steady h _ _ ?_
    | (refine cwWrite_steady h _ _ _ ?_; try intro t h)
    | apply next_steady
  all_goals repeat' first
    | with_reducible assumption
    | with_reducible apply ite_steady
    | split
    | with_reducible apply State.finishStop_steady
    | with_reducible apply State.judgeLists_steady
    | with_reducible apply State.modChan_steady
    | with_reducible apply State.modMul_steady
    | with_reducible apply State.mulPoison_steady
    | with_reducible apply State.mulPump_steady
    | exact State.popMulIn_steady (by assumption) (by assumption)
    | (refine State.popMulIn_steady ?_ (by assumption))
    | intro _ _ _
    | (extract_lets -underBinder t; refine cut_steady (t := t) ?_ (fun _ => ?_); unfold t; rotate_left; clear_value t; rotate_right)
    | extract_lets -underBinder _
    | dsimp only
    | (dsimp +zetaDelta only)
    | with_reducible apply State.Steady.upd

theorem execBurstStart_steady (h : r.Steady s) (pl : Pl) (e : Nat) : r.SteadyOut (execBurstStart pl e s) := by
  unfold execBurstStart
  first
    | (refine inPlane_steady h _ _ ?_; dsimp only)
    | refine inPlane_steady h _ _ ?_
    | (refine cwWrite_steady h _ _ _ ?_; try intro t h)
    | apply next_steady
  all_goals repeat' first
    | with_reducible assumption
    | with_reducible apply ite_steady
    | split
    | with_reducible apply State.burstMeets_steady
    | with_reducible apply State.judgeLists_steady
    | with_reducible apply State.modMul_steady
    | with_reducible apply State.mulPump_steady
    | with_reducible apply State.sendLists_steady
    | with_reducible apply State.startBurst_steady
    | with_reducible apply foldl_steady
    | with_reducible apply foldl_fst_steady
    | with_reducible apply foldl_snd_steady
    | intro _ _ _
    | (extract_lets -underBinder t; refine cut_steady (t := t) ?_ (fun _ => ?_); unfold t; rotate_left; clear_value t; rotate_right)
    | extract_lets -underBinder _
    | dsimp only
    | (dsimp +zetaDelta only)
    | with_reducible apply State.Steady.upd

theorem execMuleResponse_steady (h : r.Steady s) (pl : Pl) (e : Nat) : r.SteadyOut (execMuleResponse pl e s) := by
  unfold execMuleResponse
  first
    | (refine inPlane_steady h _ _ ?_; dsimp only)
    | refine inPlane_steady h _ _ ?_
    | (refine cwWrite_steady h _ _ _ ?_; try intro t h)
    | apply next_steady
  all_goals repeat' first
    | with_reducible assumption
    | with_reducible apply ite_steady
    | split
    | with_reducible apply State.burstAnswer_steady
    | with_reducible apply State.modMul_steady
    | with_reducible apply State.mulPump_steady
    | exact State.popMulIn_steady (by assumption) (by assumption)
    | (refine State.popMulIn_steady ?_ (by assumption))
    | intro _ _ _
    | (extract_lets -underBinder t; refine cut_steady (t := t) ?_ (fun _ => ?_); unfold t; rotate_left; clear_value t; rotate_right)
    | extract_lets -underBinder _
    | dsimp only
    | (dsimp +zetaDelta only)
    | with_reducible apply State.Steady.upd

theorem execLookupReply_steady (h : r.Steady s) (pl : Pl) (agent : Nat) : r.SteadyOut (execLookupReply pl agent s) := by
  unfold execLookupReply
  first
    | (refine inPlane_steady h _ _ ?_; dsimp only)
    | refine inPlane_steady h _ _ ?_
    | (refine cwWrite_steady h _ _ _ ?_; try intro t h)
    | apply next_steady
  all_goals repeat' first
    | with_reducible assumption
    | with_reducible apply ite_steady
    | split
    | with_reducible apply State.modPlacement_steady
    | with_reducible apply State.mulPoisoned_steady
    | with_reducible apply State.poisonWaiting_steady
    | with_reducible apply State.settleAgent_steady
    | exact State.takeMgmt_steady (by assumption) (by assumption)
    | (refine State.takeMgmt_steady ?_ (by assumption))
    | intro _ _ _
    | (extract_lets -underBinder t; refine cut_steady (t := t) ?_ (fun _ => ?_); unfold t; rotate_left; clear_value t; rotate_right)
    | extract_lets -underBinder _
    | dsimp only
    | (dsimp +zetaDelta only)
    | with_reducible apply State.Steady.upd

theorem execMuleParityError_steady (h : r.Steady s) (pl : Pl) (e : Nat) : r.SteadyOut (execMuleParityError pl e s) := by
  unfold execMuleParityError
  first
    | (refine inPlane_steady h _ _ ?_; dsimp only)
    | refine inPlane_steady h _ _ ?_
    | (refine cwWrite_steady h _ _ _ ?_; try intro t h)
    | apply next_steady
  all_goals repeat' first
    | with_reducible assumption
    | with_reducible apply ite_steady
    | split
    | with_reducible apply State.faultChan_steady
    | with_reducible apply State.migAbortAll_steady
    | with_reducible apply State.modMul_steady
    | with_reducible apply State.modSb_steady
    | with_reducible apply State.occurP_steady
    | with_reducible apply State.planeFault_steady
    | with_reducible apply State.por_steady
    | with_reducible apply foldl_steady
    | with_reducible apply foldl_fst_steady
    | with_reducible apply foldl_snd_steady
    | intro _ _ _
    | (extract_lets -underBinder t; refine cut_steady (t := t) ?_ (fun _ => ?_); unfold t; rotate_left; clear_value t; rotate_right)
    | extract_lets -underBinder _
    | dsimp only
    | (dsimp +zetaDelta only)
    | with_reducible apply State.Steady.upd

/-! ### Machine/Owners.lean -/

theorem execOwnerResetGo_steady (h : r.Steady s) (r₀ : CwReq) (o : Nat) : r.SteadyOut (execOwnerResetGo r₀ o s) := by
  unfold execOwnerResetGo
  first
    | (refine inPlane_steady h _ _ ?_; dsimp only)
    | refine inPlane_steady h _ _ ?_
    | (refine cwWrite_steady h _ _ _ ?_; try intro t h)
    | apply next_steady
  all_goals repeat' first
    | with_reducible assumption
    | with_reducible apply ite_steady
    | split
    | with_reducible apply State.ownerGo_steady
    | intro _ _ _
    | (extract_lets -underBinder t; refine cut_steady (t := t) ?_ (fun _ => ?_); unfold t; rotate_left; clear_value t; rotate_right)
    | extract_lets -underBinder _
    | dsimp only
    | (dsimp +zetaDelta only)
    | with_reducible apply State.Steady.upd

theorem execOwnerClose_steady (h : r.Steady s) : r.SteadyOut (execOwnerClose s) := by
  unfold execOwnerClose
  first
    | (refine inPlane_steady h _ _ ?_; dsimp only)
    | refine inPlane_steady h _ _ ?_
    | (refine cwWrite_steady h _ _ _ ?_; try intro t h)
    | apply next_steady
  all_goals repeat' first
    | with_reducible assumption
    | with_reducible apply ite_steady
    | split
    | with_reducible apply State.closePlane_steady
    | with_reducible apply State.eachPlane_steady
    | with_reducible apply State.gor_steady
    | with_reducible apply State.oresetStep_steady
    | intro _ _ _
    | (extract_lets -underBinder t; refine cut_steady (t := t) ?_ (fun _ => ?_); unfold t; rotate_left; clear_value t; rotate_right)
    | extract_lets -underBinder _
    | dsimp only
    | (dsimp +zetaDelta only)
    | with_reducible apply State.Steady.upd

theorem execOwnerDrainDone_steady (h : r.Steady s) : r.SteadyOut (execOwnerDrainDone s) := by
  unfold execOwnerDrainDone
  first
    | (refine inPlane_steady h _ _ ?_; dsimp only)
    | refine inPlane_steady h _ _ ?_
    | (refine cwWrite_steady h _ _ _ ?_; try intro t h)
    | apply next_steady
  all_goals repeat' first
    | with_reducible assumption
    | with_reducible apply ite_steady
    | split
    | with_reducible apply State.gfset_steady
    | with_reducible apply State.oresetStep_steady
    | intro _ _ _
    | (extract_lets -underBinder t; refine cut_steady (t := t) ?_ (fun _ => ?_); unfold t; rotate_left; clear_value t; rotate_right)
    | extract_lets -underBinder _
    | dsimp only
    | (dsimp +zetaDelta only)
    | with_reducible apply State.Steady.upd

theorem execOwnerResetStall_steady (h : r.Steady s) : r.SteadyOut (execOwnerResetStall s) := by
  unfold execOwnerResetStall
  first
    | (refine inPlane_steady h _ _ ?_; dsimp only)
    | refine inPlane_steady h _ _ ?_
    | (refine cwWrite_steady h _ _ _ ?_; try intro t h)
    | apply next_steady
  all_goals repeat' first
    | with_reducible assumption
    | with_reducible apply ite_steady
    | split
    | with_reducible apply State.gfset_steady
    | with_reducible apply State.occurInfo_steady
    | intro _ _ _
    | (extract_lets -underBinder t; refine cut_steady (t := t) ?_ (fun _ => ?_); unfold t; rotate_left; clear_value t; rotate_right)
    | extract_lets -underBinder _
    | dsimp only
    | (dsimp +zetaDelta only)
    | with_reducible apply State.Steady.upd

theorem execOwnerCleanDone_steady (h : r.Steady s) : r.SteadyOut (execOwnerCleanDone s) := by
  unfold execOwnerCleanDone
  first
    | (refine inPlane_steady h _ _ ?_; dsimp only)
    | refine inPlane_steady h _ _ ?_
    | (refine cwWrite_steady h _ _ _ ?_; try intro t h)
    | apply next_steady
  all_goals repeat' first
    | with_reducible assumption
    | with_reducible apply ite_steady
    | split
    | with_reducible apply State.oresetStep_steady
    | intro _ _ _
    | (extract_lets -underBinder t; refine cut_steady (t := t) ?_ (fun _ => ?_); unfold t; rotate_left; clear_value t; rotate_right)
    | extract_lets -underBinder _
    | dsimp only
    | (dsimp +zetaDelta only)
    | with_reducible apply State.Steady.upd

theorem execOwnerOpen_steady (h : r.Steady s) : r.SteadyOut (execOwnerOpen s) := by
  unfold execOwnerOpen
  first
    | (refine inPlane_steady h _ _ ?_; dsimp only)
    | refine inPlane_steady h _ _ ?_
    | (refine cwWrite_steady h _ _ _ ?_; try intro t h)
    | apply next_steady
  all_goals repeat' first
    | with_reducible assumption
    | with_reducible apply ite_steady
    | split
    | with_reducible apply State.ginc_steady
    | with_reducible apply State.gset_steady
    | with_reducible apply State.occurInfo_steady
    | with_reducible apply State.oresetStep_steady
    | intro _ _ _
    | (extract_lets -underBinder t; refine cut_steady (t := t) ?_ (fun _ => ?_); unfold t; rotate_left; clear_value t; rotate_right)
    | extract_lets -underBinder _
    | dsimp only
    | (dsimp +zetaDelta only)
    | with_reducible apply State.Steady.upd

/-! ### Machine/Router.lean -/

theorem execOutputArbitration_steady (h : r.Steady s) (pl : Pl) (node : Node) : r.SteadyOut (execOutputArbitration pl node s) := by
  unfold execOutputArbitration
  first
    | (refine inPlane_steady h _ _ ?_; dsimp only)
    | refine inPlane_steady h _ _ ?_
    | (refine cwWrite_steady h _ _ _ ?_; try intro t h)
    | apply next_steady
  all_goals repeat' first
    | with_reducible assumption
    | with_reducible apply ite_steady
    | split
    | with_reducible apply State.arbitrate_steady
    | with_reducible apply State.muleLinkStep_steady
    | with_reducible apply State.niLinkStep_steady
    | with_reducible apply State.sbLinkDrain_steady
    | with_reducible apply State.sbLinkStep_steady
    | intro _ _ _
    | (extract_lets -underBinder t; refine cut_steady (t := t) ?_ (fun _ => ?_); unfold t; rotate_left; clear_value t; rotate_right)
    | extract_lets -underBinder _
    | dsimp only
    | (dsimp +zetaDelta only)
    | with_reducible apply State.Steady.upd

theorem execDrainAnswer_steady (h : r.Steady s) (pl : Pl) (node : Node) (vc : Nat) : r.SteadyOut (execDrainAnswer pl node vc s) := by
  unfold execDrainAnswer
  first
    | (refine inPlane_steady h _ _ ?_; dsimp only)
    | refine inPlane_steady h _ _ ?_
    | (refine cwWrite_steady h _ _ _ ?_; try intro t h)
    | apply next_steady
  all_goals repeat' first
    | with_reducible assumption
    | with_reducible apply ite_steady
    | split
    | with_reducible apply State.modRouter_steady
    | intro _ _ _
    | (extract_lets -underBinder t; refine cut_steady (t := t) ?_ (fun _ => ?_); unfold t; rotate_left; clear_value t; rotate_right)
    | extract_lets -underBinder _
    | dsimp only
    | (dsimp +zetaDelta only)
    | with_reducible apply State.Steady.upd

theorem execCreditReturn_steady (h : r.Steady s) (pl : Pl) (out : OutPort) (vc : Nat) : r.SteadyOut (execCreditReturn pl out vc s) := by
  unfold execCreditReturn
  first
    | (refine inPlane_steady h _ _ ?_; dsimp only)
    | refine inPlane_steady h _ _ ?_
    | (refine cwWrite_steady h _ _ _ ?_; try intro t h)
    | apply next_steady
  all_goals repeat' first
    | with_reducible assumption
    | with_reducible apply ite_steady
    | split
    | with_reducible apply State.modMul_steady
    | with_reducible apply State.modNi_steady
    | with_reducible apply State.modRouter_steady
    | with_reducible apply State.modSb_steady
    | intro _ _ _
    | (extract_lets -underBinder t; refine cut_steady (t := t) ?_ (fun _ => ?_); unfold t; rotate_left; clear_value t; rotate_right)
    | extract_lets -underBinder _
    | dsimp only
    | (dsimp +zetaDelta only)
    | with_reducible apply State.Steady.upd

theorem execLinkCheckFailure_steady (h : r.Steady s) (pl : Pl) (out : OutPort) (got : LinkFlit) :
    r.SteadyOut (execLinkCheckFailure pl out got s) := by
  unfold execLinkCheckFailure
  first
    | (refine inPlane_steady h _ _ ?_; dsimp only)
    | refine inPlane_steady h _ _ ?_
    | (refine cwWrite_steady h _ _ _ ?_; try intro t h)
    | apply next_steady
  all_goals repeat' first
    | with_reducible assumption
    | with_reducible apply ite_steady
    | split
    | with_reducible apply State.failFirst_steady
    | with_reducible apply State.failPaired_steady
    | with_reducible apply State.failSecond_steady
    | with_reducible apply State.planeFault_steady
    | intro _ _ _
    | (extract_lets -underBinder t; refine cut_steady (t := t) ?_ (fun _ => ?_); unfold t; rotate_left; clear_value t; rotate_right)
    | extract_lets -underBinder _
    | dsimp only
    | (dsimp +zetaDelta only)
    | with_reducible apply State.Steady.upd

theorem execLinkRetryRequest_steady (h : r.Steady s) (pl : Pl) (out : OutPort) (vc : Nat) :
    r.SteadyOut (execLinkRetryRequest pl out vc s) := by
  unfold execLinkRetryRequest
  first
    | (refine inPlane_steady h _ _ ?_; dsimp only)
    | refine inPlane_steady h _ _ ?_
    | (refine cwWrite_steady h _ _ _ ?_; try intro t h)
    | apply next_steady
  all_goals repeat' first
    | with_reducible assumption
    | with_reducible apply ite_steady
    | split
    | with_reducible apply State.modCredit_steady
    | with_reducible apply State.modRouter_steady
    | with_reducible apply State.resendFar_steady
    | intro _ _ _
    | (extract_lets -underBinder t; refine cut_steady (t := t) ?_ (fun _ => ?_); unfold t; rotate_left; clear_value t; rotate_right)
    | extract_lets -underBinder _
    | dsimp only
    | (dsimp +zetaDelta only)
    | with_reducible apply State.Steady.upd

/-! ### Machine/Pair.lean -/

theorem execComparatorDecision_steady (h : r.Steady s) (p : Nat) (fa : Option HalfFault) (fb : Option HalfFault) :
    r.SteadyOut (execComparatorDecision p fa fb s) := by
  unfold execComparatorDecision
  first
    | (refine inPlane_steady h _ _ ?_; dsimp only)
    | refine inPlane_steady h _ _ ?_
    | (refine cwWrite_steady h _ _ _ ?_; try intro t h)
    | apply next_steady
  all_goals repeat' first
    | with_reducible assumption
    | with_reducible apply ite_steady
    | split
    | with_reducible apply State.cmpFlits_steady
    | with_reducible apply State.wakeComparator_steady
    | intro _ _ _
    | (extract_lets -underBinder t; refine cut_steady (t := t) ?_ (fun _ => ?_); unfold t; rotate_left; clear_value t; rotate_right)
    | extract_lets -underBinder _
    | dsimp only
    | (dsimp +zetaDelta only)
    | with_reducible apply State.Steady.upd

theorem execComparatorReplay_steady (h : r.Steady s) (p : Nat) (delayed : CmpFlit) : r.SteadyOut (execComparatorReplay p delayed s) := by
  unfold execComparatorReplay
  first
    | (refine inPlane_steady h _ _ ?_; dsimp only)
    | refine inPlane_steady h _ _ ?_
    | (refine cwWrite_steady h _ _ _ ?_; try intro t h)
    | apply next_steady
  all_goals repeat' first
    | with_reducible assumption
    | with_reducible apply ite_steady
    | split
    | with_reducible apply State.endWait_steady
    | with_reducible apply State.modCmp_steady
    | with_reducible apply State.suspectPort_steady
    | with_reducible apply State.transient_steady
    | intro _ _ _
    | (extract_lets -underBinder t; refine cut_steady (t := t) ?_ (fun _ => ?_); unfold t; rotate_left; clear_value t; rotate_right)
    | extract_lets -underBinder _
    | dsimp only
    | (dsimp +zetaDelta only)
    | with_reducible apply State.Steady.upd

theorem execDivergeTimeout_steady (h : r.Steady s) (p : Nat) : r.SteadyOut (execDivergeTimeout p s) := by
  unfold execDivergeTimeout
  first
    | (refine inPlane_steady h _ _ ?_; dsimp only)
    | refine inPlane_steady h _ _ ?_
    | (refine cwWrite_steady h _ _ _ ?_; try intro t h)
    | apply next_steady
  all_goals repeat' first
    | with_reducible assumption
    | with_reducible apply ite_steady
    | split
    | with_reducible apply State.endWait_steady
    | with_reducible apply State.ginc_steady
    | with_reducible apply State.modCmp_steady
    | with_reducible apply State.planeFault_steady
    | with_reducible apply State.timedCheckAll_steady
    | intro _ _ _
    | (extract_lets -underBinder t; refine cut_steady (t := t) ?_ (fun _ => ?_); unfold t; rotate_left; clear_value t; rotate_right)
    | extract_lets -underBinder _
    | dsimp only
    | (dsimp +zetaDelta only)
    | with_reducible apply State.Steady.upd

theorem execPlaneCheckerFire_steady (h : r.Steady s) (pl : Pl) (site : CheckSite) : r.SteadyOut (execPlaneCheckerFire pl site s) := by
  unfold execPlaneCheckerFire
  first
    | (refine inPlane_steady h _ _ ?_; dsimp only)
    | refine inPlane_steady h _ _ ?_
    | (refine cwWrite_steady h _ _ _ ?_; try intro t h)
    | apply next_steady
  all_goals repeat' first
    | with_reducible assumption
    | with_reducible apply ite_steady
    | split
    | with_reducible apply State.planeFault_steady
    | with_reducible apply State.wakeComparators_steady
    | intro _ _ _
    | (extract_lets -underBinder t; refine cut_steady (t := t) ?_ (fun _ => ?_); unfold t; rotate_left; clear_value t; rotate_right)
    | extract_lets -underBinder _
    | dsimp only
    | (dsimp +zetaDelta only)
    | with_reducible apply State.Steady.upd

theorem execPlaneOut_steady (h : r.Steady s) : r.SteadyOut (execPlaneOut s) := by
  unfold execPlaneOut
  first
    | (refine inPlane_steady h _ _ ?_; dsimp only)
    | refine inPlane_steady h _ _ ?_
    | (refine cwWrite_steady h _ _ _ ?_; try intro t h)
    | apply next_steady
  all_goals repeat' first
    | with_reducible assumption
    | with_reducible apply ite_steady
    | split
    | with_reducible apply State.endWait_steady
    | with_reducible apply State.ginc_steady
    | with_reducible apply State.gset_steady
    | with_reducible apply State.occurInfo_steady
    | with_reducible apply State.resetPlane_steady
    | with_reducible apply State.setPlState_steady
    | with_reducible apply State.timedCheckAll_steady
    | with_reducible apply foldl_steady
    | with_reducible apply foldl_fst_steady
    | with_reducible apply foldl_snd_steady
    | intro _ _ _
    | (extract_lets -underBinder t; refine cut_steady (t := t) ?_ (fun _ => ?_); unfold t; rotate_left; clear_value t; rotate_right)
    | extract_lets -underBinder _
    | dsimp only
    | (dsimp +zetaDelta only)
    | with_reducible apply State.Steady.upd

theorem execForceOutA_steady (h : r.Steady s) (r₀ : CwReq) : r.SteadyOut (execForceOutA r₀ s) := by
  unfold execForceOutA
  first
    | (refine inPlane_steady h _ _ ?_; dsimp only)
    | refine inPlane_steady h _ _ ?_
    | (refine cwWrite_steady h _ _ _ ?_; try intro t h)
    | apply next_steady
  all_goals repeat' first
    | with_reducible assumption
    | with_reducible apply ite_steady
    | split
    | with_reducible apply State.forceOut_steady
    | intro _ _ _
    | (extract_lets -underBinder t; refine cut_steady (t := t) ?_ (fun _ => ?_); unfold t; rotate_left; clear_value t; rotate_right)
    | extract_lets -underBinder _
    | dsimp only
    | (dsimp +zetaDelta only)
    | with_reducible apply State.Steady.upd

theorem execForceOutB_steady (h : r.Steady s) (r₀ : CwReq) : r.SteadyOut (execForceOutB r₀ s) := by
  unfold execForceOutB
  first
    | (refine inPlane_steady h _ _ ?_; dsimp only)
    | refine inPlane_steady h _ _ ?_
    | (refine cwWrite_steady h _ _ _ ?_; try intro t h)
    | apply next_steady
  all_goals repeat' first
    | with_reducible assumption
    | with_reducible apply ite_steady
    | split
    | with_reducible apply State.forceOut_steady
    | intro _ _ _
    | (extract_lets -underBinder t; refine cut_steady (t := t) ?_ (fun _ => ?_); unfold t; rotate_left; clear_value t; rotate_right)
    | extract_lets -underBinder _
    | dsimp only
    | (dsimp +zetaDelta only)
    | with_reducible apply State.Steady.upd

theorem execPlaneResetDone_steady (h : r.Steady s) : r.SteadyOut (execPlaneResetDone s) := by
  unfold execPlaneResetDone
  first
    | (refine inPlane_steady h _ _ ?_; dsimp only)
    | refine inPlane_steady h _ _ ?_
    | (refine cwWrite_steady h _ _ _ ?_; try intro t h)
    | apply next_steady
  all_goals repeat' first
    | with_reducible assumption
    | with_reducible apply ite_steady
    | split
    | with_reducible apply State.lockDueIn_steady
    | with_reducible apply State.recover_steady
    | intro _ _ _
    | (extract_lets -underBinder t; refine cut_steady (t := t) ?_ (fun _ => ?_); unfold t; rotate_left; clear_value t; rotate_right)
    | extract_lets -underBinder _
    | dsimp only
    | (dsimp +zetaDelta only)
    | with_reducible apply State.Steady.upd

theorem execSelftestDone_steady (h : r.Steady s) (passed : Bool) : r.SteadyOut (execSelftestDone passed s) := by
  unfold execSelftestDone
  first
    | (refine inPlane_steady h _ _ ?_; dsimp only)
    | refine inPlane_steady h _ _ ?_
    | (refine cwWrite_steady h _ _ _ ?_; try intro t h)
    | apply next_steady
  all_goals repeat' first
    | with_reducible assumption
    | with_reducible apply ite_steady
    | split
    | with_reducible apply State.recover_steady
    | intro _ _ _
    | (extract_lets -underBinder t; refine cut_steady (t := t) ?_ (fun _ => ?_); unfold t; rotate_left; clear_value t; rotate_right)
    | extract_lets -underBinder _
    | dsimp only
    | (dsimp +zetaDelta only)
    | with_reducible apply State.Steady.upd

theorem execKettleWordError_steady (h : r.Steady s) (w : KettleWord) : r.SteadyOut (execKettleWordError w s) := by
  unfold execKettleWordError
  first
    | (refine inPlane_steady h _ _ ?_; dsimp only)
    | refine inPlane_steady h _ _ ?_
    | (refine cwWrite_steady h _ _ _ ?_; try intro t h)
    | apply next_steady
  all_goals repeat' first
    | with_reducible assumption
    | with_reducible apply ite_steady
    | split
    | with_reducible apply State.kettleWord_steady
    | intro _ _ _
    | (extract_lets -underBinder t; refine cut_steady (t := t) ?_ (fun _ => ?_); unfold t; rotate_left; clear_value t; rotate_right)
    | extract_lets -underBinder _
    | dsimp only
    | (dsimp +zetaDelta only)
    | with_reducible apply State.Steady.upd

theorem execSweepDone_steady (h : r.Steady s) : r.SteadyOut (execSweepDone s) := by
  unfold execSweepDone
  first
    | (refine inPlane_steady h _ _ ?_; dsimp only)
    | refine inPlane_steady h _ _ ?_
    | (refine cwWrite_steady h _ _ _ ?_; try intro t h)
    | apply next_steady
  all_goals repeat' first
    | with_reducible assumption
    | with_reducible apply ite_steady
    | split
    | with_reducible apply State.copyPlane_steady
    | with_reducible apply State.recover_steady
    | intro _ _ _
    | (extract_lets -underBinder t; refine cut_steady (t := t) ?_ (fun _ => ?_); unfold t; rotate_left; clear_value t; rotate_right)
    | extract_lets -underBinder _
    | dsimp only
    | (dsimp +zetaDelta only)
    | with_reducible apply State.Steady.upd

theorem execJoinStart_steady (h : r.Steady s) : r.SteadyOut (execJoinStart s) := by
  unfold execJoinStart
  first
    | (refine inPlane_steady h _ _ ?_; dsimp only)
    | refine inPlane_steady h _ _ ?_
    | (refine cwWrite_steady h _ _ _ ?_; try intro t h)
    | apply next_steady
  all_goals repeat' first
    | with_reducible assumption
    | with_reducible apply ite_steady
    | split
    | with_reducible apply State.recover_steady
    | intro _ _ _
    | (extract_lets -underBinder t; refine cut_steady (t := t) ?_ (fun _ => ?_); unfold t; rotate_left; clear_value t; rotate_right)
    | extract_lets -underBinder _
    | dsimp only
    | (dsimp +zetaDelta only)
    | with_reducible apply State.Steady.upd

theorem execJoinDrainDone_steady (h : r.Steady s) : r.SteadyOut (execJoinDrainDone s) := by
  unfold execJoinDrainDone
  first
    | (refine inPlane_steady h _ _ ?_; dsimp only)
    | refine inPlane_steady h _ _ ?_
    | (refine cwWrite_steady h _ _ _ ?_; try intro t h)
    | apply next_steady
  all_goals repeat' first
    | with_reducible assumption
    | with_reducible apply ite_steady
    | split
    | intro _ _ _
    | (extract_lets -underBinder t; refine cut_steady (t := t) ?_ (fun _ => ?_); unfold t; rotate_left; clear_value t; rotate_right)
    | extract_lets -underBinder _
    | dsimp only
    | (dsimp +zetaDelta only)
    | with_reducible apply State.Steady.upd

theorem execJoinResume_steady (h : r.Steady s) : r.SteadyOut (execJoinResume s) := by
  unfold execJoinResume
  first
    | (refine inPlane_steady h _ _ ?_; dsimp only)
    | refine inPlane_steady h _ _ ?_
    | (refine cwWrite_steady h _ _ _ ?_; try intro t h)
    | apply next_steady
  all_goals repeat' first
    | with_reducible assumption
    | with_reducible apply ite_steady
    | split
    | with_reducible apply State.copyPlane_steady
    | with_reducible apply State.eachPlane_steady
    | with_reducible apply State.ginc_steady
    | with_reducible apply State.gset_steady
    | with_reducible apply State.resumePlane_steady
    | with_reducible apply State.setPlState_steady
    | intro _ _ _
    | (extract_lets -underBinder t; refine cut_steady (t := t) ?_ (fun _ => ?_); unfold t; rotate_left; clear_value t; rotate_right)
    | extract_lets -underBinder _
    | dsimp only
    | (dsimp +zetaDelta only)
    | with_reducible apply State.Steady.upd

theorem execJoinAbort_steady (h : r.Steady s) : r.SteadyOut (execJoinAbort s) := by
  unfold execJoinAbort
  first
    | (refine inPlane_steady h _ _ ?_; dsimp only)
    | refine inPlane_steady h _ _ ?_
    | (refine cwWrite_steady h _ _ _ ?_; try intro t h)
    | apply next_steady
  all_goals repeat' first
    | with_reducible assumption
    | with_reducible apply ite_steady
    | split
    | with_reducible apply State.abortJoin_steady
    | intro _ _ _
    | (extract_lets -underBinder t; refine cut_steady (t := t) ?_ (fun _ => ?_); unfold t; rotate_left; clear_value t; rotate_right)
    | extract_lets -underBinder _
    | dsimp only
    | (dsimp +zetaDelta only)
    | with_reducible apply State.Steady.upd

theorem execPairRejoin_steady (h : r.Steady s) (r₀ : CwReq) : r.SteadyOut (execPairRejoin r₀ s) := by
  unfold execPairRejoin
  first
    | (refine inPlane_steady h _ _ ?_; dsimp only)
    | refine inPlane_steady h _ _ ?_
    | (refine cwWrite_steady h _ _ _ ?_; try intro t h)
    | apply next_steady
  all_goals repeat' first
    | with_reducible assumption
    | with_reducible apply ite_steady
    | split
    | intro _ _ _
    | (extract_lets -underBinder t; refine cut_steady (t := t) ?_ (fun _ => ?_); unfold t; rotate_left; clear_value t; rotate_right)
    | extract_lets -underBinder _
    | dsimp only
    | (dsimp +zetaDelta only)
    | with_reducible apply State.Steady.upd

theorem execClearSuspect_steady (h : r.Steady s) (r₀ : CwReq) : r.SteadyOut (execClearSuspect r₀ s) := by
  unfold execClearSuspect
  first
    | (refine inPlane_steady h _ _ ?_; dsimp only)
    | refine inPlane_steady h _ _ ?_
    | (refine cwWrite_steady h _ _ _ ?_; try intro t h)
    | apply next_steady
  all_goals repeat' first
    | with_reducible assumption
    | with_reducible apply ite_steady
    | split
    | with_reducible apply State.clearSuspects_steady
    | intro _ _ _
    | (extract_lets -underBinder t; refine cut_steady (t := t) ?_ (fun _ => ?_); unfold t; rotate_left; clear_value t; rotate_right)
    | extract_lets -underBinder _
    | dsimp only
    | (dsimp +zetaDelta only)
    | with_reducible apply State.Steady.upd

theorem execProofTest_steady (h : r.Steady s) (p : Nat) (railsOk : Bool) : r.SteadyOut (execProofTest p railsOk s) := by
  unfold execProofTest
  first
    | (refine inPlane_steady h _ _ ?_; dsimp only)
    | refine inPlane_steady h _ _ ?_
    | (refine cwWrite_steady h _ _ _ ?_; try intro t h)
    | apply next_steady
  all_goals repeat' first
    | with_reducible assumption
    | with_reducible apply ite_steady
    | split
    | with_reducible apply State.ginc_steady
    | with_reducible apply State.modCmp_steady
    | with_reducible apply State.occurInfo_steady
    | with_reducible apply State.timedCheckAll_steady
    | intro _ _ _
    | (extract_lets -underBinder t; refine cut_steady (t := t) ?_ (fun _ => ?_); unfold t; rotate_left; clear_value t; rotate_right)
    | extract_lets -underBinder _
    | dsimp only
    | (dsimp +zetaDelta only)
    | with_reducible apply State.Steady.upd

/-! ### Machine/Pads.lean -/

theorem execSafeOutAssert_steady (h : r.Steady s) : r.SteadyOut (execSafeOutAssert s) := by
  unfold execSafeOutAssert
  first
    | (refine inPlane_steady h _ _ ?_; dsimp only)
    | refine inPlane_steady h _ _ ?_
    | (refine cwWrite_steady h _ _ _ ?_; try intro t h)
    | apply next_steady
  all_goals repeat' first
    | with_reducible assumption
    | with_reducible apply ite_steady
    | split
    | with_reducible apply State.gor_steady
    | intro _ _ _
    | (extract_lets -underBinder t; refine cut_steady (t := t) ?_ (fun _ => ?_); unfold t; rotate_left; clear_value t; rotate_right)
    | extract_lets -underBinder _
    | dsimp only
    | (dsimp +zetaDelta only)
    | with_reducible apply State.Steady.upd

theorem execSafeRelease_steady (h : r.Steady s) (r₀ : CwReq) (groups : BitVec 4) : r.SteadyOut (execSafeRelease r₀ groups s) := by
  unfold execSafeRelease
  first
    | (refine inPlane_steady h _ _ ?_; dsimp only)
    | refine inPlane_steady h _ _ ?_
    | (refine cwWrite_steady h _ _ _ ?_; try intro t h)
    | apply next_steady
  all_goals repeat' first
    | with_reducible assumption
    | with_reducible apply ite_steady
    | split
    | with_reducible apply State.safeRelease_steady
    | intro _ _ _
    | (extract_lets -underBinder t; refine cut_steady (t := t) ?_ (fun _ => ?_); unfold t; rotate_left; clear_value t; rotate_right)
    | extract_lets -underBinder _
    | dsimp only
    | (dsimp +zetaDelta only)
    | with_reducible apply State.Steady.upd

theorem execPadFunctionSwitch_steady (h : r.Steady s) (r₀ : CwReq) (v : W32) : r.SteadyOut (execPadFunctionSwitch r₀ v s) := by
  unfold execPadFunctionSwitch
  first
    | (refine inPlane_steady h _ _ ?_; dsimp only)
    | refine inPlane_steady h _ _ ?_
    | (refine cwWrite_steady h _ _ _ ?_; try intro t h)
    | apply next_steady
  all_goals repeat' first
    | with_reducible assumption
    | with_reducible apply ite_steady
    | split
    | with_reducible apply State.writeMpFn_steady
    | intro _ _ _
    | (extract_lets -underBinder t; refine cut_steady (t := t) ?_ (fun _ => ?_); unfold t; rotate_left; clear_value t; rotate_right)
    | extract_lets -underBinder _
    | dsimp only
    | (dsimp +zetaDelta only)
    | with_reducible apply State.Steady.upd

theorem execPadHoldEnd_steady (h : r.Steady s) (m : Nat) : r.SteadyOut (execPadHoldEnd m s) := by
  unfold execPadHoldEnd
  first
    | (refine inPlane_steady h _ _ ?_; dsimp only)
    | refine inPlane_steady h _ _ ?_
    | (refine cwWrite_steady h _ _ _ ?_; try intro t h)
    | apply next_steady
  all_goals repeat' first
    | with_reducible assumption
    | with_reducible apply ite_steady
    | split
    | with_reducible apply State.modMp_steady
    | intro _ _ _
    | (extract_lets -underBinder t; refine cut_steady (t := t) ?_ (fun _ => ?_); unfold t; rotate_left; clear_value t; rotate_right)
    | extract_lets -underBinder _
    | dsimp only
    | (dsimp +zetaDelta only)
    | with_reducible apply State.Steady.upd

theorem execPadHoldRelease_steady (h : r.Steady s) (r₀ : CwReq) : r.SteadyOut (execPadHoldRelease r₀ s) := by
  unfold execPadHoldRelease
  first
    | (refine inPlane_steady h _ _ ?_; dsimp only)
    | refine inPlane_steady h _ _ ?_
    | (refine cwWrite_steady h _ _ _ ?_; try intro t h)
    | apply next_steady
  all_goals repeat' first
    | with_reducible assumption
    | with_reducible apply ite_steady
    | split
    | with_reducible apply State.releasePads_steady
    | intro _ _ _
    | (extract_lets -underBinder t; refine cut_steady (t := t) ?_ (fun _ => ?_); unfold t; rotate_left; clear_value t; rotate_right)
    | extract_lets -underBinder _
    | dsimp only
    | (dsimp +zetaDelta only)
    | with_reducible apply State.Steady.upd

theorem execAlwaysOnSupplyRemoved_steady (h : r.Steady s) : r.SteadyOut (execAlwaysOnSupplyRemoved s) := by
  unfold execAlwaysOnSupplyRemoved
  first
    | (refine inPlane_steady h _ _ ?_; dsimp only)
    | refine inPlane_steady h _ _ ?_
    | (refine cwWrite_steady h _ _ _ ?_; try intro t h)
    | apply next_steady
  all_goals repeat' first
    | with_reducible assumption
    | with_reducible apply ite_steady
    | split
    | intro _ _ _
    | (extract_lets -underBinder t; refine cut_steady (t := t) ?_ (fun _ => ?_); unfold t; rotate_left; clear_value t; rotate_right)
    | extract_lets -underBinder _
    | dsimp only
    | (dsimp +zetaDelta only)
    | with_reducible apply State.Steady.upd

/-! ### Machine/Boot.lean -/

theorem execFuseSample_steady (h : r.Steady s) (valid : Bool) (root : BitVec 256) (khash : BitVec 256) :
    r.SteadyOut (execFuseSample valid root khash s) := by
  unfold execFuseSample
  first
    | (refine inPlane_steady h _ _ ?_; dsimp only)
    | refine inPlane_steady h _ _ ?_
    | (refine cwWrite_steady h _ _ _ ?_; try intro t h)
    | apply next_steady
  all_goals repeat' first
    | with_reducible assumption
    | with_reducible apply ite_steady
    | split
    | with_reducible apply State.gfset_steady
    | with_reducible apply State.occurInfo_steady
    | with_reducible apply State.setPhase_steady
    | intro _ _ _
    | (extract_lets -underBinder t; refine cut_steady (t := t) ?_ (fun _ => ?_); unfold t; rotate_left; clear_value t; rotate_right)
    | extract_lets -underBinder _
    | dsimp only
    | (dsimp +zetaDelta only)
    | with_reducible apply State.Steady.upd

theorem execImageReadDone_steady (h : r.Steady s) (bytes : List (BitVec 8)) : r.SteadyOut (execImageReadDone bytes s) := by
  unfold execImageReadDone
  first
    | (refine inPlane_steady h _ _ ?_; dsimp only)
    | refine inPlane_steady h _ _ ?_
    | (refine cwWrite_steady h _ _ _ ?_; try intro t h)
    | apply next_steady
  all_goals repeat' first
    | with_reducible assumption
    | with_reducible apply ite_steady
    | split
    | with_reducible apply State.setPhase_steady
    | intro _ _ _
    | (extract_lets -underBinder t; refine cut_steady (t := t) ?_ (fun _ => ?_); unfold t; rotate_left; clear_value t; rotate_right)
    | extract_lets -underBinder _
    | dsimp only
    | (dsimp +zetaDelta only)
    | with_reducible apply State.Steady.upd

theorem execIslandLockTimeout_steady (h : r.Steady s) (pl : Pl) (i : Nat) : r.SteadyOut (execIslandLockTimeout pl i s) := by
  unfold execIslandLockTimeout
  first
    | (refine inPlane_steady h _ _ ?_; dsimp only)
    | refine inPlane_steady h _ _ ?_
    | (refine cwWrite_steady h _ _ _ ?_; try intro t h)
    | apply next_steady
  all_goals repeat' first
    | with_reducible assumption
    | with_reducible apply ite_steady
    | split
    | with_reducible apply State.modIsl_steady
    | intro _ _ _
    | (extract_lets -underBinder t; refine cut_steady (t := t) ?_ (fun _ => ?_); unfold t; rotate_left; clear_value t; rotate_right)
    | extract_lets -underBinder _
    | dsimp only
    | (dsimp +zetaDelta only)
    | with_reducible apply State.Steady.upd

theorem execFabricDone_steady (h : r.Steady s) (measured : List Crossing) : r.SteadyOut (execFabricDone measured s) := by
  unfold execFabricDone
  first
    | (refine inPlane_steady h _ _ ?_; dsimp only)
    | refine inPlane_steady h _ _ ?_
    | (refine cwWrite_steady h _ _ _ ?_; try intro t h)
    | apply next_steady
  all_goals repeat' first
    | with_reducible assumption
    | with_reducible apply ite_steady
    | split
    | with_reducible apply State.pltEntries_steady
    | with_reducible apply State.recordOff_steady
    | with_reducible apply State.setPhase_steady
    | intro _ _ _
    | (extract_lets -underBinder t; refine cut_steady (t := t) ?_ (fun _ => ?_); unfold t; rotate_left; clear_value t; rotate_right)
    | extract_lets -underBinder _
    | dsimp only
    | (dsimp +zetaDelta only)
    | with_reducible apply State.Steady.upd

theorem execTableDone_steady (h : r.Steady s) : r.SteadyOut (execTableDone s) := by
  unfold execTableDone
  first
    | (refine inPlane_steady h _ _ ?_; dsimp only)
    | refine inPlane_steady h _ _ ?_
    | (refine cwWrite_steady h _ _ _ ?_; try intro t h)
    | apply next_steady
  all_goals repeat' first
    | with_reducible assumption
    | with_reducible apply ite_steady
    | split
    | with_reducible apply State.gfset_steady
    | with_reducible apply State.pltAdd_steady
    | intro _ _ _
    | (extract_lets -underBinder t; refine cut_steady (t := t) ?_ (fun _ => ?_); unfold t; rotate_left; clear_value t; rotate_right)
    | extract_lets -underBinder _
    | dsimp only
    | (dsimp +zetaDelta only)
    | with_reducible apply State.Steady.upd

theorem execStartupDone_steady (h : r.Steady s) : r.SteadyOut (execStartupDone s) := by
  unfold execStartupDone
  first
    | (refine inPlane_steady h _ _ ?_; dsimp only)
    | refine inPlane_steady h _ _ ?_
    | (refine cwWrite_steady h _ _ _ ?_; try intro t h)
    | apply next_steady
  all_goals repeat' first
    | with_reducible assumption
    | with_reducible apply ite_steady
    | split
    | with_reducible apply State.gfset_steady
    | with_reducible apply State.gset_steady
    | with_reducible apply State.gtOpen_steady
    | with_reducible apply State.openPorts_steady
    | with_reducible apply State.setPhase_steady
    | with_reducible apply State.startPads_steady
    | with_reducible apply foldl_steady
    | with_reducible apply foldl_fst_steady
    | with_reducible apply foldl_snd_steady
    | intro _ _ _
    | (extract_lets -underBinder t; refine cut_steady (t := t) ?_ (fun _ => ?_); unfold t; rotate_left; clear_value t; rotate_right)
    | extract_lets -underBinder _
    | dsimp only
    | (dsimp +zetaDelta only)
    | with_reducible apply State.Steady.upd

theorem execImgReboot_steady (h : r.Steady s) (r₀ : CwReq) : r.SteadyOut (execImgReboot r₀ s) := by
  unfold execImgReboot
  first
    | (refine inPlane_steady h _ _ ?_; dsimp only)
    | refine inPlane_steady h _ _ ?_
    | (refine cwWrite_steady h _ _ _ ?_; try intro t h)
    | apply next_steady
  all_goals repeat' first
    | with_reducible assumption
    | with_reducible apply ite_steady
    | split
    | with_reducible apply State.reboot_steady
    | intro _ _ _
    | (extract_lets -underBinder t; refine cut_steady (t := t) ?_ (fun _ => ?_); unfold t; rotate_left; clear_value t; rotate_right)
    | extract_lets -underBinder _
    | dsimp only
    | (dsimp +zetaDelta only)
    | with_reducible apply State.Steady.upd

theorem execFlashRead_steady (h : r.Steady s) (r₀ : CwReq) : r.SteadyOut (execFlashRead r₀ s) := by
  unfold execFlashRead
  first
    | (refine inPlane_steady h _ _ ?_; dsimp only)
    | refine inPlane_steady h _ _ ?_
    | (refine cwWrite_steady h _ _ _ ?_; try intro t h)
    | apply next_steady
  all_goals repeat' first
    | with_reducible assumption
    | with_reducible apply ite_steady
    | split
    | with_reducible apply State.flStart_steady
    | intro _ _ _
    | (extract_lets -underBinder t; refine cut_steady (t := t) ?_ (fun _ => ?_); unfold t; rotate_left; clear_value t; rotate_right)
    | extract_lets -underBinder _
    | dsimp only
    | (dsimp +zetaDelta only)
    | with_reducible apply State.Steady.upd

theorem execFlashProgram_steady (h : r.Steady s) (r₀ : CwReq) : r.SteadyOut (execFlashProgram r₀ s) := by
  unfold execFlashProgram
  first
    | (refine inPlane_steady h _ _ ?_; dsimp only)
    | refine inPlane_steady h _ _ ?_
    | (refine cwWrite_steady h _ _ _ ?_; try intro t h)
    | apply next_steady
  all_goals repeat' first
    | with_reducible assumption
    | with_reducible apply ite_steady
    | split
    | with_reducible apply State.flStart_steady
    | intro _ _ _
    | (extract_lets -underBinder t; refine cut_steady (t := t) ?_ (fun _ => ?_); unfold t; rotate_left; clear_value t; rotate_right)
    | extract_lets -underBinder _
    | dsimp only
    | (dsimp +zetaDelta only)
    | with_reducible apply State.Steady.upd

theorem execFlashErase_steady (h : r.Steady s) (r₀ : CwReq) : r.SteadyOut (execFlashErase r₀ s) := by
  unfold execFlashErase
  first
    | (refine inPlane_steady h _ _ ?_; dsimp only)
    | refine inPlane_steady h _ _ ?_
    | (refine cwWrite_steady h _ _ _ ?_; try intro t h)
    | apply next_steady
  all_goals repeat' first
    | with_reducible assumption
    | with_reducible apply ite_steady
    | split
    | with_reducible apply State.flStart_steady
    | intro _ _ _
    | (extract_lets -underBinder t; refine cut_steady (t := t) ?_ (fun _ => ?_); unfold t; rotate_left; clear_value t; rotate_right)
    | extract_lets -underBinder _
    | dsimp only
    | (dsimp +zetaDelta only)
    | with_reducible apply State.Steady.upd

theorem execFlashCommandDone_steady (h : r.Steady s) (data : List W32) : r.SteadyOut (execFlashCommandDone data s) := by
  unfold execFlashCommandDone
  first
    | (refine inPlane_steady h _ _ ?_; dsimp only)
    | refine inPlane_steady h _ _ ?_
    | (refine cwWrite_steady h _ _ _ ?_; try intro t h)
    | apply next_steady
  all_goals repeat' first
    | with_reducible assumption
    | with_reducible apply ite_steady
    | split
    | with_reducible apply State.flEnd_steady
    | with_reducible apply State.gset_steady
    | with_reducible apply foldl_steady
    | with_reducible apply foldl_fst_steady
    | with_reducible apply foldl_snd_steady
    | intro _ _ _
    | (extract_lets -underBinder t; refine cut_steady (t := t) ?_ (fun _ => ?_); unfold t; rotate_left; clear_value t; rotate_right)
    | extract_lets -underBinder _
    | dsimp only
    | (dsimp +zetaDelta only)
    | with_reducible apply State.Steady.upd

theorem execFlashTimeout_steady (h : r.Steady s) : r.SteadyOut (execFlashTimeout s) := by
  unfold execFlashTimeout
  first
    | (refine inPlane_steady h _ _ ?_; dsimp only)
    | refine inPlane_steady h _ _ ?_
    | (refine cwWrite_steady h _ _ _ ?_; try intro t h)
    | apply next_steady
  all_goals repeat' first
    | with_reducible assumption
    | with_reducible apply ite_steady
    | split
    | with_reducible apply State.flEnd_steady
    | intro _ _ _
    | (extract_lets -underBinder t; refine cut_steady (t := t) ?_ (fun _ => ?_); unfold t; rotate_left; clear_value t; rotate_right)
    | extract_lets -underBinder _
    | dsimp only
    | (dsimp +zetaDelta only)
    | with_reducible apply State.Steady.upd

/-! ### Machine/Events.lean -/

theorem execEventRaise_steady (h : r.Steady s) (r₀ : CwReq) (src : Nat) : r.SteadyOut (execEventRaise r₀ src s) := by
  unfold execEventRaise
  first
    | (refine inPlane_steady h _ _ ?_; dsimp only)
    | refine inPlane_steady h _ _ ?_
    | (refine cwWrite_steady h _ _ _ ?_; try intro t h)
    | apply next_steady
  all_goals repeat' first
    | with_reducible assumption
    | with_reducible apply ite_steady
    | split
    | with_reducible apply State.evtRaise_steady
    | intro _ _ _
    | (extract_lets -underBinder t; refine cut_steady (t := t) ?_ (fun _ => ?_); unfold t; rotate_left; clear_value t; rotate_right)
    | extract_lets -underBinder _
    | dsimp only
    | (dsimp +zetaDelta only)
    | with_reducible apply State.Steady.upd

theorem execEventAck_steady (h : r.Steady s) (r₀ : CwReq) (src : Nat) (n : Nat) : r.SteadyOut (execEventAck r₀ src n s) := by
  unfold execEventAck
  first
    | (refine inPlane_steady h _ _ ?_; dsimp only)
    | refine inPlane_steady h _ _ ?_
    | (refine cwWrite_steady h _ _ _ ?_; try intro t h)
    | apply next_steady
  all_goals repeat' first
    | with_reducible assumption
    | with_reducible apply ite_steady
    | split
    | with_reducible apply State.evtAck_steady
    | intro _ _ _
    | (extract_lets -underBinder t; refine cut_steady (t := t) ?_ (fun _ => ?_); unfold t; rotate_left; clear_value t; rotate_right)
    | extract_lets -underBinder _
    | dsimp only
    | (dsimp +zetaDelta only)
    | with_reducible apply State.Steady.upd

theorem execEmitterSelect_steady (h : r.Steady s) : r.SteadyOut (execEmitterSelect s) := by
  unfold execEmitterSelect
  first
    | (refine inPlane_steady h _ _ ?_; dsimp only)
    | refine inPlane_steady h _ _ ?_
    | (refine cwWrite_steady h _ _ _ ?_; try intro t h)
    | apply next_steady
  all_goals repeat' first
    | with_reducible assumption
    | with_reducible apply ite_steady
    | split
    | with_reducible apply State.evLeave_steady
    | intro _ _ _
    | (extract_lets -underBinder t; refine cut_steady (t := t) ?_ (fun _ => ?_); unfold t; rotate_left; clear_value t; rotate_right)
    | extract_lets -underBinder _
    | dsimp only
    | (dsimp +zetaDelta only)
    | with_reducible apply State.Steady.upd

theorem execEventHandoff_steady (h : r.Steady s) : r.SteadyOut (execEventHandoff s) := by
  unfold execEventHandoff
  first
    | (refine inPlane_steady h _ _ ?_; dsimp only)
    | refine inPlane_steady h _ _ ?_
    | (refine cwWrite_steady h _ _ _ ?_; try intro t h)
    | apply next_steady
  all_goals repeat' first
    | with_reducible assumption
    | with_reducible apply ite_steady
    | split
    | with_reducible apply State.eachPlane_steady
    | with_reducible apply State.ginc_steady
    | with_reducible apply State.sbAdd_steady
    | intro _ _ _
    | (extract_lets -underBinder t; refine cut_steady (t := t) ?_ (fun _ => ?_); unfold t; rotate_left; clear_value t; rotate_right)
    | extract_lets -underBinder _
    | dsimp only
    | (dsimp +zetaDelta only)
    | with_reducible apply State.Steady.upd

theorem execEventDeliveryRack_steady (h : r.Steady s) (pl : Pl) (q : Nat) : r.SteadyOut (execEventDeliveryRack pl q s) := by
  unfold execEventDeliveryRack
  first
    | (refine inPlane_steady h _ _ ?_; dsimp only)
    | refine inPlane_steady h _ _ ?_
    | (refine cwWrite_steady h _ _ _ ?_; try intro t h)
    | apply next_steady
  all_goals repeat' first
    | with_reducible assumption
    | with_reducible apply ite_steady
    | split
    | with_reducible apply State.evAnswered_steady
    | exact State.sbResponse_steady (by assumption) (by assumption)
    | (refine State.sbResponse_steady ?_ (by assumption))
    | intro _ _ _
    | (extract_lets -underBinder t; refine cut_steady (t := t) ?_ (fun _ => ?_); unfold t; rotate_left; clear_value t; rotate_right)
    | extract_lets -underBinder _
    | dsimp only
    | (dsimp +zetaDelta only)
    | with_reducible apply State.Steady.upd

theorem execEventHoldExpiry_steady (h : r.Steady s) (src : Nat) : r.SteadyOut (execEventHoldExpiry src s) := by
  unfold execEventHoldExpiry
  first
    | (refine inPlane_steady h _ _ ?_; dsimp only)
    | refine inPlane_steady h _ _ ?_
    | (refine cwWrite_steady h _ _ _ ?_; try intro t h)
    | apply next_steady
  all_goals repeat' first
    | with_reducible assumption
    | with_reducible apply ite_steady
    | split
    | with_reducible apply State.evPend_steady
    | intro _ _ _
    | (extract_lets -underBinder t; refine cut_steady (t := t) ?_ (fun _ => ?_); unfold t; rotate_left; clear_value t; rotate_right)
    | extract_lets -underBinder _
    | dsimp only
    | (dsimp +zetaDelta only)
    | with_reducible apply State.Steady.upd

/-! ### Machine/Dumps.lean -/

theorem execMirrorRefresh_steady (h : r.Steady s) (pl : Pl) : r.SteadyOut (execMirrorRefresh pl s) := by
  unfold execMirrorRefresh
  first
    | (refine inPlane_steady h _ _ ?_; dsimp only)
    | refine inPlane_steady h _ _ ?_
    | (refine cwWrite_steady h _ _ _ ?_; try intro t h)
    | apply next_steady
  all_goals repeat' first
    | with_reducible assumption
    | with_reducible apply ite_steady
    | split
    | with_reducible apply State.mirrorNi_steady
    | with_reducible apply State.modSb_steady
    | with_reducible apply foldl_steady
    | with_reducible apply foldl_fst_steady
    | with_reducible apply foldl_snd_steady
    | intro _ _ _
    | (extract_lets -underBinder t; refine cut_steady (t := t) ?_ (fun _ => ?_); unfold t; rotate_left; clear_value t; rotate_right)
    | extract_lets -underBinder _
    | dsimp only
    | (dsimp +zetaDelta only)
    | with_reducible apply State.Steady.upd

theorem execDumpBoundary_steady (h : r.Steady s) (pl : Pl) (g : Nat) : r.SteadyOut (execDumpBoundary pl g s) := by
  unfold execDumpBoundary
  first
    | (refine inPlane_steady h _ _ ?_; dsimp only)
    | refine inPlane_steady h _ _ ?_
    | (refine cwWrite_steady h _ _ _ ?_; try intro t h)
    | apply next_steady
  all_goals repeat' first
    | with_reducible assumption
    | with_reducible apply ite_steady
    | split
    | with_reducible apply State.dumpSkip_steady
    | with_reducible apply State.dumpTake_steady
    | with_reducible apply State.modDump_steady
    | intro _ _ _
    | (extract_lets -underBinder t; refine cut_steady (t := t) ?_ (fun _ => ?_); unfold t; rotate_left; clear_value t; rotate_right)
    | extract_lets -underBinder _
    | dsimp only
    | (dsimp +zetaDelta only)
    | with_reducible apply State.Steady.upd

theorem execDumpPacket_steady (h : r.Steady s) (pl : Pl) (q : Nat) : r.SteadyOut (execDumpPacket pl q s) := by
  unfold execDumpPacket
  first
    | (refine inPlane_steady h _ _ ?_; dsimp only)
    | refine inPlane_steady h _ _ ?_
    | (refine cwWrite_steady h _ _ _ ?_; try intro t h)
    | apply next_steady
  all_goals repeat' first
    | with_reducible assumption
    | with_reducible apply ite_steady
    | split
    | with_reducible apply State.modDump_steady
    | with_reducible apply State.modSb_steady
    | exact State.popSbIn_steady (by assumption) (by assumption)
    | (refine State.popSbIn_steady ?_ (by assumption))
    | with_reducible apply State.sbMgmt_steady
    | with_reducible apply foldl_steady
    | with_reducible apply foldl_fst_steady
    | with_reducible apply foldl_snd_steady
    | intro _ _ _
    | (extract_lets -underBinder t; refine cut_steady (t := t) ?_ (fun _ => ?_); unfold t; rotate_left; clear_value t; rotate_right)
    | extract_lets -underBinder _
    | dsimp only
    | (dsimp +zetaDelta only)
    | with_reducible apply State.Steady.upd

theorem execDumpRecordWrite_steady (h : r.Steady s) (pl : Pl) (g : Nat) : r.SteadyOut (execDumpRecordWrite pl g s) := by
  unfold execDumpRecordWrite
  first
    | (refine inPlane_steady h _ _ ?_; dsimp only)
    | refine inPlane_steady h _ _ ?_
    | (refine cwWrite_steady h _ _ _ ?_; try intro t h)
    | apply next_steady
  all_goals repeat' first
    | with_reducible assumption
    | with_reducible apply ite_steady
    | split
    | with_reducible apply State.modDump_steady
    | with_reducible apply State.sbAdd_steady
    | with_reducible apply foldl_steady
    | with_reducible apply foldl_fst_steady
    | with_reducible apply foldl_snd_steady
    | intro _ _ _
    | (extract_lets -underBinder t; refine cut_steady (t := t) ?_ (fun _ => ?_); unfold t; rotate_left; clear_value t; rotate_right)
    | extract_lets -underBinder _
    | dsimp only
    | (dsimp +zetaDelta only)
    | with_reducible apply State.Steady.upd

theorem execDumpWriteRack_steady (h : r.Steady s) (pl : Pl) (q : Nat) : r.SteadyOut (execDumpWriteRack pl q s) := by
  unfold execDumpWriteRack
  first
    | (refine inPlane_steady h _ _ ?_; dsimp only)
    | refine inPlane_steady h _ _ ?_
    | (refine cwWrite_steady h _ _ _ ?_; try intro t h)
    | apply next_steady
  all_goals repeat' first
    | with_reducible assumption
    | with_reducible apply ite_steady
    | split
    | with_reducible apply State.dumpAnswered_steady
    | exact State.sbResponse_steady (by assumption) (by assumption)
    | (refine State.sbResponse_steady ?_ (by assumption))
    | intro _ _ _
    | (extract_lets -underBinder t; refine cut_steady (t := t) ?_ (fun _ => ?_); unfold t; rotate_left; clear_value t; rotate_right)
    | extract_lets -underBinder _
    | dsimp only
    | (dsimp +zetaDelta only)
    | with_reducible apply State.Steady.upd

/-! ### Machine/Power.lean -/

theorem execPowerRun_steady (h : r.Steady s) (r₀ : CwReq) (quires : BitVec 4) (device : Bool) :
    r.SteadyOut (execPowerRun r₀ quires device s) := by
  unfold execPowerRun
  first
    | (refine inPlane_steady h _ _ ?_; dsimp only)
    | refine inPlane_steady h _ _ ?_
    | (refine cwWrite_steady h _ _ _ ?_; try intro t h)
    | apply next_steady
  all_goals repeat' first
    | with_reducible assumption
    | with_reducible apply ite_steady
    | split
    | with_reducible apply State.powerCmd_steady
    | intro _ _ _
    | (extract_lets -underBinder t; refine cut_steady (t := t) ?_ (fun _ => ?_); unfold t; rotate_left; clear_value t; rotate_right)
    | extract_lets -underBinder _
    | dsimp only
    | (dsimp +zetaDelta only)
    | with_reducible apply State.Steady.upd

theorem execPowerSleep_steady (h : r.Steady s) (r₀ : CwReq) (quires : BitVec 4) (device : Bool) :
    r.SteadyOut (execPowerSleep r₀ quires device s) := by
  unfold execPowerSleep
  first
    | (refine inPlane_steady h _ _ ?_; dsimp only)
    | refine inPlane_steady h _ _ ?_
    | (refine cwWrite_steady h _ _ _ ?_; try intro t h)
    | apply next_steady
  all_goals repeat' first
    | with_reducible assumption
    | with_reducible apply ite_steady
    | split
    | with_reducible apply State.powerCmd_steady
    | intro _ _ _
    | (extract_lets -underBinder t; refine cut_steady (t := t) ?_ (fun _ => ?_); unfold t; rotate_left; clear_value t; rotate_right)
    | extract_lets -underBinder _
    | dsimp only
    | (dsimp +zetaDelta only)
    | with_reducible apply State.Steady.upd

theorem execPowerDeepSleep_steady (h : r.Steady s) (r₀ : CwReq) (quires : BitVec 4) (device : Bool) :
    r.SteadyOut (execPowerDeepSleep r₀ quires device s) := by
  unfold execPowerDeepSleep
  first
    | (refine inPlane_steady h _ _ ?_; dsimp only)
    | refine inPlane_steady h _ _ ?_
    | (refine cwWrite_steady h _ _ _ ?_; try intro t h)
    | apply next_steady
  all_goals repeat' first
    | with_reducible assumption
    | with_reducible apply ite_steady
    | split
    | with_reducible apply State.powerCmd_steady
    | intro _ _ _
    | (extract_lets -underBinder t; refine cut_steady (t := t) ?_ (fun _ => ?_); unfold t; rotate_left; clear_value t; rotate_right)
    | extract_lets -underBinder _
    | dsimp only
    | (dsimp +zetaDelta only)
    | with_reducible apply State.Steady.upd

theorem execPowerOff_steady (h : r.Steady s) (r₀ : CwReq) (quires : BitVec 4) (device : Bool) :
    r.SteadyOut (execPowerOff r₀ quires device s) := by
  unfold execPowerOff
  first
    | (refine inPlane_steady h _ _ ?_; dsimp only)
    | refine inPlane_steady h _ _ ?_
    | (refine cwWrite_steady h _ _ _ ?_; try intro t h)
    | apply next_steady
  all_goals repeat' first
    | with_reducible assumption
    | with_reducible apply ite_steady
    | split
    | with_reducible apply State.powerCmd_steady
    | intro _ _ _
    | (extract_lets -underBinder t; refine cut_steady (t := t) ?_ (fun _ => ?_); unfold t; rotate_left; clear_value t; rotate_right)
    | extract_lets -underBinder _
    | dsimp only
    | (dsimp +zetaDelta only)
    | with_reducible apply State.Steady.upd

theorem execAutoIdleEntry_steady (h : r.Steady s) (q : Nat) : r.SteadyOut (execAutoIdleEntry q s) := by
  unfold execAutoIdleEntry
  first
    | (refine inPlane_steady h _ _ ?_; dsimp only)
    | refine inPlane_steady h _ _ ?_
    | (refine cwWrite_steady h _ _ _ ?_; try intro t h)
    | apply next_steady
  all_goals repeat' first
    | with_reducible assumption
    | with_reducible apply ite_steady
    | split
    | with_reducible apply State.modQp_steady
    | intro _ _ _
    | (extract_lets -underBinder t; refine cut_steady (t := t) ?_ (fun _ => ?_); unfold t; rotate_left; clear_value t; rotate_right)
    | extract_lets -underBinder _
    | dsimp only
    | (dsimp +zetaDelta only)
    | with_reducible apply State.Steady.upd

theorem execIdleExit_steady (h : r.Steady s) (q : Nat) : r.SteadyOut (execIdleExit q s) := by
  unfold execIdleExit
  first
    | (refine inPlane_steady h _ _ ?_; dsimp only)
    | refine inPlane_steady h _ _ ?_
    | (refine cwWrite_steady h _ _ _ ?_; try intro t h)
    | apply next_steady
  all_goals repeat' first
    | with_reducible assumption
    | with_reducible apply ite_steady
    | split
    | with_reducible apply State.idleOver_steady
    | intro _ _ _
    | (extract_lets -underBinder t; refine cut_steady (t := t) ?_ (fun _ => ?_); unfold t; rotate_left; clear_value t; rotate_right)
    | extract_lets -underBinder _
    | dsimp only
    | (dsimp +zetaDelta only)
    | with_reducible apply State.Steady.upd

theorem execAutoSleepEntry_steady (h : r.Steady s) (q : Nat) : r.SteadyOut (execAutoSleepEntry q s) := by
  unfold execAutoSleepEntry
  first
    | (refine inPlane_steady h _ _ ?_; dsimp only)
    | refine inPlane_steady h _ _ ?_
    | (refine cwWrite_steady h _ _ _ ?_; try intro t h)
    | apply next_steady
  all_goals repeat' first
    | with_reducible assumption
    | with_reducible apply ite_steady
    | split
    | with_reducible apply State.quireCmd_steady
    | intro _ _ _
    | (extract_lets -underBinder t; refine cut_steady (t := t) ?_ (fun _ => ?_); unfold t; rotate_left; clear_value t; rotate_right)
    | extract_lets -underBinder _
    | dsimp only
    | (dsimp +zetaDelta only)
    | with_reducible apply State.Steady.upd

theorem execEntryClose_steady (h : r.Steady s) (q : Nat) : r.SteadyOut (execEntryClose q s) := by
  unfold execEntryClose
  first
    | (refine inPlane_steady h _ _ ?_; dsimp only)
    | refine inPlane_steady h _ _ ?_
    | (refine cwWrite_steady h _ _ _ ?_; try intro t h)
    | apply next_steady
  all_goals repeat' first
    | with_reducible assumption
    | with_reducible apply ite_steady
    | split
    | with_reducible apply State.modEntry_steady
    | with_reducible apply State.modPort_steady
    | with_reducible apply State.vacate_steady
    | with_reducible apply foldl_steady
    | with_reducible apply foldl_fst_steady
    | with_reducible apply foldl_snd_steady
    | intro _ _ _
    | (extract_lets -underBinder t; refine cut_steady (t := t) ?_ (fun _ => ?_); unfold t; rotate_left; clear_value t; rotate_right)
    | extract_lets -underBinder _
    | dsimp only
    | (dsimp +zetaDelta only)
    | with_reducible apply State.Steady.upd

theorem execEntryVacateDone_steady (h : r.Steady s) (q : Nat) : r.SteadyOut (execEntryVacateDone q s) := by
  unfold execEntryVacateDone
  first
    | (refine inPlane_steady h _ _ ?_; dsimp only)
    | refine inPlane_steady h _ _ ?_
    | (refine cwWrite_steady h _ _ _ ?_; try intro t h)
    | apply next_steady
  all_goals repeat' first
    | with_reducible assumption
    | with_reducible apply ite_steady
    | split
    | with_reducible apply State.drain_steady
    | with_reducible apply State.modEntry_steady
    | with_reducible apply State.vacate_steady
    | intro _ _ _
    | (extract_lets -underBinder t; refine cut_steady (t := t) ?_ (fun _ => ?_); unfold t; rotate_left; clear_value t; rotate_right)
    | extract_lets -underBinder _
    | dsimp only
    | (dsimp +zetaDelta only)
    | with_reducible apply State.Steady.upd

theorem execEntryDrainDone_steady (h : r.Steady s) (q : Nat) : r.SteadyOut (execEntryDrainDone q s) := by
  unfold execEntryDrainDone
  first
    | (refine inPlane_steady h _ _ ?_; dsimp only)
    | refine inPlane_steady h _ _ ?_
    | (refine cwWrite_steady h _ _ _ ?_; try intro t h)
    | apply next_steady
  all_goals repeat' first
    | with_reducible assumption
    | with_reducible apply ite_steady
    | split
    | with_reducible apply State.drain_steady
    | with_reducible apply State.modEntry_steady
    | intro _ _ _
    | (extract_lets -underBinder t; refine cut_steady (t := t) ?_ (fun _ => ?_); unfold t; rotate_left; clear_value t; rotate_right)
    | extract_lets -underBinder _
    | dsimp only
    | (dsimp +zetaDelta only)
    | with_reducible apply State.Steady.upd

theorem execEntryPark_steady (h : r.Steady s) (q : Nat) : r.SteadyOut (execEntryPark q s) := by
  unfold execEntryPark
  first
    | (refine inPlane_steady h _ _ ?_; dsimp only)
    | refine inPlane_steady h _ _ ?_
    | (refine cwWrite_steady h _ _ _ ?_; try intro t h)
    | apply next_steady
  all_goals repeat' first
    | with_reducible assumption
    | with_reducible apply ite_steady
    | split
    | with_reducible apply State.commit_steady
    | with_reducible apply State.eachPlane_steady
    | with_reducible apply State.gtDisable_steady
    | with_reducible apply State.modEntry_steady
    | with_reducible apply State.parkIslands_steady
    | with_reducible apply foldl_steady
    | with_reducible apply foldl_fst_steady
    | with_reducible apply foldl_snd_steady
    | intro _ _ _
    | (extract_lets -underBinder t; refine cut_steady (t := t) ?_ (fun _ => ?_); unfold t; rotate_left; clear_value t; rotate_right)
    | extract_lets -underBinder _
    | dsimp only
    | (dsimp +zetaDelta only)
    | with_reducible apply State.Steady.upd

theorem execEntryDrainLimit_steady (h : r.Steady s) (q : Nat) : r.SteadyOut (execEntryDrainLimit q s) := by
  unfold execEntryDrainLimit
  first
    | (refine inPlane_steady h _ _ ?_; dsimp only)
    | refine inPlane_steady h _ _ ?_
    | (refine cwWrite_steady h _ _ _ ?_; try intro t h)
    | apply next_steady
  all_goals repeat' first
    | with_reducible assumption
    | with_reducible apply ite_steady
    | split
    | with_reducible apply State.abortEntry_steady
    | with_reducible apply State.drain_steady
    | with_reducible apply State.eachPlane_steady
    | with_reducible apply State.modSb_steady
    | with_reducible apply State.vacate_steady
    | intro _ _ _
    | (extract_lets -underBinder t; refine cut_steady (t := t) ?_ (fun _ => ?_); unfold t; rotate_left; clear_value t; rotate_right)
    | extract_lets -underBinder _
    | dsimp only
    | (dsimp +zetaDelta only)
    | with_reducible apply State.Steady.upd

theorem execWakeIn_steady (h : r.Steady s) : r.SteadyOut (execWakeIn s) := by
  unfold execWakeIn
  first
    | (refine inPlane_steady h _ _ ?_; dsimp only)
    | refine inPlane_steady h _ _ ?_
    | (refine cwWrite_steady h _ _ _ ?_; try intro t h)
    | apply next_steady
  all_goals repeat' first
    | with_reducible assumption
    | with_reducible apply ite_steady
    | split
    | with_reducible apply State.wake_steady
    | intro _ _ _
    | (extract_lets -underBinder t; refine cut_steady (t := t) ?_ (fun _ => ?_); unfold t; rotate_left; clear_value t; rotate_right)
    | extract_lets -underBinder _
    | dsimp only
    | (dsimp +zetaDelta only)
    | with_reducible apply State.Steady.upd

theorem execAlarmWake_steady (h : r.Steady s) : r.SteadyOut (execAlarmWake s) := by
  unfold execAlarmWake
  first
    | (refine inPlane_steady h _ _ ?_; dsimp only)
    | refine inPlane_steady h _ _ ?_
    | (refine cwWrite_steady h _ _ _ ?_; try intro t h)
    | apply next_steady
  all_goals repeat' first
    | with_reducible assumption
    | with_reducible apply ite_steady
    | split
    | with_reducible apply State.wake_steady
    | intro _ _ _
    | (extract_lets -underBinder t; refine cut_steady (t := t) ?_ (fun _ => ?_); unfold t; rotate_left; clear_value t; rotate_right)
    | extract_lets -underBinder _
    | dsimp only
    | (dsimp +zetaDelta only)
    | with_reducible apply State.Steady.upd

theorem execMpWake_steady (h : r.Steady s) (m : Nat) : r.SteadyOut (execMpWake m s) := by
  unfold execMpWake
  first
    | (refine inPlane_steady h _ _ ?_; dsimp only)
    | refine inPlane_steady h _ _ ?_
    | (refine cwWrite_steady h _ _ _ ?_; try intro t h)
    | apply next_steady
  all_goals repeat' first
    | with_reducible assumption
    | with_reducible apply ite_steady
    | split
    | with_reducible apply State.wake_steady
    | intro _ _ _
    | (extract_lets -underBinder t; refine cut_steady (t := t) ?_ (fun _ => ?_); unfold t; rotate_left; clear_value t; rotate_right)
    | extract_lets -underBinder _
    | dsimp only
    | (dsimp +zetaDelta only)
    | with_reducible apply State.Steady.upd

theorem execQuireExitComplete_steady (h : r.Steady s) (q : Nat) (retentionOk : Bool) :
    r.SteadyOut (execQuireExitComplete q retentionOk s) := by
  unfold execQuireExitComplete
  first
    | (refine inPlane_steady h _ _ ?_; dsimp only)
    | refine inPlane_steady h _ _ ?_
    | (refine cwWrite_steady h _ _ _ ?_; try intro t h)
    | apply next_steady
  all_goals repeat' first
    | with_reducible assumption
    | with_reducible apply ite_steady
    | split
    | with_reducible apply State.deviceBack_steady
    | with_reducible apply State.idleOver_steady
    | with_reducible apply State.quireBack_steady
    | with_reducible apply State.wakeDone_steady
    | intro _ _ _
    | (extract_lets -underBinder t; refine cut_steady (t := t) ?_ (fun _ => ?_); unfold t; rotate_left; clear_value t; rotate_right)
    | extract_lets -underBinder _
    | dsimp only
    | (dsimp +zetaDelta only)
    | with_reducible apply State.Steady.upd

/-! ### Machine/Snapshots.lean -/

theorem execSnapshotTrigger_steady (h : r.Steady s) (r₀ : CwReq) : r.SteadyOut (execSnapshotTrigger r₀ s) := by
  unfold execSnapshotTrigger
  first
    | (refine inPlane_steady h _ _ ?_; dsimp only)
    | refine inPlane_steady h _ _ ?_
    | (refine cwWrite_steady h _ _ _ ?_; try intro t h)
    | apply next_steady
  all_goals repeat' first
    | with_reducible assumption
    | with_reducible apply ite_steady
    | split
    | with_reducible apply State.snapTrigger_steady
    | intro _ _ _
    | (extract_lets -underBinder t; refine cut_steady (t := t) ?_ (fun _ => ?_); unfold t; rotate_left; clear_value t; rotate_right)
    | extract_lets -underBinder _
    | dsimp only
    | (dsimp +zetaDelta only)
    | with_reducible apply State.Steady.upd

theorem execSnapshotArm_steady (h : r.Steady s) (r₀ : CwReq) : r.SteadyOut (execSnapshotArm r₀ s) := by
  unfold execSnapshotArm
  first
    | (refine inPlane_steady h _ _ ?_; dsimp only)
    | refine inPlane_steady h _ _ ?_
    | (refine cwWrite_steady h _ _ _ ?_; try intro t h)
    | apply next_steady
  all_goals repeat' first
    | with_reducible assumption
    | with_reducible apply ite_steady
    | split
    | with_reducible apply State.snapArm_steady
    | intro _ _ _
    | (extract_lets -underBinder t; refine cut_steady (t := t) ?_ (fun _ => ?_); unfold t; rotate_left; clear_value t; rotate_right)
    | extract_lets -underBinder _
    | dsimp only
    | (dsimp +zetaDelta only)
    | with_reducible apply State.Steady.upd

theorem execSnapInEdge_steady (h : r.Steady s) (m : Nat) : r.SteadyOut (execSnapInEdge m s) := by
  unfold execSnapInEdge
  first
    | (refine inPlane_steady h _ _ ?_; dsimp only)
    | refine inPlane_steady h _ _ ?_
    | (refine cwWrite_steady h _ _ _ ?_; try intro t h)
    | apply next_steady
  all_goals repeat' first
    | with_reducible assumption
    | with_reducible apply ite_steady
    | split
    | with_reducible apply State.snapTrigger_steady
    | intro _ _ _
    | (extract_lets -underBinder t; refine cut_steady (t := t) ?_ (fun _ => ?_); unfold t; rotate_left; clear_value t; rotate_right)
    | extract_lets -underBinder _
    | dsimp only
    | (dsimp +zetaDelta only)
    | with_reducible apply State.Steady.upd

theorem execSnapshotLatch_steady (h : r.Steady s) : r.SteadyOut (execSnapshotLatch s) := by
  unfold execSnapshotLatch
  first
    | (refine inPlane_steady h _ _ ?_; dsimp only)
    | refine inPlane_steady h _ _ ?_
    | (refine cwWrite_steady h _ _ _ ?_; try intro t h)
    | apply next_steady
  all_goals repeat' first
    | with_reducible assumption
    | with_reducible apply ite_steady
    | split
    | with_reducible apply State.eachPlane_steady
    | with_reducible apply State.ginc_steady
    | with_reducible apply State.gset_steady
    | with_reducible apply State.latchPlane_steady
    | with_reducible apply State.occurInfo_steady
    | intro _ _ _
    | (extract_lets -underBinder t; refine cut_steady (t := t) ?_ (fun _ => ?_); unfold t; rotate_left; clear_value t; rotate_right)
    | extract_lets -underBinder _
    | dsimp only
    | (dsimp +zetaDelta only)
    | with_reducible apply State.Steady.upd

/-! ### Machine/Observe.lean -/

theorem execReadClear_steady (h : r.Steady s) (r₀ : CwReq) (off : Nat) (ben : BitVec 64) : r.SteadyOut (execReadClear r₀ off ben s) := by
  unfold execReadClear
  first
    | (refine inPlane_steady h _ _ ?_; dsimp only)
    | refine inPlane_steady h _ _ ?_
    | (refine cwWrite_steady h _ _ _ ?_; try intro t h)
    | apply next_steady
  all_goals repeat' first
    | with_reducible assumption
    | with_reducible apply ite_steady
    | split
    | with_reducible apply State.aperRead_steady
    | with_reducible apply State.cwRead_steady
    | with_reducible apply State.eachPlane_steady
    | intro _ _ _
    | (extract_lets -underBinder t; refine cut_steady (t := t) ?_ (fun _ => ?_); unfold t; rotate_left; clear_value t; rotate_right)
    | extract_lets -underBinder _
    | dsimp only
    | (dsimp +zetaDelta only)
    | with_reducible apply State.Steady.upd

theorem execCtrValLoRead_steady (h : r.Steady s) (r₀ : CwReq) (idx : Nat) : r.SteadyOut (execCtrValLoRead r₀ idx s) := by
  unfold execCtrValLoRead
  first
    | (refine inPlane_steady h _ _ ?_; dsimp only)
    | refine inPlane_steady h _ _ ?_
    | (refine cwWrite_steady h _ _ _ ?_; try intro t h)
    | apply next_steady
  all_goals repeat' first
    | with_reducible assumption
    | with_reducible apply ite_steady
    | split
    | with_reducible apply State.cwRead_steady
    | intro _ _ _
    | (extract_lets -underBinder t; refine cut_steady (t := t) ?_ (fun _ => ?_); unfold t; rotate_left; clear_value t; rotate_right)
    | extract_lets -underBinder _
    | dsimp only
    | (dsimp +zetaDelta only)
    | with_reducible apply State.Steady.upd

theorem execSlotLoRead_steady (h : r.Steady s) (r₀ : CwReq) : r.SteadyOut (execSlotLoRead r₀ s) := by
  unfold execSlotLoRead
  first
    | (refine inPlane_steady h _ _ ?_; dsimp only)
    | refine inPlane_steady h _ _ ?_
    | (refine cwWrite_steady h _ _ _ ?_; try intro t h)
    | apply next_steady
  all_goals repeat' first
    | with_reducible assumption
    | with_reducible apply ite_steady
    | split
    | with_reducible apply State.cwRead_steady
    | intro _ _ _
    | (extract_lets -underBinder t; refine cut_steady (t := t) ?_ (fun _ => ?_); unfold t; rotate_left; clear_value t; rotate_right)
    | extract_lets -underBinder _
    | dsimp only
    | (dsimp +zetaDelta only)
    | with_reducible apply State.Steady.upd

theorem execOwnerMirrorRead_steady (h : r.Steady s) (r₀ : CwReq) (off : Nat) (ben : BitVec 64) :
    r.SteadyOut (execOwnerMirrorRead r₀ off ben s) := by
  unfold execOwnerMirrorRead
  first
    | (refine inPlane_steady h _ _ ?_; dsimp only)
    | refine inPlane_steady h _ _ ?_
    | (refine cwWrite_steady h _ _ _ ?_; try intro t h)
    | apply next_steady
  all_goals repeat' first
    | with_reducible assumption
    | with_reducible apply ite_steady
    | split
    | with_reducible apply State.cwRead_steady
    | intro _ _ _
    | (extract_lets -underBinder t; refine cut_steady (t := t) ?_ (fun _ => ?_); unfold t; rotate_left; clear_value t; rotate_right)
    | extract_lets -underBinder _
    | dsimp only
    | (dsimp +zetaDelta only)
    | with_reducible apply State.Steady.upd

/-! ### Machine/Window.lean -/

theorem execRegisterWrite_steady (h : r.Steady s) (r₀ : CwReq) (off : Nat) (b : Beat) : r.SteadyOut (execRegisterWrite r₀ off b s) := by
  unfold execRegisterWrite
  first
    | (refine inPlane_steady h _ _ ?_; dsimp only)
    | refine inPlane_steady h _ _ ?_
    | (refine cwWrite_steady h _ _ _ ?_; try intro t h)
    | apply next_steady
  all_goals repeat' first
    | with_reducible assumption
    | with_reducible apply ite_steady
    | split
    | with_reducible apply State.cwBeat_steady
    | intro _ _ _
    | (extract_lets -underBinder t; refine cut_steady (t := t) ?_ (fun _ => ?_); unfold t; rotate_left; clear_value t; rotate_right)
    | extract_lets -underBinder _
    | dsimp only
    | (dsimp +zetaDelta only)
    | with_reducible apply State.Steady.upd

theorem execW1cWrite_steady (h : r.Steady s) (r₀ : CwReq) (off : Nat) (v : W32) : r.SteadyOut (execW1cWrite r₀ off v s) := by
  unfold execW1cWrite
  first
    | (refine inPlane_steady h _ _ ?_; dsimp only)
    | refine inPlane_steady h _ _ ?_
    | (refine cwWrite_steady h _ _ _ ?_; try intro t h)
    | apply next_steady
  all_goals repeat' first
    | with_reducible assumption
    | with_reducible apply ite_steady
    | split
    | with_reducible apply State.writeWord_steady
    | intro _ _ _
    | (extract_lets -underBinder t; refine cut_steady (t := t) ?_ (fun _ => ?_); unfold t; rotate_left; clear_value t; rotate_right)
    | extract_lets -underBinder _
    | dsimp only
    | (dsimp +zetaDelta only)
    | with_reducible apply State.Steady.upd

theorem execCtrValLoWrite_steady (h : r.Steady s) (r₀ : CwReq) (idx : Nat) (lo : W32) : r.SteadyOut (execCtrValLoWrite r₀ idx lo s) := by
  unfold execCtrValLoWrite
  first
    | (refine inPlane_steady h _ _ ?_; dsimp only)
    | refine inPlane_steady h _ _ ?_
    | (refine cwWrite_steady h _ _ _ ?_; try intro t h)
    | apply next_steady
  all_goals repeat' first
    | with_reducible assumption
    | with_reducible apply ite_steady
    | split
    | with_reducible apply State.eachPlane_steady
    | with_reducible apply State.setCounter_steady
    | intro _ _ _
    | (extract_lets -underBinder t; refine cut_steady (t := t) ?_ (fun _ => ?_); unfold t; rotate_left; clear_value t; rotate_right)
    | extract_lets -underBinder _
    | dsimp only
    | (dsimp +zetaDelta only)
    | with_reducible apply State.Steady.upd

/-! ### The others -/

theorem execLockAcquire_steady (h : r.Steady s) (pl : Pl) (q vc : Nat) : r.SteadyOut (execLockAcquire pl q vc s) :=
  inPlane_steady h _ _ (State.lockRequest_steady h _ _ _ _ _ (fun _ _ _ k => State.acquire_steady k _ _ _))

theorem execLockRelease_steady (h : r.Steady s) (pl : Pl) (q vc : Nat) : r.SteadyOut (execLockRelease pl q vc s) :=
  inPlane_steady h _ _ (State.lockRequest_steady h _ _ _ _ _ (fun _ _ _ k => State.release_steady k _ _ _))

theorem execDgTailWrite_steady (h : r.Steady s) (q : CwReq) (g : Nat) (v : W32) : r.SteadyOut (execDgTailWrite q g v s) := by
  unfold execDgTailWrite
  split
  · exact cwWrite_steady h _ _ _ (fun t k => State.eachPlane_steady k _ (fun _ _ m => State.dgTail_steady m _ _ _))
  · exact next_steady h

theorem execDgEnable_steady (h : r.Steady s) (q : CwReq) (g : Nat) : r.SteadyOut (execDgEnable q g s) := by
  unfold execDgEnable
  split
  · exact cwWrite_steady h _ _ _ (fun t k => State.eachPlane_steady k _ (fun _ _ m => State.dgCtrl_steady m _ _ _))
  · exact next_steady h

theorem execDumpAcknowledge_steady (h : r.Steady s) (pl : Pl) (agent : Nat) : r.SteadyOut (execDumpAcknowledge pl agent s) := by
  refine inPlane_steady h _ _ ?_
  dsimp only
  split
  · exact h
  · next k t e =>
    have ht : r.Steady t := by
      split at e
      · exact State.takeMgmt_steady h e
      · split at e
        · exact State.takeAgent_steady h e
        · split at e
          · exact State.takeAgent_steady h e
          · cases e
    exact State.pumpHost_steady (ite_steady (State.modNi_steady (State.modDumpOut_steady ht _ _ _) _ _ _) (State.modDumpOut_steady ht _ _ _)) _ _

theorem chanWrite_steady (h : r.Steady s) (aperture : Bool) (q : CwReq) (e c off : Nat) (ben : BitVec 64) (hit : Line → Bool)
    (f : Pl → State → State) (hf : ∀ pl t, r.Steady t → r.Steady (f pl t)) : r.SteadyOut (s.chanWrite aperture q e c off ben hit f) := by
  refine next_steady (ite_steady h (ite_steady ?_ ?_))
  · exact State.eachPlane_steady h _ (fun pl t k => State.aperWrite_steady k _ _ _ _ _ _ _ pl hf)
  · exact State.chanWindow_steady h _ _ _ _ _ _ hf

theorem execChannelRegisterWrite_steady (h : r.Steady s) (aperture : Bool) (q : CwReq) (e c off : Nat) (b : Beat) :
    r.SteadyOut (execChannelRegisterWrite aperture q e c off b s) :=
  chanWrite_steady h _ _ _ _ _ _ _ _ (fun _ _ k => State.chanBeat_steady k _ _ _ _ _)

theorem execChannelStart_steady (h : r.Steady s) (aperture : Bool) (q : CwReq) (e c : Nat) : r.SteadyOut (execChannelStart aperture q e c s) :=
  chanWrite_steady h _ _ _ _ _ _ _ _ (fun _ _ k => State.chanCtrl_steady k _ _ _ _)

theorem execChannelStop_steady (h : r.Steady s) (aperture : Bool) (q : CwReq) (e c : Nat) : r.SteadyOut (execChannelStop aperture q e c s) :=
  chanWrite_steady h _ _ _ _ _ _ _ _ (fun _ _ k => State.chanCtrl_steady k _ _ _ _)

theorem execStitchRead_steady (h : r.Steady s) (pl : Pl) (p : Nat) (q : Stitch) : r.SteadyOut (execStitchRead pl p q s) :=
  atUnit_steady h _ _ (fun _ _ k => State.stitch_steady k _ _ _ _ _ _)

theorem execStitchFetch_steady (h : r.Steady s) (pl : Pl) (p : Nat) (q : Stitch) : r.SteadyOut (execStitchFetch pl p q s) :=
  atUnit_steady h _ _ (fun _ _ k => State.stitch_steady k _ _ _ _ _ _)

theorem execStitchWrite_steady (h : r.Steady s) (pl : Pl) (p : Nat) (q : Stitch) : r.SteadyOut (execStitchWrite pl p q s) :=
  atUnit_steady h _ _ (fun _ _ k => State.stitch_steady k _ _ _ _ _ _)

theorem execStitchAtomic_steady (h : r.Steady s) (pl : Pl) (p : Nat) (q : Stitch) (subop asize : Nat) :
    r.SteadyOut (execStitchAtomic pl p q subop asize s) :=
  atUnit_steady h _ _ (fun _ _ k => State.stitch_steady k _ _ _ _ _ _)

theorem execStitchFence_steady (h : r.Steady s) (pl : Pl) (p : Nat) (fcls : BitVec 4) : r.SteadyOut (execStitchFence pl p fcls s) :=
  atUnit_steady h _ _ (fun _ _ k => State.stitchFence_steady k _ _ _)

theorem execStitchMessage_steady (h : r.Steady s) (pl : Pl) (p : Nat) (m : MsgReq) : r.SteadyOut (execStitchMessage pl p m s) :=
  atUnit_steady h _ _ (fun _ _ k => State.stitchMessage_steady k _ _ _)

theorem execTrspResponse_steady (h : r.Steady s) (pl : Pl) (p ttag status : Nat) (data : Line) :
    r.SteadyOut (execTrspResponse pl p ttag status data s) :=
  atUnit_steady h _ _ (fun _ _ k => State.unitResponse_steady k _ _ _ _ _)

theorem execDiscoveryDone_steady (h : r.Steady s) (d : Discovery) : r.SteadyOut (execDiscoveryDone d s) :=
  next_steady (ite_steady (State.Steady.upd (State.setPhase_steady (State.gset_steady h _ _) _) _ _ _ _ _ _ _ _ _ _) h)

end Sys2Proof.Machine
end

