-- ==== Sys2Proof/Tests/Slice0.lean ====
section
/-!
SUPPORT. Tests: ill-formed terms that WellFormed refuses, values that the manual prints, and states that meet the hypotheses
of the statements.
-/
namespace Sys2Proof.Machine

/-- A packet waits in the service block's buffer of link 0. -/
def State.atSb (s : State) (pl : Pl) (vc : Nat) (fs : List Flit) : State :=
  s.modSb pl (fun b => { b with rx := b.rx.wr vc fs [] })
/-- A packet waits in the service block's inbox of link 0. -/
def State.atSbIn (s : State) (pl : Pl) (vc : Nat) (fs : List Flit) : State :=
  s.modSb pl (fun b => { b with inbox := b.inbox.wr vc fs [] })
/-- A packet waits in the buffer of NI `p`. -/
def State.atNi (s : State) (pl : Pl) (p vc : Nat) (fs : List Flit) : State :=
  s.modNi pl p (fun n => { n with rx := n.rx.wr vc fs [] })
/-- A packet waits in the inbox of NI `p`. -/
def State.atNiIn (s : State) (pl : Pl) (p vc : Nat) (fs : List Flit) : State :=
  s.modNi pl p (fun n => { n with inbox := n.inbox.wr vc fs [] })
/-- A packet waits in the inbox of engine `e`. -/
def State.atMulIn (s : State) (pl : Pl) (e vc : Nat) (fs : List Flit) : State :=
  s.modMul pl e (fun n => { n with inbox := n.inbox.wr vc fs [] })

end Sys2Proof.Machine

namespace Sys2Proof.Tests
set_option Elab.async false
open Sys2Proof Sys2Proof.Machine

/-! ### States to test on -/

/-- A configuration: one map record for port 48, one for port 5. -/
def img0 : Img :=
  { ok := true
    map := [{ base := 0, limit := 0xFFFFFFF, port := 48, ports := 1, ilv := 0 },
            { base := 0x10000000, limit := 0x1FFFFFFF, port := 5, ports := 1, ilv := 0 }]
    lap := 0x100000000
    qap := 0x200000000
    fap := 0x300000000
    mulAper := 0x400000000
    cwBase := 0x500000000
    tileBase := 0x600000000 }
/-- The block is done, and ports 5 and 48 are live, every island is locked. -/
def base (v : Variant) : State :=
  let s : State := { State.resetOf v with img := img0 }
  let s := s.gset rBootStatus 0x18
  let s := [5, 48].foldl (fun t p => t.modPort p (fun x => { x with live := true, ready := true })) s
  let s := s.allPlanes.foldl (fun t pl => t.modPln pl (fun x => { x with
    isl := (List.range 22).map (fun i => (i, { locked := true, coin := 256 })) })) s
  s.pset .a (bNi 5) 0x1FFFF

/-- The T96 at work. -/
def s0 : State := base .t96
/-- The T96-P at work. -/
def sp : State := base .t96p
/-- A register access at M level. -/
def rq : CwReq := { src := 5, tag := 1, vc := 3, owner := 0, priv := 3, copies := .agree }
/-- A register access at U level. -/
def ru : CwReq := { rq with priv := 0 }
/-- The outcome is this next state. -/
def ends (o : Out) (t : State) : Bool := match o with | .next u => decide (u = t) | _ => false
/-- The state after a command that answers. -/
def aft (o : Out) : State := match o with | .next u => u | _ => State.reset
/-- What `f` says of a packet that has been taken. -/
def took (t : Taken) (f : Packet → State → Bool) : Bool := match t with | some (k, u) => f k u | none => false
/-- What `f` says of a thing that is there. -/
def got {α : Type} (o : Option α) (f : α → Bool) : Bool := match o with | some x => f x | none => false
/-- The flits of a packet of these lines. -/
def pkt (h : BitVec 64) (lines : List Line) : List Flit := mkFlits h lines 0

/-! ### Stitch requests -/

/-- Two granules, at M level. -/
def st2 : Stitch := { addr := 0x1030, len := 63, owner := 0, priv := 3, cls := 1, gts := 0, esc := false,
                      beats := [{ data := 1, ben := benAll }, { data := 2, ben := benAll }] }
/-- The last byte before a page of 4 KiB, and the first after it. -/
def st4k : Stitch := { st2 with addr := 0xFFF, len := 1 }
def msg1 (priv : Nat) (tflock : Bool) : MsgReq :=
  { tflock := tflock, num := 1023, key := 7, unkeyed := tflock, owner := 3, priv := priv, beats := [5] }

theorem wit_stitchRequestsEnter : s0.runs .a = true ∧ s0.stitchReady 5 = true ∧ s0.piecesPass .a 5 kRead 0 0 st2 ∧
    s0.piecesPass .a 5 kFetch 0 0 st2 ∧ s0.piecesPass .a 5 kWrite 0 0 st2 ∧ s0.piecesPass .a 5 kAtomic 9 1 { st2 with addr := 0xFF8 } ∧
    s0.minimal = false ∧ s0.protCheck .a 5 kMessage 3 3 (s0.msgAddr (msg1 3 true)) false = none ∧
    s0.protCheck .a 5 kMessage 3 3 (s0.msgAddr (msg1 3 false)) false = none ∧
    s0.protCheck .a 5 kMessage 3 0 (s0.msgAddr (msg1 0 true)) false ≠ none := by
  unfold State.piecesPass; decide +kernel

/-- R40: bytes 0x1030 to 0x106F are two granules. -/
theorem test_granules : granules 0x1030 63 = 2 ∧ pieceAddr 0x1030 1 = 0x1040 ∧ pieceBen 0x1030 63 0 = 0xFFFF000000000000 ∧
    pieceBen 0x1030 63 1 = 0xFFFFFFFFFFFF := by decide +kernel

theorem test_stitchRead : ((aft (exec (.stitchRead .a 5 st2) s0)).ni .a 5).wait.length = 2 := by decide +kernel
theorem test_stitchAtomic_size : ((aft (exec (.stitchAtomic .a 5 { st2 with addr := 0x1000 } 2 2) s0)).ni .a 5).wait.length = 0 := by
  decide +kernel

theorem wit_stitchRequestsRefused : ¬ s0.piecesPass .a 5 kRead 0 0 st4k ∧ ¬ s0.piecesPass .a 5 kFetch 0 0 st4k ∧
    ¬ s0.piecesPass .a 5 kWrite 0 0 st4k ∧ ¬ s0.piecesPass .a 5 kAtomic 10 0 { st2 with addr := 0x1000 } ∧ s0.planes = [.a] := by
  unfold State.piecesPass; decide +kernel

/-- R41: nothing is issued, and the unit receives one refusal. -/
theorem test_refusal : ((aft (exec (.stitchRead .a 5 st4k) s0)).ni .a 5).irsp.map (·.status) = [stAlign] ∧
    ((aft (exec (.stitchRead .a 5 st4k) s0)).ni .a 5).wait = [] := by decide +kernel



/-! ### Issue and answers at the initiator -/

/-- A WRITE of one granule waits, then is issued. -/
def s1 : State := aft (exec (.stitchWrite .a 5 { st2 with addr := 0x1000 }) s0)
def s2 : State := aft (exec (.pieceIssue .a 5) s1)
/-- The same with a READ. -/
def s2r : State := aft (exec (.pieceIssue .a 5) (aft (exec (.stitchRead .a 5 { st2 with addr := 0x1000 }) s0)))
/-- An answer to tag 0 of NI 5. -/
def ans (kind st : Nat) : List Flit := pkt (mkHdr 5 48 2 kind 3 0 0 0 ||| rspHi st 0) [9]
def s3 : State := s2.atNiIn .a 5 2 (ans kRack stRetry)
/-- The twelfth loss. -/
def s3x : State := s3.modNi .a 5 (fun n => { n with out := n.out.map (fun q => { q with loss := 11 }) })
def s4 : State := { aft (exec (.retryReceived .a 5 2) s3) with slot := 2 }

theorem wit_issueAndRetry : s1.runs .a = true ∧ s1.isPort 5 = true ∧ (s1.port 5).live = true ∧ s1.pair.joining = none ∧
    (((s1.niSettle .a 5).ni .a 5).pickIssue).isSome = true ∧ ((s1.niSettle .a 5).ni .a 5).freeTag = some 0 ∧
    took (s3.popNiIn .a 5 2) (fun k u => decide (hStatus k.hdr = stRetry ∧ hKind k.hdr = kRack) &&
      got (u.answeredPiece .a 5 (hTag k.hdr)) (fun q => decide (q.tag = some (hTag k.hdr) ∧ q.loss < 11))) = true ∧
    took (s3x.popNiIn .a 5 2) (fun k u => got (u.answeredPiece .a 5 (hTag k.hdr)) (fun q => decide (11 ≤ q.loss))) = true ∧
    got ((s4.resolveAll .a 5).answeredPiece .a 5 0) (fun q => decide (q.retryAt = some 2 ∧ 2 ≤ s4.now ∧ q.resolved = true) &&
      !((s4.resolveAll .a 5).ni .a 5).gateHeld q) = true := by
  decide +kernel

/-- R85: the first reissue comes two slots later. -/
theorem test_retrySlot : ((s4.ni .a 5).out.map (·.retryAt)) = [some 2] ∧ ((s4.ni .a 5).out.map (·.loss)) = [1] := by decide +kernel
theorem test_busy : ((aft (exec (.retryReceived .a 5 2) s3x)).ni .a 5).kept = [stBusy] := by decide +kernel

def s5 : State := s2.atNiIn .a 5 2 (ans kRack stOk)
def s5r : State := s2r.atNiIn .a 5 2 (ans kRdata stOk)
/-- A fence with nothing before it. -/
def s6 : State := aft (exec (.stitchFence .a 5 15) s0)
/-- A violation record waits; the record ring lies behind port 48 and has one place. -/
def s7 : State := (s0.modNi .a 5 (fun n => { n with recQ := [77] })).pset .a (bNi 5 + 0x10) 0x40000
def s8 : State := (aft (exec (.pieceIssue .a 5) (aft (exec (.recordWrite .a 5) s7)))).atNiIn .a 5 4 (ans kRack stOk)

theorem wit_answersFencesAndRecords :
    got (s5.headResponse .a 5 2) (fun x => decide (hStatus x.1.hdr ≠ stRetry ∧ x.1.poison = false ∧ hKind x.1.hdr = kRack) &&
      got (s5.answeredPiece .a 5 (hTag x.1.hdr)) (fun q => !q.recWrite)) = true ∧
    got (s5r.headResponse .a 5 2) (fun x => decide (hStatus x.1.hdr ≠ stRetry ∧ x.1.poison = false ∧ hKind x.1.hdr = kRdata) &&
      got (s5r.answeredPiece .a 5 (hTag x.1.hdr)) (fun q => !q.recWrite)) = true ∧
    ((s6.ni .a 5).fences.find? (fun f => !(s6.ni .a 5).fenceWaits f)).isSome = true ∧
    (s7.ni .a 5).recQ = [77] ∧ (s7.ni .a 5).recOut = false ∧ bit (s7.p .a (bNi 5 + 4)) 2 = false ∧ s7.ringFull .a 5 = false ∧
    s7.target 0x40000 = .port 48 ∧
    got (s8.headResponse .a 5 4) (fun x => decide (x.2.1 = stOk) && got (s8.answeredPiece .a 5 (hTag x.1.hdr)) (fun q => q.recWrite)) = true := by
  decide +kernel

theorem test_postedError : bit (s0.p .a (bNi 5 + 0x708)) 0 = false ∧
    got (s2.answeredPiece .a 5 0) (fun q => let t := (s2.postedError .a 5 q stProt).postedError .a 5 q stAlign
      decide (bit (t.p .a (bNi 5 + 0x708)) 0 = true ∧ t.pf .a (bNi 5 + 0x708) 4 4 = stProt ∧ t.pf .a (bNi 5 + 0x70C) 0 32 = 2)) = true := by
  decide +kernel
theorem test_recordWriteRack : (aft (exec (.recordWriteRack .a 5 4) s8)).p .a (bNi 5 + 0x1C) = 1 ∧
    ((aft (exec (.recordWriteRack .a 5 4) s8)).ni .a 5).recQ = [] := by decide +kernel
theorem wit_recTailWrite : s0.writeAllowed rq (bNi 5 + 0x20) := by unfold State.writeAllowed; decide +kernel

/-! ### The target side of an NI -/

/-- A request of one granule at NI 48, which encrypts. -/
def reqAt (p vc kind asize subop : Nat) (ben : BitVec 64) (lines : List Line) : State :=
  s0.atNi .a p vc (pkt (mkHdr p 5 vc kind 3 0 7 lines.length) (cmdFlit 0x1000 0x1000 ben 1 subop asize (2 ^ 128 + 1) :: lines))
def t1 : State := reqAt 48 3 kAtomic 0 0 benAll []
/-- Eight ATOMICs on other granules are in progress. -/
def t1x : State := t1.modNi .a 48 (fun n => { n with jobs := (List.range 8).map (fun i =>
  { jobOf i { hdr := mkHdr 48 5 3 kAtomic 3 0 7 0, flits := [cmdFlit (64 * i) (64 * i) 0 1 0 0 0], poison := false } false true 0 with
    nextGran := 1 }) })
def t2 : State := aft (exec (.targetRequest .a 48 3) t1)
def t3 : State := aft (exec (.treqPresent .a 48) t2)
/-- The read of the ATOMIC has been answered. -/
def t4 : State := aft (exec (.trspResponse .a 48 0 0 5) t3)
def t5 : State := aft (exec (.atomicWriteBack .a 48 0) t4)
/-- A merged WRITE. -/
def w4 : State := aft (exec (.trspResponse .a 48 0 0 5) (aft (exec (.treqPresent .a 48) (aft (exec (.targetRequest .a 48 3)
  (reqAt 48 3 kWrite 0 0 1 [7]))))))
/-- A plain READ, presented. -/
def r3 : State := aft (exec (.treqPresent .a 48) (aft (exec (.targetRequest .a 48 1) (reqAt 48 1 kRead 0 0 benAll []))))

theorem wit_targetRequests :
    got (t1.popReq .a 48 3) (fun x => decide (hKind x.1.hdr ≤ kAtomic ∧ x.1.poison = false ∧ t1.closedFor x.1.hdr = false ∧
      t1.tombstoned .a 48 x.1.hdr 0x1000 = none ∧ (t1.ni .a 48).granuleHeld 0x1000 1 = false ∧ hKind x.1.hdr = kAtomic ∧
      (t1.ni .a 48).atomics < 8 ∧ (t1.ni .a 48).treqLoad + 1 ≤ 64)) = true ∧
    got (t1x.popReq .a 48 3) (fun x => decide (hKind x.1.hdr = kAtomic ∧ 8 ≤ (t1x.ni .a 48).atomics ∧
      (t1x.ni .a 48).granuleHeld 0x1000 1 = false)) = true ∧ (s0.port 48).poisoning = false ∧ s0.isPort 48 = true ∧
    got ((reqAt 48 1 kFence 0 0 0 []).popReq .a 48 1) (fun x => decide (hKind x.1.hdr = kFence)) = true ∧
    ((aft (exec (.pathFence .a 48 1) (reqAt 48 1 kFence 0 0 0 []))).ni .a 48).pfences.map (·.waits) = [[]] := by decide +kernel

theorem wit_targetPresentsAndMerges :
    got (t2.ni .a 48).nextDue (fun j => decide (j.phase = .rmwRead)) = true ∧ lowestFree 64 ((t2.ni .a 48).pres.map (·.ttag)) = some 0 ∧
    ((t3.ni .a 48).pres.map (fun x => (x.ttag, x.job)), (t3.ni .a 48).jobs.map (fun j => (j.id, j.phase))) = ([(0, 0)], [(0, JPhase.rmwRead)]) ∧
    ((t5.ni .a 48).pres.map (fun x => (x.ttag, x.job)), (t5.ni .a 48).jobs.map (fun j => (j.id, j.phase))) = ([(0, 0)], [(0, JPhase.rmwWrite)]) ∧
    ((r3.ni .a 48).pres.map (fun x => (x.ttag, x.job)), (r3.ni .a 48).jobs.map (fun j => (j.phase, j.got.length + 1, j.span))) =
      ([(0, 0)], [(JPhase.plain, 1, 1)]) ∧
    (t4.ni .a 48).jobs.map (fun j => (j.id, j.kind, j.phase)) = [(0, kAtomic, JPhase.rmwReady)] ∧
    (w4.ni .a 48).jobs.map (fun j => (j.id, j.kind, j.phase)) = [(0, kWrite, JPhase.rmwReady)] := by decide +kernel

/-- R52: SWAP returns the old operand. -/
theorem test_atomicAnswer : ((aft (exec (.trspResponse .a 48 0 0 0) t5)).ni .a 48).jobs = [] ∧
    (((aft (exec (.trspResponse .a 48 0 0 0) t5)).ni .a 48).tx.rd 4 []).map (fun f => (hKind f.hdr, hStatus f.hdr, hTag f.hdr)) =
      [(kRdata, stOk, 7)] := by decide +kernel
theorem test_mergeLine : mergeLine 0x1122 0x3344 1 = 0x1144 := by decide +kernel
/-- R52: signed and unsigned greatest of 0x80000000 and 1, and ADD past 2^32. -/
theorem test_atomicResult : atomicResult 6 32 0x80000000 1 0 = 1 ∧ atomicResult 8 32 0x80000000 1 0 = 0x80000000 ∧
    atomicResult 2 32 0xFFFFFFFF 2 0 = 1 ∧ atomicResult 1 32 5 5 9 = 9 ∧ atomicResult 1 32 5 6 9 = 5 := by decide +kernel



/-! ### The lock unit -/

/-- Lock 1023 belongs to owner 2. -/
def l0 : State := { s0 with img := { img0 with lockOwner := [(1023, 3)] } }
/-- A LOCK request of port 5 for lock 1023; `op` 0 acquires, 1 releases. -/
def lockReq (owner op : Nat) (s : State) : State :=
  s.atSb .a 3 (pkt (mkHdr epService 5 3 kLock 0 owner 9 0) [cmdFlit (0x100000000 + 64 * 1023) 0 0 1 op 0 0])
def lockHead (s : State) (op : Nat) (f : State → Packet → Bool) : Bool :=
  got ((s.sb .a).rx.rd 3 []).head? (fun g => decide (hKind g.hdr = kLock ∧ cSubop g.data = op ∧ s.lockNum g.data = 1023) &&
    !s.lockBehind .a 3 g) && took (s.popSb .a 0 3) (fun k u => !k.poison && f (u.expireLock .a 1023) k)
/-- The lock is HELD by port 5 for owner 2, one fc later; and BROKEN. -/
def l1 : State := { aft (exec (.lockAcquire .a 0 3) (lockReq 2 0 (l0.pset .a (rLockLimit 15) 100))) with fc := 1 }
def l2 : State := l1.modLock .a 1023 (fun l => { l with state := .broken })
def l3 : State := l1.modLock .a 1023 (fun l => { l with hold := 100 })
/-- The holder's port has fallen. -/
def l4 : State := l1.modPort 5 (fun x => { x with live := false })

theorem wit_lockRules : lockHead (lockReq 3 0 l0) 0 (fun v k => v.lockDenied 1023 k.hdr) = true ∧
    lockHead (lockReq 2 0 l0) 0 (fun v k => !v.lockDenied 1023 k.hdr && decide ((v.lock .a 1023).state ≠ .held)) = true ∧
    lockHead (lockReq 2 0 l2) 0 (fun v k => !v.lockDenied 1023 k.hdr && decide ((v.lock .a 1023).state = .broken ∧
      (v.lock .a 1023).changedAt ≠ some 1)) = true ∧
    lockHead (lockReq 2 0 l1) 0 (fun v k => !v.lockDenied 1023 k.hdr && decide ((v.lock .a 1023).state = .held)) = true ∧
    lockHead (lockReq 2 1 l1) 1 (fun v k => !v.lockDenied 1023 k.hdr && (v.lock .a 1023).heldBy k.hdr &&
      decide ((v.lock .a 1023).changedAt ≠ some 1)) = true ∧
    lockHead (lockReq 2 1 l2) 1 (fun v k => !(v.lock .a 1023).heldBy k.hdr) = true ∧
    (l2.lock .a 1023).state = .broken ∧ (l0.lock .a 1023).state = .free ∧
    (l3.lock .a 1023).state = .held ∧ l3.lockLimit .a 1023 ≤ (l3.lock .a 1023).hold ∧
    (l4.lock .a 1023).state = .held ∧ (l4.lock .a 1023).holderPort ≤ 95 ∧ (l4.port (l4.lock .a 1023).holderPort).live = false := by
  decide +kernel

theorem wit_lockFree : s0.writeAllowed rq 0x39040 := by unfold State.writeAllowed; decide +kernel
theorem test_lockRelease : ((aft (exec (.lockRelease .a 0 3) (lockReq 2 1 l1))).lock .a 1023).state = .free := by decide +kernel
theorem test_lockExpiry : ((aft (exec (.lockExpiry .a 1023) l3)).lock .a 1023).state = .broken ∧
    ((aft (exec (.lockBreak .a 1023 false) l4)).lock .a 1023).last = 5 := by decide +kernel

/-! ### Placement -/

/-- A MGMT packet for agent 5 or for the service block. -/
def mg (dest src mop marg : Nat) (lines : List Line) : List Flit :=
  pkt (mkHdr dest src 6 kMgmt 3 0 4 (lines.length - 1) ||| mgmtHi mop marg) lines
/-- Four pages from address 0x10000 on are placed. -/
def p0 : State := ((s0.pset .a rRegionLo 0x10000).pset .a rRegionPages 4).pset .a rPlcCtrl 1
def pReply (bits : Nat) : State := p0.atNiIn .a 5 6 (mg 5 epService 2 (3 + bits * 2 ^ 18) [0])
/-- A reply for engine 7 that reports a bad entry. -/
def pReplyM : State := p0.atMulIn .a 7 6 (mg 0x77 epService 2 (3 + 2 * 2 ^ 18) [0])
def pAct (act : Nat) : State := p0.atNiIn .a 5 6 (mg 5 epService 3 (3 + act * 2 ^ 18) [0])
/-- A lookup of NI 5 for page 3. -/
def pAsk : State := p0.atSbIn .a 6 (mg epService 5 1 3 [0])
/-- Page 3 is frozen at NI 5; then both fences have been answered. -/
def pFz : State := aft (exec (.lookasideFreeze .a 5) (pAct 1))
def pFz2 : State := pFz.modNi .a 5 (fun n => { n with frozen := n.frozen.map (fun f => { f with fence1 := true, fence3 := true }) })
/-- NI 48 is asked to watch page 3, and asked again. -/
def pW : State := p0.atNiIn .a 48 6 (mg 48 epService 3 (3 + 3 * 2 ^ 18) [0])
def pW2 : State := (aft (exec (.lookasideWatch .a 48) pW)).atNiIn .a 48 6 (mg 48 epService 3 (3 + 3 * 2 ^ 18) [0])

theorem wit_lookasideRules :
    took ((pReply 2).takeMgmt .a 5 2 none) (fun k _ => bit (BitVec.ofNat 20 (hMarg k.hdr)) 19) = true ∧
    took ((pReply 0).takeMgmt .a 5 2 none) (fun k u => !bit (BitVec.ofNat 20 (hMarg k.hdr)) 19 && !bit (BitVec.ofNat 20 (hMarg k.hdr)) 18 &&
      !holdsPage (u.frozenOf .a 5) (mgPage k.hdr)) = true ∧
    took (pReplyM.takeMgmt .a 0x77 2 none) (fun k _ => bit (BitVec.ofNat 20 (hMarg k.hdr)) 19) = true ∧ muleOf 0x77 = some 7 ∧
    took ((pAct 0).takeMgmt .a 5 3 (some 0)) (fun _ _ => true) = true ∧
    took (pAsk.popSbIn .a 0 6) (fun k _ => decide (hKind k.hdr = kMgmt ∧ hMop k.hdr = 1)) = true ∧
    took ((pAct 1).takeMgmt .a 5 3 (some 1)) (fun _ _ => true) = true ∧ muleOf 5 = none ∧
    (pFz2.frozenOf .a 5).any (fun f => decide (f.page = 3 ∧ f.fence1 ∧ f.fence3 ∧ f.gtTags = [] ∧ ¬f.acked)) = true ∧
    took ((pAct 2).takeMgmt .a 5 3 (some 2)) (fun _ _ => true) = true ∧
    took (pW.takeMgmt .a 48 3 (some 3)) (fun k u => !(u.ni .a 48).watch.any (fun w => decide (w.page = mgPage k.hdr)) &&
      decide ((u.ni .a 48).watch.length < 2)) = true ∧ p0.encrypts 48 = true ∧
    took (pW2.takeMgmt .a 48 3 (some 3)) (fun k u => decide ((u.ni .a 48).watch.find? (fun w => decide (w.page = mgPage k.hdr)) =
      some { page := mgPage k.hdr, dirty := 0 })) = true := by decide +kernel

/-- R132: a reply fills the lookaside. R141: two path fences go first. -/
theorem test_lookasideFill : ((aft (exec (.lookupReply .a 5) (pReply 0))).ni .a 5).look.map (·.page) = [3] ∧
    (pFz.ni .a 5).wait.map (fun q => (q.kind, q.cls, q.dest)) = [(kFence, 1, 48), (kFence, 2, 48)] := by decide +kernel

def lk (page : Nat) (pinned : Bool) : Look := { page := page, inframe := false, frame := 0, epoch := 0, pinned := pinned }
/-- R130: a fifth entry of a set displaces the one used longest ago that is not pinned. -/
theorem wit_lookasideSets : let l := [lk 0 true, lk 64 false, lk 128 true, lk 192 true]
    (l.map (·.page)).Nodup ∧ (l.filter (fun x => decide (x.page % 64 = 0))).length ≤ 4 ∧
    (lookInsert 64 l (lk 256 false)).map (·.page) = [256, 0, 128, 192] := by decide +kernel

/-- A migration of page 3 in step `n`, with engine 1. -/
def mig0 (n : Nat) : Mig :=
  { page := 3, step := n, engine := 1, newIn := true, newFrame := 2047, rounds := 0, dirty := 0, oldHome := 48, oldEpoch := 0, acks := [],
    toFreeze := [], frozen := [], fzFc := some 0, pin := false, byCmd := false, stopping := false }
def withMig (m : Mig) : State := (p0.modSb .a (fun b => { b with migs := [m] })).setChan .a 1 3 3 0
/-- An acknowledgement of NI 48 for an INVALIDATE, or for a WATCH. -/
def ackIn (s : State) (act : Nat) : State := s.atSbIn .a 6 (mg epService 48 4 (3 + act * 2 ^ 18) [0, 0])
def mW : State := ackIn (withMig { mig0 3 with acks := [(48, 0)] }) 3
/-- An acknowledgement of a FREEZE or a RELEASE is due. -/
def mA (act : Nat) : State := ackIn (withMig { mig0 4 with acks := [(48, 0)] }) act
/-- The first FREEZE lies `n` fc back, and the limit is one slot. -/
def mF (step n : Nat) : State := { (withMig { mig0 step with frozen := [5] }).pset .a (rPlcOwner 0) 4 with fc := n }
def mS : State := { withMig { mig0 4 with acks := [(5, 0)] } with fc := 4096 }
def mS2 : State := { withMig { mig0 4 with acks := [(7, 0)] } with fc := 4096 }
/-- Timed mode with no cause left, RESUME 2, and 2 clear slots. -/
def pT : State := ((s0.pset .a rResume 2).modSb .a (fun b => { b with timed := true, clearSlots := 2 }))

theorem wit_migrations :
    took ((ackIn p0 0).popSbIn .a 0 6) (fun k _ => decide (hKind k.hdr = kMgmt ∧ hMop k.hdr = 4 ∧ hMarg k.hdr / 2 ^ 18 = 0)) = true ∧
    took (mW.popSbIn .a 0 6) (fun k u => decide (hMop k.hdr = 4 ∧ hMarg k.hdr / 2 ^ 18 = 3) &&
      got (u.migOf .a (mgPage k.hdr)) (fun m => !m.stopping && m.acks.contains (hSrc k.hdr, 0))) = true ∧
    [2, 3].all (fun n => (((withMig (mig0 n)).sb .a).migs.find? (fun m => decide (m.engine = 1 ∧ (m.step = 2 ∨ m.step = 3)) && m.acks.isEmpty &&
      m.toFreeze.isEmpty && !m.stopping)).isSome) = true ∧ (withMig (mig0 2)).chanState .a 1 3 = 3 ∧
    (((withMig (mig0 5)).sb .a).migs.find? (fun m => decide (m.engine = 1 ∧ m.step = 5) && m.acks.isEmpty && m.toFreeze.isEmpty &&
      !m.stopping)).isSome = true ∧
    [1, 2].all (fun n => took ((mA n).popSbIn .a 0 6) (fun k u => decide (hMop k.hdr = 4 ∧ hMarg k.hdr / 2 ^ 18 ∈ [1, 2]) &&
      got (u.migOf .a (mgPage k.hdr)) (fun m => m.acks.contains (hSrc k.hdr, 0)))) = true ∧ (mF 5 0).chanState .a 1 3 = 3 ∧
    [(7, false), (8, true)].all (fun (n, b) => got (((mF 5 n).sb .a).migs.find? (fun m => decide (m.engine = 1 ∧ m.step = 5) && m.acks.isEmpty &&
      m.toFreeze.isEmpty && !m.stopping)) (fun m => (mF 5 n).freezeOver .a m == b)) = true ∧
    [4, 5].all (fun n => got ((mF n 8).migOf .a 3) (fun m => decide ((m.step = 4 ∨ m.step = 5) ∧ m.stopping = false ∧ m.fzFc = some 0 ∧
      (mF n 8).freezeLimit .a 3 * (mF n 8).img.w ≤ (mF n 8).fc - 0))) = true ∧ 5 ∈ mS.initiators ∧
    7 ∉ mS2.initiators ∧ got (mS2.migOf .a 3) (fun m => decide ((7, 0) ∈ m.acks ∧ 0 + 4096 ≤ mS2.fc ∧ m.step = 4)) = true ∧
    got (mS.migOf .a 3) (fun m => decide ((5, 0) ∈ m.acks ∧ 0 + 4096 ≤ mS.fc ∧ m.step = 4 ∧ m.stopping = false)) = true := by decide +kernel

theorem wit_pageCommands : bit (p0.p .a rPlcCtrl) 0 = true ∧ p0.now % 2 ^ (p0.pf .a rPolicy0 4 4 + 10) = 0 ∧
    (p0.sb .a).periodAt ≠ some p0.now ∧ p0.pair.joining = none ∧ (pT.sb .a).timed = true ∧ pT.timedCause .a = 0 ∧
    pT.pf .a rResume 0 24 ≠ 0 ∧ pT.pf .a rResume 0 24 ≤ (pT.sb .a).clearSlots ∧ bit (p0.p .a rPlcCmdStatus) 0 = false ∧
    3 < p0.regionPages .a ∧ eState (p0.entry .a 3) ≠ 2 ∧ p0.migOf .a 3 = none ∧
    eState ((p0.pageCmd 3 1 .a).entry .a 3) = 2 ∧ (s0.accessStatus rq rPlcCtrl true = stOk ∧ s0.accessStatus rq 0x20030 true = stOk) := by
  decide +kernel



/-! ### Queues and flocks -/

/-- Queue 5 of owner 0: one slot of one flit, consumed at port 5, rings behind port 48; every owner may send. -/
def q0 : State :=
  [(0, 1 + 5 * 2 ^ 13), (8, 0xFFFF), (0x10, 0x2000), (0x18, 0x3000)].foldl (fun t (o, v) => t.pset .a (bQds 5 + o) (BitVec.ofNat 32 v)) s0
/-- A message of `n` flits for queue 5 or flock 1023. -/
def msgIn (flock : Bool) (owner n : Nat) (s : State) : State :=
  s.atSb .a 5 (pkt (mkHdr epService 5 5 kMessage 0 owner 9 (n - 1) ||| (if flock then msgHi true 1023 4095 else msgHi false 5 0)) (List.replicate n 7))
/-- What holds of the message at the gate. -/
def gate (s : State) (f : State → Packet → Bool) : Bool :=
  got ((s.sb .a).rx.rd 5 []).head? (fun g => decide (hKind g.hdr = kMessage) && !s.gateBehind .a 5 g) &&
    took (s.popSb .a 0 5) (fun k u => !k.poison && f u k)
/-- What holds of queue 5 and the message, beside the rows of R166 that fail. -/
def qRows (s : State) (f : State → Packet → Bool → Bool → Bool → Bool) : Bool :=
  gate s (fun u k => !hTflock k.hdr && decide (hQueue k.hdr = 5) && f u k (u.qValid .a 5 && !u.qIsMember .a 5) (u.mayNotSend .a 5 k.hdr)
    (u.qBit .a 5 3 || u.closedOwner (u.qOwner .a 5) || !u.ringLive .a 5))
/-- The queue is full: one message is committed, HEAD is behind it. -/
def qFull : State := q0.pset .a (bQds 5 + 0x30) 1
/-- Stopped. -/
def qStop : State := q0.pset .a (bQds 5 + 0x34) 8

theorem wit_queueTailGate_queue :
    qRows (msgIn false 0 1 s0) (fun _ _ known _ _ => !known) = true ∧
    qRows (msgIn false 2 1 (q0.pset .a (bQds 5 + 8) 1)) (fun _ _ known deny _ => known && deny) = true ∧
    qRows (msgIn false 0 2 q0) (fun u _ known deny _ => known && !deny && decide (u.qSlot .a 5 < 2)) = true ∧
    qRows (msgIn false 0 1 qStop) (fun u _ known deny shut => known && !deny && decide (1 ≤ u.qSlot .a 5) && shut) = true ∧
    qRows (msgIn false 0 1 qFull) (fun u _ known deny shut => known && !deny && !shut && u.noRoom .a 5 (u.qHeadAt .a 5 true) 1) = true ∧
    qRows (msgIn false 0 1 q0) (fun u _ known deny shut => known && !deny && !shut && !u.noRoom .a 5 (u.qHeadAt .a 5 true) 1) = true := by
  decide +kernel

/-- The message has been admitted; then its two writes have been answered. -/
def q1 : State := aft (exec (.queueTailGate .a 0) (msgIn false 0 1 q0))
def ringAns (tag st : Nat) (s : State) : State := s.atSbIn .a 4 (pkt (mkHdr epService 48 4 kRack 0 0 tag 0 ||| rspHi st 0) [0])
def q2 : State := aft (exec (.ringWriteRack .a 0) (ringAns 0 stOk q1))
def q3 : State := aft (exec (.ringWriteRack .a 0) (ringAns 1 stOk q2))

/-- R167: TAIL advances after the second answer. -/
theorem test_commit : q1.qResv .a 5 = 1 ∧ q2.qTail .a 5 = 0 ∧ q3.qTail .a 5 = 1 ∧ q3.qResv .a 5 = 0 ∧ q3.qCount .a 5 = 1 := by
  decide +kernel

/-- Flock 1023 with one member, queue 5, index 31. -/
def f0 : State := (q0.pset .a (rFcfg 1023) 0x401).pset .a (bQds 5 + 4) (BitVec.ofNat 32 (1 + 1023 * 2 + 31 * 2 ^ 11 + 2 ^ 16))
/-- Its last key slot is moving. -/
def f1 : State := f0.setK .a 1023 4095 (31 + 32 + 128)
/-- The hold store is full. -/
def f2 : State := f1.modSb .a (fun b => { b with held := List.replicate 8 { flock := 1, key := 1, src := 0, tag := 0, srcOwner := 0, flits := List.replicate 64 0 } })
def fRows (s : State) (f : State → Packet → Bool → Bool) : Bool :=
  gate s (fun u k => hTflock k.hdr && decide (hFlock k.hdr = 1023 ∧ hKeyslot k.hdr = 4095) && f u k
    ((u.members .a 1023).all (fun m => !u.mayNotSend .a m.2 k.hdr && decide (hLen k.hdr + 1 ≤ u.qSlot .a m.2)) && !u.closedOwner (u.fOwner .a 1023)))

theorem wit_queueTailGate_flock :
    fRows (msgIn true 0 1 s0) (fun u _ _ => !u.fValid .a 1023) = true ∧
    fRows (msgIn true 0 1 f1) (fun u _ p => p && u.fValid .a 1023 && bit (u.kEntry .a 1023 4095) 5 && decide ((u.sb .a).holdFlits + 1 ≤ 512)) = true ∧
    fRows (msgIn true 0 1 f2) (fun u _ p => p && u.fValid .a 1023 && bit (u.kEntry .a 1023 4095) 5 && decide (512 < (u.sb .a).holdFlits + 1)) = true ∧
    fRows (msgIn true 0 1 f0) (fun u _ p => p && u.fValid .a 1023 && !bit (u.kEntry .a 1023 4095) 5 && !bit (u.kEntry .a 1023 4095) 7 &&
      decide (u.chooseMember .a 1023 true = some (31, 5)) && !u.qBit .a 5 3 && u.ringLive .a 5 && !u.noRoom .a 5 (u.qHeadAt .a 5 true) 1) = true ∧
    fRows (msgIn true 0 1 (f0.setK .a 1023 4095 (31 + 128))) (fun u _ p => p && bit (u.kEntry .a 1023 4095) 7 &&
      decide (fld (u.kEntry .a 1023 4095) 0 5 = 31 ∧ u.memberQ .a 1023 31 = some 5)) = true := by decide +kernel

theorem wit_chosenMember : f0.chooseMember .a 1023 true = some (31, 5) := by decide +kernel
theorem wit_commitsInOrder : (5 : Nat) < 16384 ∧ (q1.qdyn .a 5).adm.length < 2 ∧ (q1.qdyn .a 5).adm.map (·.waits) = [2] := by decide +kernel

/-- Queue 5 is armed with threshold 1 and a message waits; the doorbell has gone. -/
def qArm : State := (q3.pset .a (bQds 5 + 0xC) 1).pset .a (bQds 5 + 0x34) 1
def qRing : State := qArm.doorbell .a 5
def bellAns (st : Nat) : State := qRing.atSbIn .a 2 (pkt (mkHdr epService 48 2 kRack 0 0 0 0 ||| rspHi st 0) [0])
def isBell : SbPurpose → Bool := fun p => match p with | .doorbell _ => true | _ => false

theorem wit_queueEngine :
    got ((ringAns 0 stOk q1).sbResponse .a 0 4 isRing) (fun x => decide (x.2.1.purpose = .ring 5 0 ∧ x.2.2.1 = stOk) &&
      (x.2.2.2.qdyn .a 5).adm.any (fun a => decide (a.seq = 0))) = true ∧
    got ((ringAns 1 stDecode q1).sbResponse .a 0 4 isRing) (fun x => decide (x.2.1.purpose = .record 5 0 ∧ x.2.2.1 ≠ stOk)) = true ∧
    got ((bellAns stOk).sbResponse .a 0 2 isBell) (fun x => decide (x.2.1.purpose = .doorbell 5 ∧ x.2.2.1 = stOk)) = true ∧
    got ((bellAns stProt).sbResponse .a 0 2 isBell) (fun x => decide (x.2.1.purpose = .doorbell 5 ∧ x.2.2.1 ≠ stOk)) = true ∧
    qArm.qBit .a 5 0 = true ∧ qArm.qd .a 5 0xC 0 17 ≤ qArm.qCount .a 5 ∧ q0.qBit .a 5 0 = false := by decide +kernel

/-- A QOP of port 5 on queue 5. -/
def qop (op flags cnt : Nat) (s : State) : State :=
  s.atSb .a 1 (pkt (mkHdr epService 5 1 kQop 0 0 9 0) [cmdFlit (0x200000000 + 256 * 5 + 64 * op) 0 0 1 0 0 (cnt + flags * 2 ^ 32)])
def qopHead (s : State) (op : Nat) (flags : BitVec 8) : Bool :=
  got ((s.sb .a).rx.rd 1 []).head? (fun g => decide (hKind g.hdr = kQop ∧ cPaddr g.data / 64 % 4 = op ∧ BitVec.ofNat 8 (byteAt g.data 36) = flags
    ∧ (s.gateObj g).2 = 5) && !s.gateBehind .a 1 g) &&
    took (s.popSb .a 0 1) (fun k u => !k.poison && decide ((u.qdyn .a 5).qopAt ≠ some u.fc ∧ u.qopTest .a 5 k.hdr = stOk))
theorem wit_qops : qopHead (qop 1 0 0 q3) 1 0 = true ∧ qopHead (qop 2 0 1 q3) 2 0 = true ∧ qopHead (qop 2 1 1 q3) 2 1 = true ∧
    qopHead (qop 2 2 1 f0) 2 2 = true ∧ qopHead (qop 2 4 1 f0) 2 4 = true := by decide +kernel
theorem test_consume : (aft (exec (.queueConsume .a 0 1) (qop 2 0 7 q3))).qHead .a 5 = 1 := by decide +kernel
theorem wit_queueCtrl : (5 : Nat) < 16384 ∧ q0.qIsMember .a 5 = false ∧ s0.accessStatus rq (bQds 5 + 0x3C) true = stOk := by decide +kernel
theorem wit_consumeAndFlags : f0.qIsMember .a 5 = true ∧ f0.qBit .a 5 1 = false ∧ f0.qBit .a 5 2 = false ∧
    (f0.port (f0.qCons .a 5)).live = true ∧ (f0.qdyn .a 5).loss = none ∧ (f0.qSetBit .a 5 10 true).qBit .a 5 10 = true := by decide +kernel

/-- A message is committed in the member's queue, and the member is lost; its record is read. -/
def fl : State := (aft (exec (.ringWriteRack .a 0) (ringAns 1 stOk (aft (exec (.ringWriteRack .a 0) (ringAns 0 stOk
  (aft (exec (.queueTailGate .a 0) (msgIn true 0 1 f0)))))))) ).loseMember .a 5
def flAns (tag st : Nat) (s : State) : State := s.atSbIn .a 4 (pkt (mkHdr epService 48 4 kRdata 0 0 tag 0 ||| rspHi st 0) [0])
def fl2 : State := aft (exec (.redeliveryRead .a 0) (flAns 0 stOk fl))
def isRedel : SbPurpose → Bool := fun p => match p with | .redeliver _ _ => true | .redeliverRec _ _ => true | _ => false
/-- A member is lost with nothing in its queue. -/
def fl0 : State := f0.loseMember .a 5
/-- A leave has waited KEYWAIT. -/
def fk : State := { f0.modQ .a 5 (fun d => { d with leaveAt := some 1, leaveSlot := 0 }) with slot := 1 }
def fk1 : State := fk.pset .a rFlkPolicy 0x100

theorem wit_flockUpkeep : f1.keyReady .a 1023 4095 = true ∧ (f1.sb .a).firstHeld 1023 4095 = none ∧
    f0.now % 2 ^ (f0.pf .a rFlkPolicy 0 4 + 10) = 0 ∧ (f0.sb .a).rebalAt ≠ some f0.now ∧ f0.pair.joining = none ∧
    fk1.qIsMember .a 5 = true ∧ fk1.keyWaited .a 5 = true ∧ f0.qValid .a 5 = true ∧ f0.qBit .a 5 2 = false ∧
    got ((fl0.lossStep .a 5).qdyn .a 5).loss (fun l => decide (l.readsDone = true ∧ l.next = l.finish ∧ l.waitRec = false ∧
      l.waitData = false ∧ l.joinAfter = false)) = true ∧ ((fl0.lossStep .a 5).qdyn .a 5).taken = [] ∧
    got ((flAns 0 stOk fl).sbResponse .a 0 4 isRedel) (fun x => decide (x.2.1.purpose = .redeliverRec 5 0 ∧ x.2.2.1 = stOk) &&
      got (x.2.2.2.qdyn .a 5).loss (fun l => decide (l.next = 0 ∧ l.waitRec = true))) = true ∧
    got ((flAns 0 stOk fl2).sbResponse .a 0 4 isRedel) (fun x => decide (x.2.1.purpose = .redeliver 5 0) &&
      got (x.2.2.2.qdyn .a 5).loss (fun l => decide (l.next = 0 ∧ l.waitData = true))) = true ∧
    got ((flAns 0 stDecode fl).sbResponse .a 0 4 isRedel) (fun x => decide (x.2.1.purpose = .redeliverRec 5 0 ∧ x.2.2.1 ≠ stOk) &&
      got (x.2.2.2.qdyn .a 5).loss (fun l => decide (l.next = 0 ∧ l.waitRec = true))) = true := by decide +kernel




/-! ### Ports -/

theorem wit_portLife : s0.fcInSlot = 0 ∧ s0.mayRise 6 = true ∧ s0.isPort 48 = true ∧
    (s0.modPort 48 (fun x => { x with draining := true })).mayFall 48 = true ∧
    (({ s0 with fc := 16 } : State).modPort 48 (fun x => { x with poisoning := true })).mayFall 48 = true ∧
    (({ s0 with fc := 15 } : State).modPort 48 (fun x => { x with poisoning := true })).mayFall 48 = false ∧
    ((aft (exec (.portResetRequest 5) s0)).port 5).prstReq = true ∧ s0.quireClosed 0 = false ∧
    (s0.port 5).prstAck = false ∧ (s0.port 5).live = true := by decide +kernel

/-- R363: PRST_REQ at a port that is not live is acknowledged at once. -/
theorem test_portResetRequest : ((aft (exec (.portResetRequest 7) s0)).port 7).prstAck = true ∧
    ((aft (exec (.portResetRequest 5) s0)).port 5).prstAck = false ∧ ((aft (exec (.portResetRequest 5) s0)).port 5).ready = false := by
  decide +kernel
theorem test_unitDown : ((aft (exec (.unitDown 5) s2)).ni .a 5).out = [] ∧ ((aft (exec (.unitDown 5) s2)).port 5).poisoning = true := by
  decide +kernel

/-! ### The fabric -/

/-- R62: header words toward port 95, folio agent 15 and port 0, at folio 15. -/
theorem test_routeFolio : routeAt false 15 (mkHdr 95 0 1 0 0 0 0 0) = .out 5 ∧ routeAt false 15 (mkHdr 0x6F 0 1 0 0 0 0 0) = .agent ∧
    routeAt false 15 (mkHdr 0 3 1 0 0 0 0 0) = .out 7 := by decide +kernel
theorem wit_routes : (95 : Nat) < 96 ∧ (127 : Nat) < 128 ∧ (15 : Nat) ≠ 0 / 6 ∧ (3 : Nat) ≠ 0 / 24 := by decide

/-- A flit of one packet on VC0 waits at the link of port 5. -/
def n0 : State := s0.modNi .a 5 (fun n => { n with tx := n.tx.wr 0 (pkt (mkHdr 48 5 0 kRead 3 0 0 0) [1]) [] })
/-- A flit of port 5 waits at folio router 0, toward port 5, which is live, or port 4, which is not. -/
def g0 (dest : Nat) : State :=
  s0.modRouter .a false 0 (fun r => { r with buf := r.buf.wr 43 (pkt (mkHdr dest 5 3 kRead 3 0 0 0) [cmdFlit 0 0 0 1 0 0 0]) [] })
/-- The response generator of folio router 0 holds an answer. -/
def gg : State := aft (exec (.outputArbitration .a (.folio 0)) (g0 4))
/-- A credit is under way to each kind of sender. -/
def gc : State := (((s0.giveCredit .a (.niLink 5) 6 1).giveCredit .a (.mule 7) 6 1).giveCredit .a (.service 3) 6 1).giveCredit .a (.folio 15 7) 6 1
/-- The flit of `n0` has arrived at the folio router; then it has failed once, and once more. -/
def gl : State := aft (exec (.outputArbitration .a (.niLink 5)) n0)
/-- How the receiver takes the newest flit of VC0: with this payload, and the check word of payload 1. -/
def lf (d : Line) : LinkFlit := { vc := 0, back := 0, data := d, word := linkCheck (mkHdr 48 5 0 kRead 3 0 0 0) 1 }
def gl2 : State := { aft (exec (.linkCheckFailure .a (.niLink 5) (lf 2)) gl) with fc := 3 }
def gl3 : State := aft (exec (.linkRetryRequest .a (.niLink 5) 0) gl2)
/-- The flit has come over the link in plane A of a T96-P. -/
def glp : State := sp.modRouter .a false 0 (fun r => { r with buf := r.buf.wr 40 (pkt (mkHdr 48 5 0 kRead 3 0 0 0) [1]) [] })
/-- What holds of the flit that `gf` names at its receiver, and whether its check passes. -/
def failing (s : State) (gf : LinkFlit) (ok : Bool) : Bool :=
  got ((s.farFlits .a (farOf (.niLink 5)) 0)[(s.farFlits .a (farOf (.niLink 5)) 0).length - 1 - gf.back]?) (fun f =>
    decide (gf.back < (s.farFlits .a (farOf (.niLink 5)) 0).length) && (decide (linkCheck f.hdr gf.data = gf.word) == ok))

theorem wit_fabricMovesFlits : s0.isPort 5 = true ∧ s0.quireRuns 0 = true ∧ (s0.port 5).live = true ∧
    ((n0.ni .a 5).tx.rd 0 []).length = 1 ∧ (n0.ni .a 5).txUsed.rd 0 0 < 8 ∧ n0.resending .a (.niLink 5) 0 = false ∧
    (s0.qp 4).state = .run ∧ s0.quireRuns 3 = true ∧
    ((g0 5).router .a false 0).buf.rd 43 [] ≠ [] ∧ (g0 5).draining .a false 0 5 = false ∧ (g0 4).draining .a false 0 4 = true ∧
    ((gg.router .a false 0).gen.rd 4 []).length = 1 ∧ ((gg.router .a false 0).buf.rd (nOut false * 8 + 4) []) = [] ∧ vcDepth 4 = 8 ∧
    0 < (gc.ni .a 5).txCred.rd 6 0 ∧ 0 < (gc.mul .a 7).txCred.rd 6 0 ∧ 0 < (gc.sb .a).txCred.rd (3 * 8 + 6) 0 ∧
    0 < (gc.router .a false 15).cred.rd (7 * 8 + 6) 0 ∧ (gc.ni .a 4).txCred.rd 6 0 = 0 := by decide +kernel

theorem wit_linkRetry : let k := keeperOf (.niLink 5) 0
    failing gl (lf 1) true = true ∧ failing gl (lf 2) false = true ∧ gl.variant.paired = false ∧
    (gl.router .a false 0).retried.rd k.2.2 0 = 0 ∧
    (((gl.router .a false 0).hist.rd (k.2.2 / 8) []).filter (fun f => decide (hVc f.hdr = 0))).length = 1 ∧
    failing gl3 (lf 2) false = true ∧ (gl3.router .a false 0).retried.rd k.2.2 0 = 1 ∧
    ((gl2.router .a false 0).retryWait.rd k.2.2 []).map (fun f => f.since + retryFc (.niLink 5)) = [3] ∧ gl2.fc = 3 ∧
    gl2.retryWords .a (.niLink 5) = 1 ∧ failing glp (lf 2) false = true ∧ glp.pair.window = false ∧ glp.pair.faulty = none := by
  decide +kernel
/-- R253: the flit comes again; a second failure leaves it in place with POISON. -/
theorem test_linkRetry : gl2.farFlits .a (farOf (.niLink 5)) 0 = [] ∧ (gl3.farFlits .a (farOf (.niLink 5)) 0).map (·.data) = [1] ∧
    ((aft (exec (.linkCheckFailure .a (.niLink 5) (lf 2)) gl3)).farFlits .a (farOf (.niLink 5)) 0).map (·.poison) = [true] := by
  decide +kernel

/-- R70, R83: the flit to port 5 leaves; the request to port 4, which is not live, is answered with ERR_DECODE. -/
theorem test_arbitration : ((aft (exec (.outputArbitration .a (.folio 0)) (g0 5))).ni .a 5).rx.rd 3 [] ≠ [] ∧
    (((gg.router .a false 0).gen.rd 4 []).map (·.map (fun f => (hDest f.hdr, hStatus f.hdr)))) = [[(5, stDecode)]] := by decide +kernel

/-! ### Slots, islands and GT streams -/

/-- A slot has passed since reset. -/
def sl : State := { s0 with boot := { s0.boot with slotSeen := true }, slot := 0xFFFFFFFFFFFFFFFF, fcInSlot := 3 }
/-- A T96-P in which plane B lags 4 fc. -/
def slP : State := { sp with boot := { sp.boot with slotSeen := true }, img := { img0 with skew := 4 } }
/-- Phase 6 or 0, with island 20 or 21 not yet locked, `n` slots in its window. -/
def unl (i n : Nat) : State := s0.modIsl .a i (fun _ => { coin := n })
def ph6 : State := (unl 20 256).gset rBootStatus 6
def ph0 : State := (unl 21 256).gset rBootStatus 0
/-- An island that has lost its lock and meets R91 again; one of its crossings may be off. -/
def un : State := unl 19 256
def nominal : Crossing := { code := 0, results := List.replicate 16 3 }
def slow : Crossing := { code := 0, results := 4 :: List.replicate 15 3 }

theorem wit_slotsAndIslands : s0.referenceRuns = true ∧ s0.boot.slotSeen = false ∧
    sl.boot.slotSeen = true ∧ sl.referenceRuns = true ∧ slP.referenceRuns = true ∧ slP.variant.paired = true ∧ slP.img.skew ≠ 0 ∧
    s0.isIsland .a 20 = true ∧ s0.isIsland .a 21 = true ∧ s0.islLocked .a 20 = true ∧ s0.islLocked .a 21 = true ∧
    fld (((s0.pln .a).isl.rd 20 {}).copy + 1) 0 8 = fld (s0.slot + 1) 0 8 ∧
    ph6.phase = 6 ∧ ph6.lockDue .a 20 = true ∧ ph6.islLocked .a 20 = false ∧ ph0.phase ≤ 6 ∧ ph0.lockDue .a 21 = true ∧
    ph0.islLocked .a 21 = false ∧ (unl 20 255).lockDue .a 20 = false ∧
    un.islandRuns .a 19 = true ∧ un.lockDue .a 19 = true ∧ un.islLocked .a 19 = false ∧ un.phase ≠ 6 ∧ un.minimal = false ∧
    offNominal nominal = false ∧ offNominal slow = true := by decide +kernel
theorem wit_slotsAndIslands_canon : s0.Canon := by unfold State.Canon Plane.Canon Tab.wf Tab.Sorted; decide +kernel

/-- R92: the counter wraps; the rest of the slot's 8 fc passes. -/
theorem test_slotBoundary : (aft (exec .slotBoundary sl)).slot = 0 ∧ (aft (exec .slotBoundary sl)).fc = 5 ∧
    (aft (exec .slotBoundary sl)).fcInSlot = 0 := by decide +kernel
theorem test_islandUnlock : (aft (exec (.islandUnlock .a 20) s0)).evt.count.rd 372 0 = 1 ∧
    (aft (exec (.islandUnlock .a 20) s0)).gf rTiming 16 16 = 1 := by decide +kernel

/-- Stream 31 of port 5 to port 48, disabled; another stream's source is not live. -/
def gtRec (src : Nat) : GtRec :=
  { src := src, stream := 31, dest := 48, kinds := 15, rate := 256, burst := 8, lane := 0, rlane := 0, limit := 2, flags := 0 }
def gt0 : State := { s0 with img := { img0 with gt := [gtRec 5, gtRec 6] } }.pset .a (bNi 5 + 0x508) 0x80000000
/-- A released packet: one flit in slot 0, in fc 0; its release is fc 2 of slot 2, which has come; or it came late, 4 slots on. -/
def gtp (islot : Nat) : GtPkt :=
  { flits := [{ hdr := mkHdr 48 5 0 kRead 0 0 0 0 ||| reqHi 0 false islot 31, data := 0, idx := 0, poison := false, since := 0 }],
    request := true, limit := 2, lane := 0, islot := islot, late := false, nextFlit := 0 }
def gtR (islot : Nat) : State :=
  { s0 with slot := if islot = 0 then 2 else 4, fcInSlot := 2, fc := if islot = 0 then 18 else 2 }.modPort 48 (fun x => { x with gtRel := [gtp islot] })

theorem wit_gtStreams : gt0.fcInSlot = 0 ∧ gt0.now % 16 = 0 ∧ gt0.done = true ∧ (∀ r ∈ gt0.img.gt, r.src < 96 ∧ r.stream < 32) ∧
    gt0.gtMayRun .a (gtRec 5) = true ∧ gt0.gtMayRun .a (gtRec 6) = false ∧
    ((gtR 0).port 48).gtRel.find? (fun x => (gtR 0).gtDue 48 x) = some (gtp 0) ∧
    ((gtR 1).port 48).gtRel.find? (fun x => (gtR 1).gtLate 48 x) = some (gtp 1) ∧
    (∀ x ∈ ((gtR 1).port 48).gtRel, x.request = (gtp 1).request → (gtR 1).gtDue 48 x = false) ∧
    hLen (((gtp 0).flits.head?.map (·.hdr)).getD 0) = (gtp 0).nextFlit := by decide +kernel

theorem wit_releaseTime : let s := gtR 0
    0 < s.img.w ∧ (gtp 0).islot % 16 = 0 % 16 ∧ s.arrivedAt { hdr := 0, data := 0, idx := 0, poison := false, since := 0 } = (0 + 0) * s.img.w + 0 := by
  decide +kernel


/-! ### The Mule -/

/-- Channel 31 of engine 7 copies 512 bytes from 0x1000 to 0x2010, at M level, then runs. -/
def c0 : State := [(0, 0x1000), (8, 0x2010), (0x10, 512), (0x5C, 0x01000030)].foldl (fun t (o, v) => t.pset .a (bChan 7 31 + o) (BitVec.ofNat 32 v)) s0
def c1 : State := c0.chanCtrl .a 7 31 1
def c2 : State := aft (exec (.burstStart .a 7) c1)
/-- Both reads of the first burst are answered. -/
def mulAns (tag : Nat) (lines : List Line) (s : State) : State :=
  s.atMulIn .a 7 4 (pkt (mkHdr (epMule 7) 48 4 kRdata 3 0 tag (lines.length - 1) ||| rspHi stOk 0) lines)
def c3 : State := aft (exec (.muleResponse .a 7) (mulAns 0 [1, 2, 3, 4] c2))
/-- An aperture write of `d` to register `off` of channel 31 waits at the engine. -/
def ca (off : Nat) (ben : BitVec 64) (d : Line) : State := 
  let fs := pkt (mkHdr (epMule 7) 5 3 kWrite 3 0 1 1) [cmdFlit (0x400000000 + 0x2000 * 7 + 0x100 * 31 + off) 0 ben 1 0 0 0, d]
  c0.modMul .a 7 (fun m => { m with rx := m.rx.wr 3 fs [] })
/-- What holds of the aperture write that is taken. -/
def aper (off : Nat) (ben : BitVec 64) (d : Line) (hit : Line → Bool) : Bool :=
  took ((ca off ben d).aperTake .a 7 rq kWrite 31 off ben hit) (fun k u => !k.poison &&
    decide (u.chanWriteStatus .a { rq with owner := hOwner k.hdr, priv := hPriv k.hdr } 7 31 ben = stOk))
/-- A LIST side of one entry, at channel 0. -/
def cl : State := [(0, 0x1000), (8, 0x2000), (0x10, 64), (0x34, 8), (0x1C, 1), (0x5C, 0x01000030)].foldl (fun t (o, v) =>
  t.pset .a (bChan 7 0 + o) (BitVec.ofNat 32 v)) s0
def cl2 : State := aft (exec (.burstStart .a 7) (cl.chanCtrl .a 7 0 1))
/-- A page is frozen at the engine, and its fence awaits an answer. -/
def cf : State := c0.modMul .a 7 (fun m => { m with frozen := [{ page := 0, home := 48, fence1 := true, fence3 := false, gtTags := [9], acked := false }] })

theorem wit_channelRules : s0.writeAllowed rq (bChan 7 31 + 0xC0) ∧ s0.writeAllowed rq (bChan 7 31 + 0x40) := by
  unfold State.writeAllowed; decide +kernel
theorem wit_channelRules_status : (7 : Nat) < s0.variant.mules ∧ c0.chanWriteStatus .a rq 7 31 (benRange 0 4) = stOk ∧
    (s0.pset .a rPlcCtrl 1).chanWriteStatus .a rq 7 3 (benRange 0 4) = stProt ∧
    s0.minimal = false ∧ (ca 0 0 0).variant.paired = false ∧
    aper 0xC0 (benRange 60 4) 5 (fun d => decide (d = 5)) = true ∧ aper 0xC0 (benRange 60 4) 5 (fun d => decide (d = 4)) = false ∧
    aper 0x40 (benRange 0 4) 1 (fun d => bit d 0 && !bit d 1) = true ∧ aper 0x40 (benRange 0 4) 3 (fun d => bit d 1) = true ∧
    aper 0x40 (benRange 0 4) 3 (fun d => bit d 0 && !bit d 1) = false := by decide +kernel
theorem wit_channelRules_ctrl : c0.chanState .a 7 31 = 0 ∧ c0.startCheck .a 7 31 = none ∧
    (c0.sidesUsed .a 7 31).flatMap (fun d => (c0.walk .a 7 31 d).listReads d) = [] ∧
    (c0.pset .a (bChan 7 31 + 0x10) 8).startCheck .a 7 31 = some (stAlign, 4) ∧ c1.chanState .a 7 31 = 1 ∧
    (c1.chan .a 7 31).bursts = [] ∧ (c1.chan .a 7 31).listReads = [] ∧ c1.runs .a = true := by decide +kernel

/-- R214: 240 bytes to the end of the destination's 256, in a head, a middle and a tail of reads. -/
theorem wit_burstShape : c1.nextBurst .a 7 31 = some (0, 240, 0x1000, 0x2010) ∧ c1.chOp .a 7 31 ≠ 1 ∧
    sideReqs 0x2010 240 = [(0x2010, 48), (0x2040, 192)] ∧ sideReqs 0x1000 240 = [(0x1000, 192), (0x10C0, 48)] := by decide +kernel

theorem wit_burstsAndResponses : c1.quireRuns (7 / 2) = true ∧ c1.pair.joining = none ∧
    ((List.range 32).foldl (fun t c => ((t.sendLists .a 7 c).judgeLists .a 7 c).burstMeets .a 7 c) (c1.mulPump .a 7)).pickBurst .a 7 = some (0, 31) ∧
    took ((mulAns 0 [1] cl2).popMulIn .a 7 4) (fun k u => decide ((u.mul .a 7).ownerOf (hTag k.hdr) = some (0, true) ∧ k.poison = false)) = true ∧
    took ((mulAns 0 [1] c2).popMulIn .a 7 4) (fun k u => decide ((u.mul .a 7).ownerOf (hTag k.hdr) = some (31, false) ∧
      (u.mul .a 7).frozen = [])) = true ∧
    took ((mulAns 9 [1] cf).popMulIn .a 7 4) (fun k u => (u.mul .a 7).frozen.any (fun f => f.gtTags.contains (hTag k.hdr))) = true := by
  decide +kernel

/-- A burst whose writes are done, and one that has not begun to write. -/
def bu (w : Bool) : Burst := { off := 0, len := 512, sAddr := 0, dAddr := 0, reads := [], writes := [{ mkSub true true 0 512 with done := w }], writing := w }
def cd (w : Bool) : State := c1.modChan .a 7 31 (fun x => { x with bursts := [bu w] })
def cstop : State := (c1.setChan .a 7 31 2 0).modChan .a 7 31 (fun x => { x with stopCause := 3 })
theorem wit_doneAdvances : (∀ b ∈ [bu true], b.writing = true ∧ b.len ≤ okBytes b.writes) ∧ 0 < (bu false).len ∧ (bu false).writing = false ∧
    (∀ q ∈ (bu true).writes, q.done = true ∧ q.status = stOk) ∧ (∀ q ∈ (bu false).writes, q.done = false) ∧
    ((cd true).chan .a 7 31).bursts = [bu true] ∧ (cd true).chanState .a 7 31 = 1 ∧ (cd true).chOp .a 7 31 ≠ 2 ∧
    (bu true).off + (writtenScan [bu true]).2 < 2 ^ 32 ∧ c1.chMode .a 7 31 8 1 = 0 ∧
    (c1.pset .a (bChan 7 31 + 0x34) 0x100).chMode .a 7 31 8 1 = 1 ∧ (c1.pset .a (bChan 7 31 + 0x34) 0x100).chanState .a 7 31 = 1 ∧
    (cstop.chan .a 7 31).bursts = [] ∧ cstop.chanState .a 7 31 = 2 ∧ (cstop.chan .a 7 31).outstanding = false ∧
    (cstop.chan .a 7 31).failed = [] := by decide +kernel
/-- R220: DONE is 512, which is COUNT. -/
theorem test_channelDone : ((cd true).chanSettle .a 7 31).creg .a 7 31 0x48 = 512 ∧
    ((cd true).chanSettle .a 7 31).chanState .a 7 31 = 3 := by decide +kernel

/-! ### Owners -/

/-- Owner 15 is valid; its reset has been started, and stands in a step. -/
def o0 : State := (s0.gset (rOwner 15) 1).gset rResetLimit 100
def oGo : State := o0.ownerGo 15
def oStep (n slot : Nat) : State := { oGo with oreset := { step := n, owner := 15, slot := slot, ready := true }, slot := 100 }
theorem wit_ownerResetGo : s0.writeAllowed rq 0x1080 := by unfold State.writeAllowed; decide +kernel
theorem wit_ownerResets : oGo.ownerBusy = true ∧ s0.ownerBusy = false ∧ bit (s0.g (rOwner 15)) 0 = false ∧ bit (o0.g (rOwner 15)) 0 = true ∧
    (o0.gset (rEpoch 15) 0xFFFF).gf (rEpoch 15) 0 16 = 0xFFFF ∧ o0.gf (rEpoch 15) 0 16 ≠ 0xFFFF ∧
    (oStep 1 96).oreset.slot + 4 ≤ (oStep 1 96).now ∧ (oStep 1 96).fcInSlot = 0 ∧ (oStep 2 0).drainPorts 15 = [] ∧
    (oStep 2 0).drainService 15 = false ∧ (oStep 2 0).gf (rEpoch 15) 0 16 < 0xFFFF ∧ (oStep 4 0).cleanDone = true ∧
    (oStep 5 0).oreset.doneSlot + 4 ≤ (oStep 5 0).now ∧ (oStep 3 0).oreset.ready = true := by decide +kernel

/-- Port 95 still has a request of the closed owner to answer. -/
def oStall : State := (oStep 2 0).modNi .a 95 (fun n => { n with jobs :=
  [jobOf 0 { hdr := mkHdr 95 5 3 kRead 0 15 0 0, flits := [0], poison := false } false false 0] })
theorem wit_ownerResetStall : oStall.gf rResetLimit 0 24 ≠ 0 ∧ oStall.oreset.slot + oStall.gf rResetLimit 0 24 ≤ oStall.now ∧
    bit (oStall.g rOResetStatus) 11 = false ∧ oStall.drainPorts 15 = [95] := by decide +kernel
theorem test_ownerReset : oGo.gf rOResetStatus 4 4 = 15 ∧ (aft (exec .ownerClose (oStep 1 96))).closedOwner 15 = true ∧
    (aft (exec .ownerDrainDone (oStep 2 0))).gf (rEpoch 15) 0 16 = 1 ∧ (aft (exec .ownerOpen (oStep 5 0))).ownerBusy = false := by decide +kernel

/-- In phase 6 the machine key, 16, has not been derived. -/
theorem wit_keysDerived : (ph6.oreset.step = 0 ∧ ph6.phase = 6 ∧ ph6.keys.epochs.rd 16 0 = 0 ∧ ph6.test.mode = false) ∧
    ((oStep 3 0).oreset.owner = 15 ∧ ({ oStep 3 0 with oreset := { (oStep 3 0).oreset with ready := false } } : State).oreset.ready = false) := by
  decide +kernel
theorem wit_ownerKeySwitch : ({ oStep 3 0 with keys := { (oStep 3 0).keys with next := some (15, 7) } } : State).keys.next = some (15, 7) := by
  decide +kernel

/-! ### The redundant pair -/

/-- A flit of port 48 in a plane, with its check word right or wrong; as a fault brings it; as a comparator sees it. -/
def cflit (pl : Pl) (ok : Bool) (d : Line) : Flit :=
  let h := mkHdr 95 48 3 kRead 3 4 0 0
  { hdr := h, data := d, idx := 0, poison := false, since := 0, check := checkWord pl h d ^^^ (if ok then 0 else 1) }
def cfl (f : Flit) : CmpFlit := { hdr := f.hdr, data := f.data, check := f.check }
def see (f g : Flit) : Seen := { copy := f, flit := g }
/-- The comparator of port 95 stands so, in fc `n`. -/
def cm (n : Nat) (c : Cmp) : State := { sp.modCmp 95 (fun _ => c) with fc := n }
/-- Two flits have arrived; two that differ are held; plane A repeats its own. -/
def cin (a b : Flit) : State := cm 0 { delay := [(0, a)], inB := [b] }
def cw : State := aft (exec (.comparatorDecision 95 none none) (cin (cflit .a true 1) (cflit .b true 2)))
def cw1 : State := { cw with fc := 1 }
def cdv : State := { aft (exec (.comparatorReplay 95 (cfl (cflit .a true 1))) cw1) with fc := 65 }

theorem wit_comparatorRules : sp.variant.paired = true ∧ sp.isPort 95 = true ∧ (sp.cmpOf 95).testAt ≠ some sp.fc ∧
    (sp.cmpOf 95).diverged = none ∧ (cw.cmpOf 95).diverged = none ∧ (cw.cmpOf 95).stalled = true ∧ (cw.cmpOf 95).queue.length < 8 ∧
    seenOf (cw.headA 95) (some (.plane (cfl (cflit .a true 1)))) 0 ≠ none ∧ seenOf (cw.headB 95) none 0 = none ∧
    8 ≤ ((cm 0 { waitAt := some 0, queue := List.replicate 8 (0, none, none) }).cmpOf 95).queue.length ∧
    (sp.cmpOf 95).stalled = false ∧ (sp.cmpOf 95).queue = [] ∧ sp.cmpSingle 95 = none ∧
    (cm 0 { single := true }).cmpSingle 95 = some .a ∧ (cm 0 { single := true, fromB := true }).cmpSingle 95 = some .b ∧
    ((cm 1 { queue := [(0, none, none)] }).cmpOf 95).stalled = false ∧ seenOf ((cm 1 { queue := [(0, none, none)] }).headA 95) none 1 = none ∧
    seenOf ((cm 1 { queue := [(0, none, none)] }).headB 95) none 1 = none ∧ 0 + (cm 1 {}).img.skew + 1 ≤ (cm 1 {}).fc := by decide +kernel
theorem wit_comparatorRules_decide : let x := see (cflit .a true 1) (cflit .a true 1)
    let xd := see (cflit .a true 1) (cflit .a true 3)
    seenOk .a (some x) = true ∧ seenOk .a (some (see (cflit .a false 1) (cflit .a false 1))) = false ∧
    seenOk .b (some (see (cflit .b true 1) (cflit .b true 1))) = true ∧ seenOk .b (some (see (cflit .b false 1) (cflit .b false 1))) = false ∧
    sameFlit x.flit (cflit .b true 1) = true ∧ sameFlit x.flit (cflit .b true 2) = false ∧ sameFlit x.flit x.copy = true ∧
    checkPass .a xd.copy = true ∧ sameFlit xd.flit xd.copy = false ∧ checkPass .b (cflit .b true 1) = true ∧
    checkPass .b (cflit .b false 1) = false ∧ sp.runs .a = true ∧ hVc (cflit .a true 1).hdr = 3 := by decide +kernel
theorem wit_comparatorRules_replay : (cw.cmpOf 95).waitAt = some 0 ∧ (cw.cmpOf 95).copyA = some (cflit .a true 1) ∧
    (cw.cmpOf 95).copyB = some (cflit .b true 2) ∧ cw.fc < 0 + cw.img.skew + 1 ∧ 0 + cw1.img.skew + 1 ≤ cw1.fc ∧
    sameFlit (faultFlit (cfl (cflit .a true 2)) (some (cflit .a true 1)) 1) (cflit .b true 2) = true ∧
    sameFlit (faultFlit (cfl (cflit .a true 3)) (some (cflit .a true 1)) 1) (cflit .b true 2) = false ∧
    sameFlit (faultFlit (cfl (cflit .a true 3)) (some (cflit .a true 1)) 1) (cflit .a true 1) = false ∧
    sameFlit (faultFlit (cfl (cflit .a true 1)) (some (cflit .a true 1)) 1) (cflit .a true 1) = true ∧
    (cdv.cmpOf 95).diverged = some 1 ∧ 1 + 64 ≤ cdv.fc := by decide +kernel
/-- Slot 250,000 is the first due slot of the proof test. -/
def ptest (pattern : Nat) : State := { cm 0 { pattern := pattern } with slot := 250000 }
theorem wit_comparatorRules_ctrl : sp.writeAllowed rq rPairCtrl := by unfold State.writeAllowed; decide +kernel
theorem wit_comparatorRules_test : ((cm 0 { suspect := true }).cmpOf 95).suspect = true ∧ (ptest 0).variant.paired = true ∧
    (ptest 0).isPort 95 = true ∧ ((ptest 0).cmpOf 95).tests < (ptest 0).testDue ∧ (ptest 0).testSlot 95 = true ∧
    ∀ n, n < 4 → ((ptest n).cmpOf 95).testRight = true := by decide +kernel
/-- R238, R240, R244: equal copies are delivered; a divergence that stays finds plane B faulty; a failed proof test leaves the
port on plane A. -/
theorem test_comparators : let u := aft (exec (.comparatorDecision 95 none none) (cin (cflit .a true 1) (cflit .b true 1)))
    ((u.ni .a 95).rx.rd 3 []).map (·.data) = [1] ∧ (aft (exec (.divergeTimeout 95) cdv)).pair.faulty = some .b ∧
    ((aft (exec (.proofTest 95 false) (ptest 0))).cmpOf 95).single = true ∧ ((aft (exec (.proofTest 95 false) (ptest 0))).cmpOf 95).latent = true := by
  decide +kernel
/-- R235: a header's check word differs between the planes; R247, R253: the words of zeros have CRC 0. -/
theorem test_checkWords : checkWord .a 1 2 ≠ checkWord .b 1 2 ∧ kettleCrc 0 = 0 ∧ linkCheck 0 0 = 0 ∧ kettleCrc 1 = 0x1021 := by decide +kernel

/-- The window stands open; a plane has a fault noted `n` slots ago. -/
def pw1 : State := { sp with pair := { sp.pair with window := true } }
def pf4 : State := { sp with slot := 4, pair := { sp.pair with faulty := some .b, slot := 0 } }
/-- Plane B stands in a state of R246, in slot `n`. -/
def pb (st : PlState) (n : Nat) : State := { sp with slot := BitVec.ofNat 64 n, fc := 8 * n, pair := { sp.pair with b := st, window := true } }
def pJoin : State := (pb .ready 16).gset rPairCfg 0x10001
def pDrain : State := { pb .join 17 with pair := { (pb .join 17).pair with joining := some 16 } }
def pResume (ab : Bool) : State := { pb .join 160 with pair := { (pb .join 160).pair with joining := some 16, aborted := ab, resumeWait := !ab, sinceFc := 768 } }
def pAbort : State := { (pb .join 17).gset rPairCfg 0x10001 with pair := { (pb .join 17).pair with joining := some 16 } }

theorem wit_planeFaults : sp.variant.paired = true ∧ sp.runs .a = true ∧ sp.pair.window = false ∧ sp.pair.faulty = none ∧ sp.pair.joining = none ∧
    pw1.pair.window = true ∧ pw1.pair.faulty = none ∧ pw1.pair.joining = none ∧ sp.runs .b = true ∧
    (pb .sweep 9).runs .b = false ∧ (pb .sweep 9).plState .b ≠ .failed ∧ pDrain.pair.joining ≠ none ∧ pDrain.runs .a = true ∧
    pf4.pair.faulty = some .b ∧ pf4.pair.slot + 4 ≤ pf4.now ∧ pf4.fcInSlot = 0 ∧ pf4.runs .b = true := by decide +kernel
theorem wit_planeRecovery : (pb .reset 2048).outPlane = some .b ∧ (pb .reset 2048).plState .b = .reset ∧
    (pb .reset 2048).pair.since + 2048 ≤ (pb .reset 2048).now ∧ (pb .reset 2048).lockDue .b 20 = true ∧ (pb .reset 2048).offAt .b 20 = false ∧
    (pb .selftest 2400000).plState .b = .selftest ∧ (pb .selftest 2400000).pair.since + 2400000 ≤ (pb .selftest 2400000).now ∧
    (pb .sweep 26624).plState .b = .sweep ∧ (pb .sweep 26624).pair.sinceFc + 212992 + (pb .sweep 26624).pair.resent ≤ (pb .sweep 26624).fc ∧
    kettleCrc 5 ≠ kettleCrc 5 + 1 ∧
    pJoin.outPlane = some .b ∧ pJoin.mayJoin = true ∧ pDrain.plState .b = .join ∧ pDrain.pair.joining.isSome = true ∧
    pDrain.pair.aborted = false ∧ pDrain.pair.resumeWait = false ∧ (pDrain.pln (otherPl .b)).joinDrained = true ∧ pDrain.edgeDrained = true ∧
    (pResume false).fcInSlot = 0 ∧ (pResume false).now % 16 = 0 ∧ (pResume false).pair.sinceFc + 512 ≤ (pResume false).fc ∧
    (pResume true).pair.aborted = true ∧ 16 + pAbort.gf rPairCfg 16 16 ≤ pAbort.now ∧ pAbort.pair.aborted = false := by decide +kernel
theorem test_planeOut : (aft (exec .planeOut pf4)).pair.b = .reset ∧ (aft (exec .planeOut pf4)).gf rPairFaults 0 32 = 1 ∧
    (aft (exec (.selftestDone true) (pb .selftest 2400000))).pair.b = .sweep ∧
    (aft (exec .joinResume (pResume false))).pair.b = .inService ∧ (aft (exec .joinAbort pAbort)).pair.notBefore = 17 + 65536 := by decide +kernel

/-! ### Pads -/

def pad1 : State := { s0 with pads := { s0.pads with safe := 15, safePend := 5, releasePend := 2 } }
def padH : State := s0.holdPads
/-- The function of MP_1 has been switched in slot 0; its hold has begun, five slots ago. -/
def padW : State := s0.switchPad 1 4
def padS : State := { padW.beginHolds with slot := 5 }

theorem wit_pads : pad1.fcInSlot = 0 ∧ pad1.pads.safePend ≠ 0 ∧ s0.pads.held = false ∧ s0.test.mode = false ∧ s0.mpFn 1 ≠ 4 ∧
    (s0.mp 1).holdFrom = none ∧ (padW.mp 1).switchAt = some 0 ∧ padW.pads.held = false ∧ (padS.mp 1).holdFrom = some 0 ∧
    0 + 5 ≤ padS.now ∧ padS.fcInSlot = 0 ∧ padH.pads.held = true := by decide +kernel
theorem wit_pads_writes : s0.writeAllowed rq 0x210C ∧ s0.writeAllowed rq rMpFn ∧ s0.writeAllowed rq 0x200C := by
  unfold State.writeAllowed; decide +kernel
theorem test_safeOut : (aft (exec .safeOutAssert pad1)).pads.safe = 10 ∧ (pad1.pads.release 0).safe = 15 ∧
    ({ pad1.pads with safe := 0, safePend := 0 }.release 0).safe = 2 ∧ (aft (exec (.padHoldEnd 1) padS)).mp 1 = { active := 4 } := by decide +kernel

/-! ### Reset, start-up and the flash -/

def inR : State := aft (exec .deviceReset s0)
/-- A phase of start-up; the failed one shows the minimal window. -/
def ph (n : Nat) : State := (State.resetOf .t96).gset rBootStatus (BitVec.ofNat 32 n)
def bad : List (BitVec 8) := List.replicate 128 0xFF
def phM : State := aft (exec (.headersRead bad bad) (ph 2))
/-- The flash is busy with a read, or shows an address that a read may not have. -/
def flB : State := (s0.flStart 1)
theorem wit_deviceReset : s0.pw.dev ≠ .off ∧ inR.boot.inReset = true ∧ phM.inPhase 9 = true ∧ s0.inPhase 9 = false ∧ s0.flBusy = false ∧
    s0.flErrs 1 = [] ∧ flB.flBusy = true ∧ flB.boot.flOp = 1 ∧ s0.flErrs 2 = [1] := by decide +kernel
theorem wit_imgWrites : s0.writeAllowed rq 0x4020 ∧ s0.writeAllowed rq 0x4030 ∧ phM.writeAllowed { rq with src := 0 } 0x4020 := by
  unfold State.writeAllowed; decide +kernel
theorem test_deviceReset : inR.phase = 0 ∧ inR.ports = [] ∧ inR.img = {} ∧ (aft (exec .deviceResetRelease inR)).boot.inReset = false ∧
    (aft (exec (.flashCommandDone [7]) flB)).g (rFlData 0) = 7 := by decide +kernel

/-- The bytes of a header for the T96 of a 128-byte image, given SEQ (R268). -/
def hd (seq : Nat) : List (BitVec 8) :=
  ((bytesLE 4 0x49424C58 ++ bytesLE 2 1 ++ bytesLE 1 (Variant.t96.ident.toNat % 256) ++ bytesLE 1 1 ++ bytesLE 4 seq ++ bytesLE 4 128).map
    (BitVec.ofNat 8)) ++ List.replicate 112 0
/-- Phase 3: copy 0 has been read, or copy 0 in a device with DQS. -/
def ph3 : State := { ph 3 with boot := { (ph 3).boot with hdrA := hd 7, hdrB := hd 8, candidates := [0, 1], dqsMode := true } }
def ph4 : State := aft (exec (.imageReadDone (hd 7 ++ List.replicate 64 0)) ph3)
def ph5 (bytes : List (BitVec 8)) : State := { ph3.gset rBootStatus 5 with boot := { ph3.boot with bytes := bytes } }
def ph9 : State := { ph3 with boot := { ph3.boot with tried := 1 } }
/-- The last phases: every island is locked and every key is there. -/
def ph6d : State := { s0.gset rBootStatus 6 with keys := { s0.keys with epochs := (List.range 17).map (fun k => (k, 1)) } }
def ph6L : State := { (s0.gset rBootStatus 6).modIsl .a 20 (fun _ => {}) with slot := 65536 }
def ph7 (tab : Bool) : State := (s0.gset rBootStatus 7).gset rTiming (if tab then 1 else 0)
/-- The header of the table has gone, and has been answered. -/
def ph7H : State := { ph7 false with boot := { s0.boot with tableHdr := true } }

/-- The control island has locked in phase 0; discovery finds quad modes, and one that needs a non-volatile write. -/
def phC : State := (ph 0).modIsl .a 21 (fun x => { x with locked := true })
def dQuad (nv : Bool) : Discovery :=
  { signatureOk := true, minor := 6, densityLog2 := 23, quadOut := true, quadIo := true, octal := false, qeNonVolatile := nv }
theorem test_discovery : discoveryMode (dQuad false) = 2 ∧ discoveryMode (dQuad true) = 0 ∧
    (aft (exec (.discoveryDone (dQuad false)) (ph 1))).boot.densityOk = true ∧
    (aft (exec (.discoveryDone { dQuad false with densityLog2 := 22 }) (ph 1))).boot.densityOk = false := by decide +kernel
theorem wit_startup_early : phC.inPhase 0 = true ∧ phC.islLocked .a 21 = true ∧ blank 0 = true ∧ (ph 1).inPhase 1 = true ∧ (ph 2).inPhase 2 = true ∧
    (ph 2).boot.densityOk = true ∧ (hd 7).length = 128 ∧ bad.length = 128 ∧ hdrResult .t96 (hd 7) = 0 ∧ hdrResult .t96 bad = 2 ∧
    hdrSeq (hd 7) = 7 := by decide +kernel
theorem wit_startup_image : ph3.inPhase 3 = true ∧ (hd 7 ++ List.replicate 64 0).length = hdrLength ph3.copyHdr + 64 ∧ ph3.boot.dqsMode = true ∧
    ph4.inPhase 4 = true ∧ (ph5 (hd 7)).inPhase 5 = true ∧ ph3.boot.tried + 1 < ph3.boot.candidates.length ∧
    ph9.boot.candidates.length ≤ ph9.boot.tried + 1 ∧ (readImage .t96 (hd 7)).2.isSome = true := by decide +kernel
theorem wit_startup_vigen : vigenCode ph4.boot.bytes (hdrLength ph4.copyHdr) ph4.boot.digest.toNat ph4.boot.khash false ≠ 0xA5 := by decide +kernel
theorem wit_startup_late : ph6.inPhase 6 = true ∧ ph6.isIsland .a 20 = true ∧ ph6.islLocked .a 20 = false ∧ ph6d.inPhase 6 = true ∧
    ph6L.inPhase 6 = true ∧ ph6L.isIsland .a 20 = true ∧ ph6L.islLocked .a 20 = false ∧ ph6L.boot.phase6At + 65536 ≤ ph6L.now ∧
    (ph7 false).pltWritten = true ∧ (ph7 false).boot.tableHdr = false ∧ (ph7 true).boot.tableHdr = false ∧ ph7H.boot.tableHdr = true ∧
    ph7H.inPhase 7 = true ∧ ph7H.pltWritten = true ∧ bit (ph7H.g rTiming) 0 = false ∧ ph6d.islandsSettled = true ∧ ph6d.allKeys = true ∧ (ph7 false).inPhase 7 = true ∧ bit ((ph7 false).g rTiming) 0 = false ∧
    bit ((ph7 true).g rTiming) 0 = true ∧ (ph7 true).fcInSlot = 0 ∧ ((ph7 true).port 5).live = true ∧ ((ph7 true).port 5).draining = false ∧
    ((ph7 true).port 5).poisoning = false := by decide +kernel
/-- R265, R280, R283: the later copy comes first; two bad headers end start-up; DONE. -/
theorem test_startup : (aft (exec (.headersRead (hd 7) (hd 8)) (ph 2))).boot.candidates = [1, 0] ∧
    (aft (exec (.headersRead bad bad) (ph 2))).minimal = true ∧ (aft (exec .flashDqsTimeout ph3)).boot.tried = 1 ∧
    (aft (exec .applyDone (ph5 (hd 7)))).boot.tried = 1 ∧ (aft (exec .startupDone (ph7 true))).done = true := by decide +kernel

/-! ### Power -/

/-- Quire `q` stands so. -/
def qs (q : Nat) (x : QPower) : State := s0.modQp q (fun _ => x)
def qEntry (st : EStep) : QPower := { entry := some { target := .off, step := st, slot := 0, start := 0, auto := false, device := false } }
def pwOff : State := { s0 with pw := { s0.pw with dev := .off, devSupplyReq := true, devSupplyAck := false } }
def qIdle : State := (qs 3 { state := .idle, exitAt := some 0, idleSlots := 1024 }).gset rPwrPolicy 0x10002
def qIdleStay : State := (qs 3 { state := .idle, idleSlots := 1024 }).gset rPwrPolicy 0x10002
def qQuiet : State := (qs 3 { quiet := 8 }).gset rPwrPolicy 0x81
def qSpine : State := (qs 4 { quiet := 8 }).gset rPwrPolicy 0x81
/-- A GT pair enters quire 2 from port 5: the quire may not leave Run. -/
def qGt : State := { s0 with img := { img0 with gt := [{ gtRec 5 with flags := 1 }] } }

theorem wit_powerCommands_write : s0.writeAllowed rq 0x1200 := by unfold State.writeAllowed; decide +kernel
theorem wit_powerCommands : ((qs 3 (qEntry .drain)).qp 3).moving = true ∧ (s0.qp 3).state.code < PState.off.code ∧ s0.refusal 3 = none ∧
    qGt.refusal 2 = some (2, 5) ∧ (qGt.qp 2).state.code < PState.sleep.code ∧ ((qs 3 { state := .off }).qp 3).state ≠ .run ∧
    PState.run.code ≤ (s0.qp 3).state.code ∧ (s0.qp 3).state = .run ∧ (s0.qp 3).moving = false ∧
    ((List.range qGt.variant.quires).filter (fun q => decide ((qGt.qp q).state.code < PState.sleep.code) || (qGt.qp q).returning)).findSome?
      (fun q => (qGt.refusal q).map (fun x => (q, x))) = some (2, 2, 5) := by decide +kernel
/-- The entry of quire 3 has begun from Idle, with a command recorded. -/
def qEntI : State := qs 3 { qEntry .close with state := .idle, pending := some .run }
theorem wit_autoPolicy_more : qQuiet.pw.dev = .run ∧ qQuiet.pw.devTarget = none ∧ (qQuiet.qp 3).state = .run ∧ (qQuiet.qp 3).moving = false ∧
    (qSpine.qp 4).state = .run ∧ qSpine.gf rPwrPolicy 4 8 ≤ (qSpine.qp 4).quiet ∧ (qSpine.qp 4).flitSeen = false ∧
    (qIdle.qp 3).state = .idle ∧ qIdle.pw.dev = .run ∧ (qIdle.qp 3).pending = none ∧ (qIdle.qp 3).byWake = false ∧
    (qIdle.qp 4).byWake = false ∧ (qEntI.qp 3).entry.isSome = true ∧ (qIdleStay.qp 3).moving = false ∧ (qIdleStay.qp 3).state = .idle ∧
    bit (qIdleStay.g rPwrPolicy) 1 = true ∧ qIdleStay.votes 3 2 = true ∧ 3 < qIdleStay.variant.quires ∧
    1024 * qIdleStay.gf rPwrPolicy 16 16 ≤ (qIdleStay.qp 3).idleSlots := by decide +kernel
theorem wit_autoPolicy : bit (qQuiet.g rPwrPolicy) 0 = true ∧ qQuiet.done = true ∧ qQuiet.gf rPwrPolicy 4 8 ≤ (qQuiet.qp 3).quiet ∧
    (qQuiet.qp 3).flitSeen = false ∧ 3 < qQuiet.variant.quires ∧ qQuiet.quireEmpty 3 = true ∧ qQuiet.gtIn 3 = false ∧
    qQuiet.votes 3 1 = true ∧ (qSpine.qp 4).moving = false ∧ qSpine.spineEmpty = true ∧ (qIdle.qp 3).exitAt.isSome = true ∧
    bit (qIdle.g rPwrPolicy) 1 = true ∧ qIdle.votes 3 2 = true ∧ 1024 * qIdle.gf rPwrPolicy 16 16 ≤ (qIdle.qp 3).idleSlots := by decide +kernel
theorem test_power : (aft (exec (.autoIdleEntry 3) qQuiet)).qp 3 = { quiet := 8, state := .idle } ∧
    ((aft (exec (.idleExit 3) qIdle)).qp 3).state = .run ∧ (aft (exec (.powerSleep rq 4 false) qGt)).gf rPwrResult 0 4 = 2 := by decide +kernel
/-- An image of one header whose key is the base point, which signs the digest 0: r and s are the base point's x, so that the
equation's point is the base point. -/
def vSigned : List Nat :=
  bytesLE 32 0 ++ bytesLE 32 p256G.1 ++ bytesLE 32 p256G.2 ++ bytesLE 32 0 ++ bytesLE 32 p256G.1 ++ bytesLE 32 p256G.1
def phV : State :=
  { ph3.gset rBootStatus 4 with boot := { ph3.boot with
      bytes := vSigned.map (BitVec.ofNat 8), digest := 0,
      khash := BitVec.ofNat 256 (ofBytesLE (sha256 (bytesLE 32 p256G.1 ++ bytesLE 32 p256G.2))) } }
theorem wit_startup_ecdsa : ecdsaOk p256G.1 p256G.2 p256G.1 p256G.1 0 = true := by decide +kernel
theorem wit_startup_vigen_ok : phV.inPhase 4 = true ∧
    vigenCode phV.boot.bytes (hdrLength phV.copyHdr) phV.boot.digest.toNat phV.boot.khash true = 0xA5 := by decide +kernel

/-- The entry of quire 3 stands at a step that began in slot 0; it is slot 9. -/
def qe (st : EStep) : State := { (qs 3 (qEntry st)).gset rPwrLimit 9 with slot := 9 }
/-- The ports of quire 3 are closed and its lanes are quiet; the device waits for its own commit. -/
def qd : State := { s0 with slot := 9, pw := { (s0.pw) with devTarget := some .deep, devSlot := 8, q := (List.range 5).map (fun q => (q, { state := .deep, retained := 1 })) } }
theorem wit_entrySteps : (qe .close).entryAt 3 .close = (qEntry .close).entry ∧ (qe .close).fcInSlot = 0 ∧ (qe .close).ownerBusy = false ∧
    (qe .close).pair.joining = none ∧ (qe .vacate).entryAt 3 .vacate = (qEntry .vacate).entry ∧
    ((qe .vacate).vacate 3).vacating 3 = false ∧ ((qe .vacate).vacate 3).quireMoving 3 = false ∧
    (qe .drain).entryAt 3 .drain = (qEntry .drain).entry ∧ (qe .drain).livePorts 3 = [] ∧
    (qe .park).entryAt 3 .park = (qEntry .park).entry ∧ (qe .commit).entryAt 3 .commit = (qEntry .commit).entry ∧
    qd.pw.devSlot < qd.now ∧ qd.deviceReady .deep = true ∧ qd.pw.devWake = false ∧
    (qe .drain).gf rPwrLimit 0 24 ≠ 0 ∧ 0 + (qe .drain).gf rPwrLimit 0 24 ≤ (qe .drain).now ∧ ((qe .drain).qp 3).pending = none ∧
    0 < (qe .close).now ∧ 0 + 2 ≤ (qe .commit).now ∧ (qe .commit).fcInSlot = 0 ∧ (qe .park).fcInSlot = 0 ∧ qd.fcInSlot = 0 ∧
    ((qe .commit).qp 3).pending = none ∧ ((qe .vacate).qp 3).entry = (qEntry .vacate).entry ∧
    ({ qd with pw := { qd.pw with devWake := true } } : State).deviceReady .deep = true := by decide +kernel
theorem test_entry : ((aft (exec (.entryCommit 3) (qe .commit))).qp 3).state = .off ∧
    ((aft (exec (.entryPark 3) (qe .park))).islLocked .a 19) = false ∧ (aft (exec (.entryCommit 4) qd)).pw.dev = .deep ∧
    (aft (exec (.entryDrainLimit 3) (qe .drain))).gf rPwrResult 0 4 = 3 := by decide +kernel

/-- Quire 2 is out of Run by a way; slot 5000. -/
def qx (f : PState) : State := { (qs 2 { state := f, exitFrom := f, exitAt := some 0, supplyReq := true, supplyAck := false, retained := 3 }) with
  slot := 4000000, keys := ph6d.keys }
def dx : State := { s0 with slot := 4000000, keys := ph6d.keys, pw := { s0.pw with dev := .off, devFrom := .off, devExitAt := some 0, devSupplyReq := true, devSupplyAck := false } }
/-- An alarm in slot 9; MP_1 is the wake pin. -/
def wk : State := { ((s0.gset rWakeCtrl 0x10F).gset rAlarmLo 9).modMp 1 (fun x => { x with active := 4 }) with slot := 9 }
/-- Quire 2 is Off and WAKE_CTRL names it; the spine-link island returns from Idle. -/
def qOff2 : State := (qs 2 { state := .off, supplyReq := false }).gset rWakeCtrl 4
def q4x : State := { (qs 4 { state := .idle, exitFrom := .idle, exitAt := some 0 }) with slot := 2 }
theorem wit_wakeAndReturn : s0.wakeable = true ∧ bit (wk.g rWakeCtrl) 8 = true ∧ wk.now = (wk.g rAlarmLo).toNat + (wk.g rAlarmHi).toNat * 2 ^ 32 ∧
    wk.mpArmed 1 4 = true ∧ s0.pw.devTarget = none ∧ (((qx .off).gset rWakeCtrl 4).gf rWakeCtrl 2 1) = 1 ∧ ((qs 2 { state := .off, supplyReq := false }).qp 2).moving = false ∧
    ((qx .off).qp 2).supplyReq = true ∧ ((qx .off).qp 2).supplyAck = false ∧ dx.pw.devSupplyReq = true ∧
    (qx .deep).pw.devExitAt = none ∧ 0 + (qx .deep).quireTime 2 ((qx .deep).mustReload 2 true) ≤ (qx .deep).now ∧ (qx .deep).allKeys = true ∧
    0 + dx.deviceTime ≤ dx.now ∧ dx.allKeys = true ∧ (qx .sleep).mustReload 2 true = true ∧
    ((qx .off).qp 2).entry = none ∧ (qOff2.qp 2).moving = false ∧ (qOff2.qp 2).state ≠ .run ∧ (qOff2.qp 2).entry = none ∧ qOff2.gf rWakeCtrl 2 1 = 1 ∧
    qOff2.pw.dev = .run ∧ ((qs 4 { state := .idle }).qp 4).state = .idle ∧ ((qs 4 { state := .idle }).qp 4).exitAt = none ∧
    (qx .idle).fcInSlot = 0 ∧ ((qx .idle).qp 2).exitAt = some 0 ∧ 0 + (qx .idle).quireTime 2 ((qx .idle).mustReload 2 true) ≤ (qx .idle).now ∧
    ((qx .deep).qp 2).pending = none ∧ q4x.fcInSlot = 0 ∧ q4x.pw.devExitAt = none ∧ (q4x.qp 4).exitAt = some 0 ∧ 0 + 2 ≤ q4x.now ∧
    dx.pw.devExitAt = some 0 ∧ dx.fcInSlot = 0 ∧ dx.pw.dev = .off ∧ dx.pw.devSupplyAck = false := by decide +kernel
theorem test_wake : (aft (exec .alarmWake wk)).gf rWakeStatus 1 1 = 1 ∧ ((aft (exec (.quireExitComplete 2 true) (qx .deep))).qp 2).state = .run ∧
    (aft (exec (.supplyAck true 4) dx)).done = false ∧ (aft (exec (.quireExitComplete 4 true) dx)).pw.dev = .run := by decide +kernel

/-! ### Events -/

/-- Source 500 is asked for by a line and by a message, and has occurred twice. -/
def ev0 : State := ((s0.gset (rSrcCfg 500) 0xFFFF3C2F).occur 500).occur 500
/-- Its message is being formed; it has been sent; it is on hold. -/
def evS : State := aft (exec .emitterSelect ev0)
def evF : State := aft (exec .eventHandoff evS)
def evH : State := { ev0.evAnswered 500 stBusy with slot := 256 }
/-- The answer to the message has come to the service block. -/
def evA : State := evF.atSbIn .a 2 (pkt (mkHdr 100 48 2 kRack 2 0 0 0 ||| reqHi 0 false 0 0) [0])
theorem wit_events : s0.writeAllowed rq 0x9204 ∧ s0.writeAllowed rq 0x9200 := by unfold State.writeAllowed; decide +kernel
theorem wit_events_counts : ev0.evCount 500 = 2 ∧ ev0.evState 500 = .pending ∧ evS.evState 500 = .sent ∧ evH.evState 500 = .hold ∧
    2 - min (max 1 1) 2 ≠ 0 ∧ ev0.evPick = some 500 ∧ ev0.evt.forming = none ∧ ev0.evt.inflight < 8 ∧
    evS.evt.forming = some 500 ∧ evS.evt.toSend.getLast?.map (·.1) = some 500 ∧ evH.evt.holdTill.rd 500 0 ≤ evH.now ∧
    ev0.summary.testBit 7 = true ∧ 0x1000 % 4 = 0 := by decide +kernel
theorem test_events : (evS.evtAck 500 1).evt.queue.head? = some 500 ∧ (ev0.evtAck 500 0).evCount 500 = 1 ∧
    (aft (exec (.eventHoldExpiry 500) evH)).evState 500 = .pending ∧ ev0.regWord .a rEvtStatus = 128 := by decide +kernel

/-- The answer to the message of source 500, whose WRITE has tag 0. -/
def evB : State := evF.atSbIn .a 2 (pkt (mkHdr epService 48 2 kRack 0 0 0 0 ||| rspHi stBusy 0) [0])
theorem wit_eventDelivery : evF.runs .a = true ∧ got (evB.sbResponse .a 0 2 isEvent) (fun x => decide (x.2.1.purpose = .event 500 ∧ x.2.2.1 = stBusy) &&
    decide (Pl.a = x.2.2.2.lead)) = true := by decide +kernel
theorem test_eventDelivery : (aft (exec (.eventDeliveryRack .a 0) evB)).evState 500 = .hold ∧
    (aft (exec (.eventDeliveryRack .a 0) evB)).gf rDelivErr 0 32 = 1 := by decide +kernel

/-! ### Registers and counters -/

/-- The low word of region 15 of NI 95 is staged, as is the upper half of counter 999. -/
def stg : State := s0.modPln .a (fun x => { x with stage := (x.stage.ins (bNi 95 + 0x11E0) 5).ins (ctrBase 999 + 8) 0x1234FFFF })
/-- U may read owner 3's slice. -/
def sMir : State := s0.pset .a rGrant 0x80
def r3u : CwReq := { ru with owner := 3 }
/-- Two words of one beat. -/
def bt : Beat := { data := 0x7_00000009, ben := 0xFF }
theorem wit_registerWrites : s0.windowTakes rq = true ∧ s0.writeStatus rq 0x1F20 bt.ben = stOk ∧
    (stg.pln .a).stage.find (ctrBase 999 + 8) = some 0x1234FFFF ∧ (stg.pln .a).stage.find (bNi 95 + 0x11E0 + 0) = some 5 ∧
    (s0.writeStatus rq 0x1F20 1 = stAlign ∧ s0.writeStatus ru 0x1F20 0xF = stProt) := by decide +kernel
theorem wit_registerWrites_off : s0.writeAllowed rq (0x4030 / 4 * 4) ∧ s0.writeAllowed rq (regionOff (.mul 7) 15 + 16) ∧
    s0.writeAllowed rq (ctrBase 999 + 4) := by unfold State.writeAllowed; decide +kernel
theorem test_regionCommit : (stg.commitRegion (bNi 95 + 0x11E0) 0xFFFFFFFF .a).p .a (bNi 95 + 0x11E0) = 5 ∧
    (stg.commitRegion (bNi 95 + 0x11E0) 0xFFFFFFFF .a).p .a (bNi 95 + 0x11F0) = 0x3F1F ∧
    (((stg.setCounter 999 1 .a).pln .a).ctr.rd 999 0) = 0xFFFF00000001 := by decide +kernel

theorem wit_registerReads : s0.aperWaits rq 0x1F20 0xFF = false ∧ s0.readAllowed rq 0x1F20 0xFF ∧ sMir.readAllowed r3u 0x930100 0xFF ∧
    s0.readAllowed rq (ctrBase 999 + 4) (benRange ((ctrBase 999 + 4) % 64) 4) ∧ s0.readAllowed rq 0x1F00 (benRange 0 4) ∧
    (rowOf 0x20010).isSome = true ∧ ctrOf 0x20010 = none ∧ planeBlock 0x20010 = true ∧ (rowOf 0x1210).isSome = true ∧
    ctrOf 0x1210 = none ∧ planeBlock 0x1210 = false ∧ s0.rcIncs .a 0x20010 = [] ∧ s0.rcIncs .a 0x1210 = [] ∧
    (s0.pinc .a rTableErr 0 16 1).rcIncs .a rTableErr = [(0, 16, 0, 1)] ∧ (s0.ginc rDelivErr 0 32 1).rcIncs .a rDelivErr = [(0, 32, 0, 1)] := by unfold State.readAllowed; decide +kernel
/-- A request whose copies differ. -/
def rqD : CwReq := { rq with copies := .differ }
theorem wit_refused : s0.beatStatus rq 0xFF0000 0xF false = stDecode ∧ s0.writeStatus ru 0x1F20 0xF = stProt ∧ s0.minimal = false ∧
    inBlock .t96 0xFF0000 = false ∧ rq.copies ≠ .differ ∧ ru.priv ≠ 3 ∧ s0.aperWaits rq 0xFF0000 0xF = false ∧
    s0.windowTakes rq = true ∧ sp.windowTakes rqD = true ∧ sp.cwPoison rqD = true ∧ s0.mOk s0.lead 6 = false ∧ s0.mOk s0.lead rq.src = true := by decide +kernel
/-- R12: a bit set in the fc of a write of 1 stays; a count of the fc of a read stays. -/
theorem test_sameFc : ((rowOf 0x40054).map (fun x => x.written 3 0xFFFF 2)) = some 2 ∧
    ((s0.ginc rDelivErr 0 32 1).readWord .a rDelivErr).1 = 0 ∧ ((s0.ginc rDelivErr 0 32 1).readWord .a rDelivErr).2.g rDelivErr = 1 := by
  decide +kernel
/-- R326: the high half beside a low one; SLOT_HI beside SLOT_LO. -/
theorem test_reads : (({ s0 with slot := 0x700000009 } : State).readWord .a 0x1F00).1 = 9 ∧
    (aft (exec (.slotLoRead rq) { s0 with slot := 0x700000009 })).g rSlotHi = 7 ∧ (stFirstOf [stBusy, stDecode, stOk]) = stDecode := by
  decide +kernel

/-- The counters 0 and 1 are full and chained; OVF is clear. -/
def ctF : State := ((s0.modPln .a (fun x => { x with ctr := (x.ctr.wr 0 0xFFFFFFFFFFFF 0).wr 1 0xFFFFFFFFFFFF 0 })).pset .a (ctrBase 0) 0x20000).pset .a
  (ctrBase 1) 0x10000
theorem wit_counters : 2 ^ 48 ≤ ((ctF.pln .a).ctr.rd 0 0).toNat + 1 ∧ bit (ctF.p .a (ctrBase 0)) 17 = true ∧
    bit (ctF.p .a (ctrBase 1)) 16 = true ∧ 0 + 1 < (hostOf 0).1 + (hostOf 0).2 ∧ (hostOf 1).1 < 1 ∧
    ((s0.pln .a).ctr.rd 999 0).toNat + 1 < 2 ^ 48 ∧ bit (s0.p .a (ctrBase 7)) 17 = false ∧ (hostOf 7).1 + (hostOf 7).2 ≤ 7 + 1 := by decide +kernel
/-- R325: both counters wrap and set OVF. -/
theorem test_counters : ((State.ctrAdd 3 ctF .a 0 1).pln .a).ctr.rd 0 0 = 0 ∧ ((State.ctrAdd 3 ctF .a 0 1).pln .a).ctr.rd 1 0 = 0 ∧
    bit ((State.ctrAdd 3 ctF .a 0 1).p .a (ctrBase 1)) 31 = true := by decide +kernel
theorem wit_saturation : (s0.ginc rDelivErr 0 32 (2 ^ 33)).gf rDelivErr 0 32 = 2 ^ 32 - 1 ∧ 0 + 32 ≤ 32 := by decide +kernel

/-! ### The mirror and the dumps -/

/-- Owner 15 counts at counter 7 of port 95; the mirror holds its value, with the overflow flag. -/
def mi : State := (s0.pset .a (ctrBase 767) 0x1F00000).modSb .a (fun b => { b with mirror := b.mirror.wr 767 0x1000000000005 0 })
/-- Port 94 is for owner 2 alone. -/
def mi2 : State := mi.pset .a (bNi 94) 4
theorem wit_mirror : bit (mi.p .a (ctrBase 767)) 24 = true ∧ fld (mi.p .a (ctrBase 767)) 20 4 = 15 ∧
    bit (mi2.p .a (ctrBase 752)) 24 = false ∧ mi2.pf .a (bNi 94) 0 16 = 2 ^ 2 ∧ mi2.pf .a (bNi 94) 16 1 = 0 ∧
    bit (mi2.p .a (ctrBase 8)) 24 = false ∧ mi2.pf .a (bNi 1) 0 16 ≠ 2 ^ 2 := by decide +kernel
theorem test_mirror : mi.sliceWord .a (0x900000 + 0x10000 * 15 + 0x100 * 96 + 8 * 7) = 5 ∧
    mi.sliceWord .a (0x900000 + 0x10000 * 15 + 0x100 * 96 + 8 * 7 + 4) = 0x10000 ∧
    mi.sliceWord .a (0x900000 + 0x10000 * 14 + 0x100 * 96 + 8 * 7) = 0 := by decide +kernel

/-- The mirror is due in slot 512; NI 5 still holds its last latch. -/
def md : State := (({ s0 with slot := 512 } : State).pset .a rMirror 0x20001).modNi .a 5 (fun n => { n with mirrorLatch := [1] })
/-- A transfer of the counters `i` on of NI 5 for group `g`, 8 standing for the mirror. -/
def xfer (s : State) (g i : Nat) : State := s.atSbIn .a 6 (mg epService 5 5 (g + 16 * i + 2 ^ 14 * 7) [7])
/-- Its acknowledgement comes to NI 5. -/
def xack : State := md.atNiIn .a 5 6 (mg 5 epService 6 (8 + 16 * 40) [0])
theorem wit_mirrorSteps : md.runs .a = true ∧ md.done = true ∧ md.mirrorDue .a = true ∧ md.quireUp (5 / 24) = true ∧
    (md.ni .a 5).mirrorLatch ≠ [] ∧ (md.ni .a 95).mirrorLatch = [] ∧
    took ((xfer s0 8 40).popSbIn .a 0 6) (fun k _ => decide (hKind k.hdr = kMgmt ∧ hMop k.hdr = 5 ∧ hMarg k.hdr % 16 = 8)) = true ∧
    took (xack.takeMgmt .a 5 6 none) (fun k _ => decide (hMarg k.hdr % 16 = 8)) = true := by decide +kernel
theorem test_mirrorSteps : (aft (exec (.mirrorRefresh .a) md)).p .a rMirrorLost = 1 ∧
    ((aft (exec (.dumpPacket .a 0) (xfer s0 8 40))).sb .a).mirror.rd 40 0 = 7 ∧
    ((aft (exec (.dumpAcknowledge .a 5) xack)).ni .a 5).mirrorLatch = [] := by decide +kernel

/-- Group 7 dumps `n` counters from 0 on, every 16 slots, to a ring of two records; it is slot 16. -/
def dg (n : Nat) : State :=
  (((({ s0 with slot := 16 } : State).pset .a (bDg 7 + 4) (BitVec.ofNat 32 (n * 65536))).pset .a (bDg 7 + 8) 16).pset .a (bDg 7 + 0x18) 1).pset .a (bDg 7) 1
def dgFull : State := (dg 8).pset .a (bDg 7 + 0x1C) 2
/-- The record of `n` entries is complete; its write has been sent, and answered. -/
def dgC (n : Nat) : State := (dg n).modDump .a 7 (fun d => { d with active := true, count := n })
def dgW : State := aft (exec (.dumpRecordWrite .a 7) (dgC 8))
def dgA (st : Nat) : State := dgW.atSbIn .a 4 (pkt (mkHdr epService 48 4 kRack 0 0 0 0 ||| rspHi st 0) [0])
theorem wit_dumps : (dg 8).runs .a = true ∧ bit ((dg 8).p .a (bDg 7)) 0 = true ∧ (dg 8).fcInSlot = 0 ∧ ((dg 8).dumpG .a 7).doneAt ≠ some (dg 8).now ∧
    (dg 8).dumpFalls .a 7 = true ∧ dgFull.dgUsed .a 7 = dgFull.dgSlots .a 7 ∧
    took ((xfer (aft (exec (.dumpBoundary .a 7) (dg 48))) 7 40).popSbIn .a 0 6) (fun k u => decide (hMarg k.hdr % 16 = 7 ∧
      (u.dumpG .a 7).active = true ∧ hMarg k.hdr / 16 % 1024 ∈ (u.dumpG .a 7).need)) = true := by decide +kernel
theorem wit_dumpWrites : ((dgC 8).dumpG .a 7).active = true ∧ ((dgC 8).dumpG .a 7).writing = false ∧
    (dgC 8).dumpComplete ((dgC 8).dumpG .a 7) = true ∧ ((dgC 496).dumpLines 7 ((dgC 496).dumpG .a 7)).length = 63 ∧
    63 < ((dgC 1000).dumpLines 7 ((dgC 1000).dumpG .a 7)).length ∧ (dgW.dumpG .a 7).writes = 1 ∧ (dgW.dumpG .a 7).bad = false ∧
    got ((dgA stLate).sbResponse .a 0 4 isDump) (fun x => decide (x.2.1.purpose = .dump 7 ∧ x.2.2.1 = stLate)) = true := by decide +kernel
theorem wit_dumpCtrl : (s0.writeAllowed rq (bDg 7 + 0x20) ∧ s0.writeAllowed rq (bDg 7)) ∧
    dgFull.dgSlots .a 7 < (dgFull.p .a (bDg 7 + 0x1C) - 3).toNat ∧ (dgFull.p .a (bDg 7 + 0x1C) - 0).toNat = dgFull.dgSlots .a 7 ∧
    (dgFull.p .a (bDg 7 + 0x1C) - 1).toNat < dgFull.dgSlots .a 7 ∧
    (bit ((dg 8).p .a (bDg 7)) 0 = true ∧ ((dg 8).pset .a (bDg 0 + 4) 0x10007).dgOverlap .a 0 7 = true) ∧
    ((dg 8).pset .a (bDg 0 + 4) 0x10008).dgOverlap .a 0 7 = false := by unfold State.writeAllowed; decide +kernel
theorem test_dumps : (aft (exec (.dumpBoundary .a 7) dgFull)).pf .a (bDg 7 + 0x28) 0 32 = 1 ∧
    ((aft (exec (.dumpBoundary .a 7) (dg 8))).dumpG .a 7).active = true ∧ (aft (exec (.dumpWriteRack .a 0) (dgA stOk))).p .a (bDg 7 + 0x1C) = 1 := by
  decide +kernel

/-! ### Snapshots and test access -/

def sn (armed held : Bool) (trig : Option Nat) : State := { s0 with slot := 2, snp := { s0.snp with armed := armed, held := held, trig := trig } }
/-- A trigger has come while the block is held, in this slot. -/
def snMiss : State := (sn false true none).snapTrigger 2 7 9
theorem wit_snapshots : s0.writeAllowed rq rSnpCtrl ∧ (({ s0 with pads := { s0.pads with mp := [(1, { active := 2 })] } } : State).gset rSnpCtrl 16).mpArmed 1 2 = true ∧
    bit ((s0.gset rSnpCtrl 16).g rSnpCtrl) 4 = true ∧ (sn true false none).snp.armed = true ∧ (sn false true none).snp.held = true ∧
    (sn true false (some 0)).snp.trig = some 0 ∧ 0 + 2 ≤ (sn true false (some 0)).now ∧ (sn true false (some 0)).fcInSlot = 0 ∧ (sn true false (some 0)).pw.dev = .run ∧ snMiss.snp.held = true ∧
    snMiss.snp.missAt = some snMiss.now ∧ (sn false true none).snp.missAt ≠ some (sn false true none).now ∧
    s0.islLatches .a (islandOfOff (ctrBase 999)) = true ∧ s0.test.mode = false := by unfold State.writeAllowed; decide +kernel
theorem test_snapshots : (aft (exec .snapshotLatch (sn true false (some 0)))).snp.held = true ∧
    (aft (exec (.snapshotTrigger rq) (sn false true none))).gf rMissed 0 32 = 1 ∧ snMiss.snapArm.snp.trig = some 2 ∧
    snMiss.snapArm.g rMissed = 0 ∧ (aft (exec .testModeEntry s0)).test.mode = true ∧
    (aft (exec (.wrapperInstructionUpdate .intest) s0)).test.executes = .bypass := by decide +kernel

/-! ### The block as a whole -/

/-- A queue with two commands; the block that waits with none. -/
def sq : State := { s0 with pending := [.wakeIn, .slotBoundary] }
/-- The 8 fc of the slot are over, and no edge has come. -/
def slE : State := { sl with fcInSlot := 8 }
theorem wit_step : sq.pending = .wakeIn :: [.slotBoundary] ∧ s0.pending = [] ∧ s0.img.ok = true ∧ State.reset.img.ok = false ∧
    s0.referenceRuns = true ∧ inR.referenceRuns = false ∧ inR.pending = [] ∧ s0.boot.slotSeen = false ∧ s0.fcInSlot < s0.img.w ∧ s0.pair.edges = [] ∧
    (∀ x ∈ s0.ports, x.2.ingress = []) ∧ slE.boot.slotSeen = true ∧ slE.img.w ≤ slE.fcInSlot ∧ slE.pending = [] := by decide +kernel
theorem test_step : (aft (step sq)).pending = [.slotBoundary] ∧ (aft (step s0)).fc = 1 ∧ (aft (step s0)).slot = 0 ∧ (aft (step slE)).islLocked .a 20 = false := by decide +kernel
theorem wit_onlyNamedCommands : movesTime .wakeIn = false ∧ changesKeys .wakeIn = false ∧ changesImage .wakeIn = false ∧ changesTest .wakeIn = false ∧
    ends (exec .wakeIn s0) (s0.wake 0) = true := by decide +kernel
theorem wit_completion : ((mF 5 7).sb .a).migs.map (fun m => (m.step, m.acks, m.toFreeze, m.stopping)) = [(5, [], [], false)] ∧
    (mF 5 7).chanState .a 1 3 = 3 ∧ got ((mF 5 7).migOf .a 3) (fun m => !(mF 5 7).freezeOver .a m) = true ∧
    got ((mF 4 8).migOf .a 3) (fun m => (mF 4 8).freezeOver .a m && decide (m.step = 4 ∧ m.stopping = false)) = true ∧
    (pb .sweep 9).pair.kfails < 15 ∧ pAbort.pair.resumeWait = false ∧ pAbort.outPlane = some .b ∧
    bit ((dg 8).p .a (bDg 7)) 2 = false ∧ (dg 8).dgUsed .a 7 < (dg 8).dgSlots .a 7 ∧ ((dg 8).dumpG .a 7).active = false ∧ (dg 8).done = true ∧
    (dg 8).pw.dev = .run ∧ ((dgC 496).dumpLines 7 ((dgC 496).dumpG .a 7)).length ≤ 63 := by decide +kernel
theorem wit_stepsKeepOrder : sq.Canon ∧ ends (step sq) (aft (step sq)) = true := by
  unfold State.Canon Plane.Canon Tab.wf Tab.Sorted; decide +kernel
/-- R27, R30: the T24, the T96-P. -/
theorem test_colophon : (State.resetOf .t24).regWord .a 0x00 = Variant.t24.ident.toNat ∧ (State.resetOf .t96p).regWord .b 0x1C = 0x04004000 ∧
    (State.resetOf .t96).regWord .a 0x10 = 0 := by decide +kernel

/-! ### Ill-formed terms that WellFormed refuses, one for each check -/

/-- A READ of one byte at the last address; a message of one flit. -/
def wr : Stitch := { addr := 2 ^ 48 - 1, len := 0, owner := 15, priv := 3, cls := 3, gts := 31, esc := true, beats := [] }
def wm : MsgReq := { tflock := true, num := 1023, key := 0, unkeyed := false, owner := 15, priv := 3, beats := [0] }
theorem test_wf_ranges : (Instr.portLiveFall 96).wf = false ∧ (Instr.entryPark 4).wf = false ∧ (Node.folio 16).wf = false ∧
    (Instr.muleResponse .a 8).wf = false ∧ (Instr.channelStart true rq 7 32).wf = false ∧ (Instr.rackReceived .a 5 7).wf = false ∧
    (Instr.islandLock .a 22).wf = false ∧ (Instr.lockExpiry .a 1024).wf = false ∧ (Instr.queueStop rq 16384 true).wf = false := by decide
theorem test_wf_ranges2 : (Instr.heldMessageAdmit .a 1024 0).wf = false ∧ (Instr.heldMessageAdmit .a 1023 4096).wf = false ∧
    (Instr.tableError .a { page := 262144, corrected := true }).wf = false ∧ (Instr.eventRaise rq 512).wf = false ∧ (Instr.mpWake 2).wf = false ∧
    (Instr.dumpBoundary .a 8).wf = false ∧ (Instr.ctrValLoRead rq 1000).wf = false ∧ (Instr.ownerResetGo rq 16).wf = false ∧
    (Instr.lookupReply .a 96).wf = false ∧ (Instr.lookupReply .a 0x78).wf = false ∧ (Instr.dumpAcknowledge .a 0x7C).wf = false := by decide
theorem test_wf_offsets : (Instr.channelRegisterWrite true rq 7 31 65 { data := 0, ben := 0 }).wf = false ∧
    (Instr.readClear rq 0x1000000 0).wf = false ∧ (Instr.readClear rq 4 0).wf = false ∧ (Instr.registerWrite rq 1 { data := 0, ben := 0 }).wf = false ∧
    (Instr.w1cWrite rq 2 0).wf = false ∧ (Instr.regionCommit rq (.ni 5) 64 0).wf = false ∧ (Instr.eventAck rq 0 256).wf = false ∧
    (Instr.reissue .a 5 64).wf = false ∧ (Instr.trspResponse .a 5 64 0 0).wf = false ∧ (Instr.trspResponse .a 5 0 16 0).wf = false ∧
    (Instr.keyDerivationDone 17).wf = false ∧ (Instr.autoIdleEntry 5).wf = false ∧ (Instr.planeCheckerFire .a ⟨100, none⟩).wf = false := by decide
theorem test_wf_lists : (Instr.headersRead [] []).wf = false ∧ (Instr.fabricDone [{ slow with code := 0x49 }]).wf = false ∧
    (Instr.fabricDone [{ slow with results := [3] }]).wf = false ∧ (Instr.linkCheckFailure .a (.niLink 5) { lf 0 with vc := 7 }).wf = false ∧ (Instr.flashCommandDone []).wf = false ∧
    (Instr.stitchWrite .a 5 { wr with addr := 0x3F, len := 1, beats := [] }).wf = false ∧ (Instr.stitchAtomic .a 5 wr 0 0).wf = false ∧
    (Instr.stitchAtomic .a 5 { wr with beats := [{ data := 0, ben := 0 }] } 256 0).wf = false := by decide
theorem test_wf_requests : ({ wr with addr := 2 ^ 48 } : Stitch).wf 0 = false ∧ ({ wr with len := 4096 } : Stitch).wf 0 = false ∧
    ({ wr with owner := 16 } : Stitch).wf 0 = false ∧ ({ wr with priv := 4 } : Stitch).wf 0 = false ∧ ({ wr with cls := 4 } : Stitch).wf 0 = false ∧
    ({ wr with gts := 32 } : Stitch).wf 0 = false ∧ ({ wm with num := 1024 } : MsgReq).wf = false ∧ ({ wm with beats := [] } : MsgReq).wf = false ∧
    ({ wm with beats := List.replicate 65 0 } : MsgReq).wf = false ∧ ({ wm with owner := 16 } : MsgReq).wf = false := by decide
theorem test_wf_requesters : ({ rq with src := 128 } : CwReq).wf = false ∧ ({ rq with tag := 64 } : CwReq).wf = false ∧
    ({ rq with vc := 7 } : CwReq).wf = false ∧ ({ rq with owner := 16 } : CwReq).wf = false ∧ ({ rq with priv := 4 } : CwReq).wf = false ∧
    (OutPort.folio 0 8).wf = false ∧ (OutPort.quire 0 23).wf = false ∧ (Node.mule 0 7).wf = false ∧ (RegionBlock.mul 8).wf = false := by decide
/-- The last value of each range is well formed. -/
theorem test_wf_accepts : (Instr.stitchRead .b 95 wr).wf = true ∧ (Instr.stitchMessage .b 95 { wm with beats := List.replicate 64 0 }).wf = true ∧
    (Instr.channelRegisterWrite true rq 7 31 192 { data := 0, ben := 0 }).wf = true ∧ (Instr.readClear rq 0xFFFFC0 0).wf = true ∧
    (Instr.islandLock .b 21).wf = true ∧ (Instr.islandRelock .a 21 [{ slow with code := 0x48 }]).wf = true ∧ (Instr.outputArbitration .b (.service 3 6)).wf = true ∧ (Instr.entryCommit 4).wf = true := by decide

/-! ### Values that the manual prints -/

/-- R36's example: the header of an LL read of port 5 to port 61. R101, R108: paths of port 9 and the deadline at port 70. -/
theorem test_manual_header : mkHdr 61 5 1 kRead 1 3 9 0 ||| reqHi 0x2C true 0 0 = 0x0000960049A042BD ∧
    pathLatency (.port 9) .service = 19 ∧ pathLatency .service (.port 9) = 18 ∧ pathLatency (.port 9) (.port 70) = 33 ∧
    gtDeadline 9 70 8 0 = 7 := by decide +kernel

/-- Region `n` of NI 14 from granule `lo` to granule `hi` of 0x8_0000_0000 with `attr`. -/
def reg (n : Nat) (lo hi attr : W32) (s : State) : State :=
  let b := bNi 14 + 0x1000 + 0x20 * n
  ((((s.pset .a b lo).pset .a (b + 4) 8).pset .a (b + 8) hi).pset .a (b + 12) 8).pset .a (b + 16) attr
def regs : State := reg 12 0 0xFFFFFC0 0x3F0B (reg 9 0x40040 0x40FC0 0x0805 (reg 3 0 0xFFFFFC0 0x1805 s0))
/-- R187's example: the write is denied by region 9 from its second piece on, the read passes. -/
theorem test_manual_regions : regs.regionCheck .a (bNi 14 + 0x1000) 2 1 0x800040000 (needOf kWrite) = none ∧
    regs.regionCheck .a (bNi 14 + 0x1000) 2 1 0x800040040 (needOf kWrite) = some (1, 9) ∧
    regs.regionCheck .a (bNi 14 + 0x1000) 2 1 0x800040080 (needOf kRead) = none ∧
    regs.regionCheck .a (bNi 14 + 0x1000) 2 1 0x810000000 (needOf kRead) = some (0, 0xFF) := by decide +kernel

end Sys2Proof.Tests
end

namespace Sys2Proof.Machine

/-! ### The folio router's route, branch by branch (R62) -/

/-- A folio router's route is read off the two node fields of the header. -/
theorem routeAt_folio (g : Nat) (h : BitVec 64) : routeAt false g h = routeFolio g (hDest h) (hSrc h) := rfl

/-- R62: a port of the router's own folio is reached over its slot port. -/
theorem routeFolio_ownSlot {g dest : Nat} (src : Nat) (hport : dest ≤ 95) (hown : dest / 6 = g) :
    routeFolio g dest src = .out (dest % 6) :=
  if_pos ⟨hport, hown⟩

/-- R62: the router consumes what is sent to its agent; an agent's number lies above every port's. -/
theorem routeFolio_ownAgent (g src : Nat) : routeFolio g (epFolio g) src = .agent := by
  have hnotPort : ¬(epFolio g ≤ 95 ∧ epFolio g / 6 = g) := by unfold epFolio; omega
  exact (if_neg hnotPort).trans (if_pos rfl)

/-- R62: every other packet goes up, on the up-link that SRC and DEST choose. -/
theorem routeFolio_up {g dest : Nat} (src : Nat) (hslot : ¬(dest ≤ 95 ∧ dest / 6 = g)) (hagent : dest ≠ epFolio g) :
    routeFolio g dest src = .out (6 + (src + dest) % 2) :=
  (if_neg hslot).trans (if_neg hagent)

/-- Settles O20: each clause is one branch of the folio router's route. -/
theorem folioRouterSends : Obligations.FolioRouterSends := by
  intro g h _
  rw [routeAt_folio]
  refine ⟨routeFolio_ownSlot (hSrc h), fun hagent => ?_, routeFolio_up (hSrc h)⟩
  have hdest : hDest h = epFolio g := hagent
  rw [hdest]
  exact routeFolio_ownAgent g (hSrc h)

end Sys2Proof.Machine

namespace Sys2Proof

/-- Only a listed key reads as something other than the default. -/
theorem Tab.exists_mem_of_rd_ne {α : Type} {t : Tab α} {k : Nat} {d : α} (h : t.rd k d ≠ d) : ∃ x ∈ t, x.1 = k := by
  induction t with
  | nil => exact absurd rfl h
  | cons y rest ih =>
    obtain ⟨j, w⟩ := y
    by_cases hj : j = k
    · exact ⟨(j, w), List.mem_cons_self, hj⟩
    · have hrest : Tab.rd rest k d ≠ d := by simpa [Tab.rd, Tab.find, hj] using h
      obtain ⟨x, hx, hk⟩ := ih hrest
      exact ⟨x, List.mem_cons_of_mem _ hx, hk⟩

theorem Variant.ports_le (v : Variant) : v.ports ≤ 96 := by cases v <;> decide

end Sys2Proof

namespace Sys2Proof.Machine

/-! ### Words that are put together bit by bit -/

/-- One more bit on top of the number that the model sums up from its bits. -/
theorem sum_range_succ_ite_two_pow (f : Nat → Bool) (k : Nat) :
    ((List.range (k + 1)).map (fun n => if f n then 2 ^ n else 0)).sum =
      2 ^ k * (f k).toNat + ((List.range k).map (fun n => if f n then 2 ^ n else 0)).sum := by
  cases hf : f k <;> simp [List.range_succ, hf, Nat.add_comm]

theorem sum_ite_two_pow_lt (f : Nat → Bool) (k : Nat) :
    ((List.range k).map (fun n => if f n then 2 ^ n else 0)).sum < 2 ^ k := by
  induction k with
  | zero => exact Nat.one_pos
  | succ k ih =>
    have hbit : 2 ^ k * (f k).toNat ≤ 2 ^ k * 1 := Nat.mul_le_mul_left _ (Bool.toNat_le _)
    rw [sum_range_succ_ite_two_pow, Nat.pow_succ]
    omega

theorem testBit_sum_ite_two_pow (f : Nat → Bool) {n k : Nat} (hn : n < k) :
    ((List.range k).map (fun n => if f n then 2 ^ n else 0)).sum.testBit n = f n := by
  induction k with
  | zero => exact absurd hn (Nat.not_lt_zero n)
  | succ k ih =>
    rw [sum_range_succ_ite_two_pow, Nat.testBit_two_pow_mul_add _ (sum_ite_two_pow_lt f k)]
    by_cases hlt : n < k
    · rw [if_pos hlt, ih hlt]
    · obtain rfl : n = k := by omega
      rw [if_neg hlt, Nat.sub_self]
      cases f n <;> rfl

/-- A bit is clear when the field of its place alone is 0. -/
theorem bit_eq_false_iff_fld {w : Nat} (x : BitVec w) (i : Nat) : bit x i = false ↔ fld x i 1 = 0 := by
  rw [bit, fld, ← BitVec.testBit_toNat, Nat.testBit_eq_decide_div_mod_eq, decide_eq_false_iff_not]
  omega

/-! ### The summary lines (R319) -/

/-- R319: source `src` drives line `n`. -/
def State.drivesLine (s : State) (n src : Nat) : Prop :=
  0 < s.evCount src ∧ bit (s.g (rSrcCfg src)) 0 = true ∧ bit (s.g (rSrcCfg src)) 10 = true ∧ s.gf (rSrcCfg src) 11 3 = n

/-- A source that drives a line has a count, so it is listed. -/
theorem State.exists_mem_count_of_drivesLine (s : State) {n src : Nat} (h : s.drivesLine n src) : ∃ x ∈ s.evt.count, x.1 = src :=
  Tab.exists_mem_of_rd_ne (Nat.pos_iff_ne_zero.1 h.1)

/-- A line shows what the listed sources drive. -/
theorem State.testBit_summary (s : State) {n : Nat} (hn : n < 8) :
    s.summary.testBit n = true ↔ ∃ x ∈ s.evt.count, s.drivesLine n x.1 := by
  unfold State.summary
  rw [testBit_sum_ite_two_pow _ hn]
  simp [State.drivesLine, State.gf, and_assoc]

theorem State.summary_lt (s : State) : s.summary < 2 ^ 8 := sum_ite_two_pow_lt _ 8

theorem State.regWord_evtStatus (s : State) (pl : Pl) :
    s.regWord pl rEvtStatus = 2 ^ 8 * (s.evt.inflight % 256 + s.gf rEvtStatus 16 16 * 2 ^ 8) + s.summary := by
  have hrow : (rowOf rEvtStatus).isSome = true := by decide
  have hshared : planeBlock rEvtStatus = false := by decide
  have hword : s.sharedWord rEvtStatus =
      s.summary + s.evt.inflight % 256 * 256 + s.gf rEvtStatus 16 16 * 2 ^ 16 := rfl
  rw [State.regWord, if_pos (.inr (.inr hrow)), hshared, if_neg Bool.false_ne_true, hword]
  omega

/-- Settles O44: a source with COUNT > 0 is listed, and SUMMARY is the low byte of EVT.STATUS. -/
theorem summaryLines : Obligations.SummaryLines := by
  intro s n hn
  refine ⟨(s.testBit_summary hn).trans ⟨?_, ?_⟩, fun pl => ?_⟩
  · rintro ⟨x, _, hdrives⟩
    exact ⟨x.1, hdrives⟩
  · rintro ⟨src, hdrives⟩
    have hlisted : ∃ x ∈ s.evt.count, x.1 = src := s.exists_mem_count_of_drivesLine hdrives
    obtain ⟨x, hx, rfl⟩ := hlisted
    exact ⟨x, hx, hdrives⟩
  · rw [s.regWord_evtStatus, Nat.testBit_two_pow_mul_add _ s.summary_lt, if_pos hn]

/-! ### The owners' mirror slices (R328, R329) -/

/-- R329: what counter `i` of port `p` counts is owner `o`'s to see. -/
def State.showsTo (s : State) (pl : Pl) (o p i : Nat) : Prop :=
  (bit (s.p pl (ctrBase (8 * p + i))) 24 = true ∧ fld (s.p pl (ctrBase (8 * p + i))) 20 4 = o) ∨
    (bit (s.p pl (ctrBase (8 * p + i))) 24 = false ∧ s.pf pl (bNi p) 0 16 = 2 ^ o ∧ s.pf pl (bNi p) 16 1 = 0)

/-- The eight bytes of an entry lie at 0x100 (p + 1) + 8 i of its owner's slice. -/
theorem State.sliceWord_entry (s : State) (pl : Pl) (o : Nat) {p i b : Nat} (hp : p < s.variant.ports) (hi : i < 8) (hb : b < 8) :
    s.sliceWord pl (0x900000 + 0x10000 * o + 0x100 * (p + 1) + 8 * i + b) =
      s.mirrorEntry pl o (8 * p + i) / 2 ^ (8 * b) % 2 ^ 32 := by
  have hports : s.variant.ports ≤ 96 := Variant.ports_le _
  have howner : (0x900000 + 0x10000 * o + 0x100 * (p + 1) + 8 * i + b - 0x900000) / 0x10000 = o := by omega
  have hplace : (0x900000 + 0x10000 * o + 0x100 * (p + 1) + 8 * i + b - 0x900000) % 0x10000 = 0x100 * (p + 1) + 8 * i + b := by
    omega
  have hport : (0x100 * (p + 1) + 8 * i + b) / 0x100 - 1 = p := by omega
  have hentry : (0x100 * (p + 1) + 8 * i + b) % 0x100 = 8 * i + b := by omega
  have hindex : (8 * i + b) / 8 = i := by omega
  have hbyte : (0x100 * (p + 1) + 8 * i + b) % 8 = b := by omega
  simp only [State.sliceWord, howner, hplace, hport, hentry, hindex, hbyte]
  rw [if_neg (by omega), if_pos (by omega)]

theorem State.mirrorEntry_of_showsTo {s : State} {pl : Pl} {o p i : Nat} (hi : i < 8) (h : s.showsTo pl o p i) :
    s.mirrorEntry pl o (8 * p + i) = ((s.sb pl).mirror.rd (8 * p + i) 0).toNat % 2 ^ 49 := by
  have hport : (8 * p + i) / 8 = p := by omega
  rcases h with ⟨hen, howner⟩ | ⟨hen, hcfg, hm⟩
  · simp [State.mirrorEntry, hen, howner]
  · have hmOk := (bit_eq_false_iff_fld _ _).2 hm
    rw [State.pf] at hcfg
    simp [State.mirrorEntry, hport, hen, hcfg, hmOk]

theorem State.mirrorEntry_of_not_showsTo {s : State} {pl : Pl} {o p i : Nat} (hi : i < 8) (h : ¬ s.showsTo pl o p i) :
    s.mirrorEntry pl o (8 * p + i) = 0 := by
  have hport : (8 * p + i) / 8 = p := by omega
  simp only [State.showsTo, State.pf, ← bit_eq_false_iff_fld, not_or, not_and] at h
  obtain ⟨howned, hfree⟩ := h
  cases hen : bit (s.p pl (ctrBase (8 * p + i))) 24 with
  | true => simp [State.mirrorEntry, hen, howned hen]
  | false => simpa [State.mirrorEntry, hport, hen] using fun hcfg hm => absurd hm (hfree hen hcfg)

/-- Settles O50: both words of an entry come from the one value that the owner may see, which has 49 bits. -/
theorem mirrorSlices : Obligations.MirrorSlices := by
  intro s pl o p i _ hp hi
  have hlow := s.sliceWord_entry pl o hp hi (b := 0) (by decide)
  have hhigh := s.sliceWord_entry pl o hp hi (b := 4) (by decide)
  refine ⟨fun hown => ?_, fun hown => ?_⟩
  · rw [State.mirrorEntry_of_showsTo hi hown] at hlow hhigh
    simp only [Nat.add_zero, Nat.reduceMul, Nat.pow_zero, Nat.div_one] at hlow hhigh
    omega
  · rw [State.mirrorEntry_of_not_showsTo hi hown] at hlow hhigh
    exact ⟨hlow, hhigh⟩

end Sys2Proof.Machine

namespace Sys2Proof.Machine

/-! ### What a command may reach -/

/-- The four kinds of state that `State.Steady` protects beside the queue, the part and the order of the tables; a command may
change those that are marked. -/
structure Reach where
  time : Bool := false
  keys : Bool := false
  image : Bool := false
  test : Bool := false

/-- What Safety.lean lets a command change. -/
def reachOf (c : Instr) : Reach :=
  { time := movesTime c, keys := changesKeys c, image := changesImage c, test := changesTest c }

/-- From `s` to `t` the queue and the part stay, the tables stay in order, and of time, keys, configuration and test port only
what `m` marks changes. -/
structure State.Within (m : Reach) (s t : State) : Prop where
  pending : t.pending = s.pending
  variant : t.variant = s.variant
  canon : s.Canon → t.Canon
  time : m.time = false → t.slot = s.slot ∧ t.fc = s.fc ∧ t.fcInSlot = s.fcInSlot
  keys : m.keys = false → t.keys = s.keys
  image : m.image = false → t.img = s.img
  test : m.test = false → t.test = s.test

section Within

variable {m : Reach} {s t u : State}

theorem State.Within.refl (s : State) : s.Within m s :=
  ⟨rfl, rfl, id, fun _ => ⟨rfl, rfl, rfl⟩, fun _ => rfl, fun _ => rfl, fun _ => rfl⟩

theorem State.Within.trans (h : s.Within m t) (k : t.Within m u) : s.Within m u where
  pending := k.pending.trans h.pending
  variant := k.variant.trans h.variant
  canon := k.canon ∘ h.canon
  time e := by
    obtain ⟨hslot, hfc, hin⟩ := h.time e
    obtain ⟨kslot, kfc, kin⟩ := k.time e
    exact ⟨kslot.trans hslot, kfc.trans hfc, kin.trans hin⟩
  keys e := (k.keys e).trans (h.keys e)
  image e := (k.image e).trans (h.image e)
  test e := (k.test e).trans (h.test e)

theorem State.Within.of_steady (h : s.Steady t) : s.Within m t :=
  ⟨h.pending, h.variant, h.canon, fun _ => ⟨h.slot, h.fc, h.fcInSlot⟩, fun _ => h.keys, fun _ => h.img, fun _ => h.test⟩

/-- A marked kind of state may be set to anything. -/
theorem State.Within.setTime (h : s.Within m t) (e : m.time = true) (a b : Nat) (c : BitVec 64) :
    s.Within m { t with fc := a, fcInSlot := b, slot := c } :=
  ⟨h.pending, h.variant, h.canon, fun k => absurd (e.symm.trans k) Bool.noConfusion, h.keys, h.image, h.test⟩

theorem State.Within.setKeys (h : s.Within m t) (e : m.keys = true) (a : Keys) : s.Within m { t with keys := a } :=
  ⟨h.pending, h.variant, h.canon, h.time, fun k => absurd (e.symm.trans k) Bool.noConfusion, h.image, h.test⟩

theorem State.Within.setImg (h : s.Within m t) (e : m.image = true) (a : Img) : s.Within m { t with img := a } :=
  ⟨h.pending, h.variant, h.canon, h.time, h.keys, fun k => absurd (e.symm.trans k) Bool.noConfusion, h.test⟩

theorem State.Within.setTest (h : s.Within m t) (e : m.test = true) (a : Test) : s.Within m { t with test := a } :=
  ⟨h.pending, h.variant, h.canon, h.time, h.keys, h.image, fun k => absurd (e.symm.trans k) Bool.noConfusion⟩

/-- Operations that leave all four kinds alone may follow. -/
theorem State.Within.steady (h : s.Within m t) (k : t.Steady u) : s.Within m u := h.trans (.of_steady k)

theorem ite_within {c : Prop} [Decidable c] (ht : s.Within m t) (hu : s.Within m u) : s.Within m (if c then t else u) := by
  split
  · exact ht
  · exact hu

end Within

/-- The command answers, and reaches no more than Safety.lean says. -/
def Answers (c : Instr) (s : State) (o : Out) : Prop := ∃ t, o = .next t ∧ s.Within (reachOf c) t

theorem Answers.of_steadyOut {c : Instr} {s : State} {o : Out} (h : s.SteadyOut o) : Answers c s o := by
  obtain ⟨t, ho, ht⟩ := h
  exact ⟨t, ho, .of_steady ht⟩

theorem Answers.of_within {c : Instr} {s t : State} (h : s.Within (reachOf c) t) : Answers c s (.next t) := ⟨t, rfl, h⟩

/-! ### Time

The parts of a fc and of a slot boundary, in the order in which `State.tick` and `execSlotBoundary` take them. -/

/-- A slot whose W fc are over has lost its reference (R119, R120). -/
def State.fcLoss (s : State) : State := if s.boot.slotSeen && decide (s.img.w ≤ s.fcInSlot) then s.unlockAll else s

/-- What the queues do at the end of the fc. -/
def State.fcQueues (s : State) : State := if s.pw.dev = .run then s.eachPlane State.queueFcEnd else s

/-- The count of fc advances. -/
def State.fcNext (s : State) : State := { s with fc := s.fc + 1, fcInSlot := s.fcInSlot + 1 }

/-- What every plane does in every fc. -/
def State.fcPlanes (s : State) : State := if s.pw.dev = .run then s.eachPlane State.tickPlane else s

theorem State.tick_of_off {s : State} (h : s.referenceRuns = false) : s.tick = { s with fc := s.fc + 1 } := by
  unfold State.tick
  rw [h]
  rfl

theorem State.tick_of_runs {s : State} (h : s.referenceRuns = true) : s.tick = s.fcLoss.fcQueues.fcNext.skewed.fcPlanes := by
  unfold State.tick
  rw [h]
  rfl

theorem State.fcLoss_steady (s : State) : s.Steady s.fcLoss := ite_steady (State.unlockAll_steady (.refl s)) (.refl s)

theorem State.fcQueues_steady (s : State) : s.Steady s.fcQueues :=
  ite_steady (State.eachPlane_steady (.refl s) _ (fun pl _ k => State.queueFcEnd_steady k pl)) (.refl s)

theorem State.fcPlanes_steady (s : State) : s.Steady s.fcPlanes :=
  ite_steady (State.eachPlane_steady (.refl s) _ (fun pl _ k => State.tickPlane_steady k pl)) (.refl s)

/-- One fc moves time alone. -/
theorem State.tick_within {m : Reach} (hm : m.time = true) (s : State) : s.Within m s.tick := by
  cases hruns : s.referenceRuns with
  | false =>
    rw [State.tick_of_off hruns]
    exact (State.Within.refl s).setTime hm _ _ _
  | true =>
    rw [State.tick_of_runs hruns]
    have hnext : s.Within m s.fcLoss.fcQueues.fcNext :=
      (State.Within.of_steady (s.fcLoss_steady.trans (State.fcQueues_steady _))).setTime hm _ _ _
    exact (hnext.steady (State.skewed_steady (.refl _))).steady (State.fcPlanes_steady _)

theorem State.runFc_within {m : Reach} (hm : m.time = true) (n : Nat) (s : State) : s.Within m (State.runFc n s) := by
  induction n generalizing s with
  | zero => exact .refl s
  | succ n ih => exact (s.tick_within hm).trans (ih s.tick)

/-- The next slot begins, once what is left of the old one has passed. -/
def State.slotNext (s : State) : State :=
  let t := (State.runFc (s.img.w - s.fcInSlot) s).beginHolds
  { t with slot := t.slot + 1, fcInSlot := 0 }

/-- What the halves of the NIs do at the boundary. -/
def State.slotHalves (s : State) : State := if s.pw.dev = .run then s.eachPlane State.slotEnds else s

/-- The pads and the power states at the boundary. -/
def State.slotShared (s : State) : State :=
  { s with
    pads := { s.pads.release (BitVec.ofNat 4 (s.gf rSafeState 8 4)) with snapOut := false },
    pw := { s.pw with q := (List.range s.variant.quires ++ [4]).foldl (fun t q => t.upd q {} QPower.slotPass) s.pw.q } }

theorem execSlotBoundary_off {s : State} (h : s.referenceRuns = false) : execSlotBoundary s = .next s := by
  unfold execSlotBoundary
  rw [h]
  rfl

theorem execSlotBoundary_first {s : State} (h : s.referenceRuns = true) (hseen : s.boot.slotSeen = false) :
    execSlotBoundary s = .next { s with slot := 0, fcInSlot := 0, boot := { s.boot with slotSeen := true } } := by
  unfold execSlotBoundary
  rw [h, hseen]
  rfl

theorem execSlotBoundary_later {s : State} (h : s.referenceRuns = true) (hseen : s.boot.slotSeen = true) :
    execSlotBoundary s = .next s.slotNext.slotEdges.slotHalves.slotShared := by
  unfold execSlotBoundary
  rw [if_neg (by simp [h]), if_neg (by simp [hseen])]
  extract_lets run next edges halves
  have hnext : next = s.slotNext := rfl
  have hedges : edges = next.slotEdges := rfl
  have hhalves : halves = edges.slotHalves := rfl
  rw [← hnext, ← hedges, ← hhalves]
  rfl

theorem State.slotHalves_steady (s : State) : s.Steady s.slotHalves :=
  ite_steady (State.eachPlane_steady (.refl s) _ (fun pl _ k => State.slotEnds_steady k pl)) (.refl s)

theorem State.slotShared_steady (s : State) : s.Steady s.slotShared := .upd (.refl s) _ _ _ _ _ _ _ _ _ _

theorem execSlotBoundary_answers (s : State) : Answers .slotBoundary s (execSlotBoundary s) := by
  cases hruns : s.referenceRuns with
  | false =>
    rw [execSlotBoundary_off hruns]
    exact .of_within (.refl s)
  | true =>
    cases hseen : s.boot.slotSeen with
    | false =>
      rw [execSlotBoundary_first hruns hseen]
      exact .of_within ⟨rfl, rfl, id, nofun, fun _ => rfl, fun _ => rfl, fun _ => rfl⟩
    | true =>
      rw [execSlotBoundary_later hruns hseen]
      have hnext : s.Within (reachOf .slotBoundary) s.slotNext :=
        ((State.runFc_within rfl _ s).steady (State.beginHolds_steady (.refl _))).setTime rfl _ _ _
      exact .of_within (((hnext.steady (State.slotEdges_steady (.refl _))).steady (State.slotHalves_steady _)).steady
        (State.slotShared_steady _))

/-! ### Keys -/

theorem execKeyDerivationDone_answers (s : State) (k : Nat) : Answers (.keyDerivationDone k) s (execKeyDerivationDone k s) := by
  have hcount : s.Within (reachOf (.keyDerivationDone k)) s.countKey := .of_steady (State.countKey_steady (.refl s))
  refine .of_within (ite_within (.refl s) (ite_within ?_ (ite_within ?_ (.refl s))))
  · exact ⟨hcount.pending, hcount.variant, hcount.canon, hcount.time, nofun, hcount.image, hcount.test⟩
  · have hload : s.Within (reachOf (.keyDerivationDone k)) (s.countKey.loadKey k (s.newKey k)) := hcount.setKeys rfl _
    exact ite_within (hload.steady (State.gfset_steady (.refl _) _ _ _ _)) hload

theorem execOwnerKeySwitch_answers (s : State) : Answers .ownerKeySwitch s (execOwnerKeySwitch s) := by
  unfold execOwnerKeySwitch
  split
  · exact .of_within (.refl s)
  · next k v _ =>
    refine .of_within (ite_within ?_ (.refl s))
    extract_lets load stepped _ _ switch
    have hload : s.Within (reachOf .ownerKeySwitch) load := (State.Within.refl s).setKeys rfl _
    have hstep : s.Within (reachOf .ownerKeySwitch) stepped := hload.steady (State.oresetStep_steady (.refl load) 4 true 0)
    have hswitch : s.Within (reachOf .ownerKeySwitch) switch :=
      ⟨hstep.pending, hstep.variant, hstep.canon, hstep.time, nofun, hstep.image, hstep.test⟩
    exact hswitch.steady (State.eachPlane_steady (.refl switch) _ (fun pl _ h => State.cleanPlane_steady h k pl))

/-- The device's own islands stop. -/
def State.devicePark (s : State) : State :=
  let t := s.pwrResult 0 0 true false 0x7F
  t.allPlanes.foldl (fun u pl => u.parkIslands pl [20, 21]) t

/-- Below Sleep the pads are held and the keys are gone. -/
def State.deviceDrop (s : State) (t : PState) : State := if t = .sleep then s else { s.holdPads with keys := {} }

/-- The device is in state `t`. -/
def State.deviceIn (s : State) (t : PState) : State :=
  { s with pw := { s.pw with
    dev := t, devTarget := none, devSupplyReq := decide (t ≠ .off), devSupplyAck := decide (t ≠ .off) } }

/-- A wake has come during the entry: the return begins at the commit (R304). -/
def State.deviceWoken (s : State) (t : PState) : State :=
  if t = .off then { s with pw := { s.pw with devSupplyReq := true, devWake := false } } else s.beginDeviceExit s.now

theorem State.deviceCommit_eq (s : State) (t : PState) :
    s.deviceCommit t = if !s.pw.devWake then (s.devicePark.deviceDrop t).deviceIn t
      else ((s.devicePark.deviceDrop t).deviceIn t).deviceWoken t := by
  unfold State.deviceCommit
  extract_lets wake _ park hold drop _ down
  have hpark : park = s.devicePark := rfl
  have hdrop : drop = park.deviceDrop t := rfl
  have hdown : down = drop.deviceIn t := rfl
  rw [← hpark, ← hdrop, ← hdown]
  rfl

theorem State.devicePark_steady (s : State) : s.Steady s.devicePark :=
  foldl_steady _ _ (State.pwrResult_steady (.refl s) _ _ _ _ _) (fun _ _ h => State.parkIslands_steady h _ _)

theorem State.deviceCommit_within {m : Reach} (hm : m.keys = true) (s : State) (t : PState) : s.Within m (s.deviceCommit t) := by
  have hpark : s.Within m s.devicePark := .of_steady s.devicePark_steady
  have hdrop : s.Within m (s.devicePark.deviceDrop t) :=
    ite_within hpark ((hpark.steady (State.holdPads_steady (.refl _))).setKeys hm {})
  have hin : s.Within m ((s.devicePark.deviceDrop t).deviceIn t) :=
    ⟨hdrop.pending, hdrop.variant, hdrop.canon, hdrop.time, hdrop.keys, hdrop.image, hdrop.test⟩
  rw [State.deviceCommit_eq]
  refine ite_within hin (ite_within ?_ (hin.steady (State.beginDeviceExit_steady (.refl _) _)))
  exact ⟨hin.pending, hin.variant, hin.canon, hin.time, hin.keys, hin.image, hin.test⟩

theorem execEntryCommit_answers (s : State) (q : Nat) : Answers (.entryCommit q) s (execEntryCommit q s) := by
  refine .of_within (ite_within ?_ ?_)
  · split
    · exact ite_within (s.deviceCommit_within rfl _) (.refl s)
    · exact .refl s
  · split
    · exact ite_within (.of_steady (State.quireCommit_steady (.refl s) _ _)) (.refl s)
    · exact .refl s

/-! ### A fresh start -/

theorem State.resetOf_canon (v : Variant) : (State.resetOf v).Canon := by
  have hplane : ({} : Plane).Canon := ⟨Tab.wf_nil _, .nil, .nil, .nil, .nil, .nil⟩
  exact ⟨Tab.wf_nil _, .nil, hplane, hplane⟩

theorem execDeviceReset_answers (s : State) : Answers .deviceReset s (execDeviceReset s) := by
  refine .of_within (ite_within (.refl s) ?_)
  exact ⟨rfl, rfl, fun _ => State.resetOf_canon s.variant, nofun, nofun, nofun, nofun⟩

theorem execDeviceResetRelease_answers (s : State) : Answers .deviceResetRelease s (execDeviceResetRelease s) :=
  .of_within (ite_within ⟨rfl, rfl, id, fun _ => ⟨rfl, rfl, rfl⟩, fun _ => rfl, fun _ => rfl, nofun⟩ (.refl s))

theorem execSupplyAck_device (s : State) (q : Nat) :
    execSupplyAck true q s = .next (if s.pw.dev = .off ∧ s.pw.devSupplyReq ∧ !s.pw.devSupplyAck then
      s.afresh.gset rWakeStatus s.pw.wakeBits else s) := rfl

theorem execSupplyAck_quire (s : State) (q : Nat) :
    execSupplyAck false q s = .next (if (s.qp q).state = .off ∧ (s.qp q).supplyReq ∧ !(s.qp q).supplyAck then
      s.modQp q (fun x => { x with supplyAck := true, exitAt := some s.nextBoundary }) else s) := rfl

theorem execSupplyAck_answers (s : State) (device : Bool) (q : Nat) :
    Answers (.supplyAck device q) s (execSupplyAck device q s) := by
  cases device with
  | true =>
    have hafresh : s.Within (reachOf (.supplyAck true q)) s.afresh :=
      ⟨rfl, rfl, fun _ => State.resetOf_canon s.variant, nofun, nofun, nofun, nofun⟩
    rw [execSupplyAck_device]
    exact .of_within (ite_within (hafresh.steady (State.gset_steady (.refl _) _ _)) (.refl s))
  | false =>
    rw [execSupplyAck_quire]
    exact .of_within (ite_within (.of_steady (State.modQp_steady (.refl s) _ _)) (.refl s))

/-! ### The configuration and the test port -/

section Image

variable {m : Reach} {s t : State}

/-- What a failed start-up leaves in the registers (R285). -/
def State.failMarks (s : State) : State :=
  ((s.setPhase 9).gfset rBootStatus 10 1 1).gset rBootTime (BitVec.ofNat 32 s.now)

theorem State.startFailed_eq (s : State) : s.startFailed = ({ s.failMarks with img := {} } : State).occurInfo 384 0 := rfl

theorem State.startFailed_within (hm : m.image = true) (h : s.Within m t) : s.Within m t.startFailed := by
  have hmarks : s.Within m t.failMarks :=
    h.steady (State.gset_steady (State.gfset_steady (State.setPhase_steady (.refl t) 9) _ _ _ _) _ _)
  rw [State.startFailed_eq]
  exact (hmarks.setImg hm {}).steady (State.occurInfo_steady (.refl _) 384 0)

theorem State.nextCopy_within (hm : m.image = true) (h : s.Within m t) : s.Within m t.nextCopy :=
  ite_within ((h.steady (State.setPhase_steady (.refl t) 3)).steady (.upd (.refl _) _ _ _ _ _ _ _ _ _ _))
    (State.startFailed_within hm h)

end Image

/-- The results of both headers (R265, R268). -/
def State.headersChecked (s : State) (a b : List (BitVec 8)) : State :=
  if (s.checkHdr 0 a).boot.densityOk then (s.checkHdr 0 a).checkHdr 1 b else (s.checkHdr 0 a).setResult 1 6

theorem State.headersChecked_steady (s : State) (a b : List (BitVec 8)) : s.Steady (s.headersChecked a b) :=
  ite_steady (State.checkHdr_steady (State.checkHdr_steady (.refl s) 0 a) 1 b)
    (State.setResult_steady (State.checkHdr_steady (.refl s) 0 a) 1 6)

theorem execHeadersRead_answers (s : State) (a b : List (BitVec 8)) : Answers (.headersRead a b) s (execHeadersRead a b s) := by
  have hboot : ∀ x : Boot, s.Within (reachOf (.headersRead a b)) { s.headersChecked a b with boot := x } :=
    fun _ => .of_steady (.upd (s.headersChecked_steady a b) _ _ _ _ _ _ _ _ _ _)
  exact .of_within (ite_within (ite_within (State.startFailed_within rfl (hboot _))
    ((hboot _).steady (State.setPhase_steady (.refl _) 3))) (.refl s))

theorem execFlashDqsTimeout_answers (s : State) : Answers .flashDqsTimeout s (execFlashDqsTimeout s) :=
  .of_within (ite_within (State.nextCopy_within rfl (.of_steady (State.setResult_steady (.refl s) _ _))) (.refl s))

theorem execVigenOutcome_answers (s : State) (ok : Bool) : Answers (.vigenOutcome ok) s (execVigenOutcome ok s) := by
  refine .of_within (ite_within ?_ (.refl s))
  have hcode := State.gfset_steady (.refl s) (copyReg s.copy) 8 8
    (vigenCode s.boot.bytes (hdrLength s.copyHdr) s.boot.digest.toNat s.boot.khash ok)
  exact ite_within (.of_steady (State.setPhase_steady hcode 5))
    (State.nextCopy_within rfl (.of_steady (State.setResult_steady hcode _ _)))

theorem State.sectionFailed_within {m : Reach} (hm : m.image = true) (s : State) (e : ImgErr) : s.Within m (s.sectionFailed e) := by
  have hfree : ∀ {u : State} (x : Option Nat) (k : Nat), s.Steady u → s.Steady (match x with
      | some j => (j, u) | none => (u.freshWord.1.toNat % k, u.freshWord.2) : Nat × State).2 := by
    intro u x k hu
    cases x with
    | some j => exact hu
    | none => exact State.freshWord_steady hu
  have hloc := State.setErrLoc_steady (hfree e.2 (2 ^ 24) (hfree e.1 256 (.refl s)))
  exact State.nextCopy_within hm (.of_steady (State.gfset_steady (State.setResult_steady (hloc _) _ _) _ _ _ _))

/-- What an accepted copy leaves in the registers and at BOOT_PORT before its own words are in force. -/
def State.acceptMarks (s : State) : State :=
  let t := (s.boot.candidates.drop (s.boot.tried + 1)).foldl (fun t d => t.setResult d 10) (s.setResult s.copy 1)
  let t := t.gfset rBootStatus 8 1 s.copy
  let t := if t.boot.tried = 0 then t else (t.gfset rBootStatus 9 1 1).occurInfo 385 0
  if t.minimal then (t.gfset rBootStatus 10 1 0).modPort t.boot.bootPort (fun x => { x with ready := false, draining := x.live })
  else t

theorem State.acceptImage_eq (s : State) (i : ImgSrc) (words : Tab W32) :
    s.acceptImage i words =
      (let t := s.acceptMarks
      ({ t.loadWords words with
        img := i.config,
        boot := { t.boot with store := t.boot.bytes, phase6At := t.now, tableHdr := false } } : State).setPhase 6).kickAll := rfl

theorem State.acceptMarks_steady (s : State) : s.Steady s.acceptMarks := by
  unfold State.acceptMarks
  extract_lets results copy fallback
  have hresults : s.Steady results :=
    foldl_steady _ _ (State.setResult_steady (.refl s) s.copy 1) (fun _ _ h => State.setResult_steady h _ _)
  have hcopy : s.Steady copy := State.gfset_steady hresults _ _ _ _
  have hfallback : s.Steady fallback :=
    ite_steady hcopy (State.occurInfo_steady (State.gfset_steady hcopy rBootStatus 9 1 1) 385 0)
  exact ite_steady (State.modPort_steady (State.gfset_steady hfallback rBootStatus 10 1 0) _ _) hfallback

theorem State.acceptImage_within {m : Reach} (hm : m.image = true) (s : State) (i : ImgSrc) (words : Tab W32) :
    s.Within m (s.acceptImage i words) := by
  have hwords : s.Within m (s.acceptMarks.loadWords words) := .of_steady (State.loadWords_steady s.acceptMarks_steady words)
  rw [State.acceptImage_eq]
  extract_lets marks _
  have hconfig : ∀ b : Boot, s.Within m { s.acceptMarks.loadWords words with img := i.config, boot := b } := fun _ =>
    ⟨hwords.pending, hwords.variant, hwords.canon, hwords.time, hwords.keys,
      fun k => absurd (hm.symm.trans k) Bool.noConfusion, hwords.test⟩
  exact (hconfig _).steady (State.kickAll_steady (State.setPhase_steady (.refl _) 6))

theorem execApplyDone_answers (s : State) : Answers .applyDone s (execApplyDone s) := by
  refine .of_within (ite_within ?_ (.refl s))
  dsimp only
  split
  · exact s.sectionFailed_within rfl _
  · split
    · exact State.nextCopy_within rfl (.of_steady (State.setResult_steady (State.setErrLoc_steady (.refl s) _) _ _))
    · exact s.acceptImage_within rfl _ _

/-- Every live port falls, and no key is ready any more (R373). -/
def State.testFall (s : State) : State :=
  let t := (List.range s.variant.ports).foldl (fun t p => if (t.port p).live then t.fallPort p else t) s
  t.gset rKeyStatus (t.g rKeyStatus &&& ~~~1)

theorem State.testFall_steady (s : State) : s.Steady s.testFall :=
  State.gset_steady (foldl_steady _ _ (.refl s) (fun _ _ h => ite_steady (State.fallPort_steady h _) h)) _ _

theorem execTestModeEntry_answers (s : State) : Answers .testModeEntry s (execTestModeEntry s) := by
  have hfall := s.testFall_steady
  refine .of_within (ite_within (.refl s) ⟨hfall.pending, hfall.variant, fun c => ?_, fun _ => ⟨hfall.slot, hfall.fc, hfall.fcInSlot⟩,
    nofun, nofun, nofun⟩)
  obtain ⟨hrf, hports, hpa, hpb⟩ := hfall.canon c
  exact ⟨hrf, hports, hpa, hpb⟩

theorem execWrapperInstructionUpdate_answers (s : State) (w : WsInstr) :
    Answers (.wrapperInstructionUpdate w) s (execWrapperInstructionUpdate w s) :=
  .of_within ((State.Within.refl s).setTest rfl _)

/-! ### Every command -/

/-- Every command answers, and reaches only what Safety.lean says: the commands without a lemma of their own above are steady. -/
theorem exec_answers (s : State) : ∀ c : Instr, Answers c s (exec c s)
  | .slotBoundary => execSlotBoundary_answers s
  | .outputArbitration .. => .of_steadyOut (execOutputArbitration_steady (.refl s) ..)
  | .drainAnswer .. => .of_steadyOut (execDrainAnswer_steady (.refl s) ..)
  | .creditReturn .. => .of_steadyOut (execCreditReturn_steady (.refl s) ..)
  | .linkCheckFailure .. => .of_steadyOut (execLinkCheckFailure_steady (.refl s) ..)
  | .linkRetryRequest .. => .of_steadyOut (execLinkRetryRequest_steady (.refl s) ..)
  | .stitchRead .. => .of_steadyOut (execStitchRead_steady (.refl s) ..)
  | .stitchFetch .. => .of_steadyOut (execStitchFetch_steady (.refl s) ..)
  | .stitchWrite .. => .of_steadyOut (execStitchWrite_steady (.refl s) ..)
  | .stitchAtomic .. => .of_steadyOut (execStitchAtomic_steady (.refl s) ..)
  | .stitchFence .. => .of_steadyOut (execStitchFence_steady (.refl s) ..)
  | .stitchMessage .. => .of_steadyOut (execStitchMessage_steady (.refl s) ..)
  | .pieceIssue .. => .of_steadyOut (execPieceIssue_steady (.refl s) ..)
  | .rackReceived .. => .of_steadyOut (execRackReceived_steady (.refl s) ..)
  | .rdataReceived .. => .of_steadyOut (execRdataReceived_steady (.refl s) ..)
  | .fenceComplete .. => .of_steadyOut (execFenceComplete_steady (.refl s) ..)
  | .retryReceived .. => .of_steadyOut (execRetryReceived_steady (.refl s) ..)
  | .reissue .. => .of_steadyOut (execReissue_steady (.refl s) ..)
  | .targetRequest .. => .of_steadyOut (execTargetRequest_steady (.refl s) ..)
  | .treqPresent .. => .of_steadyOut (execTreqPresent_steady (.refl s) ..)
  | .trspResponse .. => .of_steadyOut (execTrspResponse_steady (.refl s) ..)
  | .atomicWriteBack .. => .of_steadyOut (execAtomicWriteBack_steady (.refl s) ..)
  | .writeMerge .. => .of_steadyOut (execWriteMerge_steady (.refl s) ..)
  | .pathFence .. => .of_steadyOut (execPathFence_steady (.refl s) ..)
  | .pathFenceAck .. => .of_steadyOut (execPathFenceAck_steady (.refl s) ..)
  | .lockAcquire .. => .of_steadyOut (execLockAcquire_steady (.refl s) ..)
  | .lockRelease .. => .of_steadyOut (execLockRelease_steady (.refl s) ..)
  | .lockExpiry .. => .of_steadyOut (execLockExpiry_steady (.refl s) ..)
  | .lockBreak .. => .of_steadyOut (execLockBreak_steady (.refl s) ..)
  | .lockFree .. => .of_steadyOut (execLockFree_steady (.refl s) ..)
  | .portLiveFall .. => .of_steadyOut (execPortLiveFall_steady (.refl s) ..)
  | .portLiveRise .. => .of_steadyOut (execPortLiveRise_steady (.refl s) ..)
  | .islandLock .. => .of_steadyOut (execIslandLock_steady (.refl s) ..)
  | .islandUnlock .. => .of_steadyOut (execIslandUnlock_steady (.refl s) ..)
  | .islandRelock .. => .of_steadyOut (execIslandRelock_steady (.refl s) ..)
  | .gtStreamEnable => .of_steadyOut (execGtStreamEnable_steady (.refl s))
  | .gtRelease .. => .of_steadyOut (execGtRelease_steady (.refl s) ..)
  | .gtLateDelivery .. => .of_steadyOut (execGtLateDelivery_steady (.refl s) ..)
  | .placementLookup .. => .of_steadyOut (execPlacementLookup_steady (.refl s) ..)
  | .tableError .. => .of_steadyOut (execTableError_steady (.refl s) ..)
  | .lookupReply .. => .of_steadyOut (execLookupReply_steady (.refl s) ..)
  | .lookasideInvalidate .. => .of_steadyOut (execLookasideInvalidate_steady (.refl s) ..)
  | .lookasideFreeze .. => .of_steadyOut (execLookasideFreeze_steady (.refl s) ..)
  | .freezeAcknowledge .. => .of_steadyOut (execFreezeAcknowledge_steady (.refl s) ..)
  | .lookasideRelease .. => .of_steadyOut (execLookasideRelease_steady (.refl s) ..)
  | .lookasideWatch .. => .of_steadyOut (execLookasideWatch_steady (.refl s) ..)
  | .invalidateAcknowledge .. => .of_steadyOut (execInvalidateAcknowledge_steady (.refl s) ..)
  | .periodBoundary .. => .of_steadyOut (execPeriodBoundary_steady (.refl s) ..)
  | .migrationCopyDone .. => .of_steadyOut (execMigrationCopyDone_steady (.refl s) ..)
  | .migrationRecopyDone .. => .of_steadyOut (execMigrationRecopyDone_steady (.refl s) ..)
  | .freezeLimitReached .. => .of_steadyOut (execFreezeLimitReached_steady (.refl s) ..)
  | .silentInitiator .. => .of_steadyOut (execSilentInitiator_steady (.refl s) ..)
  | .timedModeEnd .. => .of_steadyOut (execTimedModeEnd_steady (.refl s) ..)
  | .timedReq .. => .of_steadyOut (execTimedReq_steady (.refl s) ..)
  | .timedResume .. => .of_steadyOut (execTimedResume_steady (.refl s) ..)
  | .pagePin .. => .of_steadyOut (execPagePin_steady (.refl s) ..)
  | .pageUnpin .. => .of_steadyOut (execPageUnpin_steady (.refl s) ..)
  | .pageDemote .. => .of_steadyOut (execPageDemote_steady (.refl s) ..)
  | .queueTailGate .. => .of_steadyOut (execQueueTailGate_steady (.refl s) ..)
  | .ringWriteRack .. => .of_steadyOut (execRingWriteRack_steady (.refl s) ..)
  | .doorbellRack .. => .of_steadyOut (execDoorbellRack_steady (.refl s) ..)
  | .queueStatus .. => .of_steadyOut (execQueueStatus_steady (.refl s) ..)
  | .queueConsume .. => .of_steadyOut (execQueueConsume_steady (.refl s) ..)
  | .consumeArm .. => .of_steadyOut (execConsumeArm_steady (.refl s) ..)
  | .memberLeave .. => .of_steadyOut (execMemberLeave_steady (.refl s) ..)
  | .memberJoin .. => .of_steadyOut (execMemberJoin_steady (.refl s) ..)
  | .heldMessageAdmit .. => .of_steadyOut (execHeldMessageAdmit_steady (.refl s) ..)
  | .rebalanceBoundary .. => .of_steadyOut (execRebalanceBoundary_steady (.refl s) ..)
  | .keywaitExpiry .. => .of_steadyOut (execKeywaitExpiry_steady (.refl s) ..)
  | .redeliveryRead .. => .of_steadyOut (execRedeliveryRead_steady (.refl s) ..)
  | .lossFinish .. => .of_steadyOut (execLossFinish_steady (.refl s) ..)
  | .queueStop .. => .of_steadyOut (execQueueStop_steady (.refl s) ..)
  | .queueFlush .. => .of_steadyOut (execQueueFlush_steady (.refl s) ..)
  | .regionCommit .. => .of_steadyOut (execRegionCommit_steady (.refl s) ..)
  | .recordWrite .. => .of_steadyOut (execRecordWrite_steady (.refl s) ..)
  | .recordWriteRack .. => .of_steadyOut (execRecordWriteRack_steady (.refl s) ..)
  | .recTailWrite .. => .of_steadyOut (execRecTailWrite_steady (.refl s) ..)
  | .ownerResetGo .. => .of_steadyOut (execOwnerResetGo_steady (.refl s) ..)
  | .ownerClose => .of_steadyOut (execOwnerClose_steady (.refl s))
  | .ownerDrainDone => .of_steadyOut (execOwnerDrainDone_steady (.refl s))
  | .ownerResetStall => .of_steadyOut (execOwnerResetStall_steady (.refl s))
  | .keyDerivationDone k => execKeyDerivationDone_answers s k
  | .ownerKeySwitch => execOwnerKeySwitch_answers s
  | .ownerCleanDone => .of_steadyOut (execOwnerCleanDone_steady (.refl s))
  | .ownerOpen => .of_steadyOut (execOwnerOpen_steady (.refl s))
  | .channelRegisterWrite .. => .of_steadyOut (execChannelRegisterWrite_steady (.refl s) ..)
  | .channelStart .. => .of_steadyOut (execChannelStart_steady (.refl s) ..)
  | .channelStop .. => .of_steadyOut (execChannelStop_steady (.refl s) ..)
  | .listReadAnswer .. => .of_steadyOut (execListReadAnswer_steady (.refl s) ..)
  | .burstStart .. => .of_steadyOut (execBurstStart_steady (.refl s) ..)
  | .muleResponse .. => .of_steadyOut (execMuleResponse_steady (.refl s) ..)
  | .muleParityError .. => .of_steadyOut (execMuleParityError_steady (.refl s) ..)
  | .comparatorDecision .. => .of_steadyOut (execComparatorDecision_steady (.refl s) ..)
  | .comparatorReplay .. => .of_steadyOut (execComparatorReplay_steady (.refl s) ..)
  | .divergeTimeout .. => .of_steadyOut (execDivergeTimeout_steady (.refl s) ..)
  | .planeCheckerFire .. => .of_steadyOut (execPlaneCheckerFire_steady (.refl s) ..)
  | .planeOut => .of_steadyOut (execPlaneOut_steady (.refl s))
  | .forceOutA .. => .of_steadyOut (execForceOutA_steady (.refl s) ..)
  | .forceOutB .. => .of_steadyOut (execForceOutB_steady (.refl s) ..)
  | .planeResetDone => .of_steadyOut (execPlaneResetDone_steady (.refl s))
  | .selftestDone .. => .of_steadyOut (execSelftestDone_steady (.refl s) ..)
  | .kettleWordError .. => .of_steadyOut (execKettleWordError_steady (.refl s) ..)
  | .sweepDone => .of_steadyOut (execSweepDone_steady (.refl s))
  | .joinStart => .of_steadyOut (execJoinStart_steady (.refl s))
  | .joinDrainDone => .of_steadyOut (execJoinDrainDone_steady (.refl s))
  | .joinResume => .of_steadyOut (execJoinResume_steady (.refl s))
  | .joinAbort => .of_steadyOut (execJoinAbort_steady (.refl s))
  | .pairRejoin .. => .of_steadyOut (execPairRejoin_steady (.refl s) ..)
  | .clearSuspect .. => .of_steadyOut (execClearSuspect_steady (.refl s) ..)
  | .proofTest .. => .of_steadyOut (execProofTest_steady (.refl s) ..)
  | .safeOutAssert => .of_steadyOut (execSafeOutAssert_steady (.refl s))
  | .safeRelease .. => .of_steadyOut (execSafeRelease_steady (.refl s) ..)
  | .deviceReset => execDeviceReset_answers s
  | .deviceResetRelease => execDeviceResetRelease_answers s
  | .fuseSample .. => .of_steadyOut (execFuseSample_steady (.refl s) ..)
  | .discoveryDone .. => .of_steadyOut (execDiscoveryDone_steady (.refl s) ..)
  | .headersRead a b => execHeadersRead_answers s a b
  | .flashDqsTimeout => execFlashDqsTimeout_answers s
  | .imageReadDone .. => .of_steadyOut (execImageReadDone_steady (.refl s) ..)
  | .vigenOutcome selfCheckOk => execVigenOutcome_answers s selfCheckOk
  | .applyDone => execApplyDone_answers s
  | .fabricDone .. => .of_steadyOut (execFabricDone_steady (.refl s) ..)
  | .islandLockTimeout .. => .of_steadyOut (execIslandLockTimeout_steady (.refl s) ..)
  | .tableDone => .of_steadyOut (execTableDone_steady (.refl s))
  | .startupDone => .of_steadyOut (execStartupDone_steady (.refl s))
  | .imgReboot .. => .of_steadyOut (execImgReboot_steady (.refl s) ..)
  | .flashRead .. => .of_steadyOut (execFlashRead_steady (.refl s) ..)
  | .flashProgram .. => .of_steadyOut (execFlashProgram_steady (.refl s) ..)
  | .flashErase .. => .of_steadyOut (execFlashErase_steady (.refl s) ..)
  | .flashCommandDone .. => .of_steadyOut (execFlashCommandDone_steady (.refl s) ..)
  | .flashTimeout => .of_steadyOut (execFlashTimeout_steady (.refl s))
  | .powerRun .. => .of_steadyOut (execPowerRun_steady (.refl s) ..)
  | .powerSleep .. => .of_steadyOut (execPowerSleep_steady (.refl s) ..)
  | .powerDeepSleep .. => .of_steadyOut (execPowerDeepSleep_steady (.refl s) ..)
  | .powerOff .. => .of_steadyOut (execPowerOff_steady (.refl s) ..)
  | .autoIdleEntry .. => .of_steadyOut (execAutoIdleEntry_steady (.refl s) ..)
  | .idleExit .. => .of_steadyOut (execIdleExit_steady (.refl s) ..)
  | .autoSleepEntry .. => .of_steadyOut (execAutoSleepEntry_steady (.refl s) ..)
  | .entryClose .. => .of_steadyOut (execEntryClose_steady (.refl s) ..)
  | .entryVacateDone .. => .of_steadyOut (execEntryVacateDone_steady (.refl s) ..)
  | .entryDrainDone .. => .of_steadyOut (execEntryDrainDone_steady (.refl s) ..)
  | .entryPark .. => .of_steadyOut (execEntryPark_steady (.refl s) ..)
  | .entryCommit q => execEntryCommit_answers s q
  | .entryDrainLimit .. => .of_steadyOut (execEntryDrainLimit_steady (.refl s) ..)
  | .wakeIn => .of_steadyOut (execWakeIn_steady (.refl s))
  | .alarmWake => .of_steadyOut (execAlarmWake_steady (.refl s))
  | .mpWake .. => .of_steadyOut (execMpWake_steady (.refl s) ..)
  | .supplyAck device q => execSupplyAck_answers s device q
  | .quireExitComplete .. => .of_steadyOut (execQuireExitComplete_steady (.refl s) ..)
  | .padFunctionSwitch .. => .of_steadyOut (execPadFunctionSwitch_steady (.refl s) ..)
  | .padHoldEnd .. => .of_steadyOut (execPadHoldEnd_steady (.refl s) ..)
  | .padHoldRelease .. => .of_steadyOut (execPadHoldRelease_steady (.refl s) ..)
  | .eventRaise .. => .of_steadyOut (execEventRaise_steady (.refl s) ..)
  | .eventAck .. => .of_steadyOut (execEventAck_steady (.refl s) ..)
  | .emitterSelect => .of_steadyOut (execEmitterSelect_steady (.refl s))
  | .eventHandoff => .of_steadyOut (execEventHandoff_steady (.refl s))
  | .eventDeliveryRack .. => .of_steadyOut (execEventDeliveryRack_steady (.refl s) ..)
  | .eventHoldExpiry .. => .of_steadyOut (execEventHoldExpiry_steady (.refl s) ..)
  | .ctrValLoWrite .. => .of_steadyOut (execCtrValLoWrite_steady (.refl s) ..)
  | .ctrValLoRead .. => .of_steadyOut (execCtrValLoRead_steady (.refl s) ..)
  | .slotLoRead .. => .of_steadyOut (execSlotLoRead_steady (.refl s) ..)
  | .readClear .. => .of_steadyOut (execReadClear_steady (.refl s) ..)
  | .w1cWrite .. => .of_steadyOut (execW1cWrite_steady (.refl s) ..)
  | .registerWrite .. => .of_steadyOut (execRegisterWrite_steady (.refl s) ..)
  | .mirrorRefresh .. => .of_steadyOut (execMirrorRefresh_steady (.refl s) ..)
  | .ownerMirrorRead .. => .of_steadyOut (execOwnerMirrorRead_steady (.refl s) ..)
  | .dumpBoundary .. => .of_steadyOut (execDumpBoundary_steady (.refl s) ..)
  | .dumpPacket .. => .of_steadyOut (execDumpPacket_steady (.refl s) ..)
  | .dumpAcknowledge .. => .of_steadyOut (execDumpAcknowledge_steady (.refl s) ..)
  | .dumpRecordWrite .. => .of_steadyOut (execDumpRecordWrite_steady (.refl s) ..)
  | .dumpWriteRack .. => .of_steadyOut (execDumpWriteRack_steady (.refl s) ..)
  | .dgTailWrite .. => .of_steadyOut (execDgTailWrite_steady (.refl s) ..)
  | .dgEnable .. => .of_steadyOut (execDgEnable_steady (.refl s) ..)
  | .snapshotTrigger .. => .of_steadyOut (execSnapshotTrigger_steady (.refl s) ..)
  | .snapInEdge .. => .of_steadyOut (execSnapInEdge_steady (.refl s) ..)
  | .snapshotLatch => .of_steadyOut (execSnapshotLatch_steady (.refl s))
  | .snapshotArm .. => .of_steadyOut (execSnapshotArm_steady (.refl s) ..)
  | .portResetRequest .. => .of_steadyOut (execPortResetRequest_steady (.refl s) ..)
  | .portResetAssert .. => .of_steadyOut (execPortResetAssert_steady (.refl s) ..)
  | .portResetRelease .. => .of_steadyOut (execPortResetRelease_steady (.refl s) ..)
  | .portResetWithdraw .. => .of_steadyOut (execPortResetWithdraw_steady (.refl s) ..)
  | .unitDown .. => .of_steadyOut (execUnitDown_steady (.refl s) ..)
  | .testModeEntry => execTestModeEntry_answers s
  | .alwaysOnSupplyRemoved => .of_steadyOut (execAlwaysOnSupplyRemoved_steady (.refl s))
  | .wrapperInstructionUpdate w => execWrapperInstructionUpdate_answers s w
theorem step_canon {s t : State} (hs : s.Canon) (h : step s = .next t) : t.Canon := by
  unfold step at h
  split at h
  · obtain rfl : s.tick = t := Host.Outcome.next.inj h
    exact (s.tick_within (m := { time := true }) rfl).canon hs
  · next c rest _ =>
    obtain ⟨u, hu, hwithin⟩ := exec_answers { s with pending := rest } c
    obtain rfl : u = t := Host.Outcome.next.inj (hu.symm.trans h)
    exact hwithin.canon hs

/-- Settles O59: no command and no fc takes the tables out of order. -/
theorem stepsKeepOrder : Obligations.StepsKeepOrder := fun _ _ hs h => step_canon hs h

/-- Settles O56: the outcome of `exec_answers` keeps the queue and the part. -/
theorem everyCommandAnswersAndKeepsTheQueue : Obligations.EveryCommandAnswersAndKeepsTheQueue := by
  intro s c
  obtain ⟨t, ht, hwithin⟩ := exec_answers s c
  exact ⟨t, ht, hwithin.pending, hwithin.variant⟩

/-- Settles O57: what a command may reach is what Safety.lean marks for it. -/
theorem onlyNamedCommandsReachTimeKeysImageAndTestPort : Obligations.OnlyNamedCommandsReachTimeKeysImageAndTestPort := by
  intro s t c h
  obtain ⟨u, hu, hwithin⟩ := exec_answers s c
  obtain rfl : u = t := Host.Outcome.next.inj (hu.symm.trans h)
  exact ⟨hwithin.time, hwithin.keys, hwithin.image, hwithin.test⟩

/-- Settles O53: a step is defined so. -/
theorem stepRunsFront : Obligations.StepRunsFront := by
  intro s c rest h
  unfold step
  rw [h]

/-- Settles O58: every table is empty at reset. -/
theorem resetIsInOrder : Obligations.ResetIsInOrder := State.resetOf_canon _

end Sys2Proof.Machine

namespace Sys2Proof.Machine

/-! ### Lists from behind -/

/-- Induction on a list whose last element comes on last, as a fold takes it. -/
theorem snocInduction {α : Type} {motive : List α → Prop} (nil : motive [])
    (append_singleton : ∀ l a, motive l → motive (l ++ [a])) (l : List α) : motive l := by
  have hreverse : ∀ r : List α, motive r.reverse := by
    intro r
    induction r with
    | nil => exact nil
    | cons a r ih =>
      rw [List.reverse_cons]
      exact append_singleton _ a ih
  exact l.reverse_reverse ▸ hreverse l.reverse

/-! ### Fields of a word, bit by bit (R9) -/

theorem testBit_fld {n : Nat} (w : BitVec n) (lo len i : Nat) :
    (fld w lo len).testBit i = (decide (i < len) && bit w (lo + i)) := by
  rw [fld, Nat.testBit_mod_two_pow, Nat.testBit_div_two_pow, BitVec.testBit_toNat, Nat.add_comm i lo, bit]

theorem fld_lt {n : Nat} (w : BitVec n) (lo len : Nat) : fld w lo len < 2 ^ len := Nat.mod_lt _ (Nat.two_pow_pos len)

/-- A field is read off its bits. -/
theorem fld_congr {n m : Nat} {w : BitVec n} {v : BitVec m} {lo l len : Nat}
    (h : ∀ i, i < len → bit w (lo + i) = bit v (l + i)) : fld w lo len = fld v l len := by
  refine Nat.eq_of_testBit_eq fun i => ?_
  rw [testBit_fld, testBit_fld]
  by_cases hi : i < len
  · rw [h i hi]
  · simp [hi]

theorem bit_ofNat {n : Nat} (x : Nat) {i : Nat} (hi : i < n) : bit (BitVec.ofNat n x) i = x.testBit i := by
  rw [bit, BitVec.getLsbD_ofNat, decide_eq_true hi, Bool.true_and]

/-- The number that `setFld` cuts to the word's width: what stands above the field, the new value, what stands below. -/
theorem setFld_parts (x lo len v : Nat) :
    x - x / 2 ^ lo % 2 ^ len * 2 ^ lo + v % 2 ^ len * 2 ^ lo =
      2 ^ lo * (2 ^ len * (x / 2 ^ lo / 2 ^ len) + v % 2 ^ len) + x % 2 ^ lo := by
  have hlow : 2 ^ lo * (x / 2 ^ lo) + x % 2 ^ lo = x := Nat.div_add_mod x _
  have hfield : 2 ^ len * (x / 2 ^ lo / 2 ^ len) + x / 2 ^ lo % 2 ^ len = x / 2 ^ lo := Nat.div_add_mod _ _
  generalize hq : x / 2 ^ lo / 2 ^ len = q at *
  generalize hf : x / 2 ^ lo % 2 ^ len = f at *
  generalize hr : x % 2 ^ lo = r at *
  rw [← hfield] at hlow
  have hx : x = 2 ^ lo * (2 ^ len * q) + f * 2 ^ lo + r := by rw [← hlow, Nat.mul_add, Nat.mul_comm f]
  rw [hx, Nat.mul_add, Nat.mul_comm (v % 2 ^ len)]
  omega

theorem bit_setFld {n : Nat} (w : BitVec n) (lo len v : Nat) {i : Nat} (hi : i < n) :
    bit (setFld w lo len v) i = if lo ≤ i ∧ i < lo + len then v.testBit (i - lo) else bit w i := by
  have hlen : v % 2 ^ len < 2 ^ len := Nat.mod_lt _ (Nat.two_pow_pos len)
  have hlow : w.toNat % 2 ^ lo < 2 ^ lo := Nat.mod_lt _ (Nat.two_pow_pos lo)
  rw [setFld, bit_ofNat _ hi, fld, setFld_parts, Nat.testBit_two_pow_mul_add _ hlow, Nat.testBit_two_pow_mul_add _ hlen]
  by_cases hbelow : i < lo
  · simp [hbelow, Nat.not_le.2 hbelow, Nat.testBit_mod_two_pow, bit, BitVec.testBit_toNat, -BitVec.getLsbD_eq_getElem]
  · by_cases hin : i - lo < len
    · have hfield : lo ≤ i ∧ i < lo + len := by omega
      rw [if_neg hbelow, if_pos hin, if_pos hfield, Nat.testBit_mod_two_pow, decide_eq_true hin, Bool.true_and]
    · have habove : ¬(lo ≤ i ∧ i < lo + len) := by omega
      have hplace : i - lo - len + len + lo = i := by omega
      rw [if_neg hbelow, if_neg hin, if_neg habove, Nat.testBit_div_two_pow, Nat.testBit_div_two_pow, hplace,
        BitVec.testBit_toNat, bit]

/-- A field reads what was written into it. -/
theorem fld_setFld {n : Nat} (w : BitVec n) {lo len : Nat} (v : Nat) (h : lo + len ≤ n) :
    fld (setFld w lo len v) lo len = v % 2 ^ len := by
  refine Nat.eq_of_testBit_eq fun i => ?_
  rw [testBit_fld, Nat.testBit_mod_two_pow]
  by_cases hi : i < len
  · rw [bit_setFld w lo len v (by omega), if_pos (by omega), Nat.add_sub_cancel_left]
  · simp [hi]

/-- A bit at or above the width is 0. -/
theorem bit_of_le {n : Nat} (w : BitVec n) {i : Nat} (h : n ≤ i) : bit w i = false := BitVec.getLsbD_of_ge w i h

theorem bit_setFld_of_disjoint {n : Nat} (w : BitVec n) {lo len : Nat} (v : Nat) {i : Nat} (h : i < lo ∨ lo + len ≤ i) :
    bit (setFld w lo len v) i = bit w i := by
  by_cases hi : i < n
  · rw [bit_setFld w lo len v hi, if_neg (by omega)]
  · rw [bit_of_le _ (Nat.le_of_not_lt hi), bit_of_le _ (Nat.le_of_not_lt hi)]

/-- Fields that do not meet keep what they hold. -/
theorem fld_setFld_of_disjoint {n : Nat} (w : BitVec n) {lo len l k : Nat} (v : Nat) (h : l + k ≤ lo ∨ lo + len ≤ l) :
    fld (setFld w lo len v) l k = fld w l k :=
  fld_congr fun i hi => bit_setFld_of_disjoint w v (by omega)

/-- One bit is written as a field of length 1. -/
theorem bit_setFld_same {n : Nat} (w : BitVec n) {i : Nat} (b : Bool) (h : i < n) : bit (setFld w i 1 (b2n b)) i = b := by
  rw [bit_setFld w i 1 _ h, if_pos (by omega), Nat.sub_self]
  cases b <;> rfl

/-- A field of length 1 is its bit. -/
theorem fld_one {n : Nat} (w : BitVec n) (i : Nat) : fld w i 1 = b2n (bit w i) := by
  have hbit := bit_eq_false_iff_fld w i
  have hlt : fld w i 1 < 2 := fld_lt w i 1
  cases hb : bit w i with
  | false => exact hbit.1 hb
  | true =>
    have hne : fld w i 1 ≠ 0 := fun h => Bool.noConfusion (hb.symm.trans (hbit.2 h))
    show fld w i 1 = 1
    omega

/-! ### Byte enables and merged granules (R37, R195) -/

/-- The number that `benMask` sums up of the first `k` byte enables. -/
def benSum (ben : BitVec 64) (k : Nat) : Nat :=
  (List.range k).foldl (fun a i => if ben.getLsbD i then a + 255 * 2 ^ (8 * i) else a) 0

theorem benSum_succ (ben : BitVec 64) (k : Nat) : benSum ben (k + 1) =
    2 ^ (8 * k) * (if ben.getLsbD k then 2 ^ 8 - 1 else 0) + benSum ben k := by
  unfold benSum
  rw [List.range_succ, List.foldl_append, List.foldl_cons, List.foldl_nil]
  cases ben.getLsbD k
  · simp
  · simp [Nat.mul_comm, Nat.add_comm]

theorem benSum_lt (ben : BitVec 64) (k : Nat) : benSum ben k < 2 ^ (8 * k) := by
  induction k with
  | zero => exact Nat.one_pos
  | succ k ih =>
    have hbyte : (if ben.getLsbD k then 2 ^ 8 - 1 else 0) ≤ 255 := by split <;> omega
    have hmul := Nat.mul_le_mul_left (2 ^ (8 * k)) hbyte
    rw [benSum_succ, show 8 * (k + 1) = 8 * k + 8 by omega, Nat.pow_add]
    omega

theorem testBit_benSum (ben : BitVec 64) (k j : Nat) : (benSum ben k).testBit j = (decide (j < 8 * k) && ben.getLsbD (j / 8)) := by
  induction k with
  | zero => simp [benSum]
  | succ k ih =>
    rw [benSum_succ, Nat.testBit_two_pow_mul_add _ (benSum_lt ben k)]
    by_cases hlow : j < 8 * k
    · rw [if_pos hlow, ih]
      simp [hlow, show j < 8 * (k + 1) by omega]
    · rw [if_neg hlow]
      by_cases hin : j < 8 * (k + 1)
      · have hbyte : j / 8 = k := by omega
        rw [hbyte]
        cases ben.getLsbD k
        · simp
        · rw [if_pos rfl, Nat.testBit_two_pow_sub_one]
          simp [hin, show j - 8 * k < 8 by omega]
      · cases ben.getLsbD k
        · simp [hin]
        · rw [if_pos rfl, Nat.testBit_two_pow_sub_one]
          simp [hin, show ¬ j - 8 * k < 8 by omega]

/-- A bit of the mask is the enable of its byte. -/
theorem bit_benMask (ben : BitVec 64) {j : Nat} (hj : j < 512) : bit (benMask ben) j = ben.getLsbD (j / 8) := by
  have hsum : benMask ben = BitVec.ofNat 512 (benSum ben 64) := rfl
  rw [hsum, bit_ofNat _ hj, testBit_benSum]
  simp [hj]

theorem bit_mergeLine (old new : Line) (ben : BitVec 64) {j : Nat} (hj : j < 512) :
    bit (mergeLine old new ben) j = if ben.getLsbD (j / 8) then bit new j else bit old j := by
  have hmask := bit_benMask ben hj
  unfold bit at hmask
  simp only [bit, mergeLine, BitVec.getLsbD_or, BitVec.getLsbD_and, BitVec.getLsbD_not, hmask, hj]
  cases ben.getLsbD (j / 8) <;> simp

/-- Settles O7: the bits of one byte have one enable. -/
theorem mergeByByte : Obligations.MergeByByte := by
  intro old new ben i hi
  have hbits : ∀ j, j < 8 → bit (mergeLine old new ben) (8 * i + j) =
      if ben.getLsbD i then bit new (8 * i + j) else bit old (8 * i + j) := by
    intro j hj
    rw [bit_mergeLine _ _ _ (by omega), show (8 * i + j) / 8 = i by omega]
  unfold byteAt
  cases hben : ben.getLsbD i with
  | true => exact fld_congr fun j hj => by rw [hbits j hj, hben]; rfl
  | false => exact fld_congr fun j hj => by rw [hbits j hj, hben]; rfl

/-! ### Atomic operations (R52) -/

/-- An operand read as a signed number is the word's signed value. -/
theorem signedOf_toNat {n : Nat} (x : BitVec n) (hn : 0 < n) : signedOf n x.toNat = x.toInt := by
  have hhalf : 2 * 2 ^ (n - 1) = 2 ^ n := by rw [← Nat.pow_succ']; congr 1; omega
  rw [signedOf, BitVec.toInt_eq_toNat_cond]
  by_cases h : x.toNat < 2 ^ (n - 1)
  · rw [if_pos h, if_pos (by omega)]
  · rw [if_neg h, if_neg (by omega)]
    norm_cast

theorem toNat_max_of_ult {n : Nat} (x y : BitVec n) : max x.toNat y.toNat = (if x.ult y then y else x).toNat := by
  rw [BitVec.ult]
  by_cases h : x.toNat < y.toNat
  · simp [h, Nat.le_of_lt h]
  · simp [h, Nat.le_of_not_lt h]

theorem toNat_min_of_ult {n : Nat} (x y : BitVec n) : min x.toNat y.toNat = (if y.ult x then y else x).toNat := by
  rw [BitVec.ult]
  by_cases h : y.toNat < x.toNat
  · simp [h, Nat.le_of_lt h]
  · simp [h, Nat.le_of_not_lt h]

theorem toNat_ite_of_signedOf {n : Nat} (x y z w : BitVec n) (hn : 0 < n) :
    (if signedOf n x.toNat < signedOf n y.toNat then z.toNat else w.toNat) = (if x.slt y then z else w).toNat := by
  rw [signedOf_toNat x hn, signedOf_toNat y hn, BitVec.slt]
  by_cases h : x.toInt < y.toInt <;> simp [h]

/-- Settles O8: each operation on numbers is that on words. -/
theorem atomicOperations : Obligations.AtomicOperations := by
  intro n old a b hn
  refine ⟨rfl, ?_, (BitVec.toNat_add old a).symm, (BitVec.toNat_and old a).symm, (BitVec.toNat_or old a).symm,
    (BitVec.toNat_xor old a).symm, toNat_ite_of_signedOf old a a old hn, toNat_ite_of_signedOf a old a old hn,
    toNat_max_of_ult old a, toNat_min_of_ult old a⟩
  show (if old.toNat = a.toNat then b.toNat else old.toNat) = if old = a then b.toNat else old.toNat
  simp only [BitVec.toNat_inj]

end Sys2Proof.Machine

namespace Sys2Proof.Machine

/-! ### Choices by rank: the emitter (R318) and the members of a flock (R172) -/

/-- One step of a choice: a later element takes the place of the one kept only when it is better. -/
def keepBest {α : Type} (better : α → α → Bool) (a : Option α) (x : α) : Option α :=
  match a with
  | none => some x
  | some b => if better x b then some x else some b

section

variable {α : Type}

/-- `m` is the first of the greatest: it stands behind smaller ones only, and before none that is greater. -/
def FirstGreatest (f : α → Nat) (q : List α) (m : α) : Prop :=
  ∃ l r, q = l ++ m :: r ∧ (∀ x ∈ l, f x < f m) ∧ ∀ x ∈ r, f x ≤ f m

theorem not_firstGreatest_nil (f : α → Nat) (m : α) : ¬ FirstGreatest f [] m := by
  rintro ⟨l, r, h, -⟩
  exact absurd (congrArg List.length h) (by simp)

theorem firstGreatest_cons (f : α → Nat) (b : α) (q : List α) (m : α) :
    FirstGreatest f (b :: q) m ↔ (m = b ∧ ∀ x ∈ q, f x ≤ f b) ∨ (f b < f m ∧ FirstGreatest f q m) := by
  constructor
  · rintro ⟨l, r, h, hl, hr⟩
    cases l with
    | nil =>
      obtain ⟨rfl, rfl⟩ := List.cons.inj h
      exact .inl ⟨rfl, hr⟩
    | cons c l =>
      obtain ⟨rfl, rfl⟩ := List.cons.inj h
      exact .inr ⟨hl _ List.mem_cons_self, l, r, rfl, fun x hx => hl x (List.mem_cons_of_mem _ hx), hr⟩
  · rintro (⟨rfl, h⟩ | ⟨hb, l, r, rfl, hl, hr⟩)
    · exact ⟨[], q, rfl, fun _ hx => absurd hx List.not_mem_nil, h⟩
    · exact ⟨b :: l, r, rfl, List.forall_mem_cons.2 ⟨hb, hl⟩, hr⟩

theorem FirstGreatest.le {f : α → Nat} {q : List α} {m x : α} (h : FirstGreatest f q m) (hx : x ∈ q) : f x ≤ f m := by
  obtain ⟨l, r, rfl, hl, hr⟩ := h
  rcases List.mem_append.1 hx with h | h
  · exact Nat.le_of_lt (hl x h)
  · rcases List.mem_cons.1 h with rfl | h
    · exact Nat.le_refl _
    · exact hr x h

/-- Of two elements in front, the one kept decides like both. -/
theorem firstGreatest_keep (f : α → Nat) (b x : α) (q : List α) (m : α) :
    FirstGreatest f (b :: x :: q) m ↔ FirstGreatest f ((if f b < f x then x else b) :: q) m := by
  split
  · next hbx =>
    rw [firstGreatest_cons f b]
    constructor
    · rintro (⟨-, h⟩ | ⟨-, h⟩)
      · exact absurd (h x List.mem_cons_self) (Nat.not_le.2 hbx)
      · exact h
    · exact fun h => .inr ⟨Nat.lt_of_lt_of_le hbx (h.le List.mem_cons_self), h⟩
  · next hbx =>
    have hxb : f x ≤ f b := Nat.not_lt.1 hbx
    rw [firstGreatest_cons f b, firstGreatest_cons f b, firstGreatest_cons f x]
    constructor
    · rintro (⟨rfl, h⟩ | ⟨hb, ⟨rfl, -⟩ | ⟨-, h⟩⟩)
      · exact .inl ⟨rfl, fun y hy => h y (List.mem_cons_of_mem _ hy)⟩
      · exact absurd hb hbx
      · exact .inr ⟨hb, h⟩
    · rintro (⟨rfl, h⟩ | ⟨hb, h⟩)
      · exact .inl ⟨rfl, List.forall_mem_cons.2 ⟨hxb, h⟩⟩
      · exact .inr ⟨hb, .inr ⟨Nat.lt_of_le_of_lt hxb hb, h⟩⟩

theorem foldl_keepBest_some_iff (f : α → Nat) (q : List α) (b m : α) :
    q.foldl (keepBest fun x y => decide (f y < f x)) (some b) = some m ↔ FirstGreatest f (b :: q) m := by
  induction q generalizing b with
  | nil =>
    rw [firstGreatest_cons, List.foldl_nil, Option.some_inj]
    constructor
    · exact fun h => .inl ⟨h.symm, fun _ hx => absurd hx List.not_mem_nil⟩
    · rintro (⟨h, -⟩ | ⟨-, h⟩)
      · exact h.symm
      · exact absurd h (not_firstGreatest_nil f m)
  | cons x q ih =>
    have hstep : keepBest (fun x y => decide (f y < f x)) (some b) x = some (if f b < f x then x else b) := by
      simp only [keepBest, decide_eq_true_eq]
      split <;> rfl
    rw [List.foldl_cons, hstep, ih, firstGreatest_keep]

theorem foldl_keepBest_iff (f : α → Nat) (q : List α) (m : α) :
    q.foldl (keepBest fun x y => decide (f y < f x)) none = some m ↔ FirstGreatest f q m := by
  cases q with
  | nil => exact ⟨fun h => (nomatch h), fun h => absurd h (not_firstGreatest_nil f m)⟩
  | cons b q => exact foldl_keepBest_some_iff f q b m

/-- What is kept in the end is one of the elements, and none is better. -/
theorem foldl_keepBest_some {better : α → α → Bool} (htrans : ∀ x y z, better x y → better y z → better x z)
    (hneg : ∀ x y z, better x z → better x y ∨ better y z) (hirr : ∀ x, ¬ better x x) {l : List α} {b m : α}
    (h : l.foldl (keepBest better) (some b) = some m) : m ∈ b :: l ∧ ∀ x ∈ b :: l, ¬ better x m := by
  induction l generalizing b with
  | nil =>
    obtain rfl := Option.some.inj h
    exact ⟨List.mem_cons_self, List.forall_mem_cons.2 ⟨hirr b, fun _ hx => absurd hx List.not_mem_nil⟩⟩
  | cons x l ih =>
    rw [List.foldl_cons, keepBest] at h
    split at h
    · next hx =>
      obtain ⟨hm, hbest⟩ := ih h
      have hbm : ¬ better b m := fun hb => hbest x List.mem_cons_self (htrans x b m hx hb)
      exact ⟨List.mem_cons_of_mem _ hm, List.forall_mem_cons.2 ⟨hbm, hbest⟩⟩
    · next hx =>
      obtain ⟨hm, hbest⟩ := ih h
      obtain ⟨hb, hl⟩ := List.forall_mem_cons.1 hbest
      have hxm : ¬ better x m := fun hxm => (hneg x b m hxm).elim hx hb
      refine ⟨?_, List.forall_mem_cons.2 ⟨hb, List.forall_mem_cons.2 ⟨hxm, hl⟩⟩⟩
      rcases List.mem_cons.1 hm with rfl | hm
      · exact List.mem_cons_self
      · exact List.mem_cons_of_mem _ (List.mem_cons_of_mem _ hm)

theorem foldl_keepBest {better : α → α → Bool} (htrans : ∀ x y z, better x y → better y z → better x z)
    (hneg : ∀ x y z, better x z → better x y ∨ better y z) (hirr : ∀ x, ¬ better x x) {l : List α} {m : α}
    (h : l.foldl (keepBest better) none = some m) : m ∈ l ∧ ∀ x ∈ l, ¬ better x m := by
  cases l with
  | nil => cases h
  | cons b l => exact foldl_keepBest_some htrans hneg hirr h

end

theorem State.evPick_eq_foldl (s : State) :
    s.evPick = s.evt.queue.foldl (keepBest fun x y => decide (s.evPrio y < s.evPrio x)) none := by
  refine congrArg (fun g => List.foldl g none _) (funext fun a => funext fun x => ?_)
  cases a with
  | none => rfl
  | some y => simp only [keepBest, decide_eq_true_eq]

/-- Settles O43: the emitter's fold is the first of the greatest. -/
theorem emitterPicksFirstOfHighestPriority : Obligations.EmitterPicksFirstOfHighestPriority := by
  intro s src
  rw [s.evPick_eq_foldl]
  exact foldl_keepBest_iff s.evPrio s.evt.queue src

/-- One member ranks before another: its load first, its index on a tie. -/
def State.ranksBefore (s : State) (pl : Pl) (start : Bool) (x y : Nat × Nat) : Bool :=
  decide (s.load pl x.2 start < s.load pl y.2 start ∨ (s.load pl x.2 start = s.load pl y.2 start ∧ x.1 < y.1))

theorem State.ranksBefore_iff (s : State) (pl : Pl) (start : Bool) (x y : Nat × Nat) : s.ranksBefore pl start x y = true ↔
    s.load pl x.2 start < s.load pl y.2 start ∨ (s.load pl x.2 start = s.load pl y.2 start ∧ x.1 < y.1) :=
  decide_eq_true_iff

theorem State.chooseMember_eq_foldl (s : State) (pl : Pl) (f : Nat) (start : Bool) : s.chooseMember pl f start =
    ((s.members pl f).filter (fun m => s.eligibleQ pl m.2 start)).foldl (keepBest (s.ranksBefore pl start)) none := by
  refine congrArg (fun g => List.foldl g none _) (funext fun a => funext fun m => ?_)
  cases a with
  | none => rfl
  | some b => simp only [keepBest, State.ranksBefore_iff]

/-- Settles O14: the choice is the member of least rank among the eligible. -/
theorem chosenMemberHasLeastLoad : Obligations.ChosenMemberHasLeastLoad := by
  intro s pl f start m h
  rw [s.chooseMember_eq_foldl] at h
  have hbest := foldl_keepBest (fun x y z => by simp only [State.ranksBefore_iff]; omega)
    (fun x y z => by simp only [State.ranksBefore_iff]; omega) (fun x => by simp only [State.ranksBefore_iff]; omega) h
  obtain ⟨hmem, helig⟩ := List.mem_filter.1 hbest.1
  refine ⟨hmem, helig, fun x hx hxe => ?_⟩
  have hrank := hbest.2 x (List.mem_filter.2 ⟨hx, hxe⟩)
  rw [State.ranksBefore_iff] at hrank
  omega

/-! ### The release of GT flits (R109, R110, R242) -/

theorem State.laneOffset_eq (s : State) (p : Nat) (g : GtPkt) (j : Nat) : s.laneOffset p g j =
    g.lane + 2 + j + (if s.variant.paired = true ∧ s.encrypts p = true ∧ g.request = true then 4 else 0) := by
  simp only [State.laneOffset, Bool.and_eq_true, and_assoc]

/-- Settles O26: a flit that arrives `a` slots after interval slot `k` has age `a`. -/
theorem releaseTime : Obligations.ReleaseTime := by
  intro s p j k a off g f hw hoff ha hk harr
  have hslot : ((k + a) * s.img.w + off) / s.img.w = k + a := by
    rw [Nat.add_comm, Nat.add_mul_div_right _ _ hw, Nat.div_eq_of_lt hoff, Nat.zero_add]
  have hrest : ((k + a) * s.img.w + off) % s.img.w = off := by
    rw [Nat.add_comm, Nat.add_mul_mod_self_right, Nat.mod_eq_of_lt hoff]
  have hage : (k + a + 16 - g.islot % 16) % 16 = a := by omega
  simp only [State.releaseAt, harr, Nat.max_eq_left hw, hslot, hrest, hage, s.laneOffset_eq]
  refine Prod.ext ?_ rfl
  simp only [Nat.add_mul]
  omega

end Sys2Proof.Machine

namespace Sys2Proof.Machine

/-! ### A set of the lookaside (R130) -/

/-- The entries of page `k`'s set. -/
def lookSet (sets k : Nat) (l : List Look) : List Look := l.filter (fun x => decide (x.page % sets = k % sets))

/-- The entries that stay when page `k` is filled. -/
def lookOthers (k : Nat) (l : List Look) : List Look := l.filter (fun x => decide (x.page ≠ k))

/-- The entries of a set from which one is displaced: those that are not pinned, where there are any. -/
def lookVictims (set : List Look) : List Look :=
  if (set.filter (fun x => !x.pinned)).isEmpty then set else set.filter (fun x => !x.pinned)

theorem mem_lookOthers {k : Nat} {l : List Look} {x : Look} : x ∈ lookOthers k l ↔ x ∈ l ∧ x.page ≠ k := by
  simp [lookOthers]

theorem mem_lookSet {sets k : Nat} {l : List Look} {x : Look} : x ∈ lookSet sets k l ↔ x ∈ l ∧ x.page % sets = k % sets := by
  simp [lookSet]

theorem mem_of_mem_lookVictims {set : List Look} {x : Look} (h : x ∈ lookVictims set) : x ∈ set := by
  unfold lookVictims at h
  split at h
  · exact h
  · exact (List.mem_filter.1 h).1

/-- A pinned entry is displaced only where all of its set are pinned. -/
theorem pinned_of_victim {set : List Look} {v : Look} (h : v ∈ lookVictims set) (hv : v.pinned = true) :
    ∀ y ∈ set, y.pinned = true := by
  unfold lookVictims at h
  split at h
  · next hnone =>
    intro y hy
    have hfree : y ∉ set.filter (fun x => !x.pinned) := by simp [List.isEmpty_iff.1 hnone]
    simpa [hy] using hfree
  · have hfree := (List.mem_filter.1 h).2
    simp [hv] at hfree

/-- A set with room takes the entry; a full one gives up the last of its victims. -/
theorem lookInsert_cases (sets : Nat) (l : List Look) (e : Look) :
    ((lookSet sets e.page (lookOthers e.page l)).length < 4 ∧ lookInsert sets l e = e :: lookOthers e.page l) ∨
    ∃ v ∈ lookVictims (lookSet sets e.page (lookOthers e.page l)),
      lookInsert sets l e = e :: lookOthers v.page (lookOthers e.page l) := by
  by_cases hroom : (lookSet sets e.page (lookOthers e.page l)).length < 4
  · exact .inl ⟨hroom, if_pos hroom⟩
  · have hfull : lookVictims (lookSet sets e.page (lookOthers e.page l)) ≠ [] := by
      unfold lookVictims
      split
      · exact fun h => hroom (by simp [h])
      · next h => simpa using h
    have hlast := List.getLast?_eq_some_getLast hfull
    refine .inr ⟨_, List.getLast_mem hfull, (if_neg hroom).trans ?_⟩
    show (match (lookVictims (lookSet sets e.page (lookOthers e.page l))).getLast? with
      | some v => e :: (lookOthers e.page l).filter (fun x => decide (x.page ≠ v.page))
      | none => e :: lookOthers e.page l) = _
    rw [hlast]
    rfl

/-- The entries but those of page `k`, in set `i`, are no more than before. -/
theorem length_filter_lookOthers_le (k : Nat) (l : List Look) (p : Look → Bool) :
    ((lookOthers k l).filter p).length ≤ (l.filter p).length :=
  ((List.filter_sublist (l := l)).filter p).length_le

/-- A displaced entry makes room. -/
theorem length_filter_lookOthers_lt {l : List Look} {p : Look → Bool} {v : Look} (hv : v ∈ l) (hp : p v = true) :
    ((lookOthers v.page l).filter p).length < (l.filter p).length := by
  have hcomm : (lookOthers v.page l).filter p = (l.filter p).filter (fun x => decide (x.page ≠ v.page)) := by
    simp only [lookOthers, List.filter_filter, Bool.and_comm]
  rw [hcomm]
  exact List.length_filter_lt_length_iff_exists.2 ⟨v, List.mem_filter.2 ⟨hv, hp⟩, by simp⟩

theorem nodup_lookOthers {k : Nat} {l : List Look} (h : (l.map (·.page)).Nodup) : ((lookOthers k l).map (·.page)).Nodup :=
  h.sublist (List.filter_sublist.map _)

theorem page_notMem_lookOthers (k : Nat) (l : List Look) : k ∉ (lookOthers k l).map (·.page) := by
  simp [lookOthers]

/-- Entries of one page are one entry. -/
theorem eq_of_page_eq {l : List Look} (h : (l.map (·.page)).Nodup) {x y : Look} (hx : x ∈ l) (hy : y ∈ l)
    (hpage : x.page = y.page) : x = y := by
  induction l with
  | nil => exact absurd hx List.not_mem_nil
  | cons z l ih =>
    obtain ⟨hz, hl⟩ := List.nodup_cons.1 h
    rcases List.mem_cons.1 hx with rfl | hxl
    · rcases List.mem_cons.1 hy with rfl | hyl
      · rfl
      · exact absurd (List.mem_map.2 ⟨y, hyl, hpage.symm⟩) hz
    · rcases List.mem_cons.1 hy with rfl | hyl
      · exact absurd (List.mem_map.2 ⟨x, hxl, hpage⟩) hz
      · exact ih hl hxl hyl

/-- Settles O11: the fill adds one entry to its set, and a full set has lost its victim. -/
theorem lookasideSets : Obligations.LookasideSets := by
  intro sets l e _ hnodup hfour m
  have hothers : ((lookOthers e.page l).map (·.page)).Nodup := nodup_lookOthers hnodup
  rcases lookInsert_cases sets l e with ⟨hroom, hm⟩ | ⟨v, hv, hm⟩
  · rw [show m = e :: lookOthers e.page l from hm]
    refine ⟨rfl, List.nodup_cons.2 ⟨page_notMem_lookOthers _ _, hothers⟩, fun i => ?_, fun x hx hne _ => ?_,
      fun x hx _ hne hout => ?_⟩
    · by_cases hi : e.page % sets = i
      · subst hi
        rw [List.filter_cons_of_pos (by simp), List.length_cons]
        exact hroom
      · rw [List.filter_cons_of_neg (by simpa using hi)]
        exact Nat.le_trans (length_filter_lookOthers_le _ _ _) (hfour i)
    · exact List.mem_cons_of_mem _ (mem_lookOthers.2 ⟨hx, hne⟩)
    · exact absurd (List.mem_cons_of_mem _ (mem_lookOthers.2 ⟨hx, hne⟩)) hout
  · obtain ⟨hvin, hvset⟩ := mem_lookSet.1 (mem_of_mem_lookVictims hv)
    obtain ⟨hvl, _⟩ := mem_lookOthers.1 hvin
    rw [show m = e :: lookOthers v.page (lookOthers e.page l) from hm]
    have hpage : e.page ∉ (lookOthers v.page (lookOthers e.page l)).map (·.page) := fun h =>
      page_notMem_lookOthers e.page l ((List.filter_sublist.map _).subset h)
    refine ⟨rfl, List.nodup_cons.2 ⟨hpage, nodup_lookOthers hothers⟩, fun i => ?_, fun x hx hne hset => ?_,
      fun x hx hpin hne hout => ?_⟩
    · by_cases hi : e.page % sets = i
      · subst hi
        rw [List.filter_cons_of_pos (by simp), List.length_cons]
        have hless := length_filter_lookOthers_lt (p := fun x => decide (x.page % sets = e.page % sets)) hvin (by simpa using hvset)
        have hle := length_filter_lookOthers_le e.page l (fun x => decide (x.page % sets = e.page % sets))
        have hmax := hfour (e.page % sets)
        omega
      · rw [List.filter_cons_of_neg (by simpa using hi)]
        exact Nat.le_trans (Nat.le_trans (length_filter_lookOthers_le _ _ _) (length_filter_lookOthers_le _ _ _)) (hfour i)
    · have hvx : x.page ≠ v.page := fun h => hset (by rw [h, hvset])
      exact List.mem_cons_of_mem _ (mem_lookOthers.2 ⟨mem_lookOthers.2 ⟨hx, hne⟩, hvx⟩)
    · have hxv : x.page = v.page := Decidable.byContradiction fun hvx =>
        hout (List.mem_cons_of_mem _ (mem_lookOthers.2 ⟨mem_lookOthers.2 ⟨hx, hne⟩, hvx⟩))
      obtain rfl : x = v := eq_of_page_eq hnodup hx hvl hxv
      intro y hy hyset hyne
      exact pinned_of_victim hv hpin y (mem_lookSet.2 ⟨mem_lookOthers.2 ⟨hy, hyne⟩, hyset⟩)

end Sys2Proof.Machine

namespace Sys2Proof.Machine

/-! ### Register words: what a write to one reads as (R9, R10, R12) -/

section

variable (s : State)

@[simp] theorem State.p_noteSet (k : Nat) (m : W32) (pl : Pl) (o : Nat) : (s.noteSet k m).p pl o = s.p pl o := by
  unfold State.p
  rw [State.pln_noteSet]

@[simp] theorem State.p_noteInc (k lo len v n : Nat) (pl : Pl) (o : Nat) : (s.noteInc k lo len v n).p pl o = s.p pl o := by
  unfold State.p
  rw [State.pln_noteInc]

@[simp] theorem State.p_gset (off : Nat) (v : W32) (pl : Pl) (o : Nat) : (s.gset off v).p pl o = s.p pl o := by cases pl <;> rfl

@[simp] theorem State.g_pset (pl : Pl) (off : Nat) (v : W32) (o : Nat) : (s.pset pl off v).g o = s.g o := by
  unfold State.g
  rw [State.pset_rf]

theorem State.p_pset_other {pl q : Pl} (h : q ≠ pl) (off : Nat) (v : W32) (o : Nat) : (s.pset pl off v).p q o = s.p q o := by
  unfold State.p State.pset
  rw [State.modPln_pln_ne s h]

theorem State.gf_gfset (off : Nat) {lo len : Nat} (v : Nat) (h : lo + len ≤ 32) : (s.gfset off lo len v).gf off lo len = v % 2 ^ len := by
  rw [State.gf, State.gfset, State.g_gset, fld_setFld _ _ h]

theorem State.pf_pfset (pl : Pl) (off : Nat) {lo len : Nat} (v : Nat) (h : lo + len ≤ 32) :
    (s.pfset pl off lo len v).pf pl off lo len = v % 2 ^ len := by
  rw [State.pf, State.pfset, State.p_pset, fld_setFld _ _ h]

theorem State.pf_pfset_of_disjoint (pl : Pl) (off : Nat) {lo len l k : Nat} (v : Nat) (h : l + k ≤ lo ∨ lo + len ≤ l) :
    (s.pfset pl off lo len v).pf pl off l k = s.pf pl off l k := by
  rw [State.pf, State.pfset, State.p_pset, fld_setFld_of_disjoint _ _ h, State.pf]

theorem State.gf_gfset_of_disjoint (off : Nat) {lo len l k : Nat} (v : Nat) (h : l + k ≤ lo ∨ lo + len ≤ l) :
    (s.gfset off lo len v).gf off l k = s.gf off l k := by
  rw [State.gf, State.gfset, State.g_gset, fld_setFld_of_disjoint _ _ h, State.gf]

theorem State.p_pfset_ne (pl : Pl) {o off : Nat} (h : o ≠ off) (lo len v : Nat) : (s.pfset pl off lo len v).p pl o = s.p pl o :=
  State.p_pset_ne s pl h _

theorem State.g_gfset_ne {o off : Nat} (h : o ≠ off) (lo len v : Nat) : (s.gfset off lo len v).g o = s.g o := State.g_gset_ne s h _

theorem satAdd_mod (len v n : Nat) : satAdd len v n % 2 ^ len = min (v + n) (2 ^ len - 1) := by
  have hpos : 0 < 2 ^ len := Nat.two_pow_pos len
  exact Nat.mod_eq_of_lt (Nat.lt_of_le_of_lt (Nat.min_le_right _ _) (by omega))

/-- A counter field keeps its greatest value (R10, R16). -/
theorem State.pf_pinc (pl : Pl) (off : Nat) {lo len : Nat} (n : Nat) (h : lo + len ≤ 32) :
    (s.pinc pl off lo len n).pf pl off lo len = min (s.pf pl off lo len + n) (2 ^ len - 1) := by
  rw [State.pinc, State.pf_pfset _ _ _ _ h, satAdd_mod]

theorem State.gf_ginc (off : Nat) {lo len : Nat} (n : Nat) (h : lo + len ≤ 32) :
    (s.ginc off lo len n).gf off lo len = min (s.gf off lo len + n) (2 ^ len - 1) := by
  rw [State.ginc, State.gf_gfset _ _ _ h, satAdd_mod]

theorem State.p_pinc_ne (pl : Pl) {o off : Nat} (h : o ≠ off) (lo len n : Nat) : (s.pinc pl off lo len n).p pl o = s.p pl o := by
  rw [State.pinc, State.p_pfset_ne _ _ h, State.p_noteInc]

theorem State.g_ginc_ne {o off : Nat} (h : o ≠ off) (lo len n : Nat) : (s.ginc off lo len n).g o = s.g o := by
  rw [State.ginc, State.g_gfset_ne _ h, State.g_noteInc]

theorem State.pf_pinc_of_disjoint (pl : Pl) (off : Nat) {lo len l k : Nat} (n : Nat) (h : l + k ≤ lo ∨ lo + len ≤ l) :
    (s.pinc pl off lo len n).pf pl off l k = s.pf pl off l k := by
  rw [State.pinc, State.pf_pfset_of_disjoint _ _ _ _ h, State.pf, State.p_noteInc, State.pf]

end

/-! ### Statuses in the order of R16 -/

theorem stRank_stFirst_le (x y : Nat) : stRank (stFirst x y) ≤ stRank x ∧ stRank (stFirst x y) ≤ stRank y := by
  unfold stFirst
  split <;> omega

theorem stFirst_eq (x y : Nat) : stFirst x y = x ∨ stFirst x y = y := by
  unfold stFirst
  split
  · exact .inr rfl
  · exact .inl rfl

/-- Of a status and a list, the one that ranks first. -/
theorem foldl_stFirst (l : List Nat) (x : Nat) : (l.foldl stFirst x = x ∨ l.foldl stFirst x ∈ l) ∧
    stRank (l.foldl stFirst x) ≤ stRank x ∧ ∀ y ∈ l, stRank (l.foldl stFirst x) ≤ stRank y := by
  induction l generalizing x with
  | nil => exact ⟨.inl rfl, Nat.le_refl _, by simp⟩
  | cons a l ih =>
    obtain ⟨hmem, hle, hall⟩ := ih (stFirst x a)
    obtain ⟨hx, ha⟩ := stRank_stFirst_le x a
    refine ⟨?_, Nat.le_trans hle hx, List.forall_mem_cons.2 ⟨Nat.le_trans hle ha, hall⟩⟩
    rcases hmem with hmem | hmem
    · rw [List.foldl_cons, hmem]
      exact (stFirst_eq x a).imp_right (fun e => by rw [e]; exact List.mem_cons_self)
    · exact .inr (List.mem_cons_of_mem _ hmem)

/-- Settles O48: `foldl_stFirst` for the statuses, the field lemmas of a saturating counter for the rest. -/
theorem statusRankAndSaturation : Obligations.StatusRankAndSaturation := by
  unfold Obligations.StatusRankAndSaturation
  refine ⟨⟨fun l => ?_, rfl⟩, fun s pl off lo len n h => ⟨s.pf_pinc pl off n h, s.gf_ginc off n h, fun o ho => ⟨?_, ?_⟩, fun l k hd => ?_⟩⟩
  · obtain ⟨hmem, -, hall⟩ := foldl_stFirst l stOk
    exact ⟨hmem, hall⟩
  · exact s.p_pinc_ne pl ho lo len n
  · exact s.g_ginc_ne ho lo len n
  · exact s.pf_pinc_of_disjoint pl off n hd

/-! ### What occurrences and counters leave alone (R314, R315, R322 to R325) -/

/-- A shared word that an occurrence or a trigger may write: an INFO word, TRIG_INFO, MISSED. -/
def infoWord (off : Nat) : Bool := decide (0x9100 ≤ off ∧ off < 0x9184) || decide (off = rTrigInfo) || decide (off = rMissed)

/-- From `s` to `t` nothing has changed but the record of R12, the event sources, the snapshot trigger and the words about them,
the counters of `C`, and the plane words of `W`, of which no bit has been cleared. -/
structure State.Records (C W : Nat → Prop) (s t : State) : Prop where
  same : t = { s with hw := t.hw, evt := t.evt, snp := t.snp, rf := t.rf, pa := t.pa, pb := t.pb }
  shared : ∀ off, infoWord off = false → t.g off = s.g off
  planes : ∀ pl, t.pln pl = { s.pln pl with rf := (t.pln pl).rf, ctr := (t.pln pl).ctr }
  counters : ∀ pl j, ¬ C j → (t.pln pl).ctr.rd j 0 = (s.pln pl).ctr.rd j 0
  words : ∀ pl off, ¬ W off → t.p pl off = s.p pl off
  bits : ∀ pl off b, bit (s.p pl off) b = true → bit (t.p pl off) b = true

namespace State.Records

variable {C W : Nat → Prop} {r s t : State}

theorem refl (C W : Nat → Prop) (s : State) : s.Records C W s :=
  ⟨rfl, fun _ _ => rfl, fun _ => rfl, fun _ _ _ => rfl, fun _ _ _ => rfl, fun _ _ _ => id⟩

theorem trans (h : r.Records C W s) (k : s.Records C W t) : r.Records C W t where
  same := by rw [k.same, h.same]
  shared off ho := (k.shared off ho).trans (h.shared off ho)
  planes pl := by rw [k.planes pl, h.planes pl]
  counters pl j hj := (k.counters pl j hj).trans (h.counters pl j hj)
  words pl off ho := (k.words pl off ho).trans (h.words pl off ho)
  bits pl off b hb := k.bits pl off b (h.bits pl off b hb)

theorem mono {C' W' : Nat → Prop} (h : r.Records C W s) (hC : ∀ j, C j → C' j) (hW : ∀ o, W o → W' o) : r.Records C' W' s :=
  ⟨h.same, h.shared, h.planes, fun pl j hj => h.counters pl j (fun c => hj (hC j c)),
    fun pl o ho => h.words pl o (fun c => ho (hW o c)), h.bits⟩

theorem ite {c : Prop} [Decidable c] {a b : State} (ha : r.Records C W a) (hb : r.Records C W b) :
    r.Records C W (if c then a else b) := by
  split
  · exact ha
  · exact hb

/-- Only the record of R12, the event sources and the snapshot trigger change. -/
theorem upd (s : State) (hw : Hw) (evt : Evt) (snp : Snp) : s.Records C W { s with hw := hw, evt := evt, snp := snp } :=
  ⟨rfl, fun _ _ => rfl, fun pl => by cases pl <;> rfl, fun pl _ _ => by cases pl <;> rfl, fun pl _ _ => by cases pl <;> rfl,
    fun pl _ _ h => by cases pl <;> exact h⟩

theorem gset (s : State) {off : Nat} (h : infoWord off = true) (v : W32) : s.Records C W (s.gset off v) where
  same := rfl
  shared o ho := s.g_gset_ne (fun e => by rw [e, h] at ho; cases ho) v
  planes pl := by cases pl <;> rfl
  counters pl _ _ := by cases pl <;> rfl
  words pl o _ := s.p_gset off v pl o
  bits pl o b hb := by rwa [s.p_gset]

theorem noteInc (s : State) (k lo len v n : Nat) : s.Records C W (s.noteInc k lo len v n) := upd s _ s.evt s.snp

theorem noteSet (s : State) (k : Nat) (m : W32) : s.Records C W (s.noteSet k m) := upd s _ s.evt s.snp

theorem ginc (s : State) {off : Nat} (h : infoWord off = true) (lo len n : Nat) : s.Records C W (s.ginc off lo len n) :=
  (noteInc s _ _ _ _ _).trans (gset _ h _)

theorem por (s : State) (pl : Pl) {off : Nat} (h : W off) (m : W32) : s.Records C W (s.por pl off m) where
  same := by cases pl <;> rfl
  shared _ _ := by rw [State.por, State.g_pset, State.g_noteSet]
  planes q := by
    by_cases hq : q = pl
    · subst hq
      rw [State.por, State.pset, State.modPln_pln, State.pln_noteSet]
      rfl
    · rw [State.por, State.pset, State.modPln_pln_ne _ hq, State.pln_noteSet]
  counters q j _ := by
    by_cases hq : q = pl
    · subst hq
      rw [State.por, State.pset, State.modPln_pln, State.pln_noteSet]
      rfl
    · rw [State.por, State.pset, State.modPln_pln_ne _ hq, State.pln_noteSet]
  words q o ho := by
    by_cases hq : q = pl
    · subst hq
      rw [State.por, State.p_pset_ne _ _ (fun e => ho (by rwa [e])), State.p_noteSet]
    · rw [State.por, State.p_pset_other _ hq, State.p_noteSet]
  bits q o b hb := by
    by_cases hq : q = pl
    · subst hq
      by_cases ho : o = off
      · subst ho
        rw [State.por, State.p_pset, bit, BitVec.getLsbD_or]
        exact Bool.or_eq_true_iff.2 (.inl hb)
      · rwa [State.por, State.p_pset_ne _ _ ho, State.p_noteSet]
    · rwa [State.por, State.p_pset_other _ hq, State.p_noteSet]

theorem snapTrigger (s : State) (c src ctr : Nat) : s.Records C W (s.snapTrigger c src ctr) := by
  unfold State.snapTrigger
  dsimp only
  split
  · exact (ginc s rfl _ _ _).trans (upd _ _ _ _)
  split
  · exact refl _ _ s
  split
  · exact (gset s rfl _).trans (upd _ _ _ _)
  split
  · exact upd s _ _ _
  · exact refl _ _ s

theorem evTail (s : State) (src : Nat) : s.Records C W (s.evTail src) := upd s _ _ _

theorem evtKick (s : State) (src : Nat) : s.Records C W (s.evtKick src) := by
  unfold State.evtKick
  dsimp only
  split
  · exact (upd s s.hw _ s.snp).trans (evTail _ src)
  · exact refl _ _ s

theorem occur (s : State) (src : Nat) : s.Records C W (s.occur src) := by
  have hcount : s.Records C W ({ s with evt := { s.evt with count := s.evt.count.upd src 0 (fun n => satAdd 8 n 1) } } : State) :=
    upd s _ _ _
  unfold State.occur
  dsimp only
  split
  · exact (hcount.trans (evtKick _ src)).trans (snapTrigger _ _ _ _)
  · exact hcount.trans (evtKick _ src)

theorem occurInfo (s : State) {src : Nat} (h : 372 ≤ src ∧ src ≤ 404) (info : Nat) : s.Records C W (s.occurInfo src info) := by
  have hword : infoWord (rInfo (src - 372)) = true := by
    unfold infoWord rInfo
    rw [decide_eq_true (by omega), Bool.true_or, Bool.true_or]
  exact (gset s hword _).trans (occur _ src)

theorem occurP (s : State) (pl : Pl) (src info : Nat) : s.Records C W (s.occurP pl src info) := by
  unfold State.occurP
  split
  · split
    · next h => exact occurInfo s h info
    · exact occur s src
  · exact refl _ _ s

theorem niEvent (s : State) (pl : Pl) {p : Nat} (h : W (bNi p + 0x900)) (c : Nat) : s.Records C W (s.niEvent pl p c) :=
  (por s pl h _).trans (occurP _ pl _ _)

theorem rtrEvent (s : State) (pl : Pl) {quire : Bool} {i : Nat} (h : W ((if quire then bQrt i else bFrt i) + 0x200)) (c : Nat) :
    s.Records C W (s.rtrEvent pl quire i c) := by
  cases quire
  · exact (por s pl h _).trans (occurP _ pl _ _)
  · exact (por s pl h _).trans (occurP _ pl _ _)

theorem chanEvent (s : State) (pl : Pl) {e k : Nat} (h : W (bMul e + 0x2188 + 4 * k)) (c : Nat) :
    s.Records C W (s.chanEvent pl e c k) :=
  (por s pl h _).trans (occurP _ pl _ _)

end State.Records

/-- The cause word of the host of counter `idx` that a wrap sets a bit of (R314, R325); the hosts of the service block have none. -/
def wrapWord (idx : Nat) : Option Nat :=
  if idx < 768 then some (bNi (idx / 8) + 0x900)
  else if idx < 896 then some (bFrt ((idx - 768) / 8) + 0x200)
  else if idx < 928 then some (bQrt ((idx - 896) / 8) + 0x200)
  else if idx < 960 then some (bMul ((idx - 928) / 4) + 0x2180)
  else none

/-- Counting in the host of counter `idx` may write this plane word: a selection register or the host's cause word. -/
def hostWord (idx off : Nat) : Prop := ∃ i, hostOf i = hostOf idx ∧ (off = ctrBase i ∨ wrapWord i = some off)

/-- The next counter of a host belongs to it. -/
theorem hostOf_succ {idx : Nat} (h : idx + 1 < (hostOf idx).1 + (hostOf idx).2) : hostOf (idx + 1) = hostOf idx := by
  revert h
  unfold hostOf
  repeat' split
  all_goals intro h; rw [Prod.mk.injEq]; omega

theorem hostWord_congr {i j : Nat} (h : hostOf i = hostOf j) : hostWord i = hostWord j := by
  unfold hostWord
  rw [h]

namespace State.Records

variable {C : Nat → Prop} {r s t : State}

theorem wrapEvent (s : State) (pl : Pl) (idx : Nat) : s.Records C (hostWord idx) (s.wrapEvent pl idx) := by
  have hcause {off : Nat} (h : wrapWord idx = some off) : hostWord idx off := ⟨idx, rfl, .inr h⟩
  unfold State.wrapEvent
  split
  · next h => exact niEvent s pl (hcause (by rw [wrapWord, if_pos h])) 3
  split
  · next h h1 => exact rtrEvent s pl (quire := false) (hcause (by rw [wrapWord, if_neg h, if_pos h1]; rfl)) 3
  split
  · next h h1 h2 => exact rtrEvent s pl (quire := true) (hcause (by rw [wrapWord, if_neg h, if_neg h1, if_pos h2]; rfl)) 3
  split
  · next h h1 h2 h3 =>
    exact (por s pl (hcause (by rw [wrapWord, if_neg h, if_neg h1, if_neg h2, if_pos h3])) _).trans (occurP _ pl _ _)
  · exact occurP s pl _ _

/-- A counter takes a value. -/
theorem setCtr (s : State) (pl : Pl) {W : Nat → Prop} {idx : Nat} (h : C idx) (v : BitVec 48) :
    s.Records C W (s.modPln pl (fun x => { x with ctr := x.ctr.wr idx v 0 })) where
  same := by cases pl <;> rfl
  shared _ _ := by unfold State.g; rw [State.modPln_rf]
  planes q := by
    by_cases hq : q = pl
    · subst hq
      rw [State.modPln_pln]
    · rw [State.modPln_pln_ne s hq]
  counters q j hj := by
    by_cases hq : q = pl
    · subst hq
      rw [State.modPln_pln]
      exact Tab.rd_wr_ne _ _ _ _ (fun e => hj (e ▸ h))
    · rw [State.modPln_pln_ne s hq]
  words q o _ := by
    unfold State.p
    by_cases hq : q = pl
    · subst hq
      rw [State.modPln_pln]
      rfl
    · rw [State.modPln_pln_ne s hq]
  bits q o b hb := by
    unfold State.p at hb ⊢
    by_cases hq : q = pl
    · subst hq
      rw [State.modPln_pln]
      exact hb
    · rwa [State.modPln_pln_ne s hq]

end State.Records

/-! One step of a counter: its value, OVF with what it raises, and the chain. -/

/-- The counter holds its new value. -/
def State.ctrStore (s : State) (pl : Pl) (idx n : Nat) : State :=
  (s.noteInc (hwPlane pl (ctrBase idx + 4)) 0 0 0 n).modPln pl (fun x =>
    { x with ctr := x.ctr.wr idx (BitVec.ofNat 48 (((s.pln pl).ctr.rd idx 0).toNat + n)) 0 })

/-- A wrap: OVF, the host's event and the trigger, where they are asked for. -/
def State.ctrWrap (s : State) (pl : Pl) (idx : Nat) : State :=
  let sel := s.p pl (ctrBase idx)
  let s := s.por pl (ctrBase idx) (bitMask 31)
  let s := if bit sel 18 then s.wrapEvent pl idx else s
  if bit sel 19 && bit (s.g rSnpCtrl) 6 && decide (pl = s.lead) then s.snapTrigger 3 0x1FF idx else s

/-- The wrap of counter `idx` counts in its neighbour. -/
def State.ctrChains (s t : State) (pl : Pl) (idx : Nat) : Bool :=
  bit (s.p pl (ctrBase idx)) 17 && decide (idx + 1 < (hostOf idx).1 + (hostOf idx).2) && bit (t.p pl (ctrBase (idx + 1))) 16

theorem State.ctrAdd_succ (fuel : Nat) (s : State) (pl : Pl) (idx n : Nat) : State.ctrAdd (fuel + 1) s pl idx n =
    let s1 := s.ctrStore pl idx n
    if ((s.pln pl).ctr.rd idx 0).toNat + n < 2 ^ 48 then s1
    else if s1.ctrChains (s1.ctrWrap pl idx) pl idx then State.ctrAdd fuel (s1.ctrWrap pl idx) pl (idx + 1) 1
    else s1.ctrWrap pl idx := by
  rw [State.ctrAdd]
  rfl

section

variable (s : State) (pl : Pl) (idx n : Nat)

theorem State.ctrStore_records {C W : Nat → Prop} (h : C idx) : s.Records C W (s.ctrStore pl idx n) :=
  (Records.noteInc s _ _ _ _ _).trans (Records.setCtr _ pl h _)

theorem State.ctrWrap_records {C : Nat → Prop} : s.Records C (hostWord idx) (s.ctrWrap pl idx) := by
  have hovf : s.Records C (hostWord idx) (s.por pl (ctrBase idx) (bitMask 31)) := Records.por s pl ⟨idx, rfl, .inl rfl⟩ _
  have hevent : s.Records C (hostWord idx) (if bit (s.p pl (ctrBase idx)) 18 then
      (s.por pl (ctrBase idx) (bitMask 31)).wrapEvent pl idx else s.por pl (ctrBase idx) (bitMask 31)) := by
    split
    · exact hovf.trans (Records.wrapEvent _ pl idx)
    · exact hovf
  unfold State.ctrWrap
  exact Records.ite (hevent.trans (Records.snapTrigger _ _ _ _)) hevent

theorem State.ctr_ctrStore : ((s.ctrStore pl idx n).pln pl).ctr.rd idx 0 = BitVec.ofNat 48 (((s.pln pl).ctr.rd idx 0).toNat + n) := by
  rw [State.ctrStore, State.modPln_pln]
  exact Tab.rd_wr_same _ _ _ _

end

/-- Counting changes the counters of the host from `idx` on, and its words. -/
theorem State.ctrAdd_records (fuel : Nat) (s : State) (pl : Pl) (idx n : Nat) :
    s.Records (fun j => idx ≤ j ∧ hostOf j = hostOf idx) (hostWord idx) (State.ctrAdd fuel s pl idx n) := by
  induction fuel generalizing s idx n with
  | zero => exact .refl _ _ s
  | succ fuel ih =>
    have hstore : s.Records (fun j => idx ≤ j ∧ hostOf j = hostOf idx) (hostWord idx) (s.ctrStore pl idx n) :=
      s.ctrStore_records pl idx n ⟨Nat.le_refl _, rfl⟩
    have hwrap := hstore.trans ((s.ctrStore pl idx n).ctrWrap_records pl idx)
    rw [State.ctrAdd_succ]
    dsimp only
    split
    · exact hstore
    split
    · next hc =>
      have hhost : hostOf (idx + 1) = hostOf idx := by
        simp only [State.ctrChains, Bool.and_eq_true, decide_eq_true_eq] at hc
        exact hostOf_succ hc.1.2
      refine hwrap.trans ((ih _ (idx + 1) 1).mono (fun j hj => ⟨by omega, hj.2.trans hhost⟩) (fun o ho => ?_))
      rwa [hostWord_congr hhost] at ho
    · exact hwrap

theorem bit_bitMask {i : Nat} (h : i < 32) : bit (bitMask i) i = true := by
  rw [bitMask, bit_ofNat _ h, Nat.testBit_two_pow_self]

/-- A wrap sets OVF. -/
theorem State.bit_ctrWrap (s : State) (pl : Pl) (idx : Nat) : bit ((s.ctrWrap pl idx).p pl (ctrBase idx)) 31 = true := by
  have hovf : bit ((s.por pl (ctrBase idx) (bitMask 31)).p pl (ctrBase idx)) 31 = true := by
    rw [State.por, State.p_pset, bit, BitVec.getLsbD_or]
    exact Bool.or_eq_true_iff.2 (.inr (bit_bitMask (by omega)))
  have hevent : bit ((if bit (s.p pl (ctrBase idx)) 18 then (s.por pl (ctrBase idx) (bitMask 31)).wrapEvent pl idx
      else s.por pl (ctrBase idx) (bitMask 31)).p pl (ctrBase idx)) 31 = true := by
    split
    · exact (Records.wrapEvent (C := fun _ => False) _ pl idx).bits _ _ _ hovf
    · exact hovf
  unfold State.ctrWrap
  dsimp only
  generalize (if bit (s.p pl (ctrBase idx)) 18 then _ else _) = u at hevent ⊢
  split
  · exact (Records.snapTrigger (C := fun _ => False) (W := fun _ => False) _ _ _ _).bits _ _ _ hevent
  · exact hevent

/-- The selection register of a counter reads the same after its value has changed. -/
theorem State.p_ctrStore (s : State) (pl : Pl) (idx n off : Nat) : (s.ctrStore pl idx n).p pl off = s.p pl off :=
  (s.ctrStore_records pl idx n (C := fun _ => True) (W := fun _ => False) trivial).words pl off id

/-- Once the counter holds its new value, what follows changes counters behind it only. -/
theorem State.ctrStore_records_ctrAdd (fuel : Nat) (s : State) (pl : Pl) (idx n : Nat) :
    (s.ctrStore pl idx n).Records (fun j => idx < j) (hostWord idx) (State.ctrAdd (fuel + 1) s pl idx n) := by
  have hwrap : (s.ctrStore pl idx n).Records (fun j => idx < j) (hostWord idx) ((s.ctrStore pl idx n).ctrWrap pl idx) :=
    State.ctrWrap_records _ pl idx
  rw [State.ctrAdd_succ]
  dsimp only
  split
  · exact .refl _ _ _
  split
  · next hc =>
    simp only [State.ctrChains, Bool.and_eq_true, decide_eq_true_eq] at hc
    refine hwrap.trans ((State.ctrAdd_records fuel _ pl (idx + 1) 1).mono (fun j hj => hj.1) (fun o ho => ?_))
    rwa [hostWord_congr (hostOf_succ hc.1.2)] at ho
  · exact hwrap

/-- The counter holds its sum modulo 2^48. -/
theorem State.ctr_ctrAdd (fuel : Nat) (s : State) (pl : Pl) (idx n : Nat) :
    (((State.ctrAdd (fuel + 1) s pl idx n).pln pl).ctr.rd idx 0).toNat = (((s.pln pl).ctr.rd idx 0).toNat + n) % 2 ^ 48 := by
  rw [(s.ctrStore_records_ctrAdd fuel pl idx n).counters pl idx (Nat.lt_irrefl idx), State.ctr_ctrStore, BitVec.toNat_ofNat]

/-- Settles O49: a counter's step is its new value, the wrap and the chained neighbour. -/
theorem countersWrapAndChain : Obligations.CountersWrapAndChain := by
  unfold Obligations.CountersWrapAndChain
  intro s pl idx n k _
  dsimp only
  have hstep := State.ctrAdd_succ (k + 1) s pl idx n
  dsimp only at hstep
  have hstore : s.Records (fun j => j = idx) (fun _ => False) (s.ctrStore pl idx n) := s.ctrStore_records pl idx n rfl
  have hwrap : s.Records (fun j => j = idx) (hostWord idx) ((s.ctrStore pl idx n).ctrWrap pl idx) :=
    (hstore.mono (fun _ => id) (fun _ => False.elim)).trans (State.ctrWrap_records _ pl idx)
  refine ⟨s.ctr_ctrAdd (k + 1) pl idx n, fun hv => ?_, fun hv => ?_, fun hv hen hlast hsel => ?_, fun hno j hj => ?_, ?_⟩
  · have hovf := (s.ctrStore pl idx n).bit_ctrWrap pl idx
    rw [hstep, if_neg (Nat.not_lt.2 hv)]
    split
    · exact (State.ctrAdd_records _ _ _ _ _).bits _ _ _ hovf
    · exact hovf
  · rw [hstep, if_pos hv]
    refine ⟨State.modPln_rf _ _ _, ?_, fun j hj => hstore.counters pl j hj⟩
    rw [State.ctrStore, State.modPln_pln, State.pln_noteInc]
  · have hchain : (s.ctrStore pl idx n).ctrChains ((s.ctrStore pl idx n).ctrWrap pl idx) pl idx = true := by
      rw [State.ctrChains, State.p_ctrStore, hen, decide_eq_true hlast, hwrap.bits pl _ 16 hsel]
      rfl
    rw [hstep, if_neg (Nat.not_lt.2 hv), if_pos hchain, State.ctr_ctrAdd, hwrap.counters pl (idx + 1) (by omega)]
  · have hchain : (s.ctrStore pl idx n).ctrChains ((s.ctrStore pl idx n).ctrWrap pl idx) pl idx = false := by
      rw [State.ctrChains, State.p_ctrStore]
      rcases hno with hno | hno
      · rw [hno, Bool.false_and, Bool.false_and]
      · rw [decide_eq_false (by omega), Bool.and_false, Bool.false_and]
    rw [hstep, hchain, if_neg Bool.false_ne_true]
    split
    · exact hstore.counters pl j hj
    · exact hwrap.counters pl j hj
  · intro hlow hen code qual owner
    have hchained : s.ctrChained pl idx = true := by rw [State.ctrChained, decide_eq_true hlow, hen, Bool.and_self]
    rw [State.ctrTakes, hchained]
    simp

end Sys2Proof.Machine

namespace Sys2Proof.Machine

/-! ### What is read of one unit after an update of another -/

section

variable (s : State)

@[simp] theorem State.ni_pset (pl : Pl) (off : Nat) (v : W32) (q : Pl) (j : Nat) : (s.pset pl off v).ni q j = s.ni q j := by cases pl <;> cases q <;> rfl
@[simp] theorem State.sb_pset (pl : Pl) (off : Nat) (v : W32) (q : Pl) : (s.pset pl off v).sb q = s.sb q := by cases pl <;> cases q <;> rfl
@[simp] theorem State.mul_pset (pl : Pl) (off : Nat) (v : W32) (q : Pl) (j : Nat) : (s.pset pl off v).mul q j = s.mul q j := by cases pl <;> cases q <;> rfl
@[simp] theorem State.router_pset (pl : Pl) (off : Nat) (v : W32) (q : Pl) (b : Bool) (j : Nat) : (s.pset pl off v).router q b j = s.router q b j := by cases pl <;> cases q <;> rfl
@[simp] theorem State.port_pset (pl : Pl) (off : Nat) (v : W32) (j : Nat) : (s.pset pl off v).port j = s.port j := by cases pl <;> rfl
@[simp] theorem State.qp_pset (pl : Pl) (off : Nat) (v : W32) (j : Nat) : (s.pset pl off v).qp j = s.qp j := by cases pl <;> rfl
@[simp] theorem State.p_modNi (pl : Pl) (p : Nat) (f : Ni → Ni) (q : Pl) (o : Nat) : (s.modNi pl p f).p q o = s.p q o := by cases pl <;> cases q <;> rfl
@[simp] theorem State.sb_modNi (pl : Pl) (p : Nat) (f : Ni → Ni) (q : Pl) : (s.modNi pl p f).sb q = s.sb q := by cases pl <;> cases q <;> rfl
@[simp] theorem State.mul_modNi (pl : Pl) (p : Nat) (f : Ni → Ni) (q : Pl) (j : Nat) : (s.modNi pl p f).mul q j = s.mul q j := by cases pl <;> cases q <;> rfl
@[simp] theorem State.router_modNi (pl : Pl) (p : Nat) (f : Ni → Ni) (q : Pl) (b : Bool) (j : Nat) : (s.modNi pl p f).router q b j = s.router q b j := by cases pl <;> cases q <;> rfl
@[simp] theorem State.g_modNi (pl : Pl) (p : Nat) (f : Ni → Ni) (o : Nat) : (s.modNi pl p f).g o = s.g o := by cases pl <;> rfl
@[simp] theorem State.port_modNi (pl : Pl) (p : Nat) (f : Ni → Ni) (j : Nat) : (s.modNi pl p f).port j = s.port j := by cases pl <;> rfl
@[simp] theorem State.qp_modNi (pl : Pl) (p : Nat) (f : Ni → Ni) (j : Nat) : (s.modNi pl p f).qp j = s.qp j := by cases pl <;> rfl
@[simp] theorem State.p_modSb (pl : Pl) (f : Sb → Sb) (q : Pl) (o : Nat) : (s.modSb pl f).p q o = s.p q o := by cases pl <;> cases q <;> rfl
@[simp] theorem State.ni_modSb (pl : Pl) (f : Sb → Sb) (q : Pl) (j : Nat) : (s.modSb pl f).ni q j = s.ni q j := by cases pl <;> cases q <;> rfl
@[simp] theorem State.mul_modSb (pl : Pl) (f : Sb → Sb) (q : Pl) (j : Nat) : (s.modSb pl f).mul q j = s.mul q j := by cases pl <;> cases q <;> rfl
@[simp] theorem State.router_modSb (pl : Pl) (f : Sb → Sb) (q : Pl) (b : Bool) (j : Nat) : (s.modSb pl f).router q b j = s.router q b j := by cases pl <;> cases q <;> rfl
@[simp] theorem State.g_modSb (pl : Pl) (f : Sb → Sb) (o : Nat) : (s.modSb pl f).g o = s.g o := by cases pl <;> rfl
@[simp] theorem State.port_modSb (pl : Pl) (f : Sb → Sb) (j : Nat) : (s.modSb pl f).port j = s.port j := by cases pl <;> rfl
@[simp] theorem State.qp_modSb (pl : Pl) (f : Sb → Sb) (j : Nat) : (s.modSb pl f).qp j = s.qp j := by cases pl <;> rfl
@[simp] theorem State.p_modMul (pl : Pl) (e : Nat) (f : Mule → Mule) (q : Pl) (o : Nat) : (s.modMul pl e f).p q o = s.p q o := by cases pl <;> cases q <;> rfl
@[simp] theorem State.ni_modMul (pl : Pl) (e : Nat) (f : Mule → Mule) (q : Pl) (j : Nat) : (s.modMul pl e f).ni q j = s.ni q j := by cases pl <;> cases q <;> rfl
@[simp] theorem State.sb_modMul (pl : Pl) (e : Nat) (f : Mule → Mule) (q : Pl) : (s.modMul pl e f).sb q = s.sb q := by cases pl <;> cases q <;> rfl
@[simp] theorem State.router_modMul (pl : Pl) (e : Nat) (f : Mule → Mule) (q : Pl) (b : Bool) (j : Nat) : (s.modMul pl e f).router q b j = s.router q b j := by cases pl <;> cases q <;> rfl
@[simp] theorem State.g_modMul (pl : Pl) (e : Nat) (f : Mule → Mule) (o : Nat) : (s.modMul pl e f).g o = s.g o := by cases pl <;> rfl
@[simp] theorem State.port_modMul (pl : Pl) (e : Nat) (f : Mule → Mule) (j : Nat) : (s.modMul pl e f).port j = s.port j := by cases pl <;> rfl
@[simp] theorem State.qp_modMul (pl : Pl) (e : Nat) (f : Mule → Mule) (j : Nat) : (s.modMul pl e f).qp j = s.qp j := by cases pl <;> rfl
@[simp] theorem State.p_modRouter (pl : Pl) (quire : Bool) (i : Nat) (f : Router → Router) (q : Pl) (o : Nat) : (s.modRouter pl quire i f).p q o = s.p q o := by cases quire <;> cases pl <;> cases q <;> rfl
@[simp] theorem State.ni_modRouter (pl : Pl) (quire : Bool) (i : Nat) (f : Router → Router) (q : Pl) (j : Nat) : (s.modRouter pl quire i f).ni q j = s.ni q j := by cases quire <;> cases pl <;> cases q <;> rfl
@[simp] theorem State.sb_modRouter (pl : Pl) (quire : Bool) (i : Nat) (f : Router → Router) (q : Pl) : (s.modRouter pl quire i f).sb q = s.sb q := by cases quire <;> cases pl <;> cases q <;> rfl
@[simp] theorem State.mul_modRouter (pl : Pl) (quire : Bool) (i : Nat) (f : Router → Router) (q : Pl) (j : Nat) : (s.modRouter pl quire i f).mul q j = s.mul q j := by cases quire <;> cases pl <;> cases q <;> rfl
@[simp] theorem State.g_modRouter (pl : Pl) (quire : Bool) (i : Nat) (f : Router → Router) (o : Nat) : (s.modRouter pl quire i f).g o = s.g o := by cases pl <;> rfl
@[simp] theorem State.port_modRouter (pl : Pl) (quire : Bool) (i : Nat) (f : Router → Router) (j : Nat) : (s.modRouter pl quire i f).port j = s.port j := by cases pl <;> rfl
@[simp] theorem State.qp_modRouter (pl : Pl) (quire : Bool) (i : Nat) (f : Router → Router) (j : Nat) : (s.modRouter pl quire i f).qp j = s.qp j := by cases pl <;> rfl
@[simp] theorem State.ni_gset (off : Nat) (v : W32) (q : Pl) (j : Nat) : (s.gset off v).ni q j = s.ni q j := by cases q <;> rfl
@[simp] theorem State.sb_gset (off : Nat) (v : W32) (q : Pl) : (s.gset off v).sb q = s.sb q := by cases q <;> rfl
@[simp] theorem State.mul_gset (off : Nat) (v : W32) (q : Pl) (j : Nat) : (s.gset off v).mul q j = s.mul q j := by cases q <;> rfl
@[simp] theorem State.router_gset (off : Nat) (v : W32) (q : Pl) (b : Bool) (j : Nat) : (s.gset off v).router q b j = s.router q b j := by cases q <;> rfl
@[simp] theorem State.port_gset (off : Nat) (v : W32) (j : Nat) : (s.gset off v).port j = s.port j := rfl
@[simp] theorem State.qp_gset (off : Nat) (v : W32) (j : Nat) : (s.gset off v).qp j = s.qp j := rfl
@[simp] theorem State.p_modPort (p : Nat) (f : Port → Port) (q : Pl) (o : Nat) : (s.modPort p f).p q o = s.p q o := by cases q <;> rfl
@[simp] theorem State.ni_modPort (p : Nat) (f : Port → Port) (q : Pl) (j : Nat) : (s.modPort p f).ni q j = s.ni q j := by cases q <;> rfl
@[simp] theorem State.sb_modPort (p : Nat) (f : Port → Port) (q : Pl) : (s.modPort p f).sb q = s.sb q := by cases q <;> rfl
@[simp] theorem State.mul_modPort (p : Nat) (f : Port → Port) (q : Pl) (j : Nat) : (s.modPort p f).mul q j = s.mul q j := by cases q <;> rfl
@[simp] theorem State.router_modPort (p : Nat) (f : Port → Port) (q : Pl) (b : Bool) (j : Nat) : (s.modPort p f).router q b j = s.router q b j := by cases q <;> rfl
@[simp] theorem State.g_modPort (p : Nat) (f : Port → Port) (o : Nat) : (s.modPort p f).g o = s.g o := rfl
@[simp] theorem State.qp_modPort (p : Nat) (f : Port → Port) (j : Nat) : (s.modPort p f).qp j = s.qp j := rfl
@[simp] theorem State.p_modQp (q : Nat) (f : QPower → QPower) (pl : Pl) (o : Nat) : (s.modQp q f).p pl o = s.p pl o := by cases pl <;> rfl
@[simp] theorem State.ni_modQp (q : Nat) (f : QPower → QPower) (pl : Pl) (j : Nat) : (s.modQp q f).ni pl j = s.ni pl j := by cases pl <;> rfl
@[simp] theorem State.sb_modQp (q : Nat) (f : QPower → QPower) (pl : Pl) : (s.modQp q f).sb pl = s.sb pl := by cases pl <;> rfl
@[simp] theorem State.mul_modQp (q : Nat) (f : QPower → QPower) (pl : Pl) (j : Nat) : (s.modQp q f).mul pl j = s.mul pl j := by cases pl <;> rfl
@[simp] theorem State.router_modQp (q : Nat) (f : QPower → QPower) (pl : Pl) (b : Bool) (j : Nat) : (s.modQp q f).router pl b j = s.router pl b j := by cases pl <;> rfl
@[simp] theorem State.g_modQp (q : Nat) (f : QPower → QPower) (o : Nat) : (s.modQp q f).g o = s.g o := rfl
@[simp] theorem State.port_modQp (q : Nat) (f : QPower → QPower) (j : Nat) : (s.modQp q f).port j = s.port j := rfl
@[simp] theorem State.ni_noteSet (k : Nat) (m : W32) (q : Pl) (j : Nat) : (s.noteSet k m).ni q j = s.ni q j := by cases q <;> rfl
@[simp] theorem State.sb_noteSet (k : Nat) (m : W32) (q : Pl) : (s.noteSet k m).sb q = s.sb q := by cases q <;> rfl
@[simp] theorem State.mul_noteSet (k : Nat) (m : W32) (q : Pl) (j : Nat) : (s.noteSet k m).mul q j = s.mul q j := by cases q <;> rfl
@[simp] theorem State.router_noteSet (k : Nat) (m : W32) (q : Pl) (b : Bool) (j : Nat) : (s.noteSet k m).router q b j = s.router q b j := by cases q <;> rfl
@[simp] theorem State.port_noteSet (k : Nat) (m : W32) (j : Nat) : (s.noteSet k m).port j = s.port j := rfl
@[simp] theorem State.qp_noteSet (k : Nat) (m : W32) (j : Nat) : (s.noteSet k m).qp j = s.qp j := rfl
@[simp] theorem State.ni_noteInc (k lo len v n : Nat) (q : Pl) (j : Nat) : (s.noteInc k lo len v n).ni q j = s.ni q j := by cases q <;> rfl
@[simp] theorem State.sb_noteInc (k lo len v n : Nat) (q : Pl) : (s.noteInc k lo len v n).sb q = s.sb q := by cases q <;> rfl
@[simp] theorem State.mul_noteInc (k lo len v n : Nat) (q : Pl) (j : Nat) : (s.noteInc k lo len v n).mul q j = s.mul q j := by cases q <;> rfl
@[simp] theorem State.router_noteInc (k lo len v n : Nat) (q : Pl) (b : Bool) (j : Nat) : (s.noteInc k lo len v n).router q b j = s.router q b j := by cases q <;> rfl
@[simp] theorem State.port_noteInc (k lo len v n : Nat) (j : Nat) : (s.noteInc k lo len v n).port j = s.port j := rfl
@[simp] theorem State.qp_noteInc (k lo len v n : Nat) (j : Nat) : (s.noteInc k lo len v n).qp j = s.qp j := rfl

theorem State.ni_modNi_other {pl q : Pl} (h : q ≠ pl) (p : Nat) (f : Ni → Ni) (j : Nat) : (s.modNi pl p f).ni q j = s.ni q j := by
  unfold State.ni State.modNi
  rw [State.modPln_pln_ne s h]

end

/-! ### Counting at the hosts (R322 to R324), and what is read afterwards -/

namespace State.Records

variable {C W : Nat → Prop} {s t : State}

theorem ni (h : s.Records C W t) (pl : Pl) (p : Nat) : t.ni pl p = s.ni pl p := by
  unfold State.ni
  rw [h.planes pl]

theorem sb (h : s.Records C W t) (pl : Pl) : t.sb pl = s.sb pl := by
  unfold State.sb
  rw [h.planes pl]

theorem mul (h : s.Records C W t) (pl : Pl) (e : Nat) : t.mul pl e = s.mul pl e := by
  unfold State.mul
  rw [h.planes pl]

theorem router (h : s.Records C W t) (pl : Pl) (quire : Bool) (i : Nat) : t.router pl quire i = s.router pl quire i := by
  unfold State.router
  rw [h.planes pl]

theorem isl (h : s.Records C W t) (pl : Pl) : (t.pln pl).isl = (s.pln pl).isl := by rw [h.planes pl]

theorem port (h : s.Records C W t) (p : Nat) : t.port p = s.port p := by
  unfold State.port
  rw [h.same]

theorem qp (h : s.Records C W t) (q : Nat) : t.qp q = s.qp q := by
  unfold State.qp
  rw [h.same]

theorem variant (h : s.Records C W t) : t.variant = s.variant := by rw [h.same]
theorem fc (h : s.Records C W t) : t.fc = s.fc := by rw [h.same]
theorem fcInSlot (h : s.Records C W t) : t.fcInSlot = s.fcInSlot := by rw [h.same]
theorem slot (h : s.Records C W t) : t.slot = s.slot := by rw [h.same]
theorem img (h : s.Records C W t) : t.img = s.img := by rw [h.same]
theorem boot (h : s.Records C W t) : t.boot = s.boot := by rw [h.same]
theorem pair (h : s.Records C W t) : t.pair = s.pair := by rw [h.same]
theorem pw (h : s.Records C W t) : t.pw = s.pw := by rw [h.same]
theorem pads (h : s.Records C W t) : t.pads = s.pads := by rw [h.same]
theorem ports (h : s.Records C W t) : t.ports = s.ports := by rw [h.same]
theorem answers (h : s.Records C W t) : t.answers = s.answers := by rw [h.same]

end State.Records

/-- Counting in one of the hosts of `cnt` counters from `first` on may write this plane word. -/
def countWord (first cnt off : Nat) : Prop := ∃ i, i < cnt ∧ hostWord (first + i) off

theorem foldl_records {C W : Nat → Prop} {α : Type} (l : List α) (f : State → α → State) (s : State)
    (hf : ∀ t : State, ∀ a ∈ l, t.Records C W (f t a)) : s.Records C W (l.foldl f s) := by
  induction l generalizing s with
  | nil => exact .refl C W s
  | cons a l ih =>
    exact (hf s a List.mem_cons_self).trans (ih _ fun t b hb => hf t b (List.mem_cons_of_mem _ hb))

theorem State.countN_records (s : State) (pl : Pl) (first cnt code qual : Nat) (owner : Option Nat) (n : Nat) :
    s.Records (fun _ => True) (countWord first cnt) (s.countN pl first cnt code qual owner n) := by
  refine foldl_records _ _ s fun t i hi => ?_
  split
  · exact (State.ctrAdd_records _ t pl (first + i) n).mono (fun _ _ => trivial) (fun o ho => ⟨i, List.mem_range.1 hi, ho⟩)
  · exact .refl _ _ t

theorem State.countQ_records (s : State) (pl : Pl) (code : Nat) : s.Records (fun _ => True) (countWord 976 8) (s.countQ pl code) :=
  s.countN_records pl 976 8 code 0 none 1

/-- The QUQ counters have their registers in FLK (R322). -/
theorem not_countWord_queue {n o : Nat} (hn : n < 16384) (ho : o < 0x40) : ¬ countWord 976 8 (bQds n + o) := by
  rintro ⟨i, hi, j, hj, hoff⟩
  have hhost : 976 ≤ j ∧ j < 984 := by
    have hi' : hostOf (976 + i) = (976, 8) := by
      unfold hostOf
      repeat' rw [if_neg (by omega)]
      rw [Prod.mk.injEq]
      omega
    rw [hi'] at hj
    unfold hostOf at hj
    split at hj
    · rw [Prod.mk.injEq] at hj; omega
    split at hj
    · rw [Prod.mk.injEq] at hj; omega
    split at hj
    · cases hj
    · rw [Prod.mk.injEq] at hj; omega
  rcases hoff with hoff | hoff
  · unfold ctrBase bQds at hoff
    repeat rw [if_neg (by omega)] at hoff
    rw [if_pos (by omega)] at hoff
    omega
  · unfold wrapWord at hoff
    repeat rw [if_neg (by omega)] at hoff
    cases hoff

/-! ### The queue engine's commits (R167) -/

section

variable (s : State) (pl : Pl) (n : Nat)

theorem State.qdyn_countQ (code m : Nat) : (s.countQ pl code).qdyn pl m = s.qdyn pl m := by
  unfold State.qdyn
  rw [(s.countQ_records pl code).sb]

theorem State.qd_countQ (code : Nat) (hn : n < 16384) {o : Nat} (ho : o < 0x40) (lo len : Nat) :
    (s.countQ pl code).qd pl n o lo len = s.qd pl n o lo len := by
  unfold State.qd State.pf
  rw [(s.countQ_records pl code).words pl _ (not_countWord_queue hn ho)]

theorem State.qdyn_ackProducer (src tag st m : Nat) : (s.ackProducer pl src tag st).qdyn pl m = s.qdyn pl m := by
  unfold State.qdyn State.ackProducer State.sbReply State.sbSend
  rw [State.sb_modSb]

theorem State.qd_ackProducer (src tag st m o lo len : Nat) : (s.ackProducer pl src tag st).qd pl m o lo len = s.qd pl m o lo len := by
  unfold State.qd State.pf State.ackProducer State.sbReply State.sbSend
  rw [State.p_modSb]

theorem State.qdyn_modQ (f : QDyn → QDyn) : (s.modQ pl n f).qdyn pl n = f (s.qdyn pl n) := by
  unfold State.qdyn State.modQ
  rw [State.sb_modSb]
  exact Tab.rd_upd_same _ _ _ _

theorem State.qd_modQ (f : QDyn → QDyn) (m o lo len : Nat) : (s.modQ pl n f).qd pl m o lo len = s.qd pl m o lo len := by
  unfold State.qd State.pf State.modQ
  rw [State.p_modSb]

theorem State.qdyn_qdset (o lo len v m : Nat) : (s.qdset pl n o lo len v).qdyn pl m = s.qdyn pl m := by
  unfold State.qdyn State.qdset State.pfset
  rw [State.sb_pset]

theorem State.qd_qdset (o : Nat) {lo len : Nat} (v : Nat) (h : lo + len ≤ 32) :
    (s.qdset pl n o lo len v).qd pl n o lo len = v % 2 ^ len := s.pf_pfset pl _ v h

theorem State.qd_qdset_ne {o o' : Nat} (h : o' ≠ o) (lo len v l k : Nat) :
    (s.qdset pl n o lo len v).qd pl n o' l k = s.qd pl n o' l k := by
  unfold State.qd State.pf State.qdset
  rw [State.p_pfset_ne _ _ (by omega)]

end

/-- One commit: TAIL, the reservation, the producer's answer. -/
def State.commitOne (s : State) (pl : Pl) (n : Nat) (a : Adm) (rest : List Adm) : State :=
  let s := (s.qdset pl n 0x30 0 32 (s.qTail pl n + 1)).qdset pl n 0x34 4 5 (s.qResv pl n - 1)
  let s := s.modQ pl n (fun d => { d with
    adm := rest, recent := if s.qIsMember pl n then (d.recent ++ [a.keyslot]).drop ((d.recent.length + 1) - 8) else d.recent })
  let s := s.countQ pl 0x03
  if a.reply then s.ackProducer pl a.src a.tag stOk else s

theorem State.commit_cons (fuel : Nat) (s : State) (pl : Pl) (n : Nat) {a : Adm} {rest : List Adm} (h : (s.qdyn pl n).adm = a :: rest) :
    State.commit (fuel + 1) s pl n = if a.waits = 0 then State.commit fuel (s.commitOne pl n a rest) pl n else s := by
  rw [State.commit, h]
  rfl

theorem State.commit_nil (fuel : Nat) (s : State) (pl : Pl) (n : Nat) (h : (s.qdyn pl n).adm = []) : State.commit fuel s pl n = s := by
  cases fuel with
  | zero => rfl
  | succ fuel => rw [State.commit, h]

section

variable (s : State) (pl : Pl) (n : Nat) (a : Adm) (rest : List Adm)

/-- Any field of the queue's words reads after a commit as after the two writes to them. -/
theorem State.qd_commitOne (hn : n < 16384) {o : Nat} (ho : o < 0x40) (lo len : Nat) : (s.commitOne pl n a rest).qd pl n o lo len =
    ((s.qdset pl n 0x30 0 32 (s.qTail pl n + 1)).qdset pl n 0x34 4 5 (s.qResv pl n - 1)).qd pl n o lo len := by
  unfold State.commitOne
  dsimp only
  split
  · rw [State.qd_ackProducer, State.qd_countQ _ _ _ _ hn ho, State.qd_modQ]
  · rw [State.qd_countQ _ _ _ _ hn ho, State.qd_modQ]

theorem State.adm_commitOne : ((s.commitOne pl n a rest).qdyn pl n).adm = rest := by
  unfold State.commitOne
  dsimp only
  split
  · rw [State.qdyn_ackProducer, State.qdyn_countQ, State.qdyn_modQ]
  · rw [State.qdyn_countQ, State.qdyn_modQ]

theorem State.qTail_commitOne (hn : n < 16384) : (s.commitOne pl n a rest).qTail pl n = (s.qTail pl n + 1) % 2 ^ 32 := by
  rw [State.qTail, s.qd_commitOne pl n a rest hn (by omega), State.qd_qdset_ne _ _ _ (by omega), State.qd_qdset _ _ _ _ _ (by omega)]

theorem State.qHead_commitOne (hn : n < 16384) : (s.commitOne pl n a rest).qHead pl n = s.qHead pl n := by
  rw [State.qHead, s.qd_commitOne pl n a rest hn (by omega), State.qd_qdset_ne _ _ _ (by omega), State.qd_qdset_ne _ _ _ (by omega),
    State.qHead]

theorem State.qResv_commitOne (hn : n < 16384) : (s.commitOne pl n a rest).qResv pl n = s.qResv pl n - 1 := by
  have hlt : s.qResv pl n < 2 ^ 5 := fld_lt _ _ _
  rw [State.qResv, s.qd_commitOne pl n a rest hn (by omega), State.qd_qdset _ _ _ _ _ (by omega)]
  exact Nat.mod_eq_of_lt (by omega)

end

/-- Settles O15: induction over the reserved messages, one commit at a time. -/
theorem commitsInOrder : Obligations.CommitsInOrder := by
  unfold Obligations.CommitsInOrder
  intro s pl n fuel hn
  induction fuel generalizing s with
  | zero => intro h; omega
  | succ fuel ih =>
    intro hlen
    have htail : s.qTail pl n < 2 ^ 32 := fld_lt _ _ _
    cases hadm : (s.qdyn pl n).adm with
    | nil =>
      rw [State.commit_nil _ s pl n hadm]
      simp only [hadm, List.takeWhile_nil, List.length_nil, List.drop_nil, Nat.add_zero, Nat.sub_zero, Nat.mod_eq_of_lt htail, and_self]
    | cons a rest =>
      rw [State.commit_cons fuel s pl n hadm]
      by_cases hw : a.waits = 0
      · have hone := s.adm_commitOne pl n a rest
        obtain ⟨h1, h2, h3, h4⟩ := ih (s.commitOne pl n a rest) (by rw [hone]; rw [hadm, List.length_cons] at hlen; omega)
        rw [hone] at h1 h2 h3
        rw [s.qTail_commitOne pl n a rest hn] at h2
        rw [s.qResv_commitOne pl n a rest hn] at h3
        rw [s.qHead_commitOne pl n a rest hn] at h4
        rw [if_pos hw, List.takeWhile_cons_of_pos (by simpa using hw)]
        dsimp only
        rw [List.length_cons, List.drop_succ_cons]
        refine ⟨h1, h2.trans ?_, h3.trans ?_, h4⟩
        · rw [Nat.mod_add_mod]
          congr 1
          omega
        · omega
      · rw [if_neg hw, List.takeWhile_cons_of_neg (by simpa using hw)]
        simp only [hadm, List.length_nil, List.drop_zero, Nat.add_zero, Nat.sub_zero, Nat.mod_eq_of_lt htail, and_self]

end Sys2Proof.Machine

namespace Sys2Proof.Machine

/-! ### What the units around a router leave of it

The flit that leaves a router, and the credit that its input returns, reach other units, whose faults may reach a plane's state.
-/

/-- Plane `pl` still runs, and the router has kept everything but the credits under way to it and the flits it keeps for a retry. -/
structure State.KeepsRouter (pl : Pl) (quire : Bool) (i : Nat) (s t : State) : Prop where
  runs : s.runs pl = true → t.runs pl = true
  router : t.router pl quire i =
    { s.router pl quire i with cred := (t.router pl quire i).cred, hist := (t.router pl quire i).hist }

section

variable {pl : Pl} {quire : Bool} {i : Nat} {r s t : State}

theorem State.KeepsRouter.refl (pl : Pl) (quire : Bool) (i : Nat) (s : State) : State.KeepsRouter pl quire i s s := ⟨id, rfl⟩

theorem State.KeepsRouter.trans (h : State.KeepsRouter pl quire i r s) (k : State.KeepsRouter pl quire i s t) :
    State.KeepsRouter pl quire i r t :=
  ⟨fun x => k.runs (h.runs x), by rw [k.router, h.router]⟩

theorem State.KeepsRouter.ite {c : Prop} [Decidable c] {a b : State} (ha : State.KeepsRouter pl quire i s a)
    (hb : State.KeepsRouter pl quire i s b) : State.KeepsRouter pl quire i s (if c then a else b) := by
  split
  · exact ha
  · exact hb

theorem State.runs_congr {s t : State} (hv : t.variant = s.variant) (hp : t.pair = s.pair) (pl : Pl) : t.runs pl = s.runs pl := by
  unfold State.runs State.plState
  rw [hv, hp]

/-- Neither the plane nor the state of a plane changes. -/
theorem State.KeepsRouter.of_same (hv : t.variant = s.variant) (ha : t.pair.a = s.pair.a) (hb : t.pair.b = s.pair.b)
    (hr : t.router pl quire i = s.router pl quire i) : State.KeepsRouter pl quire i s t := by
  refine ⟨fun h => ?_, by rw [hr]⟩
  have hst : t.plState pl = s.plState pl := by
    cases pl with
    | a => exact ha
    | b => exact hb
  rwa [State.runs, hv, hst]

theorem State.Records.keepsRouter {C W : Nat → Prop} (h : s.Records C W t) : State.KeepsRouter pl quire i s t :=
  .of_same h.variant (by rw [h.pair]) (by rw [h.pair]) (h.router pl quire i)

theorem State.modNi_keepsRouter (p : Nat) (f : Ni → Ni) : State.KeepsRouter pl quire i s (s.modNi pl p f) :=
  .of_same (by simp) (by simp) (by simp) (by simp)

theorem State.modSb_keepsRouter (f : Sb → Sb) : State.KeepsRouter pl quire i s (s.modSb pl f) :=
  .of_same (by simp) (by simp) (by simp) (by simp)

theorem State.modMul_keepsRouter (e : Nat) (f : Mule → Mule) : State.KeepsRouter pl quire i s (s.modMul pl e f) :=
  .of_same (by simp) (by simp) (by simp) (by simp)

theorem State.modPort_keepsRouter (p : Nat) (f : Port → Port) : State.KeepsRouter pl quire i s (s.modPort p f) :=
  .of_same (by simp) (by simp) (by simp) (by simp)

theorem State.modQp_keepsRouter (q : Nat) (f : QPower → QPower) : State.KeepsRouter pl quire i s (s.modQp q f) :=
  .of_same (by simp) (by simp) (by simp) (by simp)

theorem State.pinc_keepsRouter (off lo len n : Nat) : State.KeepsRouter pl quire i s (s.pinc pl off lo len n) :=
  .of_same (by simp [State.pinc, State.pfset, State.noteInc]) (by simp [State.pinc, State.pfset, State.noteInc])
    (by simp [State.pinc, State.pfset, State.noteInc]) (by simp [State.pinc, State.pfset])

/-- Another router changes. -/
theorem State.modRouter_keepsRouter {b : Bool} {j : Nat} (h : b ≠ quire ∨ j ≠ i) (f : Router → Router) :
    State.KeepsRouter pl quire i s (s.modRouter pl b j f) := by
  refine .of_same (by simp [State.modRouter]) (by simp [State.modRouter]) (by simp [State.modRouter]) ?_
  by_cases hb : b = quire
  · subst hb
    exact State.router_modRouter_ne s pl b (Ne.symm (h.resolve_left fun hne => hne rfl)) f
  · cases b <;> cases quire <;> simp_all [State.router, State.modRouter]

theorem State.giveCredit_keepsRouter (o : OutPort) (vc n : Nat) : State.KeepsRouter pl quire i s (s.giveCredit pl o vc n) := by
  have hrouter (b : Bool) (j k : Nat) : State.KeepsRouter pl quire i s
      (s.modRouter pl b j (fun x => { x with cred := x.cred.upd k 0 (· + n) })) := by
    by_cases h : b = quire ∧ j = i
    · obtain ⟨rfl, rfl⟩ := h
      exact ⟨fun h => by rw [State.runs_congr (s := s) (by simp [State.modRouter]) (by simp [State.modRouter])]; exact h,
        by rw [State.router_modRouter]⟩
    · exact State.modRouter_keepsRouter (Decidable.not_and_iff_not_or_not.1 h) _
  cases o with
  | niLink p => exact State.modNi_keepsRouter p _
  | folio g o => exact hrouter false g _
  | quire q o => exact hrouter true q _
  | service q => exact State.modSb_keepsRouter (fun x => { x with txCred := x.txCred.upd (q * 8 + vc) 0 (· + n) })
  | mule e => exact State.modMul_keepsRouter e _

theorem State.keepSent_keepsRouter (b : Bool) (j k : Nat) (f : Flit) : State.KeepsRouter pl quire i s (s.keepSent pl b j k f) := by
  unfold State.keepSent
  split
  · exact .refl pl quire i s
  by_cases h : b = quire ∧ j = i
  · obtain ⟨rfl, rfl⟩ := h
    exact ⟨fun h => by rw [State.runs_congr (s := s) (by simp [State.modRouter]) (by simp [State.modRouter])]; exact h,
      by rw [State.router_modRouter]⟩
  · exact State.modRouter_keepsRouter (Decidable.not_and_iff_not_or_not.1 h) _

theorem State.seeFlit_keepsRouter (q : Nat) : State.KeepsRouter pl quire i s (s.seeFlit q) := State.modQp_keepsRouter q _

theorem State.arriveRouter_keepsRouter {b : Bool} {j : Nat} (h : b ≠ quire ∨ j ≠ i) (n : Nat) (f : Flit) :
    State.KeepsRouter pl quire i s (s.arriveRouter pl b j n f) := by
  unfold State.arriveRouter
  dsimp only
  refine .ite (.trans ?_ (State.seeFlit_keepsRouter 4)) ?_
  · exact (State.modRouter_keepsRouter h _).trans (State.seeFlit_keepsRouter _)
  · exact (State.modRouter_keepsRouter h _).trans (State.seeFlit_keepsRouter _)

theorem State.countNi_records (s : State) (pl : Pl) (p code qual : Nat) (owner : Option Nat) :
    s.Records (fun _ => True) (countWord (8 * p) 8) (s.countNi pl p code qual owner) := by
  unfold State.countNi
  exact .ite (State.countN_records _ _ _ _ _ _ _ _) (.refl _ _ s)

theorem State.countRtr_records (s : State) (pl : Pl) (quire : Bool) (i code qual : Nat) :
    s.Records (fun _ => True) (countWord ((if quire then 896 else 768) + 8 * i) 8) (s.countRtr pl quire i code qual) := by
  have hcount (c : Bool) (first : Nat) : s.Records (fun _ => True) (countWord first 8)
      (if c then s.countN pl first 8 code qual none 1 else s) := .ite (State.countN_records _ _ _ _ _ _ _ _) (.refl _ _ s)
  cases quire
  · exact hcount (s.quireUp (i / 4)) (768 + 8 * i)
  · exact hcount (s.quireUp i) (896 + 8 * i)

theorem State.countSpine_records (s : State) (pl : Pl) (code qual : Nat) :
    s.Records (fun _ => True) (countWord 992 8) (s.countSpine pl code qual) := State.countN_records _ _ _ _ _ _ _ _

theorem foldl_keepsRouter {α : Type} (l : List α) (f : State → α → State) (hf : ∀ t a, State.KeepsRouter pl quire i t (f t a)) :
    State.KeepsRouter pl quire i s (l.foldl f s) := by
  induction l generalizing s with
  | nil => exact .refl pl quire i s
  | cons a l ih => exact (hf s a).trans ih

theorem State.enterNi_keepsRouter (p : Nat) (f : Flit) : State.KeepsRouter pl quire i s (s.enterNi pl p f) := by
  have hcount (code qual : Nat) (owner : Option Nat) : State.KeepsRouter pl quire i s (s.countNi pl p code qual owner) :=
    (s.countNi_records pl p code qual owner).keepsRouter
  unfold State.enterNi
  refine .ite (.ite (hcount _ _ _) ((hcount _ _ _).trans (State.giveCredit_keepsRouter _ _ _))) (.ite ?_ (.ite ?_ ?_))
  · exact ((hcount _ _ _).trans (State.modNi_keepsRouter p _)).trans (State.giveCredit_keepsRouter _ _ _)
  · exact (hcount _ _ _).trans (State.modNi_keepsRouter p _)
  · exact ((hcount _ _ _).trans (State.modNi_keepsRouter p _)).trans (State.giveCredit_keepsRouter _ _ _)

/-- A fault of a plane in service resets no plane. -/
theorem State.planeFault_keepsRouter (h : s.runs pl = true) (cause port : Nat) (owners : Option (BitVec 16)) :
    State.KeepsRouter pl quire i s (s.planeFault pl cause port owners) := by
  have habort : State.KeepsRouter pl quire i s s.abortJoin :=
    .ite (.of_same rfl rfl rfl (by cases pl <;> rfl)) (.refl pl quire i s)
  have hpads (t : State) : State.KeepsRouter pl quire i t (t.affectOwners (owners.getD t.validOwners)) := by
    have hgor : State.KeepsRouter pl quire i t (t.gor rPairAffected (BitVec.ofNat 32 (owners.getD t.validOwners).toNat)) :=
      .of_same rfl rfl rfl (by cases pl <;> rfl)
    exact hgor.trans (foldl_keepsRouter _ _ fun u o => .ite (.of_same rfl rfl rfl (by cases pl <;> rfl)) (.refl pl quire i u))
  unfold State.planeFault
  dsimp only
  refine .ite (.refl pl quire i s) (.ite (.refl pl quire i s) ?_)
  rw [habort.runs h, Bool.not_true, if_neg Bool.false_ne_true]
  refine .ite (.ite habort ?_) ?_
  · exact (habort.trans (hpads _)).trans (Records.occurInfo (C := fun _ => False) (W := fun _ => False) _ (by omega) _).keepsRouter
  · exact habort.trans (.of_same rfl rfl rfl (by cases pl <;> rfl))

theorem State.gtArrive_keepsRouter (p : Nat) (f : Flit) : State.KeepsRouter pl quire i s (s.gtArrive p f) :=
  State.modPort_keepsRouter p _

theorem State.arriveNi_keepsRouter (h : s.runs pl = true) (p : Nat) (f : Flit) :
    State.KeepsRouter pl quire i s (s.arriveNi pl p f) := by
  have hsee : State.KeepsRouter pl quire i s (s.seeFlit (p / 24)) := State.seeFlit_keepsRouter _
  have hcredit := hsee.trans (State.giveCredit_keepsRouter (outToPort p) (hVc f.hdr) 1)
  have hedge : State.KeepsRouter pl quire i s ((s.seeFlit (p / 24)).edgeGt p f) :=
    .ite (hsee.trans (State.gtArrive_keepsRouter p f)) hsee
  unfold State.arriveNi
  refine .ite (hedge.trans (State.enterNi_keepsRouter p f)) (.ite (.ite ?_ ?_) ?_)
  · exact hcredit.trans (State.planeFault_keepsRouter (hcredit.runs h) _ _ _)
  · exact hsee.trans (State.enterNi_keepsRouter p f)
  · exact hsee.trans (.of_same rfl rfl rfl (by cases pl <;> rfl))

theorem State.arriveMul_keepsRouter (h : s.runs pl = true) (e : Nat) (f : Flit) :
    State.KeepsRouter pl quire i s (s.arriveMul pl e f) := by
  have hcredit : State.KeepsRouter pl quire i s (s.giveCredit pl (outToMule e) (hVc f.hdr) 1) := State.giveCredit_keepsRouter _ _ _
  unfold State.arriveMul
  refine .ite (hcredit.trans (State.planeFault_keepsRouter (hcredit.runs h) _ _ _)) (.ite ?_ ?_)
  · exact (State.modMul_keepsRouter e _).trans (State.giveCredit_keepsRouter _ _ _)
  · exact (State.modMul_keepsRouter e _).trans (State.giveCredit_keepsRouter _ _ _)

theorem State.arriveSb_keepsRouter (h : s.runs pl = true) (q : Nat) (f : Flit) :
    State.KeepsRouter pl quire i s (s.arriveSb pl q f) := by
  have hsee : State.KeepsRouter pl quire i s (s.seeFlit 4) := State.seeFlit_keepsRouter 4
  have hcredit := hsee.trans (State.giveCredit_keepsRouter (outToSb q) (hVc f.hdr) 1)
  unfold State.arriveSb
  refine .ite (hcredit.trans (State.planeFault_keepsRouter (hcredit.runs h) _ _ _)) (.ite ?_ ?_)
  · exact (hsee.trans (State.modSb_keepsRouter _)).trans (State.giveCredit_keepsRouter _ _ _)
  · exact (hsee.trans (State.modSb_keepsRouter _)).trans (State.giveCredit_keepsRouter _ _ _)

theorem spinePeer_ne (q j : Nat) : spinePeer q j ≠ q := by
  unfold spinePeer
  split <;> omega

/-- A flit that leaves a router goes to another unit. -/
theorem State.leaveRouter_keepsRouter (h : s.runs pl = true) (o : Nat) (f : Flit) :
    State.KeepsRouter pl quire i s (s.leaveRouter pl quire i o f) := by
  have hspine (code qual : Nat) : State.KeepsRouter pl quire i s (s.countSpine pl code qual) :=
    (s.countSpine_records pl code qual).keepsRouter
  unfold State.leaveRouter
  cases quire with
  | false =>
    rw [if_neg Bool.false_ne_true]
    exact .ite (State.arriveNi_keepsRouter h _ f) (State.arriveRouter_keepsRouter (.inl Bool.false_ne_true.symm) _ f)
  | true =>
    rw [if_pos rfl]
    refine .ite (State.arriveRouter_keepsRouter (.inl Bool.false_ne_true) _ f) (.ite ?_ (.ite (State.arriveMul_keepsRouter h _ f) ?_))
    · exact (hspine _ _).trans (State.arriveRouter_keepsRouter (.inr (spinePeer_ne _ _)) _ f)
    · exact (hspine _ _).trans (State.arriveSb_keepsRouter ((hspine _ _).runs h) _ f)

end

end Sys2Proof.Machine

namespace Sys2Proof.Machine

/-! ### One grant of a router, stage by stage (R67, R69, R70, R83) -/

/-- The router takes the flit at the head of input `n`, VC `vc`, to output `o`. -/
def Router.take (r : Router) (n vc o : Nat) (f : Flit) (rest : List Flit) (spine drain : Bool) : Router :=
  let head := decide (f.idx = 0)
  let tail := decide (f.idx = hLen f.hdr)
  let key := (o - 8) / 4 * 1024 + bucketOf f.hdr
  let r := { r with
    buf := r.buf.wr (n * 8 + vc) rest [],
    alloc := r.alloc.wr (o * 8 + vc) (if tail then 0 else n + 1) 0,
    drains := r.drains.wr (o * 8 + vc) (drain && !tail) false,
    completing := if tail then r.completing.wr (n * 8 + vc) false false else r.completing,
    pick := if spine && head then r.pick.wr (n * 8 + vc) o 0 else r.pick }
  let r := if spine && head && !drain then
      { r with ord := r.ord.wr key { link := (o - 8) % 4, pend := (r.ord.rd key {}).pend + 1 } {},
               sent := r.sent.upd (o * 8 + vc) [] (· ++ [{ left := hLen f.hdr + 1, bucket := key }]) } else r
  let r := if head then { r with retried := r.retried.wr (o * 8 + vc) 0 0, poisonRun := r.poisonRun.wr (o * 8 + vc) false false } else r
  if drain then r else { r with used := r.used.upd (o * 8 + vc) 0 (· + 1) }

/-- The flit's input returns its credit. -/
def State.grantCredit (t : State) (pl : Pl) (quire : Bool) (i n vc : Nat) : State :=
  match inputSender quire i n with
  | some q => if t.liveEnd quire i n then t.giveCredit pl q vc 1 else t
  | none => t

/-- What a grant counts: the flit, one held back for the order of its packet, a late one. -/
def State.grantCounts (s : State) (pl : Pl) (quire : Bool) (i vc o : Nat) (held late : Bool) : State :=
  let s := (s.countRtr pl quire i 0x02 o).countRtr pl quire i 0x03 vc
  let s := if held then ((if quire then s.pinc pl (bQrt i + 0x1C) 0 32 1 else s)).countRtr pl quire i 0x0A o else s
  if late then (s.countRtr pl quire i 0x06 o).rtrEvent pl quire i 0 else s

/-- A draining output discards the flit; the tail of a request has its answer formed. -/
def State.grantDrop (s : State) (pl : Pl) (quire : Bool) (i vc o : Nat) (f : Flit) : State :=
  let s := s.modRouter pl quire i (fun r => if decide (f.idx = 0) then { r with lastTx := r.lastTx.wr (o * 8 + vc) [f] [] } else r)
  if decide (f.idx = hLen f.hdr) then
    let cmd := (((s.router pl quire i).lastTx.rd (o * 8 + vc) []).head?.map (·.data)).getD f.data
    let s := s.pinc pl (if quire then bQrt i + 0x14 else bFrt i + 0xC) 0 32 1
    if answered (hKind f.hdr) then
      s.modRouter pl quire i (fun r => { r with gen := r.gen.upd (rspVc vc) [] (· ++ [s.checked pl (drainAnswer f.hdr cmd s.now)]) })
    else s
  else s

/-- The flit leaves the router. -/
def State.grantPass (s : State) (pl : Pl) (quire : Bool) (i vc o : Nat) (f : Flit) : State :=
  let bad := f.poison || (s.router pl quire i).poisonRun.rd (o * 8 + vc) false
  (s.keepSent pl quire i o { f with poison := bad }).leaveRouter pl quire i o { f with poison := bad }

/-- The head flit of a packet takes another link than the one with the most credits (R67). -/
def State.grantHeld (s : State) (pl : Pl) (quire : Bool) (i vc o : Nat) (f : Flit) : Bool :=
  let r := s.router pl quire i
  let j := (o - 8) / 4
  let key := j * 1024 + bucketOf f.hdr
  decide (f.idx = 0) && decide (routeAt quire i f.hdr ≠ .out o)
    && decide (vc ≠ 0 ∧ 0 < (r.ord.rd key {}).pend ∧ r.credits o vc < r.credits (r.freest j vc) vc)

/-- A grant, once the flit at the head of the input is known. -/
def State.grantHead (s : State) (pl : Pl) (quire : Bool) (i n vc o : Nat) (f : Flit) (rest : List Flit) : State :=
  let drain := s.draining pl quire i o
  let t := s.modRouter pl quire i (fun r => r.take n vc o f rest (decide (routeAt quire i f.hdr ≠ .out o)) drain)
  let u := (t.grantCredit pl quire i n vc).grantCounts pl quire i vc o (s.grantHeld pl quire i vc o f)
    (decide (vc = 0 ∧ s.img.w < s.fc - f.since))
  if drain then u.grantDrop pl quire i vc o f else u.grantPass pl quire i vc o f

theorem State.grantFlit_nil {s : State} {pl : Pl} {quire : Bool} {i n vc : Nat} (o : Nat)
    (h : (s.router pl quire i).buf.rd (n * 8 + vc) [] = []) : s.grantFlit pl quire i n vc o = s := by
  unfold State.grantFlit
  extract_lets r
  split
  · rfl
  · next hc => exact absurd (h.symm.trans hc) (List.cons_ne_nil _ _).symm

theorem State.grantFlit_cons {s : State} {pl : Pl} {quire : Bool} {i n vc : Nat} (o : Nat) {f : Flit} {rest : List Flit}
    (h : (s.router pl quire i).buf.rd (n * 8 + vc) [] = f :: rest) :
    s.grantFlit pl quire i n vc o = s.grantHead pl quire i n vc o f rest := by
  unfold State.grantFlit
  extract_lets r
  split
  · next hc => exact absurd (h.symm.trans hc) (List.cons_ne_nil _ _)
  · next f' rest' hc =>
    obtain ⟨rfl, rfl⟩ := List.cons.inj (h.symm.trans hc)
    rfl

section

variable (r : Router) (n vc o : Nat) (f : Flit) (rest : List Flit) (spine drain : Bool)

theorem Router.take_buf : (r.take n vc o f rest spine drain).buf = r.buf.wr (n * 8 + vc) rest [] := by
  unfold Router.take
  dsimp only
  repeat' split
  all_goals rfl

theorem Router.take_alloc : (r.take n vc o f rest spine drain).alloc =
    r.alloc.wr (o * 8 + vc) (if f.idx = hLen f.hdr then 0 else n + 1) 0 := by
  have hset : (if decide (f.idx = hLen f.hdr) then 0 else n + 1) = if f.idx = hLen f.hdr then 0 else n + 1 := by simp
  unfold Router.take
  dsimp only
  rw [hset]
  repeat' split
  all_goals rfl

theorem Router.take_used : (r.take n vc o f rest spine drain).used =
    if drain then r.used else r.used.upd (o * 8 + vc) 0 (· + 1) := by
  unfold Router.take
  dsimp only
  repeat' split
  all_goals rfl

theorem Router.take_gen : (r.take n vc o f rest spine drain).gen = r.gen := by
  unfold Router.take
  dsimp only
  repeat' split
  all_goals rfl

end

section

variable {pl : Pl} {quire : Bool} {i : Nat} {s : State}

theorem State.modRouter_runs (pl q : Pl) (b : Bool) (j : Nat) (f : Router → Router) : (s.modRouter pl b j f).runs q = s.runs q :=
  State.runs_congr (by simp [State.modRouter]) (by simp [State.modRouter]) q

theorem State.grantCredit_keepsRouter (n vc : Nat) : State.KeepsRouter pl quire i s (s.grantCredit pl quire i n vc) := by
  unfold State.grantCredit
  split
  · exact .ite (State.giveCredit_keepsRouter _ _ _) (.refl pl quire i s)
  · exact .refl pl quire i s

theorem State.grantCounts_keepsRouter (vc o : Nat) (held late : Bool) :
    State.KeepsRouter pl quire i s (s.grantCounts pl quire i vc o held late) := by
  have hcount (t : State) (code qual : Nat) : State.KeepsRouter pl quire i t (t.countRtr pl quire i code qual) :=
    (t.countRtr_records pl quire i code qual).keepsRouter
  have hevent (t : State) : State.KeepsRouter pl quire i t (t.rtrEvent pl quire i 0) :=
    (Records.rtrEvent (C := fun _ => True) (W := fun _ => True) t pl trivial 0).keepsRouter
  unfold State.grantCounts
  extract_lets s1 s2
  have h1 : State.KeepsRouter pl quire i s s1 := (hcount _ _ _).trans (hcount _ _ _)
  have h2 : State.KeepsRouter pl quire i s s2 :=
    .ite ((h1.trans (.ite (State.pinc_keepsRouter _ _ _ _) (.refl pl quire i s1))).trans (hcount _ _ _)) h1
  exact .ite ((h2.trans (hcount _ _ _)).trans (hevent _)) h2

theorem State.grantPass_keepsRouter (h : s.runs pl = true) (vc o : Nat) (f : Flit) :
    State.KeepsRouter pl quire i s (s.grantPass pl quire i vc o f) := by
  have hsent (g : Flit) : State.KeepsRouter pl quire i s (s.keepSent pl quire i o g) := State.keepSent_keepsRouter _ _ _ _
  exact (hsent _).trans (State.leaveRouter_keepsRouter ((hsent _).runs h) _ _)

/-- What a draining output forms changes the response generator only. -/
theorem State.grantDrop_router (vc o : Nat) (f : Flit) : ((s.grantDrop pl quire i vc o f).runs pl = s.runs pl) ∧
    ((s.grantDrop pl quire i vc o f).router pl quire i).buf = (s.router pl quire i).buf ∧
    ((s.grantDrop pl quire i vc o f).router pl quire i).used = (s.router pl quire i).used ∧
    ((s.grantDrop pl quire i vc o f).router pl quire i).alloc = (s.router pl quire i).alloc := by
  have hpinc (t : State) (off lo len k : Nat) : (t.pinc pl off lo len k).runs pl = t.runs pl :=
    State.runs_congr (by simp [State.pinc, State.pfset, State.noteInc]) (by simp [State.pinc, State.pfset, State.noteInc]) pl
  have hread (t : State) (off lo len k : Nat) : (t.pinc pl off lo len k).router pl quire i = t.router pl quire i := by
    simp [State.pinc, State.pfset]
  unfold State.grantDrop
  dsimp only
  repeat' split
  all_goals simp only [State.modRouter_runs, hpinc, hread, State.router_modRouter, and_self]

/-- A grant takes the flit out of its buffer, a credit of the output's VC, and the VC for its packet. -/
theorem State.grantHead_router (h : s.runs pl = true) (n vc o : Nat) (f : Flit) (rest : List Flit) :
    let t := s.grantHead pl quire i n vc o f rest
    let r := s.router pl quire i
    t.runs pl = true ∧ (t.router pl quire i).buf = r.buf.wr (n * 8 + vc) rest [] ∧
    (t.router pl quire i).used = (if s.draining pl quire i o then r.used else r.used.upd (o * 8 + vc) 0 (· + 1)) ∧
    (t.router pl quire i).alloc = r.alloc.wr (o * 8 + vc) (if f.idx = hLen f.hdr then 0 else n + 1) 0 := by
  unfold State.grantHead
  extract_lets drain t u v r
  have htake : t.router pl quire i = r.take n vc o f rest (decide (routeAt quire i f.hdr ≠ .out o)) drain :=
    State.router_modRouter _ _ _ _ _
  have hu : State.KeepsRouter pl quire i t u := State.grantCredit_keepsRouter n vc |>.trans (State.grantCounts_keepsRouter _ _ _ _)
  have hruns : u.runs pl = true := hu.runs ((State.modRouter_runs _ _ _ _ _).trans h)
  have hur := hu.router
  rw [htake] at hur
  have hpass := State.grantPass_keepsRouter (quire := quire) (i := i) hruns vc o f
  obtain ⟨hdruns, hdbuf, hdused, hdalloc⟩ := State.grantDrop_router (s := u) (pl := pl) (quire := quire) (i := i) vc o f
  have hv : v = if drain then u.grantDrop pl quire i vc o f else u.grantPass pl quire i vc o f := rfl
  have hd : s.draining pl quire i o = drain := rfl
  rw [hv, hd]
  cases hdrain : drain with
  | false =>
    rw [if_neg Bool.false_ne_true, if_neg Bool.false_ne_true, hpass.router, hur]
    exact ⟨hpass.runs hruns, r.take_buf .., by rw [r.take_used, hdrain]; rfl, r.take_alloc ..⟩
  | true =>
    rw [if_pos rfl, if_pos rfl, hdruns, hdbuf, hdused, hdalloc, hur]
    exact ⟨hruns, r.take_buf .., by rw [r.take_used, hdrain]; rfl, r.take_alloc ..⟩

end

/-! ### One fc of arbitration (R75) -/

theorem rotatePick_mem {l : List Nat} {p n w : Nat} (h : rotatePick l p n = some w) : w ∈ l := by
  have hfold (m : List Nat) (x : Nat) (f : Nat → Nat → Nat) (hf : ∀ a y, f a y = a ∨ f a y = y) : m.foldl f x = x ∨ m.foldl f x ∈ m := by
    induction m generalizing x with
    | nil => exact .inl rfl
    | cons y m ih =>
      rcases ih (f x y) with e | e
      · rcases hf x y with k | k
        · exact .inl (e.trans k)
        · exact .inr (List.mem_cons.2 (.inl (e.trans k)))
      · exact .inr (List.mem_cons_of_mem _ e)
  cases l with
  | nil => cases h
  | cons x rest =>
    obtain rfl := Option.some.inj h
    exact List.mem_cons.2 (hfold rest x _ fun a y => by split <;> simp)

theorem mem_tierVcs_lt {tier v : Nat} (h : v ∈ tierVcs tier) : v < 7 := by
  unfold tierVcs at h
  split at h
  · simp at h; omega
  split at h <;> (simp at h; omega)

theorem State.candidate_lt {s : State} {pl : Pl} {quire : Bool} {i n tier v o : Nat}
    (h : s.candidate pl quire i n tier = some (v, o)) : v < 7 := by
  unfold State.candidate at h
  dsimp only at h
  split at h
  · next w hw =>
    obtain ⟨q, -, hq⟩ := Option.map_eq_some_iff.1 h
    obtain ⟨rfl, -⟩ := Prod.mk.inj hq
    exact mem_tierVcs_lt (List.mem_filter.1 (rotatePick_mem hw)).1
  · cases h

theorem ArbStep.mem_asks {a : ArbStep} {pl : Pl} {quire : Bool} {i tier o w v : Nat} {barred : List Nat}
    (h : (w, v) ∈ a.asks pl quire i tier o barred) : v < 7 ∧ w ∉ a.ins.map (·.1) := by
  obtain ⟨n, -, hn⟩ := List.mem_filterMap.1 h
  split at hn
  · cases hn
  · next hfree =>
    split at hn
    · next v' q hc =>
      split at hn
      · obtain ⟨rfl, rfl⟩ := Prod.mk.inj (Option.some.inj hn)
        refine ⟨State.candidate_lt hc, fun hmem => hfree ?_⟩
        obtain ⟨x, hx, rfl⟩ := List.mem_map.1 hmem
        exact Bool.or_eq_true_iff.2 (.inl (List.any_eq_true.2 ⟨x, hx, by simp⟩))
      · cases hn
    · cases hn

theorem ArbStep.mem_of_pickRot {a : ArbStep} {pl : Pl} {quire : Bool} {i tier o : Nat} {l : List (Nat × Nat)} {x : Nat × Nat}
    (h : a.pickRot pl quire i tier o l = some x) : x ∈ l := by
  unfold ArbStep.pickRot at h
  split at h
  · exact List.mem_of_find?_eq_some h
  · cases h

/-- What the grants of an fc so far have left of the router as it began the fc: of each input at most one VC has lost its head flit,
and then the input has been granted; of each output at most one VC has one credit less, and then the output has been. -/
structure ArbStep.Once (pl : Pl) (quire : Bool) (i : Nat) (s : State) (a : ArbStep) : Prop where
  runs : a.st.runs pl = true
  bufs : ∀ n, (∀ v < 7, (a.st.router pl quire i).buf.rd (n * 8 + v) [] = (s.router pl quire i).buf.rd (n * 8 + v) []) ∨
    n ∈ a.ins.map (·.1) ∧ ∃ w < 7, ∃ f, (s.router pl quire i).buf.rd (n * 8 + w) [] = f :: (a.st.router pl quire i).buf.rd (n * 8 + w) [] ∧
      ∀ v < 7, v ≠ w → (a.st.router pl quire i).buf.rd (n * 8 + v) [] = (s.router pl quire i).buf.rd (n * 8 + v) []
  used : ∀ o, (∀ v < 7, (a.st.router pl quire i).used.rd (o * 8 + v) 0 = (s.router pl quire i).used.rd (o * 8 + v) 0) ∨
    o ∈ a.outs ∧ ∃ w < 7, (a.st.router pl quire i).used.rd (o * 8 + w) 0 = (s.router pl quire i).used.rd (o * 8 + w) 0 + 1 ∧
      ∀ v < 7, v ≠ w → (a.st.router pl quire i).used.rd (o * 8 + v) 0 = (s.router pl quire i).used.rd (o * 8 + v) 0

section

variable {pl : Pl} {quire : Bool} {i : Nat} {s : State} {a : ArbStep}

theorem ArbStep.Once.start (h : s.runs pl = true) : ArbStep.Once pl quire i s { st := s, ins := [], outs := [] } :=
  ⟨h, fun _ => .inl fun _ _ => rfl, fun _ => .inl fun _ _ => rfl⟩

/-- What leaves the buffers and the credits alone. -/
theorem ArbStep.Once.to (h : ArbStep.Once pl quire i s a) {t : State} (hruns : t.runs pl = true)
    (hbuf : (t.router pl quire i).buf = (a.st.router pl quire i).buf)
    (hused : (t.router pl quire i).used = (a.st.router pl quire i).used) : ArbStep.Once pl quire i s { a with st := t } := by
  obtain ⟨-, hb, hu⟩ := h
  refine ⟨hruns, fun n => ?_, fun o => ?_⟩
  · rw [hbuf]; exact hb n
  · rw [hused]; exact hu o

theorem ArbStep.Once.modRouter (h : ArbStep.Once pl quire i s a) (f : Router → Router) (hbuf : ∀ r, (f r).buf = r.buf)
    (hused : ∀ r, (f r).used = r.used) : ArbStep.Once pl quire i s { a with st := a.st.modRouter pl quire i f } :=
  h.to ((State.modRouter_runs _ _ _ _ _).trans h.runs) (by rw [State.router_modRouter, hbuf]) (by rw [State.router_modRouter, hused])

theorem ArbStep.Once.keepsRouter (h : ArbStep.Once pl quire i s a) {t : State} (k : State.KeepsRouter pl quire i a.st t) :
    ArbStep.Once pl quire i s { a with st := t } :=
  h.to (k.runs h.runs) (by rw [k.router]) (by rw [k.router])

/-- Keys of inputs and of outputs: the number, then the VC. -/
theorem vcKey_inj {n m v w : Nat} (hv : v < 7) (hw : w < 7) (h : n * 8 + v = m * 8 + w) : n = m ∧ v = w := by omega

theorem ArbStep.Once.grant (h : ArbStep.Once pl quire i s a) {tier o w vc : Nat} (hvc : vc < 7) (hw : w ∉ a.ins.map (·.1))
    (ho : o ∉ a.outs) : ArbStep.Once pl quire i s (a.grant pl quire i tier o w vc) := by
  have hptr := h.modRouter (fun r => { r with rp := r.rp.wr (o * 4 + tier) (w + 1) 0, inPtr := r.inPtr.wr (w * 4 + tier) (vc + 1) 0 })
    (fun _ => rfl) (fun _ => rfl)
  unfold ArbStep.grant
  dsimp only
  generalize a.st.modRouter pl quire i _ = u at hptr ⊢
  obtain ⟨hruns, hbufs, hused⟩ := hptr
  have hinput := (hbufs w).resolve_right fun x => hw x.1
  have houtput := (hused o).resolve_right fun x => ho x.1
  cases hbuf : (u.router pl quire i).buf.rd (w * 8 + vc) [] with
  | nil =>
    rw [State.grantFlit_nil o hbuf]
    exact ⟨hruns, fun n => (hbufs n).imp_right (fun x => ⟨by simp [x.1], x.2⟩), fun q => (hused q).imp_right (fun x => ⟨by simp [x.1], x.2⟩)⟩
  | cons f rest =>
    obtain ⟨gruns, gbuf, gused, -⟩ := State.grantHead_router (quire := quire) (i := i) hruns w vc o f rest
    rw [State.grantFlit_cons o hbuf]
    generalize u.grantHead pl quire i w vc o f rest = t at gruns gbuf gused
    have hbufrd (n v : Nat) (hv : v < 7) (hne : n ≠ w ∨ v ≠ vc) :
        (t.router pl quire i).buf.rd (n * 8 + v) [] = (u.router pl quire i).buf.rd (n * 8 + v) [] := by
      rw [gbuf]
      exact Tab.rd_wr_ne _ _ _ _ fun e => by obtain ⟨rfl, rfl⟩ := vcKey_inj hv hvc e; simp at hne
    have husedrd (q v : Nat) (hv : v < 7) (hne : q ≠ o ∨ v ≠ vc) :
        (t.router pl quire i).used.rd (q * 8 + v) 0 = (u.router pl quire i).used.rd (q * 8 + v) 0 := by
      rw [gused]
      split
      · rfl
      · exact Tab.rd_upd_ne _ _ _ _ fun e => by obtain ⟨rfl, rfl⟩ := vcKey_inj hv hvc e; simp at hne
    refine ⟨gruns, fun n => ?_, fun q => ?_⟩
    · by_cases hn : n = w
      · subst hn
        refine .inr ⟨by simp, vc, hvc, f, ?_, fun v hv hne => (hbufrd n v hv (.inr hne)).trans (hinput v hv)⟩
        rw [← hinput vc hvc, hbuf, gbuf, Tab.rd_wr_same]
      · rcases hbufs n with hsame | ⟨hmem, v, hv, g, hg, hother⟩
        · exact .inl fun v hv => (hbufrd n v hv (.inl hn)).trans (hsame v hv)
        · refine .inr ⟨by simp [hmem], v, hv, g, ?_, fun x hx hne => (hbufrd n x hx (.inl hn)).trans (hother x hx hne)⟩
          rw [hbufrd n v hv (.inl hn)]
          exact hg
    · by_cases hq : q = o
      · subst hq
        cases hdrain : u.draining pl quire i q with
        | true =>
          rw [hdrain, if_pos rfl] at gused
          exact .inl fun v hv => by rw [gused]; exact houtput v hv
        | false =>
          rw [hdrain, if_neg Bool.false_ne_true] at gused
          refine .inr ⟨by simp, vc, hvc, ?_, fun v hv hne => (husedrd q v hv (.inr hne)).trans (houtput v hv)⟩
          rw [gused, Tab.rd_upd_same, houtput vc hvc]
      · rcases hused q with hsame | ⟨hmem, v, hv, hg, hother⟩
        · exact .inl fun v hv => (husedrd q v hv (.inl hq)).trans (hsame v hv)
        · refine .inr ⟨by simp [hmem], v, hv, ?_, fun x hx hne => (husedrd q x hx (.inl hq)).trans (hother x hx hne)⟩
          rw [husedrd q v hv (.inl hq)]
          exact hg

/-- Round 0 grants an output once. -/
theorem ArbStep.Once.round0 (h : ArbStep.Once pl quire i s a) {o : Nat} (ho : o ∉ a.outs) :
    ArbStep.Once pl quire i s (a.round0 pl quire i o) ∧ ∀ q ∈ (a.round0 pl quire i o).outs, q ∈ a.outs ∨ q = o := by
  unfold ArbStep.round0
  split
  · next w v hpick =>
    obtain ⟨hv, hw⟩ := ArbStep.mem_asks (ArbStep.mem_of_pickRot hpick)
    exact ⟨h.grant hv hw ho, fun q hq => by simpa [ArbStep.grant] using hq⟩
  · exact ⟨h, fun q hq => .inl hq⟩

theorem ArbStep.Once.foldl_round0 (l : List Nat) (hl : l.Nodup) (h : ArbStep.Once pl quire i s a) (hout : ∀ o ∈ l, o ∉ a.outs) :
    ArbStep.Once pl quire i s (l.foldl (ArbStep.round0 pl quire i) a) := by
  induction l generalizing a with
  | nil => exact h
  | cons o l ih =>
    obtain ⟨hnot, hnodup⟩ := List.nodup_cons.1 hl
    obtain ⟨hone, houts⟩ := h.round0 (hout o List.mem_cons_self)
    refine ih hnodup hone fun q hq hmem => ?_
    rcases houts q hmem with hold | rfl
    · exact hout q (List.mem_cons_of_mem _ hq) hold
    · exact hnot hq

theorem ArbStep.Once.foldl (l : List Nat) (f : ArbStep → Nat → ArbStep)
    (hf : ∀ a o, ArbStep.Once pl quire i s a → ArbStep.Once pl quire i s (f a o)) (h : ArbStep.Once pl quire i s a) :
    ArbStep.Once pl quire i s (l.foldl f a) := by
  induction l generalizing a with
  | nil => exact h
  | cons o l ih => exact ih (hf a o h)

theorem ArbStep.Once.round1 (h : ArbStep.Once pl quire i s a) (c2 barred : List Nat) (o : Nat) :
    ArbStep.Once pl quire i s (a.round1 pl quire i c2 barred o) := by
  unfold ArbStep.round1
  dsimp only
  split
  · exact h
  · next hfree =>
    have ho : o ∉ a.outs := fun hmem => hfree (by simp [hmem])
    split
    · next w v hpick =>
      obtain ⟨hv, hw⟩ := ArbStep.mem_asks (ArbStep.mem_of_pickRot hpick)
      split
      · exact (h.modRouter (fun r => { r with run := r.run.upd o 0 (· + 1) }) (fun _ => rfl) (fun _ => rfl)).grant hv hw ho
      · exact h.grant hv hw ho
    · exact h

theorem ArbStep.Once.round2 (h : ArbStep.Once pl quire i s a) (o : Nat) : ArbStep.Once pl quire i s (a.round2 pl quire i o) := by
  have hcount (t : State) (code qual : Nat) : State.KeepsRouter pl quire i t (t.countRtr pl quire i code qual) :=
    (t.countRtr_records pl quire i code qual).keepsRouter
  unfold ArbStep.round2
  split
  · exact h
  · next hfree =>
    have ho : o ∉ a.outs := fun hmem => hfree (by simp [hmem])
    extract_lets r c aged cnt best pool
    have hpool : ∀ x ∈ pool, x ∈ c := fun x hx => by
      have hx : x ∈ (if aged.isEmpty then c.filter (fun x => decide (cnt x.1 = best)) else aged) := hx
      split at hx <;> exact (List.mem_filter.1 hx).1
    split
    · next w v hpick =>
      obtain ⟨hv, hw⟩ := ArbStep.mem_asks (hpool _ (ArbStep.mem_of_pickRot hpick))
      extract_lets t1 t2 t3
      have h1 : ArbStep.Once pl quire i s { a with st := t1 } := h.modRouter _ (fun _ => rfl) (fun _ => rfl)
      have h2 : ArbStep.Once pl quire i s { a with st := t2 } :=
        h1.keepsRouter (.ite (.refl pl quire i t1) ((State.pinc_keepsRouter _ _ _ _).trans (hcount _ _ _)))
      have h3 : ArbStep.Once pl quire i s { a with st := t3 } := h2.keepsRouter (.ite (hcount _ _ _) (.refl pl quire i t2))
      exact h3.grant hv hw ho
    · exact h

theorem State.countWaits_keepsRouter (asks grants : List (Nat × Nat)) (dry : List Nat) :
    State.KeepsRouter pl quire i s (s.countWaits pl quire i asks grants dry) := by
  have hcount (t : State) (code qual : Nat) : State.KeepsRouter pl quire i t (t.countRtr pl quire i code qual) :=
    (t.countRtr_records pl quire i code qual).keepsRouter
  exact (foldl_keepsRouter _ _ fun t x => hcount t _ _).trans (foldl_keepsRouter _ _ fun t o => hcount t _ _)

/-- An fc of a router grants once at each input and at each output. -/
theorem State.arbitrate_once (h : s.runs pl = true) :
    ∃ a : ArbStep, a.st = s.arbitrate pl quire i ∧ ArbStep.Once pl quire i s a := by
  unfold State.arbitrate
  extract_lets outs ins has2 burst barred a0 c2 a1 c2o a2 a3 t
  have h0 : ArbStep.Once pl quire i s a0 :=
    (ArbStep.Once.start h).foldl_round0 outs List.nodup_range fun _ _ => List.not_mem_nil
  have h1 : ArbStep.Once pl quire i s a1 := h0.modRouter _ (fun _ => rfl) (fun _ => rfl)
  have h2 : ArbStep.Once pl quire i s a2 := h1.foldl outs _ fun a o k => k.round1 c2o barred o
  have h3 : ArbStep.Once pl quire i s a3 := h2.foldl outs _ fun a o k => k.round2 o
  have h4 : ArbStep.Once pl quire i s { a3 with st := t } := h3.modRouter _ (fun _ => rfl) (fun _ => rfl)
  exact ⟨_, rfl, h4.keepsRouter (State.countWaits_keepsRouter _ _ _)⟩

end

/-- Settles O23: the invariant `ArbStep.Once` of the grants of an fc. -/
theorem oneGrantPerInputAndOutput : Obligations.OneGrantPerInputAndOutput := by
  unfold Obligations.OneGrantPerInputAndOutput
  intro s pl quire i h
  obtain ⟨a, ha, -, hbufs, hused⟩ := State.arbitrate_once (quire := quire) (i := i) h
  dsimp only
  rw [← ha]
  refine ⟨fun n => ?_, fun o => ?_⟩
  · rcases hbufs n with hsame | ⟨-, x, -, f, hf, hother⟩
    · exact ⟨fun v hv => .inl (hsame v hv), fun v hv w _ _ => .inl (hsame v hv)⟩
    · refine ⟨fun v hv => ?_, fun v hv w hw hne => ?_⟩
      · by_cases hx : v = x
        · exact .inr ⟨f, hx ▸ hf⟩
        · exact .inl (hother v hv hx)
      · by_cases hx : v = x
        · exact .inr (hother w hw (hx ▸ hne.symm))
        · exact .inl (hother v hv hx)
  · rcases hused o with hsame | ⟨-, x, -, hx1, hother⟩
    · exact ⟨fun v hv => .inl (hsame v hv), fun v hv w _ _ => .inl (hsame v hv)⟩
    · refine ⟨fun v hv => ?_, fun v hv w hw hne => ?_⟩
      · by_cases hx : v = x
        · exact .inr (hx ▸ hx1)
        · exact .inl (hother v hv hx)
      · by_cases hx : v = x
        · exact .inr (hother w hw (hx ▸ hne.symm))
        · exact .inl (hother v hv hx)

end Sys2Proof.Machine

namespace Sys2Proof.Machine

/-! ### What is done in every plane in service -/

/-- Plane `pl`'s turn: what came before was done in the other plane, and so is what follows. -/
theorem State.eachPlane_turn {s : State} {pl : Pl} (h : s.runs pl = true) (f : Pl → State → State) : ∃ u : State,
    (u = s ∨ ∃ q, q ≠ pl ∧ u = f q s) ∧ (s.eachPlane f = f pl u ∨ ∃ q, q ≠ pl ∧ s.eachPlane f = f q (f pl u)) := by
  cases pl with
  | a =>
    refine ⟨s, .inl rfl, ?_⟩
    cases hb : s.runs .b with
    | false => exact .inl (by simp [State.eachPlane, State.planes, h, hb])
    | true => exact .inr ⟨.b, by decide, by simp [State.eachPlane, State.planes, h, hb]⟩
  | b =>
    cases ha : s.runs .a with
    | false => exact ⟨s, .inl rfl, .inl (by simp [State.eachPlane, State.planes, h, ha])⟩
    | true => exact ⟨f .a s, .inr ⟨.a, by decide, rfl⟩, .inl (by simp [State.eachPlane, State.planes, h, ha])⟩

/-- What is read of plane `pl` is what its own turn makes of it, when another plane's turn leaves it alone. -/
theorem State.eachPlane_read.{v} {α : Sort v} {s : State} {pl : Pl} (h : s.runs pl = true) (f : Pl → State → State) (P : State → Prop)
    (obs : State → α) (hs : P s) (hP : ∀ q t, q ≠ pl → P t → P (f q t)) (hobs : ∀ q t, q ≠ pl → obs (f q t) = obs t) :
    ∃ u, P u ∧ obs u = obs s ∧ obs (s.eachPlane f) = obs (f pl u) := by
  obtain ⟨u, hu, hf⟩ := State.eachPlane_turn h f
  refine ⟨u, ?_, ?_, ?_⟩
  · rcases hu with rfl | ⟨q, hq, rfl⟩
    · exact hs
    · exact hP q s hq hs
  · rcases hu with rfl | ⟨q, hq, rfl⟩
    · rfl
    · exact hobs q s hq
  · rcases hf with e | ⟨q, hq, e⟩
    · rw [e]
    · rw [e, hobs q _ hq]

/-- What no plane's turn changes. -/
theorem State.eachPlane_same.{v} {α : Sort v} (s : State) (f : Pl → State → State) (obs : State → α) (hobs : ∀ q t, obs (f q t) = obs t) :
    obs (s.eachPlane f) = obs s := by
  unfold State.eachPlane
  induction s.planes generalizing s with
  | nil => rfl
  | cons q l ih => exact (ih (f q s)).trans (hobs q s)

/-! ### Release of GT flits (R109, R110) -/

/-- A GT flit passes in one plane: it is counted, and the packet's last flit takes the packet to the NI. -/
def State.gtPassPlane (p : Nat) (g2 : GtPkt) (late last : Bool) (h : BitVec 64) (pl : Pl) (t : State) : State :=
  let t := if late then (t.pinc pl (bNi p + 0x500) 0 32 1).niEvent pl p 1
    else t.countNi pl p 0x0D 0 (ownerIf (hPriv h) (hOwner h))
  if last then t.modNi pl p (fun n => { n with inbox := pushAt n.inbox g2.box g2.flits }) else t

theorem State.gtPass_eq (s : State) (p : Nat) (g : GtPkt) (late : Bool) : s.gtPass p g late =
    let h := (g.flits.head?.map (·.hdr)).getD 0
    let g2 : GtPkt := { g with nextFlit := g.nextFlit + 1, late := g.late || late }
    let last := decide (hLen h < g2.nextFlit)
    (s.modPort p (fun x => { x with gtRel := if last then x.gtRel.erase g else x.gtRel.map (fun y => if y = g then g2 else y) })).eachPlane
      (State.gtPassPlane p g2 late last h) := rfl

section

variable (p : Nat) (g2 : GtPkt) (late last : Bool) (h : BitVec 64) (pl : Pl) (t : State)

/-- What a flit's passing counts and raises. -/
def State.gtNote (p : Nat) (late : Bool) (h : BitVec 64) (pl : Pl) (t : State) : State :=
  if late then (t.pinc pl (bNi p + 0x500) 0 32 1).niEvent pl p 1 else t.countNi pl p 0x0D 0 (ownerIf (hPriv h) (hOwner h))

theorem State.gtPassPlane_eq : State.gtPassPlane p g2 late last h pl t =
    if last then (State.gtNote p late h pl t).modNi pl p (fun n => { n with inbox := pushAt n.inbox g2.box g2.flits })
    else State.gtNote p late h pl t := rfl

theorem State.ni_gtNote (q : Pl) (j : Nat) : (State.gtNote p late h pl t).ni q j = t.ni q j := by
  unfold State.gtNote
  split
  · rw [(Records.niEvent (C := fun _ => False) (W := fun _ => True) (t.pinc pl (bNi p + 0x500) 0 32 1) pl trivial 1).ni]
    simp [State.pinc, State.pfset]
  · exact (t.countNi_records pl p _ _ _).ni q j

theorem State.port_gtNote (j : Nat) : (State.gtNote p late h pl t).port j = t.port j := by
  unfold State.gtNote
  split
  · rw [(Records.niEvent (C := fun _ => False) (W := fun _ => True) (t.pinc pl (bNi p + 0x500) 0 32 1) pl trivial 1).port]
    simp [State.pinc, State.pfset]
  · exact (t.countNi_records pl p _ _ _).port j

theorem State.port_gtPassPlane (j : Nat) : (State.gtPassPlane p g2 late last h pl t).port j = t.port j := by
  rw [State.gtPassPlane_eq]
  split
  · rw [State.port_modNi, State.port_gtNote]
  · exact State.port_gtNote p late h pl t j

theorem State.ni_gtPassPlane_other {q : Pl} (hq : q ≠ pl) (j : Nat) : (State.gtPassPlane p g2 late last h pl t).ni q j = t.ni q j := by
  rw [State.gtPassPlane_eq]
  split
  · rw [State.ni_modNi_other _ hq, State.ni_gtNote]
  · exact State.ni_gtNote p late h pl t q j

theorem State.ni_gtPassPlane_last : (State.gtPassPlane p g2 late true h pl t).ni pl p =
    { t.ni pl p with inbox := pushAt (t.ni pl p).inbox g2.box g2.flits } := by
  rw [State.gtPassPlane_eq, if_pos rfl, State.ni_modNi, State.ni_gtNote]

/-- LATE counts in the plane in which the flit passes late. -/
theorem State.p_gtPassPlane_late (q : Pl) : (State.gtPassPlane p g2 true last h pl t).p q (bNi p + 0x500) =
    (t.pinc pl (bNi p + 0x500) 0 32 1).p q (bNi p + 0x500) := by
  have hnote : (State.gtNote p true h pl t).p q (bNi p + 0x500) = (t.pinc pl (bNi p + 0x500) 0 32 1).p q (bNi p + 0x500) :=
    (Records.niEvent (C := fun _ => False) (W := fun o => o = bNi p + 0x900) _ pl rfl 1).words q _ (by omega)
  rw [State.gtPassPlane_eq]
  split
  · rw [State.p_modNi, hnote]
  · exact hnote

theorem State.p_pinc_other {q : Pl} (hq : q ≠ pl) (off lo len n o : Nat) : (t.pinc pl off lo len n).p q o = t.p q o := by
  rw [State.pinc, State.pfset, State.p_pset_other _ hq, State.p_noteInc]

end

/-- The last flit of a packet takes it to the NI. -/
theorem State.gtPass_last (s : State) (p : Nat) (g : GtPkt) (late : Bool) (hlast : hLen ((g.flits.head?.map (·.hdr)).getD 0) = g.nextFlit) :
    let t := s.gtPass p g late
    let g2 : GtPkt := { g with nextFlit := g.nextFlit + 1, late := g.late || late }
    (t.port p).gtRel = (s.port p).gtRel.erase g ∧
    ∀ pl, s.runs pl = true → (t.ni pl p).inbox.rd g2.box [] = (s.ni pl p).inbox.rd g2.box [] ++ g.flits ∧
      (late = true → t.pf pl (bNi p + 0x500) 0 32 = satAdd 32 (s.pf pl (bNi p + 0x500) 0 32) 1) := by
  extract_lets t g2
  have heq := s.gtPass_eq p g late
  dsimp only at heq
  rw [decide_eq_true (show hLen ((g.flits.head?.map (·.hdr)).getD 0) < g.nextFlit + 1 by omega)] at heq
  have ht : t = _ := heq
  generalize hu : s.modPort p _ = u at ht
  have hport : (u.port p).gtRel = (s.port p).gtRel.erase g := by
    rw [← hu, State.port_modPort]
    rfl
  have hni (q : Pl) : u.ni q p = s.ni q p := by rw [← hu, State.ni_modPort]
  have hp (q : Pl) (o : Nat) : u.p q o = s.p q o := by rw [← hu, State.p_modPort]
  have hruns (q : Pl) : u.runs q = s.runs q := by rw [← hu]; exact State.runs_congr rfl rfl q
  rw [ht]
  refine ⟨?_, fun pl hpl => ⟨?_, fun hlate => ?_⟩⟩
  · rw [State.eachPlane_same u _ (fun t => t.port p) (fun q t => State.port_gtPassPlane p g2 late true _ q t p), hport]
  · obtain ⟨v, -, hv, hout⟩ := State.eachPlane_read ((hruns pl).trans hpl) (State.gtPassPlane p g2 late true _) (fun _ => True)
      (fun t => t.ni pl p) trivial (fun _ _ _ _ => trivial) (fun q t hq => State.ni_gtPassPlane_other p g2 late true _ q t hq.symm p)
    rw [hout, State.ni_gtPassPlane_last, hv, hni]
    exact Tab.rd_upd_same (s.ni pl p).inbox g2.box [] (fun l => l ++ g.flits)
  · subst hlate
    obtain ⟨v, -, hv, hout⟩ := State.eachPlane_read ((hruns pl).trans hpl) (State.gtPassPlane p g2 true true _) (fun _ => True)
      (fun t => t.p pl (bNi p + 0x500)) trivial (fun _ _ _ _ => trivial)
      (fun q t hq => (State.p_gtPassPlane_late p g2 true _ q t pl).trans (State.p_pinc_other q t hq.symm _ _ _ _ _))
    rw [State.pf, hout, State.p_gtPassPlane_late, ← State.pf, State.pf_pinc _ _ _ _ (by omega), State.pf, hv, hp]
    rfl

/-! ### GT streams enabled again (R120, R302) -/

/-- A stream is enabled: its bit clears, and its buckets are full. -/
def State.gtEnable (t : State) (pl : Pl) (r : GtRec) : State := (t.pfset pl (bNi r.src + 0x508) r.stream 1 0).gtFill pl r

/-- The streams that a plane enables. -/
def State.gtEnablePlane (pl : Pl) (s : State) : State :=
  (s.img.gt.filter (fun r => bit (s.p pl (bNi r.src + 0x508)) r.stream && s.gtMayRun pl r)).foldl (fun t r => t.gtEnable pl r) s

section

variable (t : State) (pl : Pl) (r : GtRec)

theorem State.bNi_inj {p q : Nat} (h : bNi p + 0x508 = bNi q + 0x508) : p = q := by unfold bNi at h; omega

theorem State.p_gtEnable (o : Nat) : (t.gtEnable pl r).p pl o = (t.pfset pl (bNi r.src + 0x508) r.stream 1 0).p pl o := by
  unfold State.gtEnable State.gtFill
  rw [State.p_modNi, State.p_modNi]

theorem State.bit_gtEnable {p n : Nat} (hn : n < 32) : bit ((t.gtEnable pl r).p pl (bNi p + 0x508)) n =
    if r.src = p ∧ r.stream = n then false else bit (t.p pl (bNi p + 0x508)) n := by
  rw [State.p_gtEnable]
  by_cases hp : r.src = p
  · subst hp
    rw [State.pfset, State.p_pset]
    by_cases hs : r.stream = n
    · subst hs
      rw [if_pos ⟨rfl, rfl⟩]
      exact bit_setFld_same _ false hn
    · rw [if_neg (fun h => hs h.2), bit_setFld_of_disjoint _ _ (by omega)]
  · rw [State.p_pfset_ne _ _ fun e => hp (State.bNi_inj e).symm, if_neg (fun h => hp h.1)]

theorem State.bit_foldl_gtEnable (l : List GtRec) {p n : Nat} (hn : n < 32) :
    bit ((l.foldl (fun t r => t.gtEnable pl r) t).p pl (bNi p + 0x508)) n =
      (bit (t.p pl (bNi p + 0x508)) n && !l.any (fun r => decide (r.src = p ∧ r.stream = n))) := by
  induction l generalizing t with
  | nil => simp
  | cons r l ih =>
    rw [List.foldl_cons, ih, State.bit_gtEnable t pl r hn,
      List.any_cons]
    by_cases h : r.src = p ∧ r.stream = n
    · simp [h]
    · rw [if_neg h, decide_eq_false h, Bool.false_or]

theorem State.gtEnable_other {q : Pl} (hq : q ≠ pl) : (t.gtEnable pl r).pln q = t.pln q := by
  unfold State.gtEnable State.gtFill State.modNi State.pfset State.pset
  rw [State.modPln_pln_ne _ hq, State.modPln_pln_ne _ hq, State.modPln_pln_ne _ hq]

theorem State.gtEnable_img : (t.gtEnable pl r).img = t.img := by simp [State.gtEnable, State.gtFill, State.pfset]

theorem State.gtEnable_port (p : Nat) : (t.gtEnable pl r).port p = t.port p := by simp [State.gtEnable, State.gtFill, State.pfset]

end

/-- What every step of a fold leaves alone. -/
theorem foldl_same.{v} {α : Sort v} {β : Type} (l : List β) (f : State → β → State) (obs : State → α) (h : ∀ t b, obs (f t b) = obs t) (s : State) :
    obs (l.foldl f s) = obs s := by
  induction l generalizing s with
  | nil => rfl
  | cons b l ih => exact (ih (f s b)).trans (h s b)

theorem State.gtEnablePlane_other {pl q : Pl} (hq : q ≠ pl) (s : State) : (State.gtEnablePlane pl s).pln q = s.pln q :=
  foldl_same _ _ (fun t => t.pln q) (fun t r => t.gtEnable_other pl r hq) s

theorem State.gtEnablePlane_img (pl : Pl) (s : State) : (State.gtEnablePlane pl s).img = s.img :=
  foldl_same _ _ (fun t => t.img) (fun t r => t.gtEnable_img pl r) s

theorem State.gtEnablePlane_port (pl : Pl) (s : State) (p : Nat) : (State.gtEnablePlane pl s).port p = s.port p :=
  foldl_same _ _ (fun t => t.port p) (fun t r => t.gtEnable_port pl r p) s

theorem State.gtMayRun_congr {s t : State} {pl : Pl} (hport : ∀ p, t.port p = s.port p) (hpln : t.pln pl = s.pln pl) (r : GtRec) :
    t.gtMayRun pl r = s.gtMayRun pl r := by
  unfold State.gtMayRun State.allLocked State.islLocked
  rw [hport, hport, hpln]

/-- The bits of the streams after the boundary: those that may run are clear, the others as before. -/
theorem State.bit_gtEnablePlane (s : State) (pl : Pl) (hr : ∀ r ∈ s.img.gt, r.src < 96 ∧ r.stream < 32) :
    (∀ r ∈ s.img.gt, s.gtMayRun pl r = true → bit ((State.gtEnablePlane pl s).p pl (bNi r.src + 0x508)) r.stream = false) ∧
    ∀ p n, n < 32 → (∀ r ∈ s.img.gt, r.src = p → r.stream = n → s.gtMayRun pl r = false) →
      bit ((State.gtEnablePlane pl s).p pl (bNi p + 0x508)) n = bit (s.p pl (bNi p + 0x508)) n := by
  refine ⟨fun r hmem hrun => ?_, fun p n hn hnone => ?_⟩
  · rw [State.gtEnablePlane, State.bit_foldl_gtEnable _ _ _ (hr r hmem).2]
    cases hbit : bit (s.p pl (bNi r.src + 0x508)) r.stream with
    | false => rw [Bool.false_and]
    | true =>
      rw [Bool.true_and, Bool.not_eq_false', List.any_eq_true]
      exact ⟨r, List.mem_filter.2 ⟨hmem, by rw [hbit, hrun]; rfl⟩, by simp⟩
  · have hany : (s.img.gt.filter (fun r => bit (s.p pl (bNi r.src + 0x508)) r.stream && s.gtMayRun pl r)).any
        (fun r => decide (r.src = p ∧ r.stream = n)) = false := by
      rw [List.any_eq_false]
      intro r hmem hhit
      obtain ⟨hin, hcond⟩ := List.mem_filter.1 hmem
      obtain ⟨hsrc, hstr⟩ := of_decide_eq_true hhit
      rw [hnone r hin hsrc hstr, Bool.and_false] at hcond
      cases hcond
    rw [State.gtEnablePlane, State.bit_foldl_gtEnable _ _ _ hn, hany, Bool.not_false, Bool.and_true]

theorem execGtStreamEnable_eq {s : State} (h0 : s.fcInSlot = 0) (h16 : s.now % 16 = 0) (hd : s.done = true) :
    execGtStreamEnable s = .next (s.eachPlane State.gtEnablePlane) := by
  unfold execGtStreamEnable
  rw [if_pos ⟨h0, h16, hd⟩]
  rfl

/-- Settles O25: per plane the enabling of streams, and the passing of a flit. -/
theorem gtStreams : Obligations.GtStreams := by
  unfold Obligations.GtStreams
  refine ⟨fun s h0 h16 hd hr => ⟨_, execGtStreamEnable_eq h0 h16 hd, fun pl hpl => ?_⟩, fun s p g _ => ⟨fun hdue => ?_, fun hlate hnone => ?_,
    fun late hlast => s.gtPass_last p g late hlast⟩⟩
  · obtain ⟨u, ⟨himg, hport⟩, hpln, hout⟩ := State.eachPlane_read hpl State.gtEnablePlane (fun t => t.img = s.img ∧ ∀ p, t.port p = s.port p)
      (fun t => t.pln pl) ⟨rfl, fun _ => rfl⟩
      (fun q t _ ht => ⟨(State.gtEnablePlane_img q t).trans ht.1, fun p => (State.gtEnablePlane_port q t p).trans (ht.2 p)⟩)
      (fun q t hq => State.gtEnablePlane_other hq.symm t)
    have hrun (r : GtRec) : u.gtMayRun pl r = s.gtMayRun pl r := State.gtMayRun_congr hport hpln r
    have hp (o : Nat) : (s.eachPlane State.gtEnablePlane).p pl o = (State.gtEnablePlane pl u).p pl o := by
      unfold State.p
      rw [hout]
    have hpu (o : Nat) : u.p pl o = s.p pl o := by
      unfold State.p
      rw [hpln]
    obtain ⟨hclear, hkeep⟩ := State.bit_gtEnablePlane u pl (by rw [himg]; exact hr)
    refine ⟨fun r hmem hmay => ?_, fun p n _ hn hnone => ?_⟩
    · rw [hp]
      exact hclear r (by rw [himg]; exact hmem) ((hrun r).trans hmay)
    · rw [hp, hkeep p n hn fun r hmem hsrc hstr => (hrun r).trans (hnone r (himg ▸ hmem) hsrc hstr), hpu]
  · show execGtRelease p s = _
    unfold execGtRelease
    rw [hdue]
  · have hany : (s.port p).gtRel.any (fun x => decide (x.request = g.request) && s.gtDue p x) = false := by
      rw [List.any_eq_false]
      intro x hx hhit
      obtain ⟨hreq, hdue⟩ := Bool.and_eq_true_iff.1 hhit
      rw [hnone x hx (of_decide_eq_true hreq)] at hdue
      cases hdue
    show execGtLateDelivery p s = _
    unfold execGtLateDelivery
    rw [hlate]
    dsimp only
    rw [hany, if_neg Bool.false_ne_true]

end Sys2Proof.Machine

namespace Sys2Proof.Machine

/-! ### Routes (R62, R63) -/

/-- Settles O21: the cases of `routeFolio` and of `routeQuire` for a port's number. -/
theorem routesLeadToTheDestination : Obligations.RoutesLeadToTheDestination := by
  unfold Obligations.RoutesLeadToTheDestination
  intro dest src hdest hsrc
  have hquire (q : Nat) : routeQuire q dest src =
      if dest / 24 = q then .out (2 * (dest % 24 / 6) + (src + dest) % 2) else .spine (spineGroup q (dest / 24)) := by
    unfold routeQuire epService
    rw [if_neg (by omega), if_neg (by omega), if_neg (by omega), if_neg (by omega)]
  refine ⟨?_, fun g hg hne => ?_, ?_, fun q hq hne => ⟨?_, ?_⟩⟩
  · rw [routeFolio, if_pos (by omega)]
  · rw [routeFolio, if_neg (by omega), if_neg (by unfold epFolio; omega)]
  · rw [hquire, if_pos rfl]
  · rw [hquire, if_neg (Ne.symm hne)]
  · unfold spineGroup spinePeer
    split
    · rfl
    · rw [if_neg (by omega)]
      omega

/-! ### The colophon (R27 to R30) -/

/-- COL is a shared block. -/
theorem State.regWord_col (s : State) (pl : Pl) {off : Nat} (h : off < 0x1000) : s.regWord pl off = s.colWord off := by
  have hblock : planeBlock off = false := by
    unfold planeBlock
    rw [decide_eq_false (by omega), decide_eq_false (by omega), decide_eq_false (by omega)]
    rfl
  rw [State.regWord, if_pos (.inl h), hblock, if_neg Bool.false_ne_true, State.sharedWord, if_pos h]

/-- Settles O55: the rows of `colWord`. -/
theorem colophonConstants : Obligations.ColophonConstants := by
  unfold Obligations.ColophonConstants
  intro s pl
  refine ⟨s.regWord_col pl (by omega), s.regWord_col pl (by omega), s.regWord_col pl (by omega), s.regWord_col pl (by omega),
    s.regWord_col pl (by omega), s.regWord_col pl (by omega), fun hok => (s.regWord_col pl (by omega)).trans ?_⟩
  show (if s.img.ok then s.img.w + s.img.skew * 16 else 0) = 0
  rw [hok, if_neg Bool.false_ne_true]

/-! ### Accesses of the control window (R11, R13, R16, R343 to R345) -/

section

variable {s : State} {r : CwReq} {off : Nat}

/-- A write that is allowed takes effect and is answered OK. -/
theorem State.cwWrite_allowed (h : s.writeAllowed r off) (f : State → State) :
    s.cwWrite r off f = .next ((f (s.touch off)).answer r stOk none) := by
  obtain ⟨htakes, hstatus, hmin⟩ := h
  have hopen : (!s.minimal || decide (0x4020 ≤ off ∧ off < 0x4080)) = true := by
    rcases hmin with hmin | hmin
    · rw [hmin]; rfl
    · rw [decide_eq_true hmin, Bool.or_true]
  unfold State.cwWrite
  rw [if_pos htakes, hstatus]
  dsimp only
  rw [if_pos ⟨rfl, hopen⟩]

theorem State.cwRead_allowed {ben : BitVec 64} (h : s.readAllowed r off ben) : s.cwRead r off ben =
    ((s.touch off).readLine (s.readPlane r) off ben).2.answer r stOk (some ((s.touch off).readLine (s.readPlane r) off ben).1) := by
  obtain ⟨htakes, hstatus⟩ := h
  unfold State.cwRead
  rw [htakes, Bool.not_true, if_neg Bool.false_ne_true, hstatus]
  dsimp only
  rw [if_pos rfl]

theorem State.cwRead_refused {ben : BitVec 64} (ht : s.windowTakes r = true) (h : s.beatStatus r off ben false ≠ stOk) :
    s.cwRead r off ben = s.answer r (s.beatStatus r off ben false) (some 0) := by
  unfold State.cwRead
  rw [ht, Bool.not_true, if_neg Bool.false_ne_true]
  dsimp only
  rw [if_neg h]

theorem State.cwBeat_allowed {b : Beat} (ht : s.windowTakes r = true) (h : s.writeStatus r off b.ben = stOk) : s.cwBeat r off b =
    ((wordsOf b.ben).foldl (fun (t : State) i => t.writeWord (off / 64 * 64 + 4 * i) (lineWord b.data i)) (s.touch off)).answer
      r stOk none := by
  unfold State.cwBeat
  rw [ht, Bool.not_true, if_neg Bool.false_ne_true, h]
  dsimp only
  rw [if_pos rfl]

theorem State.cwBeat_refused {b : Beat} (ht : s.windowTakes r = true) (h : s.writeStatus r off b.ben ≠ stOk) :
    s.cwBeat r off b = s.answer r (s.writeStatus r off b.ben) none := by
  unfold State.cwBeat
  rw [ht, Bool.not_true, if_neg Bool.false_ne_true]
  dsimp only
  rw [if_neg h]

end

/-! What an answer of the window leaves alone. -/

/-- From `s` to `t` only units of the planes have changed: no register word, no counter, no island, nothing outside the planes but
the answers of the window. -/
structure State.Traffic (s t : State) : Prop where
  same : t = { s with answers := t.answers, pa := t.pa, pb := t.pb }
  planes : ∀ pl, t.pln pl = { s.pln pl with
    ni := (t.pln pl).ni, frt := (t.pln pl).frt, qrt := (t.pln pl).qrt, mule := (t.pln pl).mule, sb := (t.pln pl).sb }

namespace State.Traffic

variable {r s t : State}

theorem refl (s : State) : s.Traffic s := ⟨rfl, fun _ => rfl⟩

theorem trans (h : r.Traffic s) (k : s.Traffic t) : r.Traffic t :=
  ⟨by rw [k.same, h.same], fun pl => by rw [k.planes pl, h.planes pl]⟩

theorem modPln (s : State) (pl : Pl) (f : Plane → Plane)
    (hf : ∀ x : Plane, f x = { x with ni := (f x).ni, frt := (f x).frt, qrt := (f x).qrt, mule := (f x).mule, sb := (f x).sb }) :
    s.Traffic (s.modPln pl f) := by
  refine ⟨by cases pl <;> rfl, fun q => ?_⟩
  by_cases hq : q = pl
  · subst hq
    rw [State.modPln_pln]
    exact hf _
  · rw [State.modPln_pln_ne s hq]

theorem modNi (s : State) (pl : Pl) (p : Nat) (f : Ni → Ni) : s.Traffic (s.modNi pl p f) := modPln s pl _ fun _ => rfl
theorem modSb (s : State) (pl : Pl) (f : Sb → Sb) : s.Traffic (s.modSb pl f) := modPln s pl _ fun _ => rfl
theorem modMul (s : State) (pl : Pl) (e : Nat) (f : Mule → Mule) : s.Traffic (s.modMul pl e f) := modPln s pl _ fun _ => rfl

theorem modRouter (s : State) (pl : Pl) (quire : Bool) (i : Nat) (f : Router → Router) : s.Traffic (s.modRouter pl quire i f) := by
  cases quire
  · exact modPln s pl _ fun _ => rfl
  · exact modPln s pl _ fun _ => rfl

theorem giveCredit (s : State) (pl : Pl) (o : OutPort) (vc n : Nat) : s.Traffic (s.giveCredit pl o vc n) := by
  cases o with
  | niLink p => exact modNi s pl p _
  | folio g o => exact modRouter s pl false g _
  | quire q o => exact modRouter s pl true q _
  | service q => exact modSb s pl (fun x => { x with txCred := x.txCred.upd (q * 8 + vc) 0 (· + n) })
  | mule e => exact modMul s pl e _

theorem sbReply (s : State) (pl : Pl) (dest vc tag status : Nat) (data : Option Line) :
    s.Traffic (s.sbReply pl dest vc tag status data) := by
  unfold State.sbReply State.sbSend
  exact modSb s pl _

theorem popSb {s u : State} {pl : Pl} {q vc : Nat} {k : Packet} (h : s.popSb pl q vc = some (k, u)) : s.Traffic u := by
  unfold State.popSb at h
  split at h
  · obtain ⟨-, rfl⟩ := Prod.mk.inj (Option.some.inj h)
    exact (modSb s pl _).trans (giveCredit _ pl _ _ _)
  · cases h

theorem answerPlane (s : State) (r : CwReq) (status : Nat) (data : Option Line) (pl : Pl) :
    s.Traffic (State.answerPlane r status data pl s) := by
  unfold State.answerPlane
  dsimp only
  split
  · split
    · next hpop => exact (popSb hpop).trans (sbReply _ pl _ _ _ _ _)
    · exact refl s
  · exact refl s

theorem foldl {α : Type} (l : List α) (f : State → α → State) (s : State) (hf : ∀ t a, State.Traffic t (f t a)) :
    s.Traffic (l.foldl f s) := by
  induction l generalizing s with
  | nil => exact refl s
  | cons a l ih => exact (hf s a).trans (ih _)

theorem answer (s : State) (r : CwReq) (status : Nat) (data : Option Line) : s.Traffic (s.answer r status data) := by
  have hanswers : s.Traffic ({ s with answers := s.answers ++ [{ src := r.src, tag := r.tag, status := status, data := data.getD 0 }] } : State) :=
    ⟨rfl, fun pl => by cases pl <;> rfl⟩
  exact hanswers.trans (foldl _ _ _ fun t pl => answerPlane t r status data pl)

theorem rf (h : s.Traffic t) : t.rf = s.rf := by rw [h.same]
theorem ports (h : s.Traffic t) : t.ports = s.ports := by rw [h.same]
theorem pw (h : s.Traffic t) : t.pw = s.pw := by rw [h.same]

end State.Traffic

theorem State.answerPlane_answers (s : State) (r : CwReq) (status : Nat) (data : Option Line) (pl : Pl) :
    (State.answerPlane r status data pl s).answers = s.answers := by
  unfold State.answerPlane State.popSb
  dsimp only
  split
  · split
    · next hpop =>
      split at hpop
      · obtain ⟨-, rfl⟩ := Prod.mk.inj (Option.some.inj hpop)
        simp [State.sbReply, State.sbSend, State.giveCredit, outToSb, State.modCredit, State.modRouter]
      · cases hpop
    · rfl
  · rfl

/-- One answer is put on record. -/
theorem State.answer_answers (s : State) (r : CwReq) (status : Nat) (data : Option Line) : (s.answer r status data).answers =
    s.answers ++ [{ src := r.src, tag := r.tag, status := status, data := data.getD 0 }] :=
  State.eachPlane_same _ _ (fun t => t.answers) (fun pl t => t.answerPlane_answers r status data pl)

/-! The status of an access, row by row. -/

/-- The status of an access but for poison (R11, R13, R286, R303, R328, R345). -/
def State.rightStatus (s : State) (r : CwReq) (off : Nat) (write : Bool) : Nat :=
  if s.minimal then
    (if r.priv ≠ 3 ∨ r.src ≠ s.boot.bootPort then stProt else if minimalOff off then stOk else stDecode)
  else if r.priv ≠ 3 ∧ (write ∨ !s.sliceRead s.lead off kRead r.owner r.priv) then stProt
  else if r.priv = 3 ∧ !s.mOk s.lead r.src then stProt
  else if !inBlock s.variant off then stDecode
  else match quireOfOff off with
    | some q => if s.quireUp q then stOk else stDecode
    | none => stOk

theorem State.accessStatus_eq (s : State) (r : CwReq) (off : Nat) (write : Bool) :
    s.accessStatus r off write = stFirst (s.rightStatus r off write) (if s.cwPoison r then stPoison else stOk) := rfl

theorem stFirst_prot (c : Bool) : stFirst stProt (if c then stPoison else stOk) = stProt := by cases c <;> rfl

theorem stFirst_decode (c : Bool) : stFirst stDecode (if c then stPoison else stOk) = stDecode := by cases c <;> rfl

/-- A poisoned access ranks before OK. -/
theorem stFirst_poison_ne_ok (x : Nat) : stFirst x stPoison ≠ stOk := by
  intro h
  have hle := (stRank_stFirst_le x stPoison).2
  rw [h] at hle
  exact absurd hle (by decide)

/-- Settles O47: the refusing branches of an access, and `State.Traffic` of its answer. -/
theorem refusedAccessesChangeNothing : Obligations.RefusedAccessesChangeNothing := by
  unfold Obligations.RefusedAccessesChangeNothing
  intro s r off ht
  refine ⟨fun b h => congrArg _ (State.cwBeat_refused ht h), fun ben haper h => ?_, fun ben write => rfl, fun st d => ?_, fun hmin hpriv => ?_,
    fun hmin hpriv hm w => ?_, fun hmin hpriv hm hblock w => ?_, fun hpoison w => ?_⟩
  · show execReadClear r off ben s = _
    unfold execReadClear
    rw [haper, if_neg Bool.false_ne_true, State.cwRead_refused ht h]
  · have h := State.Traffic.answer s r st d
    exact ⟨s.answer_answers r st d, h.rf, h.ports, h.pw, fun pl => by rw [h.planes pl]; exact ⟨rfl, rfl⟩⟩
  · rw [State.accessStatus_eq, State.rightStatus, hmin, if_neg Bool.false_ne_true, if_pos ⟨hpriv, .inl rfl⟩, stFirst_prot]
  · rw [State.accessStatus_eq, State.rightStatus, hmin, if_neg Bool.false_ne_true, if_neg (fun h => h.1 hpriv), hm, if_pos ⟨hpriv, rfl⟩,
      stFirst_prot]
  · rw [State.accessStatus_eq, State.rightStatus, hmin, if_neg Bool.false_ne_true, if_neg (fun h => h.1 hpriv), hm,
      if_neg (fun h => Bool.false_ne_true h.2), hblock, if_pos Bool.not_false, stFirst_decode]
  · rw [State.accessStatus_eq, hpoison, if_pos rfl]
    exact stFirst_poison_ne_ok _

end Sys2Proof.Machine

namespace Sys2Proof.Machine

/-! ### Writes of registers (R10, R12, R189, R326) -/

section

variable (s : State) (pl : Pl) (b : Nat)

/-- A staged bound goes to its register. -/
def State.commitWord (t : State) (pl : Pl) (b o : Nat) : State :=
  match (t.pln pl).stage.find (b + o) with | some w => t.pset pl (b + o) w | none => t

theorem State.stage_commitWord (o : Nat) : ((s.commitWord pl b o).pln pl).stage = (s.pln pl).stage := by
  unfold State.commitWord
  split
  · rw [State.pset, State.modPln_pln]
    rfl
  · rfl

theorem State.p_commitWord_ne {o q : Nat} (h : q ≠ o) : (s.commitWord pl b o).p pl (b + q) = s.p pl (b + q) := by
  unfold State.commitWord
  split
  · exact s.p_pset_ne pl (by omega) _
  · rfl

theorem State.p_foldl_commitWord_of_notMem (l : List Nat) {q : Nat} (hq : q ∉ l) :
    (l.foldl (fun t o => t.commitWord pl b o) s).p pl (b + q) = s.p pl (b + q) := by
  induction l generalizing s with
  | nil => rfl
  | cons o l ih =>
    obtain ⟨hne, hl⟩ := not_or.1 (mt List.mem_cons.2 hq)
    exact (ih (s.commitWord pl b o) hl).trans (s.p_commitWord_ne pl b hne)

theorem State.p_foldl_commitWord (l : List Nat) (hl : l.Nodup) {q : Nat} (hq : q ∈ l) {w : W32} (h : (s.pln pl).stage.find (b + q) = some w) :
    (l.foldl (fun t o => t.commitWord pl b o) s).p pl (b + q) = w := by
  induction l generalizing s with
  | nil => cases hq
  | cons o l ih =>
    obtain ⟨ho, hl⟩ := List.nodup_cons.1 hl
    rcases List.mem_cons.1 hq with rfl | hq
    · rw [List.foldl_cons, State.p_foldl_commitWord_of_notMem _ _ _ _ ho, State.commitWord, h]
      exact s.p_pset pl (b + q) w
    · exact ih _ hl hq (by rw [State.stage_commitWord]; exact h)

theorem State.commitRegion_eq (attr : W32) : s.commitRegion b attr pl =
    ([0, 4, 8, 12].foldl (fun t o => t.commitWord pl b o) s).pset pl (b + 16) (attr &&& 0x3F1F) := rfl

end

theorem State.ctr_setCounter (s : State) (idx : Nat) (lo : W32) (pl : Pl) {w : W32}
    (h : (s.pln pl).stage.find (ctrBase idx + 8) = some w) : (((s.setCounter idx lo pl).pln pl).ctr.rd idx 0).toNat =
      (lo.toNat + w.toNat % 2 ^ 16 * 2 ^ 32 + s.ctrNow pl idx) % 2 ^ 48 := by
  rw [State.setCounter, State.modPln_pln]
  dsimp only
  rw [Tab.rd_wr_same, State.counterValue, h, Option.getD_some, BitVec.toNat_add, BitVec.toNat_ofNat, BitVec.toNat_ofNat]
  exact (Nat.add_mod _ _ _).symm

/-- A written word, bit by bit, of a register without value ranges. -/
theorem RegRow.getLsbD_written (x : RegRow) (w v set : W32) {i : Nat} (hx : x.ranges = []) (hi : i < 32) :
    (x.written w v set).getLsbD i =
      ((if x.rw.testBit i then v.getLsbD i else w.getLsbD i) && !(x.w1c.testBit i && v.getLsbD i && !set.getLsbD i)) := by
  unfold RegRow.written
  rw [hx]
  dsimp only [List.foldl_nil]
  simp only [BitVec.getLsbD_and, BitVec.getLsbD_or, BitVec.getLsbD_not, BitVec.getLsbD_ofNat, decide_eq_true hi, Bool.true_and]
  cases x.rw.testBit i <;> cases x.w1c.testBit i <;> cases v.getLsbD i <;> cases set.getLsbD i <;> simp

/-- Settles O45: the allowed branch of each write, and the words' effects. -/
theorem registerWrites : Obligations.RegisterWrites := by
  unfold Obligations.RegisterWrites
  intro s r
  refine ⟨fun off b ht h => congrArg _ (State.cwBeat_allowed ht h), fun off v h => State.cwWrite_allowed h (fun t => t.writeWord (off / 4 * 4) v),
    fun blk region attr h => State.cwWrite_allowed h (fun t => t.eachPlane (fun pl t => t.commitRegion (regionOff blk region) attr pl)),
    fun idx lo h => State.cwWrite_allowed h (fun t => t.eachPlane (fun pl t => t.setCounter (idx % 1000) lo pl)),
    fun pl idx lo w h => s.ctr_setCounter idx lo pl h, fun pl base attr => ⟨?_, fun o ho w h => ?_⟩,
    fun x w v set i hx hi => x.getLsbD_written w v set hx hi⟩
  · rw [State.commitRegion_eq, State.p_pset]
  · have hne : base + o ≠ base + 16 := by
      simp only [List.mem_cons, List.not_mem_nil, or_false] at ho
      omega
    rw [State.commitRegion_eq, State.p_pset_ne _ _ hne]
    exact s.p_foldl_commitWord pl base _ (by decide) ho h

end Sys2Proof.Machine

namespace Sys2Proof.Machine

/-! ### The registers of the counters (R322, R338) -/

theorem ctrOf_ctrBase {idx d : Nat} (hi : idx < 1000) (hd : d < 0x20) : ctrOf (ctrBase idx + d) = some (idx, d) := by
  unfold ctrBase
  split
  · unfold ctrOf bNi
    rw [if_pos (by omega)]
    dsimp only
    rw [if_pos (by omega), Option.some.injEq, Prod.mk.injEq]
    omega
  split
  · unfold ctrOf bFrt
    rw [if_neg (by omega), if_pos (by omega)]
    dsimp only
    rw [if_pos (by omega), Option.some.injEq, Prod.mk.injEq]
    omega
  split
  · unfold ctrOf bQrt
    rw [if_neg (by omega), if_neg (by omega), if_pos (by omega)]
    dsimp only
    rw [if_pos (by omega), Option.some.injEq, Prod.mk.injEq]
    omega
  split
  · unfold ctrOf bMul
    rw [if_neg (by omega), if_neg (by omega), if_neg (by omega), if_pos (by omega)]
    dsimp only
    rw [if_pos (by omega), Option.some.injEq, Prod.mk.injEq]
    omega
  split
  · unfold ctrOf
    rw [if_neg (by omega), if_neg (by omega), if_neg (by omega), if_neg (by omega), if_pos (by omega)]
    dsimp only
    rw [if_pos (by omega), Option.some.injEq, Prod.mk.injEq]
    omega
  split
  · unfold ctrOf
    rw [if_neg (by omega), if_neg (by omega), if_neg (by omega), if_neg (by omega), if_neg (by omega), if_pos (by omega)]
    dsimp only
    rw [if_pos (by omega), Option.some.injEq, Prod.mk.injEq]
    omega
  split
  · unfold ctrOf
    rw [if_neg (by omega), if_neg (by omega), if_neg (by omega), if_neg (by omega), if_neg (by omega), if_neg (by omega),
      if_pos (by omega)]
    dsimp only
    rw [if_pos (by omega), Option.some.injEq, Prod.mk.injEq]
    omega
  · unfold ctrOf
    rw [if_neg (by omega), if_neg (by omega), if_neg (by omega), if_neg (by omega), if_neg (by omega), if_neg (by omega),
      if_neg (by omega), if_pos (by omega)]
    dsimp only
    rw [if_pos (by omega), Option.some.injEq, Prod.mk.injEq]
    omega

/-- The counters' registers lie in blocks of the planes. -/
theorem planeBlock_ctrBase {idx d : Nat} (hi : idx < 1000) (hd : d < 0x20) : planeBlock (ctrBase idx + d) = true := by
  have hplace : 0x80000 ≤ ctrBase idx ∨ 0x20400 ≤ ctrBase idx ∧ ctrBase idx < 0x34300 ∨ 0x1300 ≤ ctrBase idx ∧ ctrBase idx < 0x13E1 := by
    unfold ctrBase bNi bFrt bQrt bMul
    repeat' split
    all_goals omega
  unfold planeBlock
  rcases hplace with h | h | h
  · rw [decide_eq_true (p := 0x80000 ≤ _) (by omega), Bool.or_true, Bool.true_or]
  · rw [decide_eq_true (p := 0x20000 ≤ _ ∧ _) (by omega), Bool.true_or, Bool.true_or]
  · rw [decide_eq_true (p := 0x1300 ≤ _ ∧ _) (by omega), Bool.or_true]

/-- Where the copies of a row stand. -/
theorem RegRow.exists_of_has {r : RegRow} {off : Nat} (h : r.has off = true) :
    ∃ i j, i < r.n1 ∧ j < r.n2 ∧ off = r.base + i * r.s1 + j * r.s2 := by
  obtain ⟨-, hi, hj, he⟩ := of_decide_eq_true h
  exact ⟨_, _, hi, hj, he.symm⟩

/-- Base, repetitions and strides of the rows that have RC fields (R10). -/
def rcPlaces : List (Nat × Nat × Nat × Nat × Nat) :=
  [(0x1094, 1, 4, 1, 4), (0x920C, 1, 4, 1, 4), (0x9214, 1, 4, 1, 4), (0x10014, 1, 4, 1, 4), (0x10018, 1, 4, 1, 4),
    (0x40040, 5, 4, 1, 4), (0x40058, 2, 4, 1, 4), (0x4006C, 1, 4, 1, 4), (0x20200, 3, 4, 1, 4), (0x20210, 3, 4, 1, 4),
    (0x3000C, 1024, 0x10, 1, 4), (0x34018, 2, 4, 1, 4), (0x80014, 4, 0x4000, 4, 4), (0xA000C, 16, 0x1000, 3, 4),
    (0x100008, 96, 0x2000, 2, 4), (0x100500, 96, 0x2000, 2, 4), (0x100604, 96, 0x2000, 3, 4), (0x10070C, 96, 0x2000, 1, 4),
    (0x200058, 8, 0x4000, 32, 0x100), (0x20200C, 8, 0x4000, 2, 4), (0x400038, 16384, 0x40, 1, 4), (0x800008, 1, 4, 1, 4),
    (0x800128, 8, 0x40, 1, 4)]

theorem rcPlaces_eq : (regRows.filter (fun r => decide (r.rc ≠ 0))).map (fun r => (r.base, r.n1, r.s1, r.n2, r.s2)) = rcPlaces := by
  decide +kernel

/-- Where the counters' registers stand (R322, R338). -/
theorem place_of_ctrOf {off : Nat} {x : Nat × Nat} (h : ctrOf off = some x) :
    (0x1300 ≤ off ∧ off < 0x1400) ∨ (0x20400 ≤ off ∧ off < 0x20600) ∨ (0x34100 ≤ off ∧ off < 0x34300)
    ∨ (0x80000 ≤ off ∧ off < 0x90000 ∧ 0x100 ≤ off % 0x4000 ∧ off % 0x4000 < 0x200)
    ∨ (0xA0000 ≤ off ∧ off < 0xB0000 ∧ 0x100 ≤ off % 0x1000 ∧ off % 0x1000 < 0x200)
    ∨ (0x100000 ≤ off ∧ off < 0x1C0000 ∧ 0x800 ≤ off % 0x2000 ∧ off % 0x2000 < 0x900)
    ∨ (0x200000 ≤ off ∧ off < 0x220000 ∧ 0x2100 ≤ off % 0x4000 ∧ off % 0x4000 < 0x2180) := by
  unfold ctrOf bNi bFrt bQrt bMul at h
  dsimp only at h
  repeat' split at h
  any_goals omega
  all_goals cases h

/-- None of these places is a counter's register. -/
theorem ctrOf_rcPlaces : ∀ x ∈ rcPlaces, ∀ i j, i < x.2.1 → j < x.2.2.2.1 → ctrOf (x.1 + i * x.2.2.1 + j * x.2.2.2.2) = none := by
  unfold rcPlaces
  simp only [List.forall_mem_cons, List.not_mem_nil, false_implies, implies_true, and_true]
  and_intros
  all_goals
    intro i j hi hj
    refine Option.eq_none_iff_forall_ne_some.2 fun x hx => ?_
    have hplace := place_of_ctrOf hx
    omega

/-- A counter's register has no RC field. -/
theorem rc_of_ctrOf {r : RegRow} {off : Nat} {x : Nat × Nat} (hr : rowOf off = some r) (hx : ctrOf off = some x) : r.rc = 0 := by
  have hfind : regRows.find? (fun r => r.has off) = some r := hr
  refine Decidable.byContradiction fun hrc => ?_
  have hmem : (r.base, r.n1, r.s1, r.n2, r.s2) ∈ rcPlaces := by
    rw [← rcPlaces_eq]
    exact List.mem_map_of_mem (List.mem_filter.2 ⟨List.mem_of_find?_eq_some hfind, decide_eq_true hrc⟩)
  have hhas : r.has off = true := List.find?_some (p := fun r : RegRow => r.has off) hfind
  obtain ⟨i, j, hi, hj, rfl⟩ := RegRow.exists_of_has hhas
  exact Option.some_ne_none x (hx.symm.trans (ctrOf_rcPlaces _ hmem i j hi hj))

/-- A copy of a row's register that stands in its place. -/
theorem RegRow.has_of_place {r : RegRow} {i j : Nat} (hi : i < r.n1) (hj : j < r.n2) (h1 : r.n1 = 1 ∨ j * r.s2 < r.s1) (h2 : 0 < r.s2) :
    r.has (r.base + i * r.s1 + j * r.s2) = true := by
  have hd : r.base + i * r.s1 + j * r.s2 - r.base = j * r.s2 + i * r.s1 := by omega
  have hblock : (if r.n1 = 1 then 0 else (j * r.s2 + i * r.s1) / r.s1) = i := by
    split
    · omega
    · have hlt : j * r.s2 < r.s1 := h1.resolve_left ‹_›
      rw [Nat.add_mul_div_right _ _ (by omega), Nat.div_eq_of_lt hlt, Nat.zero_add]
  have hcopy : (if r.n2 = 1 then 0 else j * r.s2 / r.s2) = j := by
    split
    · omega
    · exact Nat.mul_div_cancel j h2
  unfold RegRow.has
  rw [hd]
  dsimp only
  rw [hblock, Nat.add_sub_cancel, hcopy]
  exact decide_eq_true ⟨by omega, hi, hj, rfl⟩

/-- Base, blocks, stride of a block and counters in a block of the rows of the counters' low words (R338). -/
def ctrPlaces : List (Nat × Nat × Nat × Nat) :=
  [(0x100804, 96, 0x2000, 8), (0xA0104, 16, 0x1000, 8), (0x80104, 4, 0x4000, 8), (0x202104, 8, 0x4000, 4),
    (0x20404, 1, 4, 16), (0x34104, 1, 4, 8), (0x34204, 1, 4, 8), (0x1304, 1, 4, 8)]

theorem exists_ctrRow : ∀ x ∈ ctrPlaces, ∃ r ∈ regRows, (r.base, r.n1, r.s1, r.n2) = x ∧ r.s2 = 0x20 := by decide +kernel

theorem rowOf_ctrPlace {b n s m i j : Nat} (h : (b, n, s, m) ∈ ctrPlaces) (hi : i < n) (hj : j < m) (h1 : n = 1 ∨ j * 0x20 < s) :
    (rowOf (b + i * s + j * 0x20)).isSome = true := by
  obtain ⟨r, hr, hplace, hs2⟩ := exists_ctrRow _ h
  obtain ⟨rfl, rfl, rfl, rfl⟩ : r.base = b ∧ r.n1 = n ∧ r.s1 = s ∧ r.n2 = m := by simpa using hplace
  rw [← hs2] at h1 ⊢
  exact List.find?_isSome.2 ⟨r, hr, RegRow.has_of_place hi hj h1 (by omega)⟩

/-- The low word of a counter is a register (R338). -/
theorem rowOf_ctrBase {idx : Nat} (hi : idx < 1000) : (rowOf (ctrBase idx + 4)).isSome = true := by
  have hplace {off b n s m i j : Nat} (h : (b, n, s, m) ∈ ctrPlaces) (hi : i < n) (hj : j < m) (h1 : n = 1 ∨ j * 0x20 < s)
      (hoff : off = b + i * s + j * 0x20) : (rowOf off).isSome = true := hoff ▸ rowOf_ctrPlace h hi hj h1
  unfold ctrBase bNi bFrt bQrt bMul
  split
  · exact hplace (i := idx / 8) (j := idx % 8) (.head _) (by omega) (by omega) (by omega) (by omega)
  split
  · exact hplace (i := (idx - 768) / 8) (j := idx % 8) (.tail _ (.head _)) (by omega) (by omega) (by omega) (by omega)
  split
  · exact hplace (i := (idx - 896) / 8) (j := idx % 8) (.tail _ (.tail _ (.head _))) (by omega) (by omega) (by omega) (by omega)
  split
  · exact hplace (b := 0x202104) (n := 8) (s := 0x4000) (m := 4) (i := (idx - 928) / 4) (j := idx % 4) (by decide) (by omega)
      (by omega) (by omega) (by omega)
  split
  · exact hplace (b := 0x20404) (n := 1) (s := 4) (m := 16) (i := 0) (j := idx - 960) (by decide) (by omega) (by omega) (by omega) (by omega)
  split
  · exact hplace (b := 0x34104) (n := 1) (s := 4) (m := 8) (i := 0) (j := idx - 976) (by decide) (by omega) (by omega) (by omega) (by omega)
  split
  · exact hplace (b := 0x34204) (n := 1) (s := 4) (m := 8) (i := 0) (j := idx - 984) (by decide) (by omega) (by omega) (by omega) (by omega)
  · exact hplace (b := 0x1304) (n := 1) (s := 4) (m := 8) (i := 0) (j := idx - 992) (by decide) (by omega) (by omega) (by omega) (by omega)

/-! ### Reads of registers (R10, R12, R121, R326) -/

section

variable (s : State) (pl : Pl) (off : Nat)

/-- A register without an RC field reads as it stands. -/
theorem State.rcIncs_of_rc {r : RegRow} (h : rowOf off = some r) (hrc : r.rc = 0) : s.rcIncs pl off = [] := by
  unfold State.rcIncs
  rw [h]
  refine List.filter_eq_nil_iff.2 fun x _ => ?_
  rw [hrc, Nat.zero_div, Nat.zero_mod]
  decide

theorem State.readValue_of_rcIncs (h : s.rcIncs pl off = []) : s.readValue pl off = s.regWord pl off := by
  unfold State.readValue
  rw [h]
  rfl

theorem State.readWord_slotLo : s.readWord pl 0x1F00 = (s.readValue pl 0x1F00, s.gset rSlotHi (BitVec.ofNat 32 (s.now / 2 ^ 32))) := rfl

theorem State.readWord_of_row {off : Nat} (h1 : off ≠ 0x2008) (h2 : off ≠ 0x1F00) (hc : ctrOf off = none) :
    s.readWord pl off = (s.readValue pl off, s.clearRc pl off) := by
  unfold State.readWord
  rw [if_neg h1]
  dsimp only
  rw [if_neg h2, hc]

theorem State.readWord_ctr {idx : Nat} (hi : idx < 1000) : s.readWord pl (ctrBase idx + 4) = (s.readValue pl (ctrBase idx + 4),
    s.modPln pl (fun x => { x with ctrHi := x.ctrHi.wr idx (BitVec.ofNat 32 ((x.ctr.rd idx 0).toNat / 2 ^ 32)) 0 })) := by
  have hplane := planeBlock_ctrBase hi (show 4 < 0x20 by omega)
  have h1 : ctrBase idx + 4 ≠ 0x2008 := fun e => by rw [e] at hplane; exact absurd hplane (by decide)
  have h2 : ctrBase idx + 4 ≠ 0x1F00 := fun e => by rw [e] at hplane; exact absurd hplane (by decide)
  unfold State.readWord
  rw [if_neg h1]
  dsimp only
  rw [if_neg h2, ctrOf_ctrBase hi (by omega)]
  rfl

/-- VAL_LO shows the counter's low word. -/
theorem State.regWord_ctr {idx : Nat} (hi : idx < 1000) :
    s.regWord pl (ctrBase idx + 4) = ((s.pln pl).ctr.rd idx 0).toNat % 2 ^ 32 := by
  rw [State.regWord, if_pos (.inr (.inr (rowOf_ctrBase hi))), planeBlock_ctrBase hi (by omega), if_pos rfl, State.planeWord,
    ctrOf_ctrBase hi (by omega)]
  rfl

theorem State.readWord_ctr_fields {idx : Nat} (hi : idx < 1000) : (s.readWord pl (ctrBase idx + 4)).1 = ((s.pln pl).ctr.rd idx 0).toNat % 2 ^ 32 ∧
    (((s.readWord pl (ctrBase idx + 4)).2.pln pl).ctrHi.rd idx 0).toNat = ((s.pln pl).ctr.rd idx 0).toNat / 2 ^ 32 := by
  obtain ⟨r, hr⟩ := Option.isSome_iff_exists.1 (rowOf_ctrBase hi)
  have hincs := s.rcIncs_of_rc pl _ hr (rc_of_ctrOf hr (ctrOf_ctrBase hi (by omega)))
  have hctr := ((s.pln pl).ctr.rd idx 0).isLt
  rw [s.readWord_ctr pl hi]
  refine ⟨(s.readValue_of_rcIncs pl _ hincs).trans (s.regWord_ctr pl hi), ?_⟩
  dsimp only
  rw [State.modPln_pln]
  dsimp only
  rw [Tab.rd_wr_same, BitVec.toNat_ofNat]
  exact Nat.mod_eq_of_lt (by omega)

/-- The word of an access in its block. -/
def State.rcWord (s : State) (pl : Pl) (off : Nat) : W32 := if planeBlock off then s.p pl off else s.g off

theorem State.clearRc_word {r : RegRow} (h : rowOf off = some r) (hrc : r.rc = 0 → s.rcIncs pl off = []) :
    (s.clearRc pl off).rcWord pl off = rcCleared (s.rcWord pl off) (BitVec.ofNat 32 r.rc) (s.rcIncs pl off) := by
  unfold State.clearRc
  rw [h]
  dsimp only
  by_cases h0 : r.rc = 0
  · rw [if_pos h0, hrc h0, h0]
    exact BitVec.and_allOnes.symm
  · rw [if_neg h0]
    cases hb : planeBlock off with
    | true => simp only [if_pos, State.rcWord, hb, State.p_pset]
    | false => simp only [Bool.false_eq_true, if_false, State.rcWord, hb, State.g_gset]

end

/-! ### The slot counter's low word (R121) -/

theorem exists_slotLoRow : ∃ r, rowOf 0x1F00 = some r ∧ r.rc = 0 := by
  have hrc : (rowOf 0x1F00).map RegRow.rc = some 0 := by decide +kernel
  obtain ⟨r, hr, hrc⟩ := Option.map_eq_some_iff.1 hrc
  exact ⟨r, hr, hrc⟩

theorem State.touch_slotLo (s : State) : s.touch 0x1F00 = s := rfl

theorem State.readValue_slotLo (s : State) (pl : Pl) : s.readValue pl 0x1F00 = s.now % 2 ^ 32 := by
  obtain ⟨r, hr, hrc⟩ := exists_slotLoRow
  rw [s.readValue_of_rcIncs pl _ (s.rcIncs_of_rc pl _ hr hrc), State.regWord,
    if_pos (.inr (.inr (Option.isSome_iff_exists.2 ⟨r, hr⟩)))]
  rfl

theorem wordsOf_first : wordsOf (benRange 0 4) = [0] := by decide +kernel

theorem State.readLine_slotLo (s : State) (pl : Pl) : s.readLine pl 0x1F00 (benRange 0 4) =
    (mergeLine s.freshLine.1 (lineOf [(0, BitVec.ofNat 32 (s.now % 2 ^ 32))]) (benRange 0 4),
      s.freshLine.2.gset rSlotHi (BitVec.ofNat 32 (s.now / 2 ^ 32))) := by
  unfold State.readLine
  dsimp only
  rw [wordsOf_first]
  simp only [List.foldl_cons, List.foldl_nil]
  rw [State.readWord_slotLo, State.readValue_slotLo]
  rfl

theorem fld_lineOf_first (v : Nat) : fld (lineOf [(0, BitVec.ofNat 32 (v % 2 ^ 32))]) 0 32 = v % 2 ^ 32 := by
  simp only [lineOf, List.foldl_cons, List.foldl_nil, fld, BitVec.toNat_ofNat]
  omega

/-! ### Fields that a read clears (R10, R12) -/

/-- A field that hardware counts up in the fc of the read that clears it holds what was counted (R12). -/
theorem fld_rcCleared (w rc : W32) {lo len : Nat} (v n : Nat) (h : lo + len ≤ 32) :
    fld (rcCleared w rc [(lo, len, v, n)]) lo len = min n (2 ^ len - 1) := by
  rw [rcCleared, List.foldl_cons, List.foldl_nil, fld_setFld _ _ h, satAdd_mod, Nat.zero_add]

/-- Settles O46: the words of a read, their RC fields and their latches. -/
theorem registerReads : Obligations.RegisterReads := by
  intro s r
  refine ⟨fun off ben haper h => ?_, fun off ben hlo hhi h => ?_, fun idx => ?_, fun h => ?_,
    fun pl idx hi => s.readWord_ctr_fields pl hi, fun pl off x hx hc h1 h2 => ?_⟩
  · refine ⟨_, _, (Prod.eta _).symm, ?_⟩
    show execReadClear r off ben s = _
    unfold execReadClear
    rw [haper, if_neg Bool.false_ne_true, s.cwRead_allowed h]
  · refine ⟨_, _, (Prod.eta _).symm, ?_⟩
    show execOwnerMirrorRead r off ben s = _
    unfold execOwnerMirrorRead
    rw [if_pos ⟨hlo, hhi⟩, s.cwRead_allowed h]
  · intro o h
    refine ⟨_, _, (Prod.eta _).symm, ?_⟩
    show execCtrValLoRead r idx s = _
    unfold execCtrValLoRead
    dsimp only
    rw [s.cwRead_allowed h]
  · refine ⟨_, _, (Prod.eta _).symm, ?_, ?_, ?_⟩
    · show execSlotLoRead r s = _
      unfold execSlotLoRead
      rw [s.cwRead_allowed h, State.touch_slotLo]
    · rw [State.readLine_slotLo]
      exact (fld_mergeLine_low _ _ (by decide) (by decide +kernel)).trans (fld_lineOf_first s.now)
    · rw [State.readLine_slotLo, State.g_gset]
  · have hclear : (s.rcIncs pl off = [] ∨ x.rc ≠ 0) → (s.clearRc pl off).rcWord pl off =
        rcCleared (s.rcWord pl off) (BitVec.ofNat 32 x.rc) (s.rcIncs pl off) :=
      fun h => s.clearRc_word pl off hx fun h0 => h.resolve_right (fun hne => hne h0)
    rw [s.readWord_of_row pl h1 h2 hc]
    refine ⟨fun hincs hb => ?_, fun hincs hb => ?_, fun lo len v n hincs hlen => ⟨?_, ?_⟩⟩
    · have hword := hclear (.inl hincs)
      rw [hincs] at hword
      simpa only [State.rcWord, hb, if_true, rcCleared, List.foldl_nil] using hword
    · have hword := hclear (.inl hincs)
      rw [hincs] at hword
      simpa only [State.rcWord, hb, Bool.false_eq_true, if_false, rcCleared, List.foldl_nil] using hword
    · dsimp only
      rw [State.readValue, hincs, List.foldl_cons, List.foldl_nil]
    · have hrc : x.rc ≠ 0 := fun h0 => List.cons_ne_nil _ _ (hincs.symm.trans (s.rcIncs_of_rc pl off hx h0))
      have hword := hclear (.inr hrc)
      rw [hincs] at hword
      have hfld := (congrArg (fun w => fld w lo len) hword).trans (fld_rcCleared _ _ v n hlen)
      cases hb : planeBlock off with
      | true =>
        simp only [State.rcWord, hb, if_true] at hfld
        rw [if_pos rfl]
        exact hfld
      | false =>
        simp only [State.rcWord, hb, Bool.false_eq_true, if_false] at hfld
        rw [if_neg Bool.false_ne_true]
        exact hfld

end Sys2Proof.Machine

namespace Sys2Proof.Machine

/-! ### The keys (R196 to R198) -/

theorem State.gf_countKey (s : State) : s.countKey.gf rKeyStatus 16 16 = satAdd 16 (s.gf rKeyStatus 16 16) 1 :=
  s.gf_ginc rKeyStatus 1 (by decide)

/-- KEY_STATUS once every key is loaded (R197). -/
def State.noteKeys (s : State) : State := if s.allKeys then s.gfset rKeyStatus 0 1 1 else s

theorem State.keys_noteKeys (s : State) : s.noteKeys.keys = s.keys := by
  unfold State.noteKeys
  split <;> rfl

theorem State.gf_noteKeys (s : State) : s.noteKeys.gf rKeyStatus 16 16 = s.gf rKeyStatus 16 16 := by
  unfold State.noteKeys
  split
  · exact s.gf_gfset_of_disjoint rKeyStatus _ (.inr (by decide))
  · rfl

theorem execKeyDerivationDone_reset {s : State} {k : Nat} (hk : k ≤ 16) (h3 : s.oreset.step = 3) (ho : s.oreset.owner = k)
    (hr : s.oreset.ready = false) : execKeyDerivationDone k s = .next { s.countKey with
      keys := { s.keys with next := some (k, s.newKey k) }, oreset := { s.oreset with ready := true } } := by
  unfold execKeyDerivationDone
  rw [if_neg (by omega), if_pos ⟨h3, ho, by rw [hr]; rfl⟩]

theorem execKeyDerivationDone_startup {s : State} {k : Nat} (hk : k ≤ 16) (h0 : s.oreset.step = 0) (h6 : s.phase = 6)
    (he : s.keys.epochs.rd k 0 = 0) (ht : s.test.mode = false) :
    execKeyDerivationDone k s = .next (s.countKey.loadKey k (s.newKey k)).noteKeys := by
  unfold execKeyDerivationDone
  rw [if_neg (by omega), if_neg (fun h => absurd (h0.symm.trans h.1) (by decide)), if_pos ⟨.inl h6, he, by rw [ht]; rfl⟩]
  rfl

/-- Settles O33: a derivation of an owner reset keeps its key for the switch, one of start-up loads it. -/
theorem keysDerived : Obligations.KeysDerived := by
  intro s k hk
  refine ⟨fun h3 ho hr => ⟨_, execKeyDerivationDone_reset hk h3 ho hr, rfl, rfl, rfl, s.gf_countKey⟩,
    fun h0 h6 he ht => ⟨_, execKeyDerivationDone_startup hk h0 h6 he ht, ?_, fun j hj => ?_, ?_⟩⟩
  · rw [State.keys_noteKeys]
    exact Tab.rd_wr_same _ _ _ _
  · rw [State.keys_noteKeys]
    exact Tab.rd_wr_ne _ _ _ _ hj
  · rw [State.gf_noteKeys]
    exact s.gf_countKey

end Sys2Proof.Machine

namespace Sys2Proof.Machine

/-! ### Safe outputs (R251, R252) -/

/-- The causes after a group has gone safe (R251). -/
theorem fld_or_causes (w : W32) (m : BitVec 4) :
    BitVec.ofNat 4 (fld (w ||| BitVec.ofNat 32 (m.toNat * 256)) 8 4) = BitVec.ofNat 4 (fld w 8 4) ||| m := by
  have hm : ∀ i, i < 4 → (BitVec.ofNat 32 (m.toNat * 256)).getLsbD (8 + i) = m.getLsbD i := by
    intro i hi
    rw [show 256 = 2 ^ 8 from rfl, BitVec.getLsbD_ofNat, decide_eq_true (by omega), Bool.true_and, Nat.testBit_mul_two_pow, decide_eq_true (by omega),
      Bool.true_and, Nat.add_sub_cancel_left, BitVec.testBit_toNat]
  refine BitVec.eq_of_getLsbD_eq fun i hi => ?_
  rw [BitVec.getLsbD_or, BitVec.getLsbD_ofNat, BitVec.getLsbD_ofNat, decide_eq_true hi, testBit_fld, testBit_fld, decide_eq_true hi, bit,
    BitVec.getLsbD_or, hm i hi]
  simp only [Bool.true_and, bit]

theorem execSafeOutAssert_due {s : State} (h0 : s.fcInSlot = 0) (hp : s.pads.safePend ≠ 0) :
    execSafeOutAssert s = .next { (s.gor rSafeState (BitVec.ofNat 32 (s.pads.safePend.toNat * 256))) with
      pads := { s.pads with
        safe := s.pads.safe &&& ~~~s.pads.safePend, releasePend := s.pads.releasePend &&& ~~~s.pads.safePend, safePend := 0 } } := by
  unfold execSafeOutAssert
  rw [if_pos ⟨h0, hp⟩]

/-! ### Pads (R307 to R310) -/

section

variable (s : State)

theorem State.mp_modMp_same (m : Nat) (f : MpPad → MpPad) : (s.modMp m f).mp m = f (s.mp m) := Tab.rd_upd_same _ _ _ _

theorem State.mp_modMp_ne {m n : Nat} (h : n ≠ m) (f : MpPad → MpPad) : (s.modMp m f).mp n = s.mp n := Tab.rd_upd_ne _ _ _ _ h

theorem State.mp_modMp_both (f : Nat → MpPad → MpPad) {m : Nat} (hm : m < 2) :
    ((s.modMp 0 (f 0)).modMp 1 (f 1)).mp m = f m (s.mp m) := by
  obtain rfl | rfl : m = 0 ∨ m = 1 := by omega
  · rw [State.mp_modMp_ne _ (by decide), State.mp_modMp_same]
  · rw [State.mp_modMp_same, State.mp_modMp_ne _ (by decide)]

/-- A held pad shows the level that it keeps. -/
theorem State.mpOut_held {m : Nat} (h : s.pads.held = true ∨ (s.mp m).holdFrom.isSome = true) : s.mpOut m = (s.mp m).latched := by
  unfold State.mpOut
  exact if_pos (Bool.or_eq_true_iff.2 h)

/-- The level of a pad depends on its function in force and on what drives it. -/
theorem State.mpOut_congr {t : State} {m : Nat} (hh : t.pads.held = s.pads.held) (hf : (t.mp m).holdFrom = (s.mp m).holdFrom)
    (hl : (t.mp m).latched = (s.mp m).latched) (ha : (t.mp m).active = (s.mp m).active) (hg : t.g rMpOut = s.g rMpOut)
    (hs : t.pads.snapOut = s.pads.snapOut) : t.mpOut m = s.mpOut m := by
  unfold State.mpOut
  dsimp only
  rw [hh, hf, hl, ha, hg, hs]

theorem State.switchPad_new {m fn : Nat} (hfn : fn < 5) (hne : s.mpFn m ≠ fn) (hheld : s.pads.held = false) :
    s.switchPad m fn = (s.gfset rMpFn (4 * m) 3 fn).modMp m (fun x => { x with switchAt := some s.now }) := by
  unfold State.switchPad
  rw [if_neg (by omega)]
  show (if s.pads.held = true then _ else _) = _
  rw [if_neg (by rw [hheld]; exact Bool.false_ne_true)]
  rfl

/-- Pad `m` of `t` begins its hold, with the levels of `s` (R309). -/
def State.beginHold (s t : State) (m : Nat) : State :=
  match (t.mp m).switchAt with
  | some w => t.modMp m (fun x => { x with
      switchAt := none, holdFrom := some w, latched := if x.holdFrom.isSome then x.latched else s.mpOut m })
  | none => t

theorem State.beginHolds_eq : s.beginHolds = s.beginHold (s.beginHold s 0) 1 := rfl

theorem State.mp_beginHold_ne (t : State) {m n : Nat} (h : n ≠ m) : (s.beginHold t m).mp n = t.mp n := by
  unfold State.beginHold
  split
  · exact t.mp_modMp_ne h _
  · rfl

theorem State.mp_beginHold_same (t : State) {m w : Nat} (h : (t.mp m).switchAt = some w) : (s.beginHold t m).mp m =
    { t.mp m with switchAt := none, holdFrom := some w, latched := if (t.mp m).holdFrom.isSome then (t.mp m).latched else s.mpOut m } := by
  unfold State.beginHold
  rw [h]
  exact t.mp_modMp_same _ _

theorem State.mp_beginHolds {m w : Nat} (hm : m < 2) (h : (s.mp m).switchAt = some w) : s.beginHolds.mp m =
    { s.mp m with switchAt := none, holdFrom := some w, latched := if (s.mp m).holdFrom.isSome then (s.mp m).latched else s.mpOut m } := by
  obtain rfl | rfl : m = 0 ∨ m = 1 := by omega
  · rw [State.beginHolds_eq, State.mp_beginHold_ne s _ (by decide), State.mp_beginHold_same s s h]
  · have h1 : ((s.beginHold s 0).mp 1).switchAt = some w := by rw [State.mp_beginHold_ne s s (by decide), h]
    rw [State.beginHolds_eq, State.mp_beginHold_same s _ h1, State.mp_beginHold_ne s s (by decide)]

/-- A pad that begins its hold keeps the level that it has. -/
theorem State.mpOut_beginHolds {m w : Nat} (hm : m < 2) (h : (s.mp m).switchAt = some w) :
    s.beginHolds.mpOut m = s.mpOut m := by
  have hmp := s.mp_beginHolds hm h
  rw [State.mpOut_held _ (.inr (by rw [hmp]; rfl)), hmp]
  dsimp only
  split
  · exact (s.mpOut_held (.inr ‹_›)).symm
  · rfl

theorem execPadHoldEnd_over {m w : Nat} (h : (s.mp m).holdFrom = some w) (hw : w + 5 ≤ s.now) (h0 : s.fcInSlot = 0) :
    execPadHoldEnd m s = .next (s.modMp m (fun _ => { active := s.mpFn m, switchAt := none, holdFrom := none, latched := none })) := by
  unfold execPadHoldEnd
  rw [h]
  dsimp only
  rw [if_pos ⟨hw, h0⟩]

theorem State.mp_holdPads {m : Nat} (hm : m < 2) : s.holdPads.mp m =
    { s.mp m with latched := s.mpOut m, switchAt := none, holdFrom := none } :=
  s.mp_modMp_both (fun n p => { p with latched := s.mpOut n, switchAt := none, holdFrom := none }) hm

theorem State.releasePads_held (h : s.pads.held = true) : s.releasePads = { s with
    pads := { ((s.modMp 0 (fun p => { p with holdFrom := some s.now })).modMp 1 (fun p => { p with holdFrom := some s.now })).pads with
      held := false, pairOkHeld := false } } := by
  unfold State.releasePads
  rw [if_pos h]
  rfl

theorem State.mp_releasePads {m : Nat} (hm : m < 2) (h : s.pads.held = true) :
    s.releasePads.mp m = { s.mp m with holdFrom := some s.now } := by
  rw [s.releasePads_held h]
  exact s.mp_modMp_both (fun _ p => { p with holdFrom := some s.now }) hm

end

/-- Settles O36: safe outputs by their causes, pads by their holds. -/
theorem safeOutputsAndPads : Obligations.SafeOutputsAndPads := by
  refine ⟨fun s => ⟨fun h0 hp => ⟨_, execSafeOutAssert_due h0 hp, rfl, rfl, ?_⟩, fun r g h => ?_, fun g hheld htest => ?_,
      fun p c => ⟨rfl, rfl⟩, _, rfl, rfl, rfl, rfl⟩,
    fun s => ⟨fun r v h => ?_, fun r h => ?_, fun m fn hm hfn hne hheld hhold => ?_, fun m w hm h hheld => ?_, fun m w h hw h0 => ?_,
      fun m hm hheld => ⟨?_, rfl, rfl⟩, fun m hm hheld => ⟨?_, ?_, ?_⟩⟩⟩
  · exact (congrArg (fun w => BitVec.ofNat 4 (fld w 8 4)) (State.g_gset _ _ _)).trans (fld_or_causes _ _)
  · exact State.cwWrite_allowed h fun t => t.safeRelease g
  · have heq : s.safeRelease g = { s with pads := { s.pads with
        releasePend := s.pads.releasePend ||| (g &&& ~~~s.safeCause &&& ~~~s.pads.safePend) } } := by
      unfold State.safeRelease
      rw [if_neg (by rw [hheld, htest]; decide)]
    rw [heq]
    exact ⟨rfl, rfl⟩
  · exact State.cwWrite_allowed h fun t => t.writeMpFn v
  · exact State.cwWrite_allowed h State.releasePads
  · have heq := s.switchPad_new hfn hne hheld
    have hmp : (s.switchPad m fn).mp m = { s.mp m with switchAt := some s.now } := by
      rw [heq]
      exact State.mp_modMp_same _ _ _
    refine ⟨?_, by rw [hmp], ?_⟩
    · rw [heq]
      refine (s.gf_gfset rMpFn fn (by omega)).trans (Nat.mod_eq_of_lt (by omega))
    · refine s.mpOut_congr (by rw [heq]; rfl) (by rw [hmp]) (by rw [hmp]) (by rw [hmp]) ?_ (by rw [heq]; rfl)
      rw [heq]
      exact s.g_gfset_ne (by decide) _ _ _
  · exact ⟨by rw [s.mp_beginHolds hm h], s.mpOut_beginHolds hm h⟩
  · exact execPadHoldEnd_over s h hw h0
  · rw [State.mpOut_held _ (.inl rfl), s.mp_holdPads hm]
  · rw [s.releasePads_held hheld]
  · rw [s.mp_releasePads hm hheld]
  · rw [State.mpOut_held _ (.inr (by rw [s.mp_releasePads hm hheld]; rfl)), s.mp_releasePads hm hheld, s.mpOut_held (.inl hheld)]

end Sys2Proof.Machine

namespace Sys2Proof.Machine

/-! ### Device reset, REBOOT and the flash (R287, R288, R346) -/

section

variable (s : State)

theorem execDeviceReset_on (h : s.pw.dev ≠ .off) : execDeviceReset s = .next { s.afresh with
    test := s.test, boot := { s.afresh.boot with inReset := true } } := by
  unfold execDeviceReset
  rw [if_neg h]

theorem Pads.atReset_safe (p : Pads) : p.atReset.safe = 0 := by
  unfold Pads.atReset
  split <;> rfl

theorem Pads.atReset_held (p : Pads) : p.atReset.held = p.held := by
  unfold Pads.atReset
  split
  · exact Eq.symm ‹_›
  · exact (eq_false_of_ne_true ‹_›).symm

/-- What REBOOT clears: the copies' records and the candidates (R287). -/
def State.forgetCopies (s : State) : State :=
  let t := [rCopyA, rCopyB, rSeqA, rSeqB, rErrLoc, rFlash].foldl (fun t o => t.gset o 0) s
  { t with boot := { t.boot with candidates := [], tried := 0, hdrA := [], hdrB := [], bytes := [] } }

theorem State.reboot_failed (h : s.inPhase 9 = true) : s.reboot = s.forgetCopies.setPhase 1 := by
  unfold State.reboot
  rw [if_pos h]
  rfl

theorem State.g_forgetCopies : s.forgetCopies.g rCopyA = 0 := by
  have hset (t : State) {o : Nat} (h : rCopyA ≠ o) : (t.gset o 0).g rCopyA = t.g rCopyA := t.g_gset_ne h 0
  show ((((((s.gset rCopyA 0).gset rCopyB 0).gset rSeqA 0).gset rSeqB 0).gset rErrLoc 0).gset rFlash 0).g rCopyA = 0
  rw [hset _ (by decide), hset _ (by decide), hset _ (by decide), hset _ (by decide), hset _ (by decide), State.g_gset]

theorem State.slept_of_inPhase {n : Nat} (hn : n ≠ 8) (h : s.inPhase n = true) : s.boot.slept = false := by
  unfold State.inPhase at h
  have hphase : s.phase = n := of_decide_eq_true (by simp only [Bool.and_eq_true] at h; exact h.1.1.1)
  refine eq_false_of_ne_true fun hs => hn ?_
  rw [← hphase, State.phase, if_pos hs]

theorem State.phase_setPhase {n : Nat} (hn : n < 16) (h : s.boot.slept = false) : (s.setPhase n).phase = n := by
  have hs : (s.setPhase n).boot.slept = false := h
  rw [State.phase, hs, if_neg Bool.false_ne_true]
  exact (s.gf_gfset rBootStatus n (by decide)).trans (Nat.mod_eq_of_lt hn)

theorem State.flBusy_flEnd (e : Nat) : (s.flEnd e).flBusy = false := by
  unfold State.flEnd State.flBusy
  rw [State.g_gset, bit_ofNat _ (by decide), Nat.testBit_zero]
  exact decide_eq_false (by omega)

theorem State.err_flEnd {e : Nat} (he : e < 16) : (s.flEnd e).gf rFlStat 1 4 = e := by
  unfold State.flEnd State.gf fld
  rw [State.g_gset, BitVec.toNat_ofNat]
  omega

theorem State.flStart_clean {op : Nat} (hb : s.flBusy = false) (he : s.flErrs op = []) :
    s.flStart op = { (s.gset rFlStat 1) with boot := { s.boot with flOp := op } } := by
  unfold State.flStart
  rw [if_neg (by rw [hb]; exact Bool.false_ne_true), he]

theorem State.flStart_error {op e : Nat} (hb : s.flBusy = false) (he : s.flErrs op = [e]) : s.flStart op = s.flEnd e := by
  unfold State.flStart
  rw [if_neg (by rw [hb]; exact Bool.false_ne_true), he]

/-- The words that a flash read has brought (R288). -/
def State.flashWords (s : State) (data : List W32) : State :=
  if s.boot.flOp = 1 then (List.range 16).foldl (fun t i => t.gset (rFlData i) (data.getD i 0)) s else s

theorem execFlashCommandDone_busy (data : List W32) (h : s.flBusy = true) :
    execFlashCommandDone data s = .next ((s.flashWords data).flEnd 0) := by
  unfold execFlashCommandDone
  rw [if_pos h]
  rfl

theorem rFlData_inj {i j : Nat} (h : rFlData i = rFlData j) : i = j := by unfold rFlData at h; omega

theorem State.g_foldl_flData (data : List W32) (l : List Nat) (hl : l.Nodup) {i : Nat} (hi : i ∈ l) :
    (l.foldl (fun t i => t.gset (rFlData i) (data.getD i 0)) s).g (rFlData i) = data.getD i 0 := by
  induction l using snocInduction with
  | nil => exact absurd hi List.not_mem_nil
  | append_singleton l j ih =>
    rw [List.foldl_append, List.foldl_cons, List.foldl_nil]
    have hl : l.Nodup := (List.nodup_append.1 hl).1
    by_cases hij : i = j
    · subst hij
      exact State.g_gset _ _ _
    · rw [State.g_gset_ne _ (fun h => hij (rFlData_inj h))]
      exact ih hl ((List.mem_append.1 hi).resolve_right (fun h => hij (List.mem_singleton.1 h)))

theorem State.g_flashWords (data : List W32) (h : s.boot.flOp = 1) {i : Nat} (hi : i < 16) :
    (s.flashWords data).g (rFlData i) = data.getD i 0 := by
  unfold State.flashWords
  rw [if_pos h]
  exact s.g_foldl_flData data _ List.nodup_range (List.mem_range.2 hi)

theorem State.g_flEnd_data (e i : Nat) (hi : i < 16) : (s.flEnd e).g (rFlData i) = s.g (rFlData i) :=
  s.g_gset_ne (by unfold rFlData rFlStat; omega) _

end

/-- Settles O37: device reset, REBOOT and the flash commands. -/
theorem deviceResetAndReboot : Obligations.DeviceResetAndReboot := by
  refine ⟨fun s => ⟨fun h => ⟨_, execDeviceReset_on s h, rfl, s.pads.atReset_safe, rfl, rfl, rfl, rfl, rfl, rfl, (by decide : (if false = true then 8 else fld (0 : W32) 0 4) = 0),
      (by decide : (bit (0 : W32) 4 || false) = false), rfl, rfl, rfl, s.pads.atReset_held⟩, fun h => ?_⟩,
    fun s r => ⟨fun h => State.cwWrite_allowed h State.reboot, fun h => ?_, fun h => ?_, fun h => ⟨State.cwWrite_allowed h fun t => t.flStart 1,
      State.cwWrite_allowed h fun t => t.flStart 2, State.cwWrite_allowed h fun t => t.flStart 3⟩, fun op hb he => ?_,
      fun op e hb he h16 => ?_, fun data hb => ?_, fun hb => ?_⟩⟩
  · show execDeviceResetRelease s = _
    unfold execDeviceResetRelease
    rw [if_pos h]
  · rw [s.reboot_failed h]
    refine ⟨s.forgetCopies.phase_setPhase (by decide) (s.slept_of_inPhase (by decide) h), rfl, ?_⟩
    exact (State.g_gfset_ne _ (by decide) _ _ _).trans s.g_forgetCopies
  · unfold State.reboot
    rw [if_neg (by rw [h]; exact Bool.false_ne_true)]
  · rw [s.flStart_clean hb he]
    refine ⟨?_, rfl⟩
    exact (congrArg (bit · 0) (s.g_gset rFlStat 1)).trans (by decide)
  · rw [s.flStart_error hb he]
    exact ⟨s.flBusy_flEnd e, s.err_flEnd h16⟩
  · refine ⟨_, execFlashCommandDone_busy s data hb, State.flBusy_flEnd _ 0, State.err_flEnd _ (by decide), fun hop i hi => ?_⟩
    rw [State.g_flEnd_data _ 0 i hi]
    exact s.g_flashWords data hop hi
  · refine ⟨s.flEnd 3, ?_, s.flBusy_flEnd 3, s.err_flEnd (by decide)⟩
    show execFlashTimeout s = _
    unfold execFlashTimeout
    rw [if_pos hb]

end Sys2Proof.Machine

namespace Sys2Proof.Machine

/-! ### What the services of a plane leave alone

The Bellwether, the Mule engines and the queue engine work in their own tables, in the plane's registers and counters, and on the
service block's links. The rest of the block is what is outside of them. -/

/-- What stands outside of a plane's services: its NIs, its routers, its islands. -/
def Plane.outer (x : Plane) : Plane := { x with free := 0, rf := [], ctr := [], ctrHi := [], mule := [], sb := {} }

/-- What stands outside of the planes' services and of the records that every unit makes. -/
def State.outer (s : State) : State × (Nat → W32) :=
  ({ s with hw := {}, evt := {}, snp := {}, rf := [], pa := s.pa.outer, pb := s.pb.outer }, fun o => if infoWord o then 0 else s.g o)

section

variable {s t : State}

theorem State.outer_same (h : t.outer = s.outer) : { t with hw := {}, evt := {}, snp := {}, rf := [], pa := {}, pb := {} } =
    ({ s with hw := {}, evt := {}, snp := {}, rf := [], pa := {}, pb := {} } : State) := by
  have h1 := congrArg Prod.fst h
  exact congrArg (fun x : State => ({ x with pa := {}, pb := {} } : State)) h1

theorem State.ports_of_outer (h : t.outer = s.outer) : t.ports = s.ports := (congrArg State.ports (State.outer_same h) :)
theorem State.pw_of_outer (h : t.outer = s.outer) : t.pw = s.pw := (congrArg State.pw (State.outer_same h) :)
theorem State.pair_of_outer (h : t.outer = s.outer) : t.pair = s.pair := (congrArg State.pair (State.outer_same h) :)
theorem State.variant_of_outer (h : t.outer = s.outer) : t.variant = s.variant := (congrArg State.variant (State.outer_same h) :)

theorem State.port_of_outer (h : t.outer = s.outer) (p : Nat) : t.port p = s.port p := by
  rw [State.port, State.ports_of_outer h]
  rfl

theorem State.plane_of_outer (h : t.outer = s.outer) (pl : Pl) : (t.pln pl).outer = (s.pln pl).outer := by
  have h1 := congrArg Prod.fst h
  cases pl with
  | a => exact congrArg State.pa h1
  | b => exact congrArg State.pb h1

theorem State.ni_of_outer (h : t.outer = s.outer) (pl : Pl) (p : Nat) : t.ni pl p = s.ni pl p :=
  (congrArg (fun x : Plane => x.ni.rd p {}) (State.plane_of_outer h pl) :)

theorem State.isl_of_outer (h : t.outer = s.outer) (pl : Pl) : (t.pln pl).isl = (s.pln pl).isl :=
  (congrArg Plane.isl (State.plane_of_outer h pl) :)

theorem State.g_of_outer (h : t.outer = s.outer) {off : Nat} (hoff : infoWord off = false) : t.g off = s.g off := by
  have h2 := congrFun (congrArg Prod.snd h) off
  simpa only [State.outer, hoff, Bool.false_eq_true, if_false] using h2

end

section

variable (s : State) (pl : Pl)

theorem State.outer_ite {c : Prop} [Decidable c] {s a b : State} (ha : a.outer = s.outer) (hb : b.outer = s.outer) :
    (if c then a else b).outer = s.outer := by
  split
  · exact ha
  · exact hb

theorem State.outer_modPln (f : Plane → Plane) (h : (f (s.pln pl)).outer = (s.pln pl).outer) : (s.modPln pl f).outer = s.outer := by
  cases pl with
  | a => exact congrArg (fun x => (({ s with hw := {}, evt := {}, snp := {}, rf := [], pa := x, pb := s.pb.outer } : State),
      fun o => if infoWord o then 0 else s.g o)) h
  | b => exact congrArg (fun x => (({ s with hw := {}, evt := {}, snp := {}, rf := [], pa := s.pa.outer, pb := x } : State),
      fun o => if infoWord o then 0 else s.g o)) h

@[simp] theorem State.outer_modSb (f : Sb → Sb) : (s.modSb pl f).outer = s.outer := s.outer_modPln pl _ rfl

@[simp] theorem State.outer_modMul (e : Nat) (f : Mule → Mule) : (s.modMul pl e f).outer = s.outer := s.outer_modPln pl _ rfl

@[simp] theorem State.outer_pset (off : Nat) (v : W32) : (s.pset pl off v).outer = s.outer := s.outer_modPln pl _ rfl

theorem State.Records.outer {C W : Nat → Prop} {s t : State} (h : s.Records C W t) : t.outer = s.outer := by
  have hplane : ∀ pl, (t.pln pl).outer = (s.pln pl).outer := fun pl => by rw [h.planes pl]; rfl
  have hg : (fun o => if infoWord o then 0 else t.g o) = fun o => if infoWord o then 0 else s.g o := by
    funext o
    cases ho : infoWord o with
    | true => rfl
    | false => exact h.shared o ho
  unfold State.outer
  rw [hg, show t.pa.outer = s.pa.outer from hplane .a, show t.pb.outer = s.pb.outer from hplane .b, h.same]

@[simp] theorem State.outer_noteInc (k lo len v n : Nat) : (s.noteInc k lo len v n).outer = s.outer :=
  (State.Records.noteInc (C := fun _ => True) (W := fun _ => True) s k lo len v n).outer

@[simp] theorem State.outer_pfset (off lo len v : Nat) : (s.pfset pl off lo len v).outer = s.outer := s.outer_pset pl _ _

@[simp] theorem State.outer_pinc (off lo len n : Nat) : (s.pinc pl off lo len n).outer = s.outer := by
  rw [State.pinc, State.outer_pfset, State.outer_noteInc]

@[simp] theorem State.outer_occurP (src info : Nat) : (s.occurP pl src info).outer = s.outer :=
  (State.Records.occurP (C := fun _ => True) (W := fun _ => True) s pl src info).outer

@[simp] theorem State.outer_countPlc (code : Nat) : (s.countPlc pl code).outer = s.outer :=
  (State.countN_records s pl 960 16 code 0 none 1).outer

@[simp] theorem State.outer_countQ (code : Nat) : (s.countQ pl code).outer = s.outer := (State.countQ_records s pl code).outer

end

/-! ### The Bellwether -/

section

variable (s : State) (pl : Pl)

@[simp] theorem State.outer_setEntry (page : Nat) (e : W32) : (s.setEntry pl page e).outer = s.outer := s.outer_modSb pl _

@[simp] theorem State.outer_modMig (page : Nat) (f : Mig → Mig) : (s.modMig pl page f).outer = s.outer := s.outer_modSb pl _

@[simp] theorem State.outer_dropDemote (page : Nat) (byCmd : Bool) : (s.dropDemote pl page byCmd).outer = s.outer := s.outer_modSb pl _

@[simp] theorem State.outer_cmdDone (result : Nat) : (s.cmdDone pl result).outer = s.outer := s.outer_pset pl _ _

@[simp] theorem State.outer_sbSend (hdr : BitVec 64) (lines : List Line) : (s.sbSend pl hdr lines).outer = s.outer := s.outer_modSb pl _

@[simp] theorem State.outer_sbMgmt (dest mop marg tag : Nat) (lines : List Line) : (s.sbMgmt pl dest mop marg tag lines).outer = s.outer :=
  s.outer_sbSend pl _ _

@[simp] theorem State.outer_sbIssueOne (i : Nat) : (s.sbIssueOne pl i).outer = s.outer := by
  unfold State.sbIssueOne
  extract_lets b
  split
  · refine State.outer_ite rfl ?_
    extract_lets -underBinder _ s2 own
    have h2 : s2.outer = s.outer := s.outer_modSb pl _
    have hown : ∀ st, (own st).outer = s.outer := fun st => (s2.outer_modSb pl _).trans h2
    refine State.outer_ite (hown _) ?_
    split
    · exact (s2.outer_sbSend pl _ _).trans h2
    · exact hown _
  · rfl

@[simp] theorem State.outer_sbIssue : (s.sbIssue pl).outer = s.outer :=
  foldl_same _ _ State.outer (fun t i => by
    split
    · exact t.outer_sbIssueOne pl i
    · rfl) s

@[simp] theorem State.outer_sbAdd (purpose : SbPurpose) (write ll : Bool) (owner priv addr span : Nat) (ben : BitVec 64) (data : List Line) :
    (s.sbAdd pl purpose write ll owner priv addr span ben data).outer = s.outer :=
  (State.outer_sbIssue _ pl).trans (s.outer_modSb pl _)

@[simp] theorem State.outer_migSendOne (page d : Nat) : (s.migSendOne pl page d).outer = s.outer := by
  unfold State.migSendOne
  split
  · rfl
  · split
    · rfl
    · exact (State.outer_modMig _ pl _ _).trans (s.outer_sbMgmt pl _ _ _ _ _)

@[simp] theorem State.outer_migPump : (s.migPump pl).outer = s.outer := by
  refine (foldl_same _ _ State.outer (fun t d => ?_) _).trans (foldl_same _ _ State.outer (fun t x => t.outer_migSendOne pl _ _) s)
  split
  · rfl
  · exact (State.outer_modSb _ pl _).trans (t.outer_sbMgmt pl _ _ _ _ _)

@[simp] theorem State.outer_startMig (page : Nat) (newIn : Bool) (newFrame : Nat) (byCmd : Bool) :
    (s.startMig pl page newIn newFrame byCmd).outer = s.outer := by
  unfold State.startMig
  extract_lets e old new b
  split
  · rfl
  · split
    · rfl
    · rw [State.outer_migPump, State.outer_countPlc, State.outer_modSb, State.outer_setEntry]

@[simp] theorem State.outer_tryDemote (page : Nat) (byCmd : Bool) : (s.tryDemote pl page byCmd).outer = s.outer := by
  have hdone : ∀ c : Bool, ∀ r, (if c then (s.dropDemote pl page byCmd).cmdDone pl r else s.dropDemote pl page byCmd).outer = s.outer :=
    fun c r => State.outer_ite ((State.outer_cmdDone _ pl r).trans (s.outer_dropDemote pl page byCmd)) (s.outer_dropDemote pl page byCmd)
  unfold State.tryDemote
  refine State.outer_ite rfl (State.outer_ite (hdone _ _) (State.outer_ite (hdone _ _) (State.outer_ite rfl ?_)))
  extract_lets t
  have ht : t.outer = s.outer := s.outer_startMig pl _ _ _ _
  exact State.outer_ite ((t.outer_dropDemote pl _ _).trans ht) (State.outer_ite ((t.outer_modSb pl _).trans ht) ht)

@[simp] theorem State.outer_tryDemotes : (s.tryDemotes pl).outer = s.outer := by
  refine (foldl_same _ _ State.outer (fun t p => t.outer_tryDemote pl p false) _).trans ?_
  split
  · exact s.outer_tryDemote pl _ _
  · rfl

@[simp] theorem State.outer_migEnd (page : Nat) : (s.migEnd pl page).outer = s.outer :=
  (State.outer_tryDemotes _ pl).trans (s.outer_modSb pl _)

@[simp] theorem State.outer_migFinish (m : Mig) : (s.migFinish pl m).outer = s.outer := by
  unfold State.migFinish
  split
  · exact s.outer_migEnd pl _
  · extract_lets t u
    have ht : t.outer = s.outer := s.outer_pinc pl _ _ _ _
    refine (State.outer_migEnd u pl _).trans ?_
    unfold u
    split
    · rw [State.outer_cmdDone, State.outer_setEntry, ht]
    · split
      · exact (t.outer_cmdDone pl 0).trans ht
      · exact ht

@[simp] theorem State.outer_migAdvance (page : Nat) : (s.migAdvance pl page).outer = s.outer := by
  unfold State.migAdvance
  split
  · rfl
  split
  · rfl
  split
  · exact s.outer_migFinish pl _
  split
  · exact (State.outer_migPump _ pl).trans (s.outer_modMig pl _ _)
  · rfl

@[simp] theorem State.outer_migSettle : (s.migSettle pl).outer = s.outer :=
  (State.outer_migPump _ pl).trans (foldl_same _ _ State.outer (fun t p => t.outer_migAdvance pl p) s)

@[simp] theorem State.outer_noteFreeze (m : Mig) : (s.noteFreeze pl m).outer = s.outer := by
  unfold State.noteFreeze
  split
  · split
    · exact s.outer_pset pl _ _
    · rfl
  · rfl

@[simp] theorem State.outer_setChan (e c st cause : Nat) : (s.setChan pl e c st cause).outer = s.outer := by
  rw [State.setChan, State.outer_pfset, State.outer_pfset]

@[simp] theorem State.outer_modChan (e c : Nat) (f : Chan → Chan) : (s.modChan pl e c f).outer = s.outer := s.outer_modMul pl _ _

@[simp] theorem State.outer_stopChan (e c cause : Nat) : (s.stopChan pl e c cause).outer = s.outer := by
  unfold State.stopChan
  split
  · split <;> rw [State.outer_modChan, State.outer_setChan]
  · rfl

@[simp] theorem State.outer_migAbort (page cause port : Nat) : (s.migAbort pl page cause port).outer = s.outer := by
  unfold State.migAbort
  split
  · rfl
  split
  · rfl
  extract_lets e pin s1 s2 home ends s3 cool s4 s5 s6 s7
  have h1 : s1.outer = s.outer := by
    refine (State.outer_noteFreeze _ pl _).trans ?_
    split
    · exact s.outer_stopChan pl _ _ _
    · rfl
  have h6 : s6.outer = s.outer := by
    rw [State.outer_countPlc, State.outer_pinc, State.outer_pset, State.outer_modSb, State.outer_modMig, State.outer_setEntry, h1]
  have h7 : s7.outer = s.outer := by
    unfold s7
    split
    · exact (s6.outer_cmdDone pl 0).trans h6
    · split
      · exact (s6.outer_cmdDone pl 2).trans h6
      · exact h6
  rw [State.outer_sbIssue, State.outer_migAdvance, State.outer_migPump, h7]

@[simp] theorem State.outer_migAbortAll (cause : Nat) (f : Mig → Bool) : (s.migAbortAll pl cause f).outer = s.outer :=
  foldl_same _ _ State.outer (fun t m => t.outer_migAbort pl _ _ _) s

@[simp] theorem State.outer_bwEndDown (agent : Nat) : (s.bwEndDown agent pl).outer = s.outer := by
  unfold State.bwEndDown
  rw [State.outer_migSettle, State.outer_migAbortAll, State.outer_migAbortAll, State.outer_modSb]

end

/-! ### The queue engine -/

section

variable (s : State) (pl : Pl) (n : Nat)

@[simp] theorem State.outer_modQ (f : QDyn → QDyn) : (s.modQ pl n f).outer = s.outer := s.outer_modSb pl _

@[simp] theorem State.outer_setK (f k v : Nat) : (s.setK pl f k v).outer = s.outer := s.outer_modSb pl _

@[simp] theorem State.outer_qdset (off lo len v : Nat) : (s.qdset pl n off lo len v).outer = s.outer := s.outer_pfset pl _ _ _ _

@[simp] theorem State.outer_qSetBit (i : Nat) (v : Bool) : (s.qSetBit pl n i v).outer = s.outer := s.outer_qdset pl n _ _ _ _

@[simp] theorem State.outer_takeKeys : (s.takeKeys pl n).outer = s.outer := by
  unfold State.takeKeys
  rw [State.outer_modQ]
  exact (foldl_same _ _ State.outer (fun t k => t.outer_setK pl _ _ _) _).trans (s.outer_modSb pl _)

@[simp] theorem State.outer_readRecord (l : Loss) : (s.readRecord pl n l).outer = s.outer := by
  unfold State.readRecord
  rw [State.outer_sbAdd, State.outer_modQ]

@[simp] theorem State.outer_enqueue (src tag : Nat) (reply : Bool) (keyslot owner : Nat) (redel flock : Bool) (lines : List Line) :
    (s.enqueue pl n src tag reply keyslot owner redel flock lines).outer = s.outer := by
  unfold State.enqueue
  extract_lets q len data rec? o a t u v
  have hu : u.outer = s.outer := by rw [State.outer_countQ, State.outer_modQ, State.outer_qdset]
  have hv : v.outer = s.outer := by
    unfold v
    split
    · rw [State.outer_sbAdd, State.outer_sbAdd, hu]
    · rw [State.outer_sbAdd, hu]
  rw [State.outer_sbAdd, hv]

@[simp] theorem State.outer_readmit (l : Loss) (w : BitVec 64) : (s.readmit pl n l w).outer = s.outer := by
  unfold State.readmit
  extract_lets f k
  split
  · rfl
  split
  · rfl
  extract_lets l2 t
  rw [State.outer_countQ, State.outer_pinc, State.outer_enqueue, State.outer_setK, State.outer_modQ]

@[simp] theorem State.outer_lossStep : (s.lossStep pl n).outer = s.outer := by
  unfold State.lossStep
  split
  · rfl
  split
  · rfl
  extract_lets l2
  split
  · exact s.outer_modQ pl n _
  split
  · split
    · rfl
    extract_lets t
    have ht : t.outer = s.outer := s.outer_readmit pl n _ _
    split
    · split
      · exact (t.outer_readRecord pl n _).trans ht
      · exact ht
    · exact ht
  · exact s.outer_readRecord pl n _

@[simp] theorem State.outer_loseMember : (s.loseMember pl n).outer = s.outer := by
  unfold State.loseMember
  split
  · rfl
  extract_lets s1 s2 s3 s4
  have h2 : s2.outer = s.outer := by
    unfold s2
    split
    · exact s.outer_qSetBit pl n _ _
    · exact (s1.outer_qSetBit pl n _ _).trans (s.outer_qSetBit pl n _ _)
  rw [State.outer_lossStep, State.outer_modQ, State.outer_takeKeys, State.outer_occurP, State.outer_pinc, h2]

@[simp] theorem State.outer_queuesPortDown (p : Nat) : (s.queuesPortDown p pl).outer = s.outer :=
  foldl_same _ _ State.outer (fun t n => t.outer_loseMember pl n) s

end

end Sys2Proof.Machine

namespace Sys2Proof.Machine

/-! ### Folds of steps -/

theorem foldl_same_of_mem.{v} {α : Sort v} {β : Type} (l : List β) (f : State → β → State) (obs : State → α)
    (h : ∀ t, ∀ b ∈ l, obs (f t b) = obs t) (s : State) : obs (l.foldl f s) = obs s := by
  induction l generalizing s with
  | nil => rfl
  | cons b l ih =>
    exact (ih (fun t c hc => h t c (List.mem_cons_of_mem b hc)) (f s b)).trans (h s b List.mem_cons_self)

/-- What a step brings about for its element, and every other step keeps, holds for each element at the end. -/
theorem foldl_settles {β : Type} (l : List β) (f : State → β → State) (P : β → State → Prop) (hself : ∀ t b, P b (f t b))
    (hkeep : ∀ t b c, P c t → P c (f t b)) (s : State) : ∀ c ∈ l, P c (l.foldl f s) := by
  induction l using snocInduction with
  | nil => exact fun c hc => absurd hc List.not_mem_nil
  | append_singleton l b ih =>
    intro c hc
    rw [List.foldl_append, List.foldl_cons, List.foldl_nil]
    rcases List.mem_append.1 hc with hc | hc
    · exact hkeep _ b c (ih c hc)
    · rw [List.mem_singleton.1 hc]
      exact hself _ b

/-! ### A port falls (R81, R365) -/

section

variable (s : State)

theorem State.ports_portDown (p : Nat) (pl : Pl) : (s.portDown p pl).ports = s.ports := by
  unfold State.portDown
  rw [State.ports_of_outer (State.outer_queuesPortDown _ pl p), State.ports_of_outer (State.outer_bwEndDown _ pl p),
    State.modRouter_ports, State.modNi_ports]

/-- What a port is once it has fallen (R81). -/
def Port.fallen (x : Port) : Port :=
  { x with
    live := false, ready := false, draining := false, poisoning := false, prstAck := x.prstAck || x.prstReq, gtRel := [], ingress := [] }

theorem State.ports_fallPort (p : Nat) : (s.fallPort p).ports = (s.modPort p Port.fallen).ports := by
  unfold State.fallPort
  exact State.eachPlane_same _ (fun pl t => t.portDown p pl) State.ports fun q t => t.ports_portDown p q

theorem State.port_fallPort_same (p : Nat) : (s.fallPort p).port p = (s.port p).fallen := by
  rw [State.port, s.ports_fallPort p]
  exact s.port_modPort p Port.fallen

theorem State.port_fallPort_ne {p i : Nat} (h : i ≠ p) : (s.fallPort p).port i = s.port i := by
  rw [State.port, s.ports_fallPort p]
  exact s.port_modPort_ne h Port.fallen

/-- No port is live once every live one has fallen. -/
theorem State.live_testFall {p : Nat} (h : p < s.variant.ports) : (s.testFall.port p).live = false := by
  refine foldl_settles (List.range s.variant.ports) (fun t p => if (t.port p).live then t.fallPort p else t)
    (fun p t => (t.port p).live = false) (fun t p => ?_) (fun t p c hc => ?_) s p (List.mem_range.2 h)
  · split
    · rw [t.port_fallPort_same p]
      rfl
    · exact eq_false_of_ne_true ‹_›
  · split
    · by_cases hcp : c = p
      · rw [hcp, t.port_fallPort_same p]
        rfl
      · rw [t.port_fallPort_ne hcp]
        exact hc
    · exact hc

theorem execTestModeEntry_off (h : s.test.mode = false) : execTestModeEntry s = .next { s.testFall with
    test := { s.testFall.test with mode := true }, pads := { s.testFall.pads with safe := 0, releasePend := 0 }, keys := {},
    boot := { s.testFall.boot with root := 0, store := [], bytes := [] }, img := { s.testFall.img with pages := [] },
    pa := { s.testFall.pa with sb := { s.testFall.pa.sb with ctab := [] } },
    pb := { s.testFall.pb with sb := { s.testFall.pb.sb with ctab := [] } } } := by
  unfold execTestModeEntry
  rw [if_neg (by rw [h]; exact Bool.false_ne_true)]
  rfl

/-- KEY_STATUS shows no key once the ports have fallen (R373). -/
theorem State.ready_testFall : s.testFall.gf rKeyStatus 0 1 = 0 := by
  unfold State.testFall State.gf
  rw [State.g_gset, fld_one, bit, BitVec.getLsbD_and, show (~~~(1 : W32)).getLsbD 0 = false from by decide, Bool.and_false]
  rfl

end

/-! ### Snapshots (R335, R336) -/

theorem Tab.find_filter_none {α : Type} (t : Tab α) (f : Nat → Bool) {k : Nat} (h : f k = true) :
    Tab.find (t.filter (fun w => !f w.1)) k = none := by
  induction t with
  | nil => rfl
  | cons x t ih =>
    rw [List.filter_cons]
    split
    · next hx =>
      have hne : x.1 ≠ k := fun e => by rw [e, h] at hx; exact absurd hx (by decide)
      show (if x.1 = k then some x.2 else Tab.find _ k) = none
      rw [if_neg hne, ih]
    · exact ih

theorem ctrBase_aligned (idx : Nat) : ctrBase idx % 0x20 = 0 := by
  unfold ctrBase bNi bFrt bQrt bMul
  repeat' split
  all_goals omega

/-- The registers of one counter are of one island. -/
theorem islandOfOff_snap (idx : Nat) : islandOfOff (ctrBase idx + 12) = islandOfOff (ctrBase idx) := by
  have h := ctrBase_aligned idx
  unfold islandOfOff
  repeat' split
  all_goals omega

theorem resetWord_snap {idx : Nat} (h : idx < 1000) : resetWord (ctrBase idx + 12) = 0 := by
  have hplace := place_of_ctrOf (ctrOf_ctrBase h (show 12 < 0x20 by omega))
  unfold resetWord
  rw [if_neg (by omega)]

theorem isSnapWord_snap {idx : Nat} (h : idx < 1000) : isSnapWord (ctrBase idx + 12) = true := by
  unfold isSnapWord
  rw [ctrOf_ctrBase h (by omega)]
  rfl

theorem ctrBase_inj {i j a b : Nat} (hi : i < 1000) (hj : j < 1000) (ha : a < 0x20) (hb : b < 0x20)
    (h : ctrBase i + a = ctrBase j + b) : i = j ∧ a = b := by
  have hsome := (ctrOf_ctrBase hi ha).symm.trans ((congrArg ctrOf h).trans (ctrOf_ctrBase hj hb))
  exact Prod.mk.injEq .. ▸ Option.some.inj hsome

section

variable (s : State) (pl : Pl)

/-- One counter goes into its CTR_SNAP registers, if its island latches (R335). -/
def State.latchCounter (s : State) (pl : Pl) (t : State) (x : Nat × BitVec 48) : State :=
  let b := ctrBase x.1
  let v := ((s.pln pl).ctr.rd x.1 0).toNat
  if x.1 < 1000 && s.islLatches pl (islandOfOff b) then
    (t.pset pl (b + 12) (BitVec.ofNat 32 v)).pset pl (b + 16) (BitVec.ofNat 32 (v / 2 ^ 32)) else t

/-- The plane without the CTR_SNAP words of the islands that latch. -/
def State.clearSnaps (s : State) (pl : Pl) : State :=
  s.modPln pl (fun x => { x with rf := x.rf.filter (fun w => !(isSnapWord w.1 && s.islLatches pl (islandOfOff w.1))) })

theorem State.latchCounters_eq : s.latchCounters pl = (s.pln pl).ctr.foldl (s.latchCounter pl) (s.clearSnaps pl) := rfl

variable {idx : Nat}

theorem State.p_clearSnaps (hi : idx < 1000) (hl : s.islLatches pl (islandOfOff (ctrBase idx)) = true) :
    (s.clearSnaps pl).p pl (ctrBase idx + 12) = 0 := by
  have hnone := Tab.find_filter_none (s.pln pl).rf (fun o => isSnapWord o && s.islLatches pl (islandOfOff o)) (k := ctrBase idx + 12)
    (by rw [isSnapWord_snap hi, islandOfOff_snap idx, hl]; rfl)
  unfold State.clearSnaps State.p
  rw [State.modPln_pln, Plane.w, Tab.rd, hnone]
  exact resetWord_snap hi

theorem State.p_latchCounter_same (t : State) {x : Nat × BitVec 48} (hi : x.1 < 1000)
    (hl : s.islLatches pl (islandOfOff (ctrBase x.1)) = true) :
    (s.latchCounter pl t x).p pl (ctrBase x.1 + 12) = BitVec.ofNat 32 ((s.pln pl).ctr.rd x.1 0).toNat := by
  unfold State.latchCounter
  dsimp only
  rw [hl, decide_eq_true hi, Bool.and_self, if_pos rfl, State.p_pset_ne _ pl (by omega), State.p_pset]

theorem State.p_latchCounter_ne (t : State) {x : Nat × BitVec 48} (hi : idx < 1000) (hx : x.1 ≠ idx) :
    (s.latchCounter pl t x).p pl (ctrBase idx + 12) = t.p pl (ctrBase idx + 12) := by
  unfold State.latchCounter
  dsimp only
  split
  · next hc =>
    have hx1 : x.1 < 1000 := of_decide_eq_true (Bool.and_eq_true_iff.1 hc).1
    rw [State.p_pset_ne _ pl (fun h => hx (ctrBase_inj hi hx1 (by omega) (by omega) h).1.symm),
      State.p_pset_ne _ pl (fun h => hx (ctrBase_inj hi hx1 (by omega) (by omega) h).1.symm)]
  · rfl

/-- Every counter of an island that latches goes into its register, those that stand at 0 included (R335). -/
theorem State.p_latchCounters (hi : idx < 1000) (hl : s.islLatches pl (islandOfOff (ctrBase idx)) = true) :
    (s.latchCounters pl).p pl (ctrBase idx + 12) = BitVec.ofNat 32 ((s.pln pl).ctr.rd idx 0).toNat := by
  rw [State.latchCounters_eq]
  by_cases hin : ∃ x ∈ (s.pln pl).ctr, x.1 = idx
  · obtain ⟨x, hx, rfl⟩ := hin
    refine foldl_settles (s.pln pl).ctr (s.latchCounter pl) (fun x t => x.1 < 1000 → s.islLatches pl (islandOfOff (ctrBase x.1)) = true →
      t.p pl (ctrBase x.1 + 12) = BitVec.ofNat 32 ((s.pln pl).ctr.rd x.1 0).toNat) (fun t x h1 h2 => s.p_latchCounter_same pl t h1 h2)
      (fun t b c hc h1 h2 => ?_) _ x hx hi hl
    by_cases hbc : b.1 = c.1
    · rw [← hbc] at h1 h2 ⊢
      exact s.p_latchCounter_same pl t h1 h2
    · rw [s.p_latchCounter_ne pl t h1 hbc]
      exact hc h1 h2
  · have hzero : (s.pln pl).ctr.rd idx 0 = 0 := by
      refine Decidable.byContradiction fun h => ?_
      exact hin (Tab.exists_mem_of_rd_ne h)
    rw [hzero, foldl_same_of_mem _ _ (fun t => t.p pl (ctrBase idx + 12)) (fun t x hx => s.p_latchCounter_ne pl t hi
      (fun e => hin ⟨x, hx, e⟩)), s.p_clearSnaps pl hi hl]
    rfl

theorem State.latchPlane_eq : State.latchPlane pl s =
    let v := (s.latchCounters pl).variant
    let a := (List.range v.ports).foldl (fun t p =>
      if t.islLatches pl (p / 6) then t.pset pl (bNi p + 0x904) (BitVec.ofNat 32 (t.niSnap pl p)) else t) (s.latchCounters pl)
    let b := (List.range v.folios).foldl (fun t g => if t.islLatches pl g then t.latchRouter pl false g (bFrt g) else t) a
    let c := (List.range v.quires).foldl (fun t q => if t.islLatches pl (16 + q) then t.latchRouter pl true q (bQrt q) else t) b
    (List.range v.mules).foldl (fun t e =>
      if t.islLatches pl (16 + e / 2) then t.pset pl (bMul e + 0x2184) (BitVec.ofNat 32 (t.mulSnap pl e)) else t) c := rfl

/-- A plane's latch is made of writes into that plane. -/
theorem State.latchPlane_same.{v} {α : Sort v} (obs : State → α) (h : ∀ t f, obs (State.modPln t pl f) = obs t) :
    obs (State.latchPlane pl s) = obs s := by
  have hset : ∀ (t : State) o v, obs (t.pset pl o v) = obs t := fun t o v => h t _
  have hctr : obs (s.latchCounters pl) = obs s := by
    rw [State.latchCounters_eq]
    refine (foldl_same _ _ obs (fun t x => ?_) _).trans (h s _)
    unfold State.latchCounter
    dsimp only
    split
    · rw [hset, hset]
    · rfl
  have hrtr : ∀ (c : Bool) (t : State) (quire : Bool) (i b : Nat), obs (if c then t.latchRouter pl quire i b else t) = obs t := by
    intro c t quire i b
    cases c with
    | false => rfl
    | true =>
      rw [if_pos rfl, State.latchRouter, hset, hset]
  have hword : ∀ (c : Bool) (t : State) o v, obs (if c then t.pset pl o v else t) = obs t := by
    intro c t o v
    cases c with
    | false => rfl
    | true => exact hset t o v
  rw [State.latchPlane_eq]
  dsimp only
  rw [foldl_same _ _ obs (fun t e => hword _ t _ _), foldl_same _ _ obs (fun t q => hrtr _ t _ _ _),
    foldl_same _ _ obs (fun t g => hrtr _ t _ _ _), foldl_same _ _ obs (fun t p => hword _ t _ _), hctr]

theorem Variant.quires_le (v : Variant) : v.quires ≤ 4 := by cases v <;> decide

/-- What else a plane latches stands apart from the CTR_SNAP registers (R335). -/
theorem State.p_latchPlane (hi : idx < 1000) : (State.latchPlane pl s).p pl (ctrBase idx + 12) =
    (s.latchCounters pl).p pl (ctrBase idx + 12) := by
  have hplace := place_of_ctrOf (ctrOf_ctrBase hi (show 12 < 0x20 by omega))
  have hq := Variant.quires_le (s.latchCounters pl).variant
  have hword : ∀ (c : Bool) (t : State) (o : Nat) v, ctrBase idx + 12 ≠ o →
      (if c then t.pset pl o v else t).p pl (ctrBase idx + 12) = t.p pl (ctrBase idx + 12) := by
    intro c t o v ho
    cases c with
    | false => rfl
    | true => exact t.p_pset_ne pl ho v
  have hrtr : ∀ (c : Bool) (t : State) (quire : Bool) (i b : Nat), ctrBase idx + 12 ≠ b + 0x204 → ctrBase idx + 12 ≠ b + 0x208 →
      (if c then t.latchRouter pl quire i b else t).p pl (ctrBase idx + 12) = t.p pl (ctrBase idx + 12) := by
    intro c t quire i b h1 h2
    cases c with
    | false => rfl
    | true => rw [if_pos rfl, State.latchRouter, State.p_pset_ne _ pl h2, State.p_pset_ne _ pl h1]
  have hmul : ∀ e, e ∈ List.range (s.latchCounters pl).variant.mules → ctrBase idx + 12 ≠ bMul e + 0x2184 := by
    intro e he
    have he := List.mem_range.1 he
    unfold Variant.mules at he
    unfold bMul
    omega
  have hqrt : ∀ q, q ∈ List.range (s.latchCounters pl).variant.quires → ctrBase idx + 12 ≠ bQrt q + 0x204 ∧ ctrBase idx + 12 ≠ bQrt q + 0x208 := by
    intro q hin
    have hin := List.mem_range.1 hin
    unfold bQrt
    omega
  have hfrt : ∀ g, g ∈ List.range (s.latchCounters pl).variant.folios → ctrBase idx + 12 ≠ bFrt g + 0x204 ∧ ctrBase idx + 12 ≠ bFrt g + 0x208 := by
    intro g hg
    have hg := List.mem_range.1 hg
    unfold Variant.folios at hg
    unfold bFrt
    omega
  have hni : ∀ p, p ∈ List.range (s.latchCounters pl).variant.ports → ctrBase idx + 12 ≠ bNi p + 0x904 := by
    intro p hp
    have hp := List.mem_range.1 hp
    unfold Variant.ports at hp
    unfold bNi
    omega
  rw [State.latchPlane_eq]
  dsimp only
  rw [foldl_same_of_mem _ _ (fun t => t.p pl (ctrBase idx + 12)) (fun t e he => hword _ t _ _ (hmul e he)),
    foldl_same_of_mem _ _ (fun t => t.p pl (ctrBase idx + 12)) (fun t q hin => hrtr _ t _ _ _ (hqrt q hin).1 (hqrt q hin).2),
    foldl_same_of_mem _ _ (fun t => t.p pl (ctrBase idx + 12)) (fun t g hg => hrtr _ t _ _ _ (hfrt g hg).1 (hfrt g hg).2),
    foldl_same_of_mem _ _ (fun t => t.p pl (ctrBase idx + 12)) (fun t p hp => hword _ t _ _ (hni p hp))]

/-- The latch of every plane in service. -/
theorem State.p_eachLatch (hr : s.runs pl = true) (hi : idx < 1000) (hl : s.islLatches pl (islandOfOff (ctrBase idx)) = true) :
    (s.eachPlane State.latchPlane).p pl (ctrBase idx + 12) = BitVec.ofNat 32 ((s.pln pl).ctr.rd idx 0).toNat := by
  have hother : ∀ {q : Pl} (t : State), q ≠ pl → ((State.latchPlane q t).pln pl, (State.latchPlane q t).variant, (State.latchPlane q t).pw) =
      (t.pln pl, t.variant, t.pw) := fun {q} t hq =>
    t.latchPlane_same q (fun t => (t.pln pl, t.variant, t.pw)) fun t f => by
      rw [State.modPln_pln_ne _ (Ne.symm hq), State.modPln_variant, State.modPln_pw]
  obtain ⟨u, hu, -, hread⟩ := State.eachPlane_read hr State.latchPlane (fun t => (t.pln pl, t.variant, t.pw) = (s.pln pl, s.variant, s.pw))
    (fun t => t.p pl (ctrBase idx + 12)) rfl (fun q t hq ht => (hother t hq).trans ht)
    (fun q t hq => congrArg (fun x : Plane × Variant × Power => x.1.w (ctrBase idx + 12)) (hother t hq))
  have hu2 : u.pln pl = s.pln pl ∧ u.variant = s.variant ∧ u.pw = s.pw := by simpa using hu
  obtain ⟨hpln, hvar, hpw⟩ := hu2
  have hlatch : u.islLatches pl (islandOfOff (ctrBase idx)) = s.islLatches pl (islandOfOff (ctrBase idx)) := by
    unfold State.islLatches State.islLocked State.islandOn State.quireOn State.quireUp State.qp
    rw [hpln, hvar, hpw]
  rw [hread, u.p_latchPlane pl hi, u.p_latchCounters pl hi (hlatch.trans hl), hpln]

end

/-- What a latch leaves in the shared part of the block, before its event (R335). -/
def State.noteLatch (t : State) (part : Bool) : State :=
  let u := (t.gset rSnpSlotLo (BitVec.ofNat 32 t.now)).gset rSnpSlotHi (BitVec.ofNat 32 (t.now / 2 ^ 32))
  { u.ginc rTaken 0 32 1 with
    snp := { u.snp with armed := false, held := true, part := part, trig := none }, pads := { u.pads with snapOut := true } }

def State.latched (s : State) : State := (s.eachPlane State.latchPlane).noteLatch s.snapPartial

theorem State.now_noteLatch (t : State) (part : Bool) : (t.noteLatch part).now = t.now := rfl

theorem State.p_noteLatch (t : State) (part : Bool) (pl : Pl) (o : Nat) : (t.noteLatch part).p pl o = t.p pl o := by cases pl <;> rfl

theorem State.slotLo_noteLatch (t : State) (part : Bool) : (t.noteLatch part).g rSnpSlotLo = BitVec.ofNat 32 t.now := by
  show (((t.gset rSnpSlotLo (BitVec.ofNat 32 t.now)).gset rSnpSlotHi (BitVec.ofNat 32 (t.now / 2 ^ 32))).ginc rTaken 0 32 1).g rSnpSlotLo = _
  rw [State.g_ginc_ne _ (by decide), State.g_gset_ne _ (by decide), State.g_gset]

theorem execSnapshotLatch_due {s : State} {w : Nat} (ht : s.snp.trig = some w) (hw : w + 2 ≤ s.now) (h0 : s.fcInSlot = 0)
    (hdev : s.pw.dev = .run) : execSnapshotLatch s = .next (s.latched.occurInfo 403 s.latched.now) := by
  unfold execSnapshotLatch
  rw [ht]
  dsimp only
  rw [if_pos ⟨hw, h0, hdev⟩]
  rfl

theorem Snp.miss_fields (x : Snp) (now : Nat) (c : BitVec 4) (info : W32) :
    (x.miss now c info).held = x.held ∧ (x.miss now c info).trig = x.trig ∧ (x.miss now c info).cause = x.cause ∧
      (x.miss now c info).missAt = some now := by
  unfold Snp.miss
  split
  · exact ⟨rfl, rfl, rfl, ‹_›⟩
  · exact ⟨rfl, rfl, rfl, rfl⟩

theorem State.now_eachLatch (s : State) : (s.eachPlane State.latchPlane).now = s.now :=
  congrArg BitVec.toNat (s.eachPlane_same State.latchPlane State.slot fun q t => t.latchPlane_same q State.slot fun t f => t.modPln_slot q f)

/-- Settles O52: triggers, latches and arming of snapshots; test mode and the wrapper. -/
theorem snapshotsAndTestAccess : Obligations.SnapshotsAndTestAccess := by
  refine ⟨fun s => ⟨fun r h => ⟨State.cwWrite_allowed h fun t => t.snapTrigger 1 0x1FF 0x3FF, State.cwWrite_allowed h State.snapArm⟩,
      fun m hm h4 hdev => ?_, fun c src k _ hheld harmed htrig => ?_, fun c src k hheld => ?_, ⟨?_, ?_, fun hmiss => ?_, fun hheld hmiss => ?_⟩,
      fun w ht hw h0 hdev => ⟨s.latched, ?_, rfl, rfl, rfl, rfl, rfl, ?_, fun pl idx hr hi hl => ?_⟩⟩,
    fun s => ⟨fun h => ⟨_, execTestModeEntry_off s h, rfl, ?_, rfl, rfl, rfl, rfl, rfl, ?_, fun p hp => ?_⟩, fun w => rfl, fun x => ?_⟩⟩
  · show execSnapInEdge m s = _
    unfold execSnapInEdge
    rw [hm, h4, decide_eq_true hdev, Bool.and_self, Bool.and_self, if_pos rfl]
  · have heq : s.snapTrigger c src k = { (s.gset rTrigInfo (BitVec.ofNat 32 (src % 512 + (k % 1024) * 2 ^ 16))) with
        snp := { s.snp with trig := some s.now, cause := BitVec.ofNat 4 (2 ^ c) } } := by
      unfold State.snapTrigger
      dsimp only
      rw [if_neg (by rw [hheld]; exact Bool.false_ne_true), harmed, Bool.not_true, if_neg Bool.false_ne_true, htrig]
    rw [heq]
    exact ⟨rfl, rfl, s.g_gset _ _⟩
  · have heq : s.snapTrigger c src k = { s.ginc rMissed 0 32 1 with
        snp := s.snp.miss s.now (BitVec.ofNat 4 (2 ^ c)) (BitVec.ofNat 32 (src % 512 + (k % 1024) * 2 ^ 16)) } := by
      unfold State.snapTrigger
      dsimp only
      rw [if_pos hheld]
    rw [heq]
    obtain ⟨h1, h2, h3, h4⟩ := Snp.miss_fields s.snp s.now (BitVec.ofNat 4 (2 ^ c)) (BitVec.ofNat 32 (src % 512 + (k % 1024) * 2 ^ 16))
    exact ⟨h1.trans hheld, h2, h3, h4, s.gf_ginc rMissed 1 (by decide)⟩
  · unfold State.snapArm
    dsimp only
    split <;> rfl
  · unfold State.snapArm
    dsimp only
    split <;> rfl
  · unfold State.snapArm
    dsimp only
    rw [if_neg (fun h => hmiss h.2)]
    exact ⟨rfl, rfl⟩
  · unfold State.snapArm
    dsimp only
    rw [if_pos ⟨hheld, hmiss⟩]
    exact ⟨rfl, rfl, (State.g_gset_ne _ (by decide) _).trans (s.g_gset _ _)⟩
  · exact (execSnapshotLatch_due ht hw h0 hdev).trans (by rw [State.latched, State.now_noteLatch, State.now_eachLatch])
  · exact (State.slotLo_noteLatch _ _).trans (by rw [State.now_eachLatch])
  · exact (State.p_noteLatch _ _ pl _).trans (s.p_eachLatch pl hr hi hl)
  · exact (congrArg Test.wir s.testFall_steady.test :)
  · exact s.ready_testFall
  · exact s.live_testFall hp
  · rfl

end Sys2Proof.Machine

namespace Sys2Proof.Machine

/-! ### Commands to a quire (R294, R297) -/

section

variable (s : State) (q : Nat)

theorem State.gf_pwrResult {r p : Nat} (quire : Nat) (device auto : Bool) (hr : r < 16) :
    (s.pwrResult r quire device auto p).gf rPwrResult 0 4 = r ∧ (s.pwrResult r quire device auto p).gf rPwrResult 8 7 = p % 128 := by
  have hd : b2n device ≤ 1 := by cases device <;> decide
  have ha : b2n auto ≤ 1 := by cases auto <;> decide
  unfold State.pwrResult State.gf fld
  rw [State.g_gset, BitVec.toNat_ofNat]
  omega

theorem State.qp_pwrResult (r quire : Nat) (device auto : Bool) (p i : Nat) : (s.pwrResult r quire device auto p).qp i = s.qp i := rfl

theorem State.quireCmd_run (x : Nat) (auto : Bool) : s.quireCmd q x .run auto =
    if (s.qp q).state = .run then s.pwrResult 0 q false auto 0x7F else (s.pwrResult 0 q false auto 0x7F).beginExit q x false := rfl

theorem State.quireCmd_shallower {x : Nat} {target : PState} {auto : Bool} (hc : target.code ≤ (s.qp q).state.code)
    (hrun : target = .run → (s.qp q).state = .run) : s.quireCmd q x target auto = s.pwrResult 0 q false auto 0x7F := by
  unfold State.quireCmd
  dsimp only
  by_cases hr : target = .run
  · rw [if_pos hr, if_pos (hrun hr)]
  · rw [if_neg hr, if_pos hc]

theorem State.quireCmd_refused {x : Nat} {target : PState} {auto : Bool} {r p : Nat} (hrun : target ≠ .run)
    (hc : (s.qp q).state.code < target.code) (h : s.refusal q = some (r, p)) : s.quireCmd q x target auto = s.pwrResult r q false auto p := by
  unfold State.quireCmd
  dsimp only
  rw [if_neg hrun, if_neg (Nat.not_le.2 hc)]
  simp only [h]

theorem State.quireCmd_enters {x : Nat} {target : PState} {auto : Bool} (hrun : target ≠ .run) (hc : (s.qp q).state.code < target.code)
    (h : s.refusal q = none) : s.quireCmd q x target auto = s.beginEntry q target auto false := by
  unfold State.quireCmd
  dsimp only
  rw [if_neg hrun, if_neg (Nat.not_le.2 hc)]
  simp only [h]

theorem State.qp_beginEntry (target : PState) (auto device : Bool) : (s.beginEntry q target auto device).qp q = { s.qp q with
    entry := some { target := target, step := .close, slot := s.now, start := 0, auto := auto, device := device }, idleSlots := 0 } :=
  s.qp_modQp q _

theorem State.qp_beginExit (x : Nat) (wake : Bool) : (s.beginExit q x wake).qp q = { s.qp q with
    exitFrom := (s.qp q).state, byWake := (s.qp q).byWake || wake, supplyReq := true,
    exitAt := if (s.qp q).state = .off then none else some x } := s.qp_modQp q _

theorem State.runPending_none (h : (s.qp q).pending = none) : s.runPending q = s := by
  unfold State.runPending
  rw [h]

/-- A quire in Idle that returns to Run (R293). -/
def QPower.resume (x : QPower) (keepWake : Bool) : QPower :=
  { x with state := .run, exitAt := none, byWake := x.byWake && keepWake, quiet := 0, idleSlots := 0 }

/-- What follows a return from Idle waits for the entry that has begun (R296). -/
theorem State.idleOver_still (h : (s.qp q).entry.isSome = true ∨ ((s.qp q).pending = none ∧ (s.qp q).byWake = false ∧ (s.qp 4).byWake = false)) :
    s.idleOver q = s.modQp q (fun x => x.resume ((s.qp q).entry.isSome || decide (q = 4))) := by
  unfold State.idleOver
  extract_lets entering wake t u
  have hwake : wake = false := by
    unfold wake entering
    rcases h with h | ⟨-, h1, h2⟩
    · rw [h]
      rfl
    · rw [h1, h2]
      exact Bool.and_false _
  have hu : u = t := if_neg (by rw [hwake]; exact Bool.false_ne_true)
  have ht : t = s.modQp q (fun x => x.resume ((s.qp q).entry.isSome || decide (q = 4))) := rfl
  rw [hu]
  split
  · exact ht
  · next hn =>
    have hpend : (t.qp q).pending = none := by
      rw [ht, State.qp_modQp]
      exact (h.resolve_left hn).1
    rw [t.runPending_none q hpend, ht]

end

/-- A device command that one quire must refuse (R304). -/
theorem State.deviceEntry_refused (s : State) {target : PState} {q r p : Nat}
    (h : ((List.range s.variant.quires).filter (fun q => decide ((s.qp q).state.code < target.code) || (s.qp q).returning)).findSome?
      (fun q => (s.refusal q).map (fun x => (q, x))) = some (q, r, p)) : s.deviceEntry target = s.pwrResult r q true false p := by
  unfold State.deviceEntry
  dsimp only
  rw [h]

/-- Settles O39: power commands and the automatic policy. -/
theorem powerCommands : Obligations.PowerCommands := by
  refine ⟨fun s => ⟨fun r quires device h => ⟨State.cwWrite_allowed h fun t => t.powerCmd quires device .run,
      State.cwWrite_allowed h fun t => t.powerCmd quires device .sleep, State.cwWrite_allowed h fun t => t.powerCmd quires device .deep,
      State.cwWrite_allowed h fun t => t.powerCmd quires device .off⟩, fun q target hm => ?_, fun q target hm => ?_,
      fun q x target auto hrun hc => ⟨fun hr => ?_, fun r p hr h16 h128 i => ?_⟩, fun q x target auto hc hrun i => ?_, fun q x auto hne => ?_,
      fun target q r p hrun h => ?_⟩,
    fun s q => ⟨fun h0 hdone hdev htgt hst hmov hquiet hflit hempty => ?_, fun hst hdev hoff => ?_, fun h => ?_,
      fun h1 hq hdev hst hmov hslots hvotes => ?_⟩⟩
  · unfold State.quireOrPend
    rw [if_pos hm, State.qp_modQp]
  · unfold State.quireOrPend
    rw [if_neg (by rw [hm]; exact Bool.false_ne_true)]
    rfl
  · rw [s.quireCmd_enters q hrun hc hr, State.qp_beginEntry]
    exact ⟨rfl, rfl⟩
  · rw [s.quireCmd_refused q hrun hc hr]
    obtain ⟨hres, hport⟩ := s.gf_pwrResult (p := p) q false auto h16
    exact ⟨rfl, hres, hport.trans (Nat.mod_eq_of_lt h128)⟩
  · rw [s.quireCmd_shallower q hc hrun]
    exact ⟨s.qp_pwrResult 0 q false auto 0x7F i, (s.gf_pwrResult (r := 0) (p := 0x7F) q false auto (by decide)).1⟩
  · have hq := (s.pwrResult 0 q false auto 0x7F).qp_beginExit q x false
    rw [s.quireCmd_run q, if_neg hne, hq, State.qp_pwrResult]
    exact ⟨rfl, rfl, rfl⟩
  · unfold State.powerCmd
    rw [if_neg (by decide), if_neg hrun, s.deviceEntry_refused h]
  · show execAutoIdleEntry q s = _
    have hcond : (if q = 4 then s.spineEmpty else decide (q < s.variant.quires) && s.quireEmpty q && !s.gtIn q && s.votes q 1) = true := by
      by_cases h4 : q = 4
      · rw [if_pos h4] at hempty ⊢
        exact hempty
      · rw [if_neg h4] at hempty ⊢
        obtain ⟨hq, hqe, hgt, hv⟩ := hempty
        rw [decide_eq_true hq, hqe, hgt, hv]
        rfl
    unfold execAutoIdleEntry
    dsimp only
    rw [if_pos ⟨h0, hdone, hdev, htgt, hst, by rw [hmov]; decide, hquiet, by rw [hflit]; decide, hcond⟩]
  · show execIdleExit q s = _
    unfold execIdleExit
    dsimp only
    rw [if_pos ⟨hst, hdev, hoff⟩]
  · rw [s.idleOver_still q h, State.qp_modQp]
    exact ⟨rfl, rfl, rfl, rfl, fun i hi => s.qp_modQp_ne hi _⟩
  · show execAutoSleepEntry q s = _
    unfold execAutoSleepEntry
    dsimp only
    rw [if_pos ⟨h1, hq, hdev, hst, by rw [hmov]; decide, hslots, hvotes⟩]

end Sys2Proof.Machine

namespace Sys2Proof.Machine

/-! ### Folds in which one step matters -/

/-- What one element's step makes, when every other element's step leaves it alone. -/
theorem foldl_once.{v} {α : Sort v} {β : Type} (l : List β) (hl : l.Nodup) (f : State → β → State) (obs : State → α) {b : β} (hb : b ∈ l)
    (hother : ∀ t c, c ≠ b → obs (f t c) = obs t) (s : State) : ∃ u, obs u = obs s ∧ obs (l.foldl f s) = obs (f u b) := by
  induction l using snocInduction with
  | nil => exact absurd hb List.not_mem_nil
  | append_singleton l c ih =>
    rw [List.foldl_append, List.foldl_cons, List.foldl_nil]
    obtain ⟨hl, -, hdisj⟩ := List.nodup_append.1 hl
    by_cases hc : c = b
    · subst hc
      refine ⟨l.foldl f s, foldl_same_of_mem l f obs (fun t d hd => hother t d fun e => ?_) s, rfl⟩
      exact hdisj d hd c (List.mem_singleton_self c) e
    · obtain ⟨u, hu, hf⟩ := ih hl ((List.mem_append.1 hb).resolve_right fun h => hc (List.mem_singleton.1 h).symm)
      exact ⟨u, hu, (hother _ c hc).trans hf⟩

/-! ### Islands lock again (R91, R99) -/

section

variable (s : State) (pl : Pl)

theorem State.outer_eachPlane (f : Pl → State → State) (h : ∀ q t, (f q t).outer = t.outer) : (s.eachPlane f).outer = s.outer :=
  s.eachPlane_same f State.outer h

@[simp] theorem State.outer_pltAdd (l : List SbOut) : (s.pltAdd l).outer = s.outer :=
  s.outer_eachPlane _ fun q t => (State.outer_sbIssue _ q).trans (t.outer_modSb q _)

@[simp] theorem State.outer_pltFlags (hit : TabEnd → TabEnd → Bool) : (s.pltFlags hit).outer = s.outer := by
  unfold State.pltFlags
  exact State.outer_ite rfl (s.outer_pltAdd _)

theorem State.isl_modIsl_same (i : Nat) (f : Island → Island) : ((s.modIsl pl i f).pln pl).isl.rd i {} = f ((s.pln pl).isl.rd i {}) := by
  rw [State.modIsl, State.modPln_pln]
  exact Tab.rd_upd_same _ _ _ _

theorem State.isl_modIsl_ne {i j : Nat} (h : j ≠ i) (f : Island → Island) :
    ((s.modIsl pl i f).pln pl).isl.rd j {} = (s.pln pl).isl.rd j {} := by
  rw [State.modIsl, State.modPln_pln]
  exact Tab.rd_upd_ne _ _ _ _ h

theorem State.pln_modIsl_other {q : Pl} (h : q ≠ pl) (i : Nat) (f : Island → Island) : (s.modIsl pl i f).pln q = s.pln q :=
  s.modPln_pln_ne h _

theorem State.pw_modIsl (i : Nat) (f : Island → Island) : (s.modIsl pl i f).pw = s.pw := s.modPln_pw pl _

/-- An island that is locked, with the plane's slot number as its copy (R91, R92). -/
def Island.relocked (x : Island) (copy : BitVec 64) : Island :=
  { x with locked := true, copy := copy, disagree := 0, marked := false, gaveUp := false }

theorem State.outer_relocked (i : Nat) : (s.relocked pl i).outer =
    ((s.lockIsland pl i).modIsl pl i (fun x => { x with marked := false, gaveUp := false })).outer := by
  unfold State.relocked
  exact State.outer_ite (State.outer_pltFlags _ _) rfl

theorem State.isl_relocked_same (i : Nat) : ((s.relocked pl i).pln pl).isl.rd i {} = ((s.pln pl).isl.rd i {}).relocked (s.planeSlot pl) := by
  rw [State.isl_of_outer (s.outer_relocked pl i), State.isl_modIsl_same, State.lockIsland, State.isl_modIsl_same]
  rfl

theorem State.isl_relocked_ne {i j : Nat} (h : j ≠ i) : ((s.relocked pl i).pln pl).isl.rd j {} = (s.pln pl).isl.rd j {} := by
  rw [State.isl_of_outer (s.outer_relocked pl i), State.isl_modIsl_ne _ _ h, State.lockIsland, State.isl_modIsl_ne _ _ h]

theorem State.pw_relocked (i : Nat) : (s.relocked pl i).pw = s.pw := by
  rw [State.pw_of_outer (s.outer_relocked pl i), State.pw_modIsl, State.lockIsland, State.pw_modIsl]

theorem State.pw_lockDueIn (l : List Nat) : (s.lockDueIn pl l).pw = s.pw :=
  foldl_same _ _ State.pw (fun t i => t.pw_relocked pl i) s

theorem State.pw_islandsBack (l : List Nat) : (s.islandsBack l).pw = s.pw :=
  foldl_same _ _ State.pw (fun t pl => t.pw_lockDueIn pl _) s

theorem State.pw_risePort (p : Nat) : (s.risePort p).pw = s.pw :=
  (State.eachPlane_same _ _ State.pw fun q t => t.modSb_pw q _).trans rfl

theorem State.pw_openQuire (q : Nat) : (s.openQuire q).pw = s.pw :=
  foldl_same _ _ State.pw (fun t p => by
    split
    · exact t.pw_risePort p
    · rfl) s

theorem State.pw_reloadPlane (q : Nat) : (s.reloadPlane q pl).pw = s.pw := by
  refine (foldl_same _ _ State.pw (fun t r => ?_) _).trans (s.modPln_pw pl _)
  have hin : (if r.dest / 24 = q then t.modNi pl r.dest (fun n => { n with rets := n.rets ++ [{ r.reservation with off := true }] }) else t).pw
      = t.pw := by
    split
    · exact t.modNi_pw pl _ _
    · rfl
  dsimp only
  split
  · exact (State.modPln_pw _ pl _).trans hin
  · exact hin

end

/-! ### Wakes (R301, R303) -/

section

variable (s : State)

theorem State.qp_of_pw {t : State} (h : t.pw = s.pw) (q : Nat) : t.qp q = s.qp q := by rw [State.qp, h]; rfl

/-- What a wake does to the spine-link island in Idle (R293). -/
def State.wakeSpine (s : State) : State :=
  if s.pw.dev = .run ∧ (s.qp 4).state = .idle ∧ (s.qp 4).exitAt = none then s.beginExit 4 s.nextBoundary true else s

/-- A wake in Run, when the device begins nothing itself. -/
theorem State.wake_running (c : Nat) (hdev : s.pw.dev = .run) (htgt : s.pw.devTarget = none) : s.wake c =
    (s.quiresOf (BitVec.ofNat 4 (s.gf rWakeCtrl 0 4))).foldl (fun t q => t.wakeQuire s.nextBoundary q)
      (s.wakeSpine.noteWake (bitMask c)) := by
  have hspine : s.wakeSpine.pw.devTarget = none := by
    unfold State.wakeSpine
    split
    · exact htgt
    · exact htgt
  have hnote : (s.wakeSpine.noteWake (bitMask c)).pw.devTarget = none := hspine
  unfold State.wake
  rw [if_neg (by rw [hdev]; decide)]
  extract_lets qs x up s1 s2 s3 s4 t5 p5 s5
  have hup : up = false := decide_eq_false (fun h => h.1 hdev)
  have h1 : s1 = s := if_neg (by rw [hup]; exact Bool.false_ne_true)
  have h2 : s2 = s1 := if_neg (by rw [hup, h1, htgt]; decide)
  have h3 : s3 = s.wakeSpine := by
    unfold s3
    rw [h2, h1]
    rfl
  have h4 : s4 = s.wakeSpine.noteWake (bitMask c) := by
    unfold s4
    rw [h3]
  have h4t : ¬s4.pw.devTarget.isSome = true := by
    rw [h4, hnote]
    decide
  unfold s5
  rw [if_neg h4t, h4]

theorem State.qp_noteWake (bits : W32) (q : Nat) : (s.noteWake bits).qp q = s.qp q := rfl

theorem State.g_noteWake (bits : W32) : (s.noteWake bits).g rWakeStatus = s.g rWakeStatus ||| bits := s.g_gset _ _

theorem State.qp_wakeQuire_ne (x : Nat) {q i : Nat} (h : i ≠ q) : (s.wakeQuire x q).qp i = s.qp i := by
  unfold State.wakeQuire
  dsimp only
  split
  · rw [State.qp_noteWake, State.qp_modQp_ne _ h]
  · split
    · rfl
    · exact s.qp_modQp_ne h _

theorem State.wakeQuire_sleeping (x q : Nat) (he : (s.qp q).entry = none) (hst : (s.qp q).state ≠ .run) (hm : (s.qp q).moving = false) :
    s.wakeQuire x q = s.beginExit q x true := by
  unfold State.wakeQuire
  dsimp only
  rw [if_neg (by rw [he]; decide), if_neg (by rw [hm]; exact fun h => h.elim hst Bool.false_ne_true)]

theorem State.bit_wakeQuire (x q : Nat) {c : Nat} (h : bit (s.g rWakeStatus) c = true) : bit ((s.wakeQuire x q).g rWakeStatus) c = true := by
  unfold State.wakeQuire
  dsimp only
  split
  · rw [State.g_noteWake, bit, BitVec.getLsbD_or]
    exact Bool.or_eq_true_iff.2 (.inl h)
  · split
    · exact h
    · exact h

theorem State.mem_quiresOf {m : BitVec 4} {q : Nat} : q ∈ s.quiresOf m ↔ q < s.variant.quires ∧ m.getLsbD q = true := by
  rw [State.quiresOf, List.mem_filter, List.mem_range]

theorem State.nodup_quiresOf (m : BitVec 4) : (s.quiresOf m).Nodup := List.nodup_range.filter _

/-- WAKE_CTRL names the quires that a wake brings back (R301). -/
theorem State.mem_wakeCtrl {q : Nat} (hv : q < s.variant.quires) (hq : q < 4) (h : s.gf rWakeCtrl q 1 = 1) :
    q ∈ s.quiresOf (BitVec.ofNat 4 (s.gf rWakeCtrl 0 4)) := by
  have hbit : bit (s.g rWakeCtrl) q = true := by
    rw [State.gf, fld_one] at h
    cases hb : bit (s.g rWakeCtrl) q with
    | true => rfl
    | false => rw [hb] at h; exact absurd h (by decide)
  refine s.mem_quiresOf.2 ⟨hv, ?_⟩
  rw [BitVec.getLsbD_ofNat, State.gf, testBit_fld, Nat.zero_add, hbit, decide_eq_true hq]
  rfl

theorem State.qp_wakeSpine {q : Nat} (h : q ≠ 4) : s.wakeSpine.qp q = s.qp q := by
  unfold State.wakeSpine
  split
  · exact s.qp_modQp_ne h _
  · rfl

/-- The bit of what woke the block (R301). -/
theorem State.bit_wake {c : Nat} (hc : c < 4) (hdev : s.pw.dev = .run) (htgt : s.pw.devTarget = none) : (s.wake c).gf rWakeStatus c 1 = 1 := by
  rw [s.wake_running c hdev htgt, State.gf, fld_one]
  have hset : bit ((s.wakeSpine.noteWake (bitMask c)).g rWakeStatus) c = true := by
    rw [State.g_noteWake, bit, BitVec.getLsbD_or]
    exact Bool.or_eq_true_iff.2 (.inr (bit_bitMask (by omega)))
  have hall : bit (((s.quiresOf (BitVec.ofNat 4 (s.gf rWakeCtrl 0 4))).foldl (fun t q => t.wakeQuire s.nextBoundary q)
      (s.wakeSpine.noteWake (bitMask c))).g rWakeStatus) c = true :=
    List.foldlRecOn (motive := fun t : State => bit (t.g rWakeStatus) c = true) _ _ hset fun t ht q _ => t.bit_wakeQuire _ q ht
  rw [hall]
  rfl

/-- A quire that WAKE_CTRL names begins its return. -/
theorem State.qp_wake (c : Nat) {q : Nat} (hdev : s.pw.dev = .run) (htgt : s.pw.devTarget = none) (hv : q < s.variant.quires) (hq : q < 4)
    (hctrl : s.gf rWakeCtrl q 1 = 1) (he : (s.qp q).entry = none) (hst : (s.qp q).state ≠ .run) (hm : (s.qp q).moving = false) :
    (s.wake c).qp q = { s.qp q with
      exitFrom := (s.qp q).state, byWake := (s.qp q).byWake || true, supplyReq := true,
      exitAt := if (s.qp q).state = .off then none else some s.nextBoundary } := by
  rw [s.wake_running c hdev htgt]
  obtain ⟨u, hu, hfold⟩ := foldl_once _ (s.nodup_quiresOf _) (fun t q => State.wakeQuire t s.nextBoundary q) (fun t => t.qp q)
    (s.mem_wakeCtrl hv hq hctrl) (fun t i hi => t.qp_wakeQuire_ne _ (Ne.symm hi)) (s.wakeSpine.noteWake (bitMask c))
  have hqu : u.qp q = s.qp q := hu.trans (s.qp_wakeSpine (by omega))
  have hwake := u.wakeQuire_sleeping s.nextBoundary q (by rw [hqu]; exact he) (by rw [hqu]; exact hst) (by rw [hqu]; exact hm)
  rw [hfold]
  dsimp only
  rw [hwake, State.qp_beginExit, hqu]

/-- The spine-link island returns from Idle (R293). -/
theorem State.spine_wake (c : Nat) (hdev : s.pw.dev = .run) (htgt : s.pw.devTarget = none) (hst : (s.qp 4).state = .idle)
    (hx : (s.qp 4).exitAt = none) : ((s.wake c).qp 4).exitAt = some s.nextBoundary := by
  have hq4 := Variant.quires_le s.variant
  have hspine : s.wakeSpine = s.beginExit 4 s.nextBoundary true := if_pos ⟨hdev, hst, hx⟩
  rw [s.wake_running c hdev htgt, foldl_same_of_mem _ _ (fun t => t.qp 4)
    (fun t q hq => t.qp_wakeQuire_ne _ (by have := (s.mem_quiresOf.1 hq).1; omega)), State.qp_noteWake, hspine, State.qp_beginExit, hst]
  rfl

end

/-! ### Returns to Run (R303) -/

section

variable (s : State)

theorem State.deviceBack_none (h : s.pw.devExitAt = none) : s.deviceBack = s := by
  unfold State.deviceBack
  rw [h]

/-- The device and the spine-link island are back in Run (R303). -/
def State.deviceRuns (s : State) : State :=
  ({ s with pw := { s.pw with dev := .run, devExitAt := none } } : State).modQp 4 (fun p => { p with state := .run, exitAt := none })

theorem State.pw_deviceBack {x : Nat} (h : s.pw.devExitAt = some x) (hx : x + s.deviceTime ≤ s.now)
    (hk : s.pw.devFrom = .sleep ∨ s.allKeys = true) : s.deviceBack.pw = s.deviceRuns.pw := by
  unfold State.deviceBack
  rw [h]
  dsimp only
  rw [if_pos ⟨hx, hk⟩, State.pw_of_outer (State.outer_eachPlane _ _ fun q t => t.outer_sbIssue q), State.pw_islandsBack]
  rfl

theorem State.pw_wakeDone : s.wakeDone.pw = if s.pw.devExitAt.isSome ∨ (s.qp 4).exitAt.isSome ∨
    (List.range s.variant.quires).any (fun q => (s.qp q).byWake) then s.pw else (s.modQp 4 (fun p => { p with byWake := false })).pw := by
  unfold State.wakeDone
  split
  · rfl
  · exact (State.Records.occurInfo (C := fun _ => True) (W := fun _ => True) _ (by decide) _).pw

theorem State.qp_wakeDone {q : Nat} (h : q ≠ 4) : s.wakeDone.qp q = s.qp q := by
  rw [State.qp, s.pw_wakeDone]
  split
  · rfl
  · exact s.qp_modQp_ne h _

theorem State.dev_wakeDone : s.wakeDone.pw.dev = s.pw.dev ∧ s.wakeDone.pw.devExitAt = s.pw.devExitAt := by
  rw [s.pw_wakeDone]
  split <;> exact ⟨rfl, rfl⟩

theorem State.qp_quireBack {q : Nat} (hq : q < 4) (reload : Bool) (hp : (s.qp q).pending = none) :
    ((s.quireBack q reload).qp q).state = .run ∧ ((s.quireBack q reload).qp q).exitAt = none := by
  unfold State.quireBack
  extract_lets wake s1 s2 s3 s4
  have h1 : s1.pw = s.pw := by
    unfold s1
    split
    · exact foldl_same _ _ State.pw (fun t pl => t.pw_reloadPlane pl q) s
    · rfl
  have h2 : s2.qp q = s.qp q := State.qp_of_pw _ ((s1.pw_islandsBack _).trans h1) q
  have h4 : s4.qp q = { s.qp q with state := .run, exitAt := none, byWake := false, quiet := 0, flitSeen := false } := by
    rw [State.qp_of_pw s3 (s3.pw_openQuire q), State.qp_modQp, h2]
  have h5 : (if wake then s4.wakeDone else s4).qp q = s4.qp q := by
    split
    · exact s4.qp_wakeDone (by omega)
    · rfl
  rw [State.runPending_none _ q (by rw [h5, h4]; exact hp), h5, h4]
  exact ⟨rfl, rfl⟩

theorem State.mustReload_iff (q : Nat) (ok : Bool) : s.mustReload q ok = true ↔ (s.qp q).exitFrom = .deep ∨ (s.qp q).exitFrom = .off ∨
    ((s.qp q).exitFrom = .sleep ∧ (ok = false ∨ (s.qp q).retained ≠ s.gf (rQpwr q) 0 16)) := by
  unfold State.mustReload
  dsimp only
  simp only [Bool.or_eq_true, Bool.and_eq_true, decide_eq_true_eq, Bool.not_eq_true', or_assoc]

theorem execQuireExitComplete_device {x : Nat} (ok : Bool) (h0 : s.fcInSlot = 0) (h : s.pw.devExitAt = some x)
    (hx : x + s.deviceTime ≤ s.now) (hk : s.pw.devFrom = .sleep ∨ s.allKeys = true) :
    execQuireExitComplete 4 ok s = .next (if (s.deviceBack.qp 4).byWake then s.deviceBack.wakeDone else s.deviceBack) := by
  have hpw := s.pw_deviceBack h hx hk
  have hexit : (s.deviceBack.qp 4).exitAt = none := by
    rw [State.qp, hpw]
    exact congrArg QPower.exitAt (State.qp_modQp _ 4 _)
  have hdev : s.deviceBack.pw.devExitAt = none := by rw [hpw]; rfl
  unfold execQuireExitComplete
  rw [if_neg (by omega)]
  extract_lets back t
  rw [if_pos rfl]
  have hback : back = true := by
    unfold back
    rw [h]
    rfl
  split
  · next hs => exact absurd (hexit.symm.trans hs) (by simp)
  · rw [hback]
    congr 1
    by_cases hw : (s.deviceBack.qp 4).byWake = true
    · rw [if_pos ⟨rfl, hdev, hw⟩, if_pos hw]
    · rw [if_neg (fun h => hw h.2.2), if_neg hw]

end

/-- Settles O41: wakes begin the return of what they name, and returns end in Run. -/
theorem wakeAndReturn : Obligations.WakeAndReturn := by
  intro s
  refine ⟨fun h => ?_, fun h h8 hdev halarm => ?_, fun m h hm hdev => ?_,
    fun c hc hdev htgt => ⟨s.bit_wake hc hdev htgt, fun q hv hctrl hq he hst hmov => ?_⟩,
    fun c hdev htgt hst hx => s.spine_wake c hdev htgt hst hx, fun c hdev => ⟨?_, ?_⟩, fun q hst hreq hack => ?_,
    fun q hdev hreq hack => ?_, fun q x ok h0 hv hq hdev hnone hx htime hkeys => ?_, fun q reload hq hp => s.qp_quireBack hq reload hp,
    fun x ok h0 hnone hx htime => ?_, fun x ok h0 hx htime hk => ?_, fun q ok => s.mustReload_iff q ok⟩
  · show execWakeIn s = _
    unfold execWakeIn
    rw [if_pos h]
  · show execAlarmWake s = _
    unfold execAlarmWake
    rw [if_pos ⟨h, h8, hdev, halarm⟩]
  · show execMpWake m s = _
    unfold execMpWake
    rw [if_pos ⟨h, hm, hdev⟩]
  · have hwake := s.qp_wake c hdev htgt hv hq hctrl he hst hmov
    rw [hwake]
    exact ⟨rfl, Bool.or_true _, rfl, rfl⟩
  · unfold State.wake
    rw [if_pos hdev]
  · unfold State.wake
    rw [if_pos hdev]
    rfl
  · refine (execSupplyAck_quire s q).trans ?_
    rw [if_pos ⟨hst, hreq, by rw [hack]; decide⟩]
  · refine (execSupplyAck_device s q).trans ?_
    rw [if_pos ⟨hdev, hreq, by rw [hack]; decide⟩]
  · show execQuireExitComplete q ok s = _
    unfold execQuireExitComplete
    rw [if_neg (by omega), s.deviceBack_none hnone]
    dsimp only
    rw [if_neg (by omega), hx]
    dsimp only
    rw [if_pos ⟨hv, hdev, htime, hkeys⟩]
  · show execQuireExitComplete 4 ok s = _
    unfold execQuireExitComplete
    rw [if_neg (by omega), s.deviceBack_none hnone]
    dsimp only
    rw [if_pos rfl, hx]
    dsimp only
    rw [if_pos htime]
  · refine ⟨_, execQuireExitComplete_device s ok h0 hx htime hk, ?_⟩
    have hpw := s.pw_deviceBack hx htime hk
    obtain ⟨hd1, hd2⟩ := s.deviceBack.dev_wakeDone
    split
    · exact ⟨hd1.trans (by rw [hpw]; rfl), hd2.trans (by rw [hpw]; rfl)⟩
    · rw [hpw]
      exact ⟨rfl, rfl⟩

end Sys2Proof.Machine

namespace Sys2Proof.Machine

/-! ### What the NIs leave alone

An NI works in its own tables, in the plane's registers and counters, and in what has come in at its port. -/

/-- What stands outside of a plane's NIs: its routers, engines, services and islands. -/
def Plane.aroundNis (x : Plane) : Plane := { x with free := 0, rf := [], ctr := [], ctrHi := [], ni := [] }

/-- What stands outside of the NIs and of the records that every unit makes. -/
def State.aroundNis (s : State) : State × (Nat → W32) :=
  ({ s with hw := {}, evt := {}, snp := {}, rf := [], ports := [], pa := s.pa.aroundNis, pb := s.pb.aroundNis },
    fun o => if infoWord o then 0 else s.g o)

section

variable {s t : State}

theorem State.aroundNis_same (h : t.aroundNis = s.aroundNis) :
    { t with hw := {}, evt := {}, snp := {}, rf := [], ports := [], pa := {}, pb := {} } =
      ({ s with hw := {}, evt := {}, snp := {}, rf := [], ports := [], pa := {}, pb := {} } : State) :=
  (congrArg (fun x : State × (Nat → W32) => ({ x.1 with pa := {}, pb := {} } : State)) h :)

theorem State.pw_of_aroundNis (h : t.aroundNis = s.aroundNis) : t.pw = s.pw := (congrArg State.pw (State.aroundNis_same h) :)
theorem State.variant_of_aroundNis (h : t.aroundNis = s.aroundNis) : t.variant = s.variant := (congrArg State.variant (State.aroundNis_same h) :)

end

section

variable (s : State) (pl : Pl)

theorem State.aroundNis_ite {c : Prop} [Decidable c] {s a b : State} (ha : a.aroundNis = s.aroundNis) (hb : b.aroundNis = s.aroundNis) :
    (if c then a else b).aroundNis = s.aroundNis := by
  split
  · exact ha
  · exact hb

theorem State.aroundNis_modPln (f : Plane → Plane) (h : (f (s.pln pl)).aroundNis = (s.pln pl).aroundNis) :
    (s.modPln pl f).aroundNis = s.aroundNis := by
  cases pl with
  | a => exact congrArg (fun x => (({ s with hw := {}, evt := {}, snp := {}, rf := [], ports := [], pa := x, pb := s.pb.aroundNis } : State),
      fun o => if infoWord o then 0 else s.g o)) h
  | b => exact congrArg (fun x => (({ s with hw := {}, evt := {}, snp := {}, rf := [], ports := [], pa := s.pa.aroundNis, pb := x } : State),
      fun o => if infoWord o then 0 else s.g o)) h

@[simp] theorem State.aroundNis_modNi (p : Nat) (f : Ni → Ni) : (s.modNi pl p f).aroundNis = s.aroundNis := s.aroundNis_modPln pl _ rfl

@[simp] theorem State.aroundNis_modPort (p : Nat) (f : Port → Port) : (s.modPort p f).aroundNis = s.aroundNis := rfl

@[simp] theorem State.aroundNis_pset (off : Nat) (v : W32) : (s.pset pl off v).aroundNis = s.aroundNis := s.aroundNis_modPln pl _ rfl

theorem State.Records.aroundNis {C W : Nat → Prop} {s t : State} (h : s.Records C W t) : t.aroundNis = s.aroundNis := by
  have hplane : ∀ pl, (t.pln pl).aroundNis = (s.pln pl).aroundNis := fun pl => by rw [h.planes pl]; rfl
  have hg : (fun o => if infoWord o then 0 else t.g o) = fun o => if infoWord o then 0 else s.g o := by
    funext o
    cases ho : infoWord o with
    | true => rfl
    | false => exact h.shared o ho
  unfold State.aroundNis
  rw [hg, show t.pa.aroundNis = s.pa.aroundNis from hplane .a, show t.pb.aroundNis = s.pb.aroundNis from hplane .b, h.same]

@[simp] theorem State.aroundNis_pinc (off lo len n : Nat) : (s.pinc pl off lo len n).aroundNis = s.aroundNis :=
  (State.aroundNis_pset _ pl _ _).trans (State.Records.noteInc (C := fun _ => True) (W := fun _ => True) s _ _ _ _ _).aroundNis

@[simp] theorem State.aroundNis_por (off : Nat) (m : W32) : (s.por pl off m).aroundNis = s.aroundNis :=
  (State.Records.por (C := fun _ => True) (W := fun _ => True) s pl trivial m).aroundNis

@[simp] theorem State.aroundNis_countNi (p code qual : Nat) (owner : Option Nat) : (s.countNi pl p code qual owner).aroundNis = s.aroundNis :=
  (s.countNi_records pl p code qual owner).aroundNis

@[simp] theorem State.aroundNis_niPass (p vc : Nat) (fs : List Flit) : (s.niPass pl p vc fs).aroundNis = s.aroundNis := by
  unfold State.niPass
  dsimp only
  exact State.aroundNis_ite (s.aroundNis_modPort p _) (s.aroundNis_modNi pl p _)

@[simp] theorem State.aroundNis_niLookup (p page owner priv : Nat) (sample write : Bool) :
    (s.niLookup pl p page owner priv sample write).aroundNis = s.aroundNis := by
  unfold State.niLookup
  exact State.aroundNis_ite rfl ((State.aroundNis_niPass _ pl p _ _).trans (s.aroundNis_modNi pl p _))

@[simp] theorem State.aroundNis_demote (p : Nat) (q : Piece) : (s.demote pl p q).1.aroundNis = s.aroundNis := by
  unfold State.demote
  split
  · refine (State.aroundNis_modNi _ pl p _).trans ?_
    exact State.aroundNis_ite (s.aroundNis_pinc pl _ _ _ _) rfl
  · rfl

@[simp] theorem State.aroundNis_resolvePiece (p : Nat) (q : Piece) : (s.resolvePiece pl p q).1.aroundNis = s.aroundNis := by
  unfold State.resolvePiece
  split
  · rfl
  split
  · rfl
  extract_lets n wr
  split
  · split
    · rfl
    · exact s.aroundNis_pinc pl _ _ _ _
  split
  · exact (State.aroundNis_demote _ pl p _).trans
      (State.aroundNis_ite ((State.aroundNis_niLookup _ pl p _ _ _ _ _).trans (s.aroundNis_modNi pl p _)) (s.aroundNis_modNi pl p _))
  · exact (State.aroundNis_niLookup _ pl p _ _ _ _ _).trans
      (State.aroundNis_ite rfl ((State.aroundNis_countNi _ pl p _ _ _).trans (s.aroundNis_pinc pl _ _ _ _)))

/-- A walk over pieces leaves alone what each of its steps leaves alone. -/
theorem foldl_walk_same.{v} {α : Sort v} {γ δ : Type} (l : List γ) (f : State × δ → γ → State × δ) (obs : State → α)
    (h : ∀ a q, obs (f a q).1 = obs a.1) (a : State × δ) : obs (l.foldl f a).1 = obs a.1 := by
  induction l generalizing a with
  | nil => rfl
  | cons q l ih => exact (ih (f a q)).trans (h a q)

@[simp] theorem State.aroundNis_resolveAll (p : Nat) : (s.resolveAll pl p).aroundNis = s.aroundNis := by
  unfold State.resolveAll
  extract_lets n walk a b
  have ha : a.1.aroundNis = s.aroundNis := by
    refine foldl_walk_same _ _ State.aroundNis (fun a q => ?_) (s, [])
    refine (State.aroundNis_demote _ pl p _).trans ?_
    split
    · rfl
    · exact a.1.aroundNis_resolvePiece pl p q
  have hb : b.1.aroundNis = a.1.aroundNis := by
    refine foldl_walk_same _ _ State.aroundNis (fun a q => ?_) (a.1, [])
    exact a.1.aroundNis_resolvePiece pl p q
  exact (State.aroundNis_modNi _ pl p _).trans (hb.trans ha)

@[simp] theorem State.aroundNis_niSettle (p : Nat) : (s.niSettle pl p).aroundNis = s.aroundNis := by
  unfold State.niSettle
  rw [State.aroundNis_modNi, State.aroundNis_resolveAll, State.aroundNis_modNi]

@[simp] theorem State.aroundNis_gtReturn (p n : Nat) : (s.gtReturn pl p n).aroundNis = s.aroundNis := by
  unfold State.gtReturn
  dsimp only
  rw [State.aroundNis_niSettle, State.aroundNis_modNi]
  refine (foldl_walk_same _ _ State.aroundNis (fun a q => ?_) _).trans (s.aroundNis_modNi pl p _)
  exact a.1.aroundNis_demote pl p _

@[simp] theorem State.aroundNis_gtDisable (r : GtRec) : (s.gtDisable pl r).aroundNis = s.aroundNis := by
  have hres : (s.gtReserve pl r true).aroundNis = s.aroundNis := s.aroundNis_modNi pl _ _
  unfold State.gtDisable
  refine State.aroundNis_ite hres ?_
  rw [State.aroundNis_gtReturn, State.aroundNis_por, hres]

end

end Sys2Proof.Machine

namespace Sys2Proof.Machine

/-! ### The steps of an entry (R298 to R300) -/

section

variable (s : State) (q : Nat)

theorem State.entryAt_eq_some {st : EStep} {e : Entry} : s.entryAt q st = some e ↔ (s.qp q).entry = some e ∧ e.step = st := by
  unfold State.entryAt
  cases (s.qp q).entry with
  | none => simp
  | some x =>
    dsimp only
    split
    · next hx => exact ⟨fun h => ⟨h, Option.some.inj h ▸ hx⟩, fun h => h.1⟩
    · next hx => exact ⟨fun h => (Option.some_ne_none _ h.symm).elim, fun h => absurd (Option.some.inj h.1 ▸ h.2) hx⟩

/-- An entry's own step moves on. -/
theorem State.entryAt_modEntry {st : EStep} {e : Entry} (f : Entry → Entry) (h : (s.qp q).entry = some e) (hst : (f e).step = st) :
    (s.modEntry q f).entryAt q st = some (f e) := by
  refine (State.entryAt_eq_some _ q).2 ⟨?_, hst⟩
  rw [State.modEntry, State.qp_modQp]
  exact congrArg (Option.map f) h

theorem nodup_portsOf (q : Nat) : (portsOf q).Nodup :=
  List.Pairwise.map (24 * q + ·) (fun a b hne h => hne (by omega)) List.nodup_range

theorem State.port_modEntry (f : Entry → Entry) (p : Nat) : (s.modEntry q f).port p = s.port p := rfl

/-- A port that closes for its quire's entry (R298). -/
def Port.closing (x : Port) : Port := { x with ready := false, draining := x.live && !x.poisoning }

/-- The ports of a quire close. -/
def State.closePorts (s : State) (q : Nat) : State := (portsOf q).foldl (fun t p => t.modPort p Port.closing) s

theorem State.pw_closePorts : (s.closePorts q).pw = s.pw :=
  foldl_same _ _ State.pw (fun t p => t.modPort_pw p Port.closing) s

theorem State.port_closePorts_mem {p : Nat} (h : p ∈ portsOf q) : (s.closePorts q).port p = (s.port p).closing := by
  obtain ⟨u, hu, hf⟩ := foldl_once _ (nodup_portsOf q) (fun t p => State.modPort t p Port.closing) (fun t => t.port p) h
    (fun t c hc => t.port_modPort_ne (Ne.symm hc) _) s
  exact hf.trans ((u.port_modPort p Port.closing).trans (congrArg Port.closing hu))

theorem State.port_closePorts_of_not_mem {p : Nat} (h : p ∉ portsOf q) : (s.closePorts q).port p = s.port p :=
  foldl_same_of_mem _ _ (fun t => t.port p) (fun t c hc => t.port_modPort_ne (fun e : p = c => h (e ▸ hc)) Port.closing) s

theorem execEntryClose_due {e : Entry} (he : s.entryAt q .close = some e) (h0 : s.fcInSlot = 0) (hslot : e.slot < s.now)
    (hb : s.ownerBusy = false) (hj : s.pair.joining = none) : execEntryClose q s =
      .next (((s.closePorts q).modEntry q (fun e => { e with step := .vacate, start := (s.closePorts q).now })).vacate q) := by
  unfold execEntryClose
  rw [he]
  dsimp only
  rw [if_pos ⟨h0, hslot, by rw [hb]; decide, hj⟩]
  rfl

theorem State.slot_closePorts : (s.closePorts q).slot = s.slot :=
  foldl_same _ _ State.slot (fun t p => t.modPort_slot p Port.closing) s

/-! ### Parked islands -/

theorem State.islLocked_modIsl_ne (pl r : Pl) {i j : Nat} (h : j ≠ i) (f : Island → Island) :
    (s.modIsl pl i f).islLocked r j = s.islLocked r j := by
  by_cases hr : r = pl
  · rw [hr, State.islLocked, s.isl_modIsl_ne pl h]
    rfl
  · rw [State.islLocked, s.pln_modIsl_other pl hr]
    rfl

theorem State.islLocked_modIsl_other {pl r : Pl} (h : r ≠ pl) (i j : Nat) (f : Island → Island) :
    (s.modIsl pl i f).islLocked r j = s.islLocked r j := by
  rw [State.islLocked, s.pln_modIsl_other pl h]
  rfl

theorem State.islLocked_forgetOff (pl r : Pl) (i j : Nat) : (s.forgetOff pl i).islLocked r j = s.islLocked r j := by
  cases r <;> rfl

/-- An island that is parked runs no more. -/
def Island.parked (x : Island) : Island := { x with locked := false, disagree := 0, coin := 0 }

/-- The islands of one plane are parked (R299). -/
theorem State.islLocked_parkIslands (pl : Pl) (l : List Nat) {i : Nat} (h : i ∈ l) : (s.parkIslands pl l).islLocked pl i = false := by
  refine foldl_settles l (fun t i => (State.forgetOff t pl i).modIsl pl i Island.parked) (fun i t => t.islLocked pl i = false)
    (fun t i => ?_) (fun t b c hc => ?_) s i h
  · rw [State.islLocked, State.isl_modIsl_same]
    rfl
  · by_cases hcb : c = b
    · rw [hcb, State.islLocked, State.isl_modIsl_same]
      rfl
    · rw [State.islLocked_modIsl_ne _ _ _ hcb, State.islLocked_forgetOff]
      exact hc

theorem State.islLocked_parkIslands_other {pl r : Pl} (h : r ≠ pl) (l : List Nat) (i : Nat) :
    (s.parkIslands pl l).islLocked r i = s.islLocked r i :=
  foldl_same _ _ (fun t => t.islLocked r i) (fun t j => by rw [State.islLocked_modIsl_other _ h, State.islLocked_forgetOff]) s

theorem State.pw_parkIslands (pl : Pl) (l : List Nat) : (s.parkIslands pl l).pw = s.pw :=
  foldl_same l (fun t i => (State.forgetOff t pl i).modIsl pl i Island.parked) State.pw (fun _ i => State.pw_modIsl _ pl i _) s

theorem State.slot_parkIslands (pl : Pl) (l : List Nat) : (s.parkIslands pl l).slot = s.slot :=
  foldl_same l (fun t i => (State.forgetOff t pl i).modIsl pl i Island.parked) State.slot (fun _ _ => State.modPln_slot _ pl _) s

/-- The islands of every plane are parked. -/
def State.parkAll (s t : State) (l : List Nat) : State := s.allPlanes.foldl (fun u pl => u.parkIslands pl l) t

theorem State.islLocked_parkAll (t : State) (l : List Nat) {pl : Pl} {i : Nat} (hpl : pl ∈ s.allPlanes) (h : i ∈ l) :
    (s.parkAll t l).islLocked pl i = false := by
  refine foldl_settles s.allPlanes (fun u pl => State.parkIslands u pl l) (fun pl u => u.islLocked pl i = false)
    (fun u pl => u.islLocked_parkIslands pl l h) (fun u r c hc => ?_) t pl hpl
  by_cases hca : c = r
  · rw [hca]
    exact u.islLocked_parkIslands r l h
  · rw [u.islLocked_parkIslands_other hca]
    exact hc

theorem State.pw_parkAll (t : State) (l : List Nat) : (s.parkAll t l).pw = t.pw :=
  foldl_same _ _ State.pw (fun u pl => u.pw_parkIslands pl l) t

/-- The GT streams of a quire that is parked are disabled (R299). -/
def State.parkStreams (s : State) (q : Nat) : State :=
  s.eachPlane (fun pl t => (t.img.gt.filter (fun r => decide (r.src / 24 = q ∨ r.dest / 24 = q))).foldl (fun t r => t.gtDisable pl r) t)

theorem State.aroundNis_parkStreams : (s.parkStreams q).aroundNis = s.aroundNis :=
  s.eachPlane_same _ State.aroundNis fun pl t => foldl_same _ _ State.aroundNis (fun u r => u.aroundNis_gtDisable pl r) t

theorem State.pw_parkStreams : (s.parkStreams q).pw = s.pw := State.pw_of_aroundNis (s.aroundNis_parkStreams q)

theorem State.allPlanes_parkStreams : (s.parkStreams q).allPlanes = s.allPlanes := by
  unfold State.allPlanes
  rw [State.variant_of_aroundNis (s.aroundNis_parkStreams q)]

theorem State.slot_parkStreams : (s.parkStreams q).slot = s.slot :=
  (congrArg State.slot (State.aroundNis_same (s.aroundNis_parkStreams q)) :)

theorem State.slot_parkAll (t : State) (l : List Nat) : (s.parkAll t l).slot = t.slot :=
  foldl_same _ _ State.slot (fun u pl => u.slot_parkIslands pl l) t

/-- A quire's islands and streams are parked (R299). -/
def State.parkQuire (s : State) (q : Nat) : State := s.parkAll (s.parkStreams q) (quireIslands q)

theorem State.pw_parkQuire : (s.parkQuire q).pw = s.pw := (s.pw_parkAll _ _).trans (s.pw_parkStreams q)

theorem State.now_parkQuire : (s.parkQuire q).now = s.now :=
  congrArg BitVec.toNat ((s.slot_parkAll _ _).trans (s.slot_parkStreams q))

theorem execEntryPark_due {e : Entry} (he : s.entryAt q .park = some e) (h0 : s.fcInSlot = 0) (hslot : e.slot < s.now) :
    execEntryPark q s = .next ((s.parkQuire q).modEntry q (fun e => { e with step := .commit, slot := s.now })) := by
  unfold execEntryPark
  rw [he]
  dsimp only
  rw [if_pos ⟨h0, hslot⟩]
  have hpark : (s.parkStreams q).allPlanes.foldl (fun t pl => t.parkIslands pl (quireIslands q)) (s.parkStreams q) = s.parkQuire q := by
    rw [State.allPlanes_parkStreams]
    rfl
  show Host.Outcome.next (((s.parkStreams q).allPlanes.foldl (fun t pl => t.parkIslands pl (quireIslands q)) (s.parkStreams q)).modEntry q
    (fun e => { e with
      step := .commit
      slot := ((s.parkStreams q).allPlanes.foldl (fun t pl => t.parkIslands pl (quireIslands q)) (s.parkStreams q)).now })) = _
  rw [hpark, State.now_parkQuire]

end

/-! ### The commit of a quire (R300) -/

section

variable (s : State) (q : Nat)

theorem State.pw_quireLinksDown (pl : Pl) : (s.quireLinksDown q pl).pw = s.pw := by
  unfold State.quireLinksDown
  rw [State.modSb_pw, foldl_same _ _ State.pw (fun t e => t.modMul_pw pl e _), foldl_same _ _ State.pw (fun t i => t.modRouter_pw pl _ _ _),
    foldl_same _ _ State.pw (fun t p => t.modNi_pw pl p _), State.modRouter_pw, foldl_same _ _ State.pw (fun t a => t.modRouter_pw pl _ _ _)]

theorem State.rf_quireLinksDown (pl : Pl) : (s.quireLinksDown q pl).rf = s.rf := by
  unfold State.quireLinksDown
  rw [State.modSb_rf, foldl_same _ _ State.rf (fun t e => t.modMul_rf pl e _), foldl_same _ _ State.rf (fun t i => t.modRouter_rf pl _ _ _),
    foldl_same _ _ State.rf (fun t p => t.modNi_rf pl p _), State.modRouter_rf, foldl_same _ _ State.rf (fun t a => t.modRouter_rf pl _ _ _)]

/-- A pending command changes neither a quire's state nor what it retains, and no word but PWR_RESULT. -/
theorem State.runPending_keeps : ((s.runPending q).qp q).state = (s.qp q).state ∧ ((s.runPending q).qp q).retained = (s.qp q).retained ∧
    ∀ o, o ≠ rPwrResult → (s.runPending q).g o = s.g o := by
  have hcmd : ∀ (t : State) x target auto, ((t.quireCmd q x target auto).qp q).state = (t.qp q).state ∧
      ((t.quireCmd q x target auto).qp q).retained = (t.qp q).retained ∧ ∀ o, o ≠ rPwrResult → (t.quireCmd q x target auto).g o = t.g o := by
    intro t x target auto
    have hres : ∀ r p, ((t.pwrResult r q false auto p).qp q).state = (t.qp q).state ∧
        ((t.pwrResult r q false auto p).qp q).retained = (t.qp q).retained ∧
        ∀ o, o ≠ rPwrResult → (t.pwrResult r q false auto p).g o = t.g o :=
      fun r p => ⟨by rw [State.qp_pwrResult], by rw [State.qp_pwrResult], fun o ho => t.g_gset_ne ho _⟩
    unfold State.quireCmd
    dsimp only
    split
    · split
      · exact hres 0 0x7F
      · have hexit := (t.pwrResult 0 q false auto 0x7F).qp_beginExit q x false
        obtain ⟨h1, h2, h3⟩ := hres 0 0x7F
        rw [hexit]
        generalize t.pwrResult 0 q false auto 0x7F = v at h1 h2 h3 ⊢
        exact ⟨h1, h2, h3⟩
    · split
      · exact hres 0 0x7F
      · split
        · exact hres _ _
        · rw [State.qp_beginEntry]
          exact ⟨rfl, rfl, fun o _ => rfl⟩
  unfold State.runPending
  split
  · next target hpend =>
    extract_lets wake t u
    have ht : (t.qp q).state = (s.qp q).state ∧ (t.qp q).retained = (s.qp q).retained := by
      unfold t
      rw [State.qp_modQp]
      exact ⟨rfl, rfl⟩
    have hu : (u.qp q).state = (s.qp q).state ∧ (u.qp q).retained = (s.qp q).retained ∧ ∀ o, o ≠ rPwrResult → u.g o = s.g o := by
      unfold u
      split
      · rw [State.qp_beginEntry]
        exact ⟨ht.1, ht.2, fun o _ => rfl⟩
      · obtain ⟨h1, h2, h3⟩ := hcmd t (if t.fcInSlot = 0 then t.now else t.nextBoundary) target false
        exact ⟨h1.trans ht.1, h2.trans ht.2, h3⟩
    rw [State.qp_modQp]
    exact hu
  · exact ⟨rfl, rfl, fun _ _ => rfl⟩

/-- A quire whose entry has committed (R300). -/
def QPower.committed (x : QPower) (target : PState) (n : Nat) : QPower :=
  { x with
    state := target, entry := none, exitAt := none, retained := n, idleSlots := 0,
    supplyReq := decide (target ≠ .off), supplyAck := decide (target ≠ .off) }

/-- The retention count after a commit (R300). -/
def State.nextRetained (s : State) (q : Nat) : Nat := (s.gf (rQpwr q) 0 16 + 1) % 65536

/-- The block at a quire's commit, before what is recorded for the quire. -/
def State.quireAsleep (s : State) (q : Nat) (e : Entry) : State :=
  let t := (((s.gfset (rQpwr q) 0 16 (s.nextRetained q)).pwrResult 0 q e.device e.auto 0x7F).modQp q
    (fun x => x.committed e.target (s.nextRetained q)))
  let u := t.allPlanes.foldl (fun t pl => t.quireLinksDown q pl) t
  u.eachPlane (fun pl t => (t.bwEndDown (epMule (2 * q)) pl).bwEndDown (epMule (2 * q + 1)) pl)

/-- The device's own entry waits for the slot of the last quire's commit (R300). -/
def State.stampCommit (s : State) : State := { s with pw := { s.pw with devSlot := s.now } }

theorem State.qp_stampCommit (i : Nat) : s.stampCommit.qp i = s.qp i := rfl

theorem State.quireCommit_eq (e : Entry) : s.quireCommit q e = (s.quireAsleep q e).stampCommit.runPending q := rfl

theorem State.qp_quireAsleep (e : Entry) : (s.quireAsleep q e).qp q = (s.qp q).committed e.target (s.nextRetained q) := by
  have hout : ∀ t : State, (t.eachPlane (fun pl t => (t.bwEndDown (epMule (2 * q)) pl).bwEndDown (epMule (2 * q + 1)) pl)).outer = t.outer :=
    fun t => t.outer_eachPlane _ fun pl u => (State.outer_bwEndDown _ pl _).trans (u.outer_bwEndDown pl _)
  unfold State.quireAsleep
  dsimp only
  rw [State.qp_of_pw _ (State.pw_of_outer (hout _)), State.qp_of_pw _ (foldl_same _ _ State.pw (fun t pl => t.pw_quireLinksDown q pl) _),
    State.qp_modQp, State.qp_pwrResult]
  rfl

theorem State.g_quireAsleep (e : Entry) {o : Nat} (ho : infoWord o = false) :
    (s.quireAsleep q e).g o = ((s.gfset (rQpwr q) 0 16 (s.nextRetained q)).pwrResult 0 q e.device e.auto 0x7F).g o := by
  have hout : ∀ t : State, (t.eachPlane (fun pl t => (t.bwEndDown (epMule (2 * q)) pl).bwEndDown (epMule (2 * q + 1)) pl)).outer = t.outer :=
    fun t => t.outer_eachPlane _ fun pl u => (State.outer_bwEndDown _ pl _).trans (u.outer_bwEndDown pl _)
  unfold State.quireAsleep
  dsimp only
  rw [State.g_of_outer (hout _) ho]
  exact (foldl_same _ _ (fun t => t.g o) (fun t pl => congrArg (fun rf : Tab W32 => rf.rd o 0) (t.rf_quireLinksDown q pl)) _).trans
    (State.g_modQp _ q _ o)

end

/-! ### The commit of the device (R300, R304) -/

section

variable (s : State)

theorem State.devicePark_eq : s.devicePark = s.parkAll (s.pwrResult 0 0 true false 0x7F) [20, 21] := by
  unfold State.devicePark State.parkAll State.allPlanes State.pwrResult
  dsimp only
  rw [State.gset_variant]

theorem State.islLocked_devicePark {pl : Pl} {i : Nat} (hpl : pl ∈ s.allPlanes) (h : i ∈ [20, 21]) : s.devicePark.islLocked pl i = false :=
  by
  rw [s.devicePark_eq]
  exact s.islLocked_parkAll _ [20, 21] hpl h

theorem State.slot_devicePark : s.devicePark.slot = s.slot := by
  rw [s.devicePark_eq, State.slot_parkAll]
  exact s.gset_slot _ _

/-- A pad hold touches the pads alone (R310). -/
theorem State.holdPads_eq (t : State) : t.holdPads = { t with pads := t.holdPads.pads } := rfl

theorem State.deviceDrop_keeps (t : State) (d : PState) : (t.deviceDrop d).pw = t.pw ∧ (t.deviceDrop d).slot = t.slot ∧
    ∀ pl, (t.deviceDrop d).pln pl = t.pln pl := by
  unfold State.deviceDrop
  split
  · exact ⟨rfl, rfl, fun _ => rfl⟩
  · rw [t.holdPads_eq]
    exact ⟨rfl, rfl, fun pl => by cases pl <;> rfl⟩

theorem State.islLocked_deviceIn (d : PState) {pl : Pl} {i : Nat} (hpl : pl ∈ s.allPlanes) (h : i ∈ [20, 21]) :
    ((s.devicePark.deviceDrop d).deviceIn d).islLocked pl i = false := by
  have hpln : ((s.devicePark.deviceDrop d).deviceIn d).pln pl = s.devicePark.pln pl := by
    rw [← (s.devicePark.deviceDrop_keeps d).2.2 pl]
    cases pl <;> rfl
  rw [State.islLocked, hpln]
  exact s.islLocked_devicePark hpl h

theorem State.pw_beginDeviceExit (x : Nat) :
    (s.beginDeviceExit x).pw = { s.pw with devExitAt := some x, devFrom := s.pw.dev, devWake := false } := by
  unfold State.beginDeviceExit
  dsimp only
  split <;> rfl

theorem execEntryCommit_device {d : PState} (hd : s.pw.devTarget = some d) (h0 : s.fcInSlot = 0) (hslot : s.pw.devSlot < s.now)
    (hr : s.deviceReady d = true) : execEntryCommit 4 s = .next (s.deviceCommit d) := by
  unfold execEntryCommit
  rw [if_pos rfl, hd]
  dsimp only
  rw [if_pos ⟨h0, hslot, hr⟩]

end

/-! ### The entry's limit (R298) -/

section

variable (s : State) (q : Nat)

/-- A port that its quire's entry gives back (R298). -/
def Port.reopened (x : Port) : Port := { x with draining := x.draining && x.prstReq, ready := x.live && !x.prstReq && !x.poisoning }

/-- What the end of an entry leaves, before what is recorded for the quire. -/
def State.entryDropped (s : State) (q result port : Nat) (e : Entry) : State :=
  let t := (s.modQp q (fun x => { x with entry := none })).pwrResult result q e.device e.auto port
  let t : State := if e.device then { t with pw := { t.pw with devTarget := none, devWake := false } } else t
  (portsOf q).foldl (fun t p => t.modPort p Port.reopened) t

theorem State.abortEntry_eq {e : Entry} (h : (s.qp q).entry = some e) (result port : Nat) :
    s.abortEntry q result port = (s.entryDropped q result port e).runPending q := by
  unfold State.abortEntry
  rw [h]
  rfl

theorem State.qp_entryDropped (result port : Nat) (e : Entry) : (s.entryDropped q result port e).qp q = { s.qp q with entry := none } := by
  unfold State.entryDropped
  extract_lets t p u
  have hu : u.qp q = { s.qp q with entry := none } := by
    have ht : t.qp q = { s.qp q with entry := none } := s.qp_modQp q _
    unfold u
    split
    · exact ht
    · exact ht
  exact (foldl_same _ _ (fun v => v.qp q) (fun v p => v.qp_modPort p Port.reopened q) u).trans hu

theorem State.g_entryDropped (result port : Nat) (e : Entry) (o : Nat) :
    (s.entryDropped q result port e).g o = ((s.modQp q (fun x => { x with entry := none })).pwrResult result q e.device e.auto port).g o := by
  unfold State.entryDropped
  extract_lets t p u
  have hu : u.g o = t.g o := by
    unfold u
    split <;> rfl
  exact (foldl_same _ _ (fun v => v.g o) (fun v p => v.g_modPort p Port.reopened o) u).trans hu

/-- The demotions that wait for a quire's entry are dropped (R298). -/
def State.dropVacates (s : State) (q : Nat) : State :=
  s.eachPlane (fun pl t => t.modSb pl (fun b => { b with pendingDemotes := b.pendingDemotes.filter (fun p => !(t.framedIn pl q).contains p) }))

theorem State.outer_dropVacates : (s.dropVacates q).outer = s.outer := s.outer_eachPlane _ fun pl t => t.outer_modSb pl _

theorem State.livePorts_of_outer {t : State} (h : t.outer = s.outer) : t.livePorts q = s.livePorts q := by
  unfold State.livePorts State.isPort
  rw [State.variant_of_outer h]
  simp only [State.port_of_outer h]

theorem execEntryDrainLimit_due {e : Entry} (he : (s.qp q).entry = some e) (hl : s.gf rPwrLimit 0 24 ≠ 0)
    (hst : e.step = .vacate ∨ e.step = .drain) (ht : e.start + s.gf rPwrLimit 0 24 ≤ s.now) :
    execEntryDrainLimit q s = .next ((s.dropVacates q).abortEntry q 3 ((s.livePorts q).headD 0x7F)) := by
  rw [← s.livePorts_of_outer q (s.outer_dropVacates q)]
  unfold execEntryDrainLimit
  dsimp only
  rw [he]
  dsimp only
  rw [if_pos ⟨hl, hst, ht⟩]
  rfl

end

/-- Settles O40: the steps of an entry, its commit and its limit. -/
theorem entrySteps : Obligations.EntrySteps := by
  intro s q
  refine ⟨fun e he h0 hslot hb hj => ?_, fun e he hv hm => ?_, fun e he hl => ?_, fun e he h0 hslot => ?_, fun e hq he h0 hslot => ?_,
    fun d hd h0 hslot hr hw => ?_, fun d hd h0 hslot hr hw => ?_, fun e he hl hst ht hp => ?_⟩
  · have hnow : (s.closePorts q).now = s.now := congrArg BitVec.toNat (s.slot_closePorts q)
    have hentry : ((s.closePorts q).qp q).entry = some e := by
      rw [State.qp_of_pw s (s.pw_closePorts q)]
      exact ((s.entryAt_eq_some q).1 he).1
    refine ⟨_, execEntryClose_due s q he h0 hslot hb hj, ?_, fun p hp => ?_, fun p hp =>
      (State.port_modEntry _ q _ p).trans (s.port_closePorts_of_not_mem q hp)⟩
    · refine (State.entryAt_modEntry _ q (fun e => { e with step := .vacate, start := (s.closePorts q).now }) hentry rfl).trans ?_
      rw [hnow]
    · have hport : ((s.closePorts q).modEntry q (fun e => { e with step := .vacate, start := (s.closePorts q).now })).port p =
          (s.port p).closing :=
        (State.port_modEntry _ q _ p).trans (s.port_closePorts_mem q hp)
      rw [hport]
      exact ⟨rfl, rfl⟩
  · show execEntryVacateDone q s = _
    unfold execEntryVacateDone
    rw [he]
    dsimp only
    rw [if_neg (by rw [hv, hm]; decide)]
  · show execEntryDrainDone q s = _
    unfold execEntryDrainDone
    rw [he]
    dsimp only
    rw [if_pos hl]
  · have hentry : ((s.parkQuire q).qp q).entry = some e := by
      rw [State.qp_of_pw s (s.pw_parkQuire q)]
      exact ((s.entryAt_eq_some q).1 he).1
    refine ⟨_, execEntryPark_due s q he h0 hslot,
      State.entryAt_modEntry _ q (fun e => { e with step := .commit, slot := s.now }) hentry rfl, fun pl hpl i hi => ?_⟩
    exact s.islLocked_parkAll (s.parkStreams q) (quireIslands q) hpl hi
  · have hexec : execEntryCommit q s = .next (s.quireCommit q e) := by
      unfold execEntryCommit
      rw [if_neg (by omega), he]
      dsimp only
      rw [if_pos ⟨h0, hslot⟩]
    rw [State.quireCommit_eq] at hexec
    obtain ⟨hstate, hret, hg⟩ := State.runPending_keeps (s.quireAsleep q e).stampCommit q
    have hqp := ((s.quireAsleep q e).qp_stampCommit q).trans (s.qp_quireAsleep q e)
    have hword : infoWord (rQpwr q) = false := by
      obtain rfl | rfl | rfl | rfl : q = 0 ∨ q = 1 ∨ q = 2 ∨ q = 3 := by omega
      all_goals decide
    have hgne : rQpwr q ≠ rPwrResult := by unfold rQpwr rPwrResult; omega
    refine ⟨_, hexec, hstate.trans (congrArg QPower.state hqp), hret.trans (congrArg QPower.retained hqp), ?_, fun hp => ?_⟩
    · have hgq := (hg (rQpwr q) hgne).trans (s.g_quireAsleep q e hword)
      rw [State.gf, hgq, State.pwrResult, State.g_gset_ne _ hgne]
      refine (s.gf_gfset (rQpwr q) (s.nextRetained q) (by decide)).trans ?_
      exact Nat.mod_mod _ _
    · rw [State.runPending_none _ q ((congrArg QPower.pending hqp).trans hp)]
      exact congrArg QPower.entry hqp
  · refine ⟨_, execEntryCommit_device s hd h0 hslot hr, ?_⟩
    rw [State.deviceCommit_eq, hw, if_pos (by decide)]
    exact ⟨rfl, rfl, fun pl hpl => ⟨s.islLocked_deviceIn d hpl (by decide), s.islLocked_deviceIn d hpl (by decide)⟩⟩
  · refine ⟨_, execEntryCommit_device s hd h0 hslot hr, ?_⟩
    rw [State.deviceCommit_eq, hw, if_neg (by decide)]
    have hslotIn : ((s.devicePark.deviceDrop d).deviceIn d).now = s.now :=
      congrArg BitVec.toNat ((s.devicePark.deviceDrop_keeps d).2.1.trans s.slot_devicePark)
    unfold State.deviceWoken
    by_cases hoff : d = .off
    · rw [if_pos hoff]
      exact ⟨rfl, rfl, rfl, fun _ => rfl, fun h => absurd hoff h⟩
    · rw [if_neg hoff, State.pw_beginDeviceExit, hslotIn]
      exact ⟨rfl, rfl, rfl, fun h => absurd h hoff, fun _ => ⟨rfl, rfl⟩⟩
  · have hpw := State.pw_of_outer (s.outer_dropVacates q)
    have hentry : ((s.dropVacates q).qp q).entry = some e := by
      rw [State.qp_of_pw s hpw]
      exact he
    have hqp := (s.dropVacates q).qp_entryDropped q 3 ((s.livePorts q).headD 0x7F) e
    have hnone : (((s.dropVacates q).entryDropped q 3 ((s.livePorts q).headD 0x7F) e).qp q).pending = none := by
      rw [hqp, State.qp_of_pw s hpw]
      exact hp
    have hexec := execEntryDrainLimit_due s q he hl hst ht
    rw [State.abortEntry_eq _ q hentry, State.runPending_none _ q hnone] at hexec
    obtain ⟨hres, hport⟩ := ((s.dropVacates q).modQp q (fun x => { x with entry := none })).gf_pwrResult (r := 3)
      (p := (s.livePorts q).headD 0x7F) q e.device e.auto (by decide)
    refine ⟨_, hexec, by rw [hqp], ?_, ?_, ?_⟩
    · rw [hqp, State.qp_of_pw s hpw]
    · rw [State.gf, State.g_entryDropped]
      exact hres
    · rw [State.gf, State.g_entryDropped]
      exact hport

end Sys2Proof.Machine

namespace Sys2Proof.Machine

/-! ### Event sources (R314 to R318) -/

section

variable (s : State) (src : Nat)

theorem State.evt_snapTrigger (c k : Nat) : (s.snapTrigger c src k).evt = s.evt := by
  unfold State.snapTrigger
  dsimp only
  split
  · rfl
  split
  · rfl
  split
  · rfl
  split <;> rfl

theorem State.count_evtKick : (s.evtKick src).evt.count = s.evt.count := by
  unfold State.evtKick
  dsimp only
  split <;> rfl

/-- An occurrence is counted (R314). -/
theorem State.count_occur : (s.occur src).evt.count = s.evt.count.upd src 0 (fun n => satAdd 8 n 1) := by
  unfold State.occur
  extract_lets e t u
  have hu : u.evt.count = s.evt.count.upd src 0 (fun n => satAdd 8 n 1) := t.count_evtKick src
  split
  · rw [State.evt_snapTrigger, hu]
  · exact hu

theorem State.evCount_occur : (s.occur src).evCount src = satAdd 8 (s.evCount src) 1 := by
  rw [State.evCount, State.count_occur]
  exact Tab.rd_upd_same _ _ _ _

theorem State.evCount_occurInfo (info : Nat) : (s.occurInfo src info).evCount src = satAdd 8 (s.evCount src) 1 :=
  State.evCount_occur _ src

theorem State.evState_evLeave (st : EvState) : (s.evLeave src st).evState src = st := Tab.rd_wr_same _ _ _ _

theorem State.not_mem_evLeave (st : EvState) : src ∉ (s.evLeave src st).evt.queue := by
  intro h
  exact absurd rfl (of_decide_eq_true (List.mem_filter.1 h).2)

theorem State.evPend_tail : s.evPend src false = (s.evLeave src .pending).evTail src := rfl

/-- A source with something to acknowledge (R315). -/
def State.evLower (s : State) (src left : Nat) : State := { s with evt := { s.evt with count := s.evt.count.wr src left 0 } }

theorem State.evCount_evLower (left : Nat) : (s.evLower src left).evCount src = left := Tab.rd_wr_same _ _ _ _

/-- What is left of COUNT after an acknowledge of `n` (R315). -/
def State.evRest (s : State) (src n : Nat) : Nat := s.evCount src - min (max n 1) (s.evCount src)

section

variable (n : Nat) (h : s.evCount src ≠ 0)

include h

theorem State.evtAck_drained (hst : s.evState src = .pending ∨ s.evState src = .sent) (hr : s.evRest src n = 0) :
    s.evtAck src n = (s.evLower src 0).evLeave src .idle := by
  unfold State.evtAck
  dsimp only
  rw [if_neg h, show s.evCount src - min (max n 1) (s.evCount src) = 0 from hr]
  split
  · exact if_pos rfl
  · exact if_pos rfl
  next heq => exact absurd (hst.imp (heq.symm.trans ·) (heq.symm.trans ·)) (by simp)
  next heq => exact absurd (hst.imp (heq.symm.trans ·) (heq.symm.trans ·)) (by simp)

theorem State.evtAck_sent (hst : s.evState src = .sent) (hr : s.evRest src n ≠ 0) :
    s.evtAck src n = (s.evLower src (s.evRest src n)).evPend src true := by
  unfold State.evtAck
  dsimp only
  rw [if_neg h]
  split
  next heq => cases heq.symm.trans hst
  · exact if_neg hr
  next heq => cases heq.symm.trans hst
  next heq => cases heq.symm.trans hst

theorem State.evtAck_pending (hst : s.evState src = .pending) (hr : s.evRest src n ≠ 0) :
    s.evtAck src n = s.evLower src (s.evRest src n) := by
  unfold State.evtAck
  dsimp only
  rw [if_neg h]
  split
  · exact if_neg hr
  next heq => cases heq.symm.trans hst
  · rfl
  · rfl

theorem State.evtAck_hold (hst : s.evState src = .hold) : s.evtAck src n = s.evLower src (s.evRest src n) := by
  unfold State.evtAck
  dsimp only
  rw [if_neg h]
  split
  next heq => cases heq.symm.trans hst
  next heq => cases heq.symm.trans hst
  · rfl
  · rfl

theorem State.evtAck_idle (hst : s.evState src = .idle) : s.evtAck src n = s.evLower src (s.evRest src n) := by
  unfold State.evtAck
  dsimp only
  rw [if_neg h]
  split
  next heq => cases heq.symm.trans hst
  next heq => cases heq.symm.trans hst
  · rfl
  · rfl

/-- Whatever the source's state, COUNT is what is left. -/
theorem State.evCount_evtAck : (s.evtAck src n).evCount src = s.evRest src n := by
  have hc := s.evCount_evLower src (s.evRest src n)
  cases hst : s.evState src with
  | idle => rw [s.evtAck_idle src n h hst, hc]
  | hold => rw [s.evtAck_hold src n h hst, hc]
  | pending =>
    by_cases hr : s.evRest src n = 0
    · rw [s.evtAck_drained src n h (.inl hst) hr, hr]
      exact s.evCount_evLower src 0
    · rw [s.evtAck_pending src n h hst hr, hc]
  | sent =>
    by_cases hr : s.evRest src n = 0
    · rw [s.evtAck_drained src n h (.inr hst) hr, hr]
      exact s.evCount_evLower src 0
    · rw [s.evtAck_sent src n h hst hr]
      exact hc

end

end

end Sys2Proof.Machine

namespace Sys2Proof.Machine

/-! ### The emitter and its answers (R316 to R318) -/

/-- The message of a source holds its vector in the low half of the word at the address, its number in the high half. -/
theorem fld_evLine {a src v : Nat} (ha : a % 4 = 0) (hs : src < 2 ^ 16) (hv : v < 2 ^ 16) :
    fld (evLine a src v) (8 * (a % 64)) 32 = v + src * 2 ^ 16 := by
  have hx : v + src * 2 ^ 16 < 2 ^ 32 := by omega
  have hle : 32 + 8 * (a % 64) ≤ 512 := by omega
  have hfit : (v + src * 2 ^ 16) * 2 ^ (8 * (a % 64)) < 2 ^ 512 := calc
    (v + src * 2 ^ 16) * 2 ^ (8 * (a % 64)) < 2 ^ 32 * 2 ^ (8 * (a % 64)) := Nat.mul_lt_mul_of_pos_right hx (Nat.two_pow_pos _)
    _ = 2 ^ (32 + 8 * (a % 64)) := (Nat.pow_add ..).symm
    _ ≤ 2 ^ 512 := Nat.pow_le_pow_right Nat.two_pos hle
  rw [fld, evLine, BitVec.toNat_ofNat, Nat.mod_eq_of_lt hfit, Nat.mul_div_cancel _ (Nat.two_pow_pos _), Nat.mod_eq_of_lt hx]

section

variable (s : State) (src : Nat)

/-- An answer frees the message's place (R318); `l` is what is still under way. -/
def State.evSettled (l : List (Nat × Nat × Nat)) : State :=
  { s with evt := { s.evt with inflight := s.evt.inflight - 1, toSend := l } }

/-- What a failed answer leaves in the error registers (R318). -/
def State.evFailed (tgt st : Nat) : State :=
  ((s.ginc rDelivErr 0 32 1).gor rEvtStatus (bitMask 16)).gset rErrTgt (BitVec.ofNat 32 (tgt + st * 2 ^ 8 + src * 2 ^ 16))

/-- A source on hold for 256 slots (R318). -/
def State.evHeld : State :=
  { s.evLeave src .hold with evt := { (s.evLeave src .hold).evt with
      holdTill := (s.evLeave src .hold).evt.holdTill.wr src (s.now + 256) 0 } }

theorem State.evAnswered_ok : ∃ l, s.evAnswered src stOk = s.evSettled l := by
  unfold State.evAnswered
  dsimp only
  rw [if_pos rfl]
  exact ⟨_, rfl⟩

theorem State.evAnswered_error {st : Nat} (h : st ≠ stOk) :
    ∃ l tgt, s.evAnswered src st = ((s.evSettled l).evFailed src tgt st).evHeld src := by
  unfold State.evAnswered
  dsimp only
  rw [if_neg h]
  exact ⟨_, _, rfl⟩

theorem State.now_evFailed (tgt st : Nat) : (s.evFailed src tgt st).now = s.now := rfl

theorem State.delivErr_evFailed (tgt st : Nat) : (s.evFailed src tgt st).gf rDelivErr 0 32 = satAdd 32 (s.gf rDelivErr 0 32) 1 := by
  have hother : (s.evFailed src tgt st).g rDelivErr = (s.ginc rDelivErr 0 32 1).g rDelivErr := by
    rw [State.evFailed, State.g_gset_ne _ (by decide), State.gor, State.g_gset_ne _ (by decide), State.g_noteSet]
  rw [State.gf, hother, ← State.gf, State.gf_ginc _ _ _ (by decide)]
  rfl

theorem State.gf_evHeld (o lo len : Nat) : (s.evHeld src).gf o lo len = s.gf o lo len := rfl

theorem State.evState_evHeld : (s.evHeld src).evState src = .hold := s.evState_evLeave src .hold

theorem State.holdTill_evHeld : (s.evHeld src).evt.holdTill.rd src 0 = s.now + 256 := by
  show ((s.evLeave src .hold).evt.holdTill.wr src (s.now + 256) 0).rd src 0 = _
  exact Tab.rd_wr_same _ _ _ _

/-- The picked source is SENT, its message next to form (R316, R318). -/
theorem emitterSelect_pick {src : Nat} (hd : s.done = true) (hr : s.pw.dev = .run) (hf : s.evt.forming = none) (hi : s.evt.inflight < 8)
    (hp : s.evPick = some src) : execEmitterSelect s = .next { s.evLeave src .sent with evt := { (s.evLeave src .sent).evt with
      forming := some src, toSend := s.evt.toSend ++ [(src, s.gf (rSrcCfg src) 5 5, s.gf (rSrcCfg src) 16 16)] } } := by
  unfold execEmitterSelect
  rw [if_pos ⟨hd, hr, hf, hi⟩, hp]
  rfl

/-- The message that forms is on its way. -/
def State.evFormed : State :=
  { s.ginc rEvtSent 0 32 1 with evt := { (s.ginc rEvtSent 0 32 1).evt with forming := none, inflight := s.evt.inflight + 1 } }

theorem eventHandoff_formed {src x tgt v : Nat} (hf : s.evt.forming = some src) (hr : s.pw.dev = .run)
    (hl : s.evt.toSend.getLast? = some (x, tgt, v)) : execEventHandoff s = .next (s.evFormed.eachPlane (fun pl t =>
      t.sbAdd pl (.event src) true true 0 3 (s.evTarget tgt) 1 (benRange (s.evTarget tgt % 64) 4) [evLine (s.evTarget tgt) src v])) := by
  unfold execEventHandoff
  dsimp only
  rw [hf]
  dsimp only
  rw [if_neg (fun hn => hn hr), hl]
  rfl

/-- The lead plane's answer to a source's message answers the source. -/
theorem eventDeliveryRack_answered {pl : Pl} {q : Nat} {k : Packet} {o : SbOut} {st src : Nat} {u : State} (hr : s.runs pl = true)
    (hs : s.sbResponse pl q 2 isEvent = some (k, o, st, u)) (ho : o.purpose = .event src) (hl : pl = u.lead) :
    execEventDeliveryRack pl q s = .next (u.evAnswered src st) := by
  unfold execEventDeliveryRack inPlane
  rw [if_pos hr]
  dsimp only
  rw [hs]
  dsimp only
  rw [ho]
  dsimp only
  rw [if_pos hl]

/-- The hold of a source ends: it is PENDING again behind its level. -/
theorem eventHoldExpiry_over {src : Nat} (hst : s.evState src = .hold) (ht : s.evt.holdTill.rd src 0 ≤ s.now) :
    execEventHoldExpiry src s = .next ((s.evLeave src .pending).evTail src) := by
  unfold execEventHoldExpiry
  rw [if_pos ⟨hst, ht⟩, State.evPend_tail]

theorem State.evState_evPend_front : (s.evPend src true).evState src = .pending := s.evState_evLeave src .pending

theorem State.head_evPend_front : (s.evPend src true).evt.queue.head? = some src := rfl

theorem State.evState_evTail (x : Nat) : (s.evTail x).evState src = s.evState src := rfl

theorem State.ccAt_evTail : (s.evTail src).evt.ccAt = s.cc := rfl

/-- The first to become PENDING in its cc goes behind everything (R316). -/
theorem State.evTail_first (h : s.evt.ccAt ≠ s.cc) : (s.evTail src).evt.queue = s.evt.queue ++ [src] ∧ (s.evTail src).evt.ccNew = [src] := by
  unfold State.evTail
  dsimp only
  rw [if_neg h]
  exact ⟨congrArg (· ++ [src]) (List.filter_eq_self.2 (by simp)), rfl⟩

/-- One that becomes PENDING in the cc of others takes its place among them by number (R316). -/
theorem State.queue_evTail_same (h : s.evt.ccAt = s.cc) :
    (s.evTail src).evt.queue = s.evt.queue.filter (fun x => !(s.evt.ccNew.filter (fun y => s.evt.queue.contains y)).contains x) ++
      insertUp src (s.evt.ccNew.filter (fun x => s.evt.queue.contains x)) := by
  unfold State.evTail
  dsimp only
  rw [if_pos h]

end

/-- Settles O42. -/
theorem eventsAndDeliveries : Obligations.EventsAndDeliveries := by
  refine ⟨fun s => ⟨fun r src h => s.cwWrite_allowed h (fun t => t.evtRaise (src % 512)),
      fun r src n h => s.cwWrite_allowed h (fun t => t.evtAck (src % 512) (n % 256)), fun src => s.evCount_occur src, ?_⟩,
    fun s => ⟨?_, ?_, ?_, ?_, ?_, ?_, ?_⟩⟩
  · intro src n hc
    refine ⟨s.evCount_evtAck src n hc, fun hst hr => ?_, fun hst hr => ?_, fun hst => ?_, fun hst hr => ?_⟩
    · rw [s.evtAck_drained src n hc hst hr]
      exact ⟨State.evState_evLeave _ _ _, State.not_mem_evLeave _ _ _⟩
    · rw [s.evtAck_sent src n hc hst hr]
      exact ⟨State.evState_evPend_front _ _, State.head_evPend_front _ _⟩
    · rw [s.evtAck_hold src n hc hst]
      exact hst
    · rw [s.evtAck_pending src n hc hst hr]
      rfl
  · intro src hd hr hf hi hp
    exact ⟨_, emitterSelect_pick s hd hr hf hi hp, s.evState_evLeave src .sent, rfl, s.not_mem_evLeave src .sent, rfl⟩
  · intro src x tgt v hf hr hl
    exact ⟨s.evFormed, eventHandoff_formed s hf hr hl, rfl, rfl, rfl⟩
  · exact fun a src v => fld_evLine
  · exact fun pl q k o st src u hr hs ho hl => eventDeliveryRack_answered s hr hs ho hl
  · intro src
    obtain ⟨l, h⟩ := s.evAnswered_ok src
    rw [h]
    exact ⟨rfl, rfl⟩
  · intro src st hst
    obtain ⟨l, tgt, h⟩ := s.evAnswered_error src hst
    rw [h]
    refine ⟨State.evState_evHeld _ _, ?_, State.not_mem_evLeave _ _ .hold, ?_⟩
    · rw [State.holdTill_evHeld, State.now_evFailed]
      rfl
    · rw [State.gf_evHeld, State.delivErr_evFailed]
      rfl
  · intro src hst ht
    refine ⟨_, eventHoldExpiry_over s hst ht, ?_, State.ccAt_evTail _ src, fun h => ?_, fun h => ?_⟩
    · rw [State.evState_evTail, State.evState_evLeave]
    · exact (s.evLeave src .pending).evTail_first src h
    · exact (s.evLeave src .pending).queue_evTail_same src h

end Sys2Proof.Machine

namespace Sys2Proof.Machine

/-! ### Owner resets (R200, R201, R204) -/

theorem b2n_inj {a b : Bool} (h : b2n a = b2n b) : a = b := by
  revert h
  cases a <;> cases b <;> decide

section

variable (s : State)

theorem State.busy_oresetStep (step : Nat) (busy : Bool) (result : Nat) : (s.oresetStep step busy result).ownerBusy = busy := by
  have h : (s.oresetStep step busy result).gf rOResetStatus 0 1 = b2n busy := by
    rw [State.oresetStep, State.gf_gfset_of_disjoint _ _ _ (by decide), State.gf_gfset_of_disjoint _ _ _ (by decide),
      State.gf_gfset _ _ _ (by decide)]
    cases busy <;> rfl
  rw [State.gf, fld_one] at h
  exact b2n_inj h

theorem State.step_oresetStep (step : Nat) (busy : Bool) (result : Nat) :
    (s.oresetStep step busy result).gf rOResetStatus 1 3 = step % 8 := by
  show _ = step % 2 ^ 3
  rw [State.oresetStep, State.gf_gfset_of_disjoint _ _ _ (by decide), State.gf_gfset _ _ _ (by decide)]

theorem State.result_oresetStep (step : Nat) (busy : Bool) (result : Nat) :
    (s.oresetStep step busy result).gf rOResetStatus 8 3 = result % 8 := by
  show _ = result % 2 ^ 3
  rw [State.oresetStep, State.gf_gfset _ _ _ (by decide)]

theorem State.owner_oresetStep (step : Nat) (busy : Bool) (result : Nat) :
    (s.oresetStep step busy result).gf rOResetStatus 4 4 = s.gf rOResetStatus 4 4 := by
  rw [State.oresetStep, State.gf_gfset_of_disjoint _ _ _ (by decide), State.gf_gfset_of_disjoint _ _ _ (by decide),
    State.gf_gfset_of_disjoint _ _ _ (by decide)]

theorem State.g_oresetStep_ne (step : Nat) (busy : Bool) (result : Nat) {off : Nat} (h : off ≠ rOResetStatus) :
    (s.oresetStep step busy result).g off = s.g off := by
  rw [State.oresetStep, State.g_gfset_ne _ h, State.g_gfset_ne _ h, State.g_gfset_ne _ h]

theorem State.oreset_oresetStep (step : Nat) (busy : Bool) (result : Nat) : (s.oresetStep step busy result).oreset = s.oreset := rfl

theorem State.oreset_gfset (off lo len v : Nat) : (s.gfset off lo len v).oreset = s.oreset := rfl

theorem State.keys_gfset (off lo len v : Nat) : (s.gfset off lo len v).keys = s.keys := rfl

theorem State.keys_oresetStep (step : Nat) (busy : Bool) (result : Nat) : (s.oresetStep step busy result).keys = s.keys := rfl

/-- The block with the record `r` of the reset under way. -/
def State.withReset (r : OReset) : State := { s with oreset := r }

@[simp] theorem State.g_withReset (r : OReset) (off : Nat) : (s.withReset r).g off = s.g off := rfl

@[simp] theorem State.gf_withReset (r : OReset) (off lo len : Nat) : (s.withReset r).gf off lo len = s.gf off lo len := rfl

@[simp] theorem State.ownerBusy_withReset (r : OReset) : (s.withReset r).ownerBusy = s.ownerBusy := rfl

@[simp] theorem State.keys_withReset (r : OReset) : (s.withReset r).keys = s.keys := rfl

@[simp] theorem State.oreset_withReset (r : OReset) : (s.withReset r).oreset = r := rfl

/-- A write of GO clears the status and names the owner (R200). -/
def State.ownerAsked (o : Nat) : State := s.gset rOResetStatus (BitVec.ofNat 32 (o * 16))

theorem State.g_ownerAsked_ne (o : Nat) {off : Nat} (h : off ≠ rOResetStatus) : (s.ownerAsked o).g off = s.g off :=
  s.g_gset_ne h _

theorem State.owner_ownerAsked {o : Nat} (ho : o < 16) : (s.ownerAsked o).gf rOResetStatus 4 4 = o := by
  rw [State.gf, State.ownerAsked, State.g_gset, fld, BitVec.toNat_ofNat]
  omega

theorem rOwner_ne_status {o : Nat} (ho : o < 16) : rOwner o ≠ rOResetStatus := by unfold rOwner rOResetStatus; omega

theorem rEpoch_ne_status {o : Nat} (ho : o < 16) : rEpoch o ≠ rOResetStatus := by unfold rEpoch rOResetStatus; omega

theorem State.ownerGo_busy (o : Nat) (h : s.ownerBusy = true) : s.ownerGo o = s := if_pos h

section

variable {o : Nat} (ho : o < 16) (hb : s.ownerBusy = false)

include ho hb

theorem State.ownerGo_invalid (hv : bit (s.g (rOwner o)) 0 = false) : s.ownerGo o = (s.ownerAsked o).oresetStep 0 false 1 := by
  have hv' : bit ((s.ownerAsked o).g (rOwner o)) 0 = false := by rw [s.g_ownerAsked_ne o (rOwner_ne_status ho), hv]
  unfold State.ownerGo
  rw [hb, if_neg Bool.false_ne_true]
  exact if_pos (by rw [Bool.not_eq_true']; exact hv')

variable (hv : bit (s.g (rOwner o)) 0 = true)

include hv

theorem State.ownerGo_worn (he : s.gf (rEpoch o) 0 16 = 0xFFFF) : s.ownerGo o = (s.ownerAsked o).oresetStep 0 false 2 := by
  have hv' : bit ((s.ownerAsked o).g (rOwner o)) 0 = true := by rw [s.g_ownerAsked_ne o (rOwner_ne_status ho), hv]
  have he' : (s.ownerAsked o).gf (rEpoch o) 0 16 = 0xFFFF := by rw [State.gf, s.g_ownerAsked_ne o (rEpoch_ne_status ho), ← he, State.gf]
  unfold State.ownerGo
  rw [hb, if_neg Bool.false_ne_true]
  exact (if_neg (fun h => by rw [Bool.not_eq_true'] at h; cases hv'.symm.trans h)).trans (if_pos he')

theorem State.ownerGo_starts (he : s.gf (rEpoch o) 0 16 ≠ 0xFFFF) : s.ownerGo o =
    ((s.ownerAsked o).oresetStep 1 true 0).withReset { step := 1, owner := o, slot := s.now } := by
  have hv' : bit ((s.ownerAsked o).g (rOwner o)) 0 = true := by rw [s.g_ownerAsked_ne o (rOwner_ne_status ho), hv]
  have he' : (s.ownerAsked o).gf (rEpoch o) 0 16 ≠ 0xFFFF := by
    rw [State.gf, s.g_ownerAsked_ne o (rEpoch_ne_status ho), ← State.gf]
    exact he
  unfold State.ownerGo
  rw [hb, if_neg Bool.false_ne_true]
  exact (if_neg (fun h => by rw [Bool.not_eq_true'] at h; cases hv'.symm.trans h)).trans (if_neg he')

end

/-! #### The steps -/

theorem State.closedOwner_gor {o : Nat} (ho : o < 16) : (s.gor rOClosed (bitMask o)).closedOwner o = true := by
  rw [State.closedOwner, State.gor, State.g_gset, bit, BitVec.getLsbD_or]
  exact Bool.or_eq_true_iff.2 (.inr (bit_bitMask (by omega)))

/-- The owner whose reset is over is open again (R200 step 5). -/
def State.ownerOpened (o : Nat) : State :=
  ((s.gset rOClosed (s.g rOClosed &&& ~~~bitMask o)).oresetStep 0 false 0).withReset {}

theorem State.closedOwner_ownerOpened {o j : Nat} (hj : j < 16) :
    (s.ownerOpened o).closedOwner j = (s.closedOwner j && decide (j ≠ o)) := by
  have hg : (s.ownerOpened o).g rOClosed = s.g rOClosed &&& ~~~bitMask o := by
    rw [State.ownerOpened, State.g_withReset, State.g_oresetStep_ne _ _ _ _ (by decide), State.g_gset]
  rw [State.closedOwner, hg, State.closedOwner, bit, bit, BitVec.getLsbD_and, BitVec.getLsbD_not, bitMask, BitVec.getLsbD_ofNat,
    Nat.testBit_two_pow]
  simp [show j < 32 by omega, eq_comm]

theorem State.busy_ownerOpened (o : Nat) : (s.ownerOpened o).ownerBusy = false := State.busy_oresetStep _ 0 false 0

theorem State.resets_ownerOpened (o : Nat) : (s.ownerOpened o).gf rOResets 0 32 = s.gf rOResets 0 32 := by
  have hg : (s.ownerOpened o).g rOResets = s.g rOResets := by
    rw [State.ownerOpened, State.g_withReset, State.g_oresetStep_ne _ _ _ _ (by decide), s.g_gset_ne (by decide)]
  rw [State.gf, hg, State.gf]

end

end Sys2Proof.Machine

namespace Sys2Proof.Machine

/-! ### The steps of an owner reset (R200, R201) -/

section

variable (s : State)

/-- The owner's epoch moves on: step 3 (R200). -/
def State.epochMoved (o : Nat) : State :=
  ((s.gfset (rEpoch o) 0 16 (s.gf (rEpoch o) 0 16 + 1)).oresetStep 3 true 0).withReset { s.oreset with step := 3, ready := false }

theorem execOwnerDrainDone_done (h2 : s.oreset.step = 2) (hp : s.drainPorts s.oreset.owner = [])
    (hd : s.drainService s.oreset.owner = false) : execOwnerDrainDone s = .next (s.epochMoved s.oreset.owner) := by
  unfold execOwnerDrainDone
  dsimp only
  rw [if_pos ⟨h2, hp, by rw [hd]; rfl⟩]
  rfl

theorem State.epoch_epochMoved {o : Nat} (ho : o < 16) (he : s.gf (rEpoch o) 0 16 < 0xFFFF) :
    (s.epochMoved o).gf (rEpoch o) 0 16 = s.gf (rEpoch o) 0 16 + 1 := by
  rw [State.epochMoved, State.gf_withReset, State.gf, State.g_oresetStep_ne _ _ _ _ (rEpoch_ne_status ho), ← State.gf,
    State.gf_gfset _ _ _ (by decide), Nat.mod_eq_of_lt (by omega)]

/-- The new key `v` of owner `k` is in force: step 4 (R200). -/
def State.keySwitched (k : Nat) (v : BitVec 512) : State :=
  { (s.loadKey k v).oresetStep 4 true 0 with
    keys := { (s.loadKey k v).keys with next := none }, oreset := { s.oreset with step := 4 } }

theorem execOwnerKeySwitch_ready {k : Nat} {v : BitVec 512} (hk : s.keys.next = some (k, v)) (h3 : s.oreset.step = 3)
    (hr : s.oreset.ready = true) (hf : s.fcInSlot = 0) :
    execOwnerKeySwitch s = .next ((s.keySwitched k v).eachPlane (fun pl u => u.cleanPlane k pl)) := by
  unfold execOwnerKeySwitch
  rw [hk]
  dsimp only
  rw [if_pos ⟨h3, hr, hf⟩]
  rfl

/-- The clean-up is over: step 5 (R200). -/
def State.cleaned : State := (s.oresetStep 5 true 0).withReset { s.oreset with step := 5, doneSlot := s.now }

theorem execOwnerCleanDone_done (h4 : s.oreset.step = 4) (hc : s.cleanDone = true) : execOwnerCleanDone s = .next s.cleaned := by
  unfold execOwnerCleanDone
  rw [if_pos ⟨h4, hc⟩]
  rfl

theorem execOwnerOpen_due (h5 : s.oreset.step = 5) (hs : s.oreset.doneSlot + 4 ≤ s.now) (hf : s.fcInSlot = 0) :
    execOwnerOpen s = .next (((s.ownerOpened s.oreset.owner).ginc rOResets 0 32 1).occurInfo 376 s.oreset.owner) := by
  unfold execOwnerOpen
  dsimp only
  rw [if_pos ⟨h5, hs, hf⟩]
  rfl

/-- A drain past its limit is marked, with the port it waits for (R201). -/
def State.drainStalled (p : Nat) : State := (s.gfset rOResetStatus 11 1 1).gfset rOResetStatus 16 7 p

theorem State.bit_drainStalled (p : Nat) : bit ((s.drainStalled p).g rOResetStatus) 11 = true := by
  have h : (s.drainStalled p).gf rOResetStatus 11 1 = b2n true := by
    rw [State.drainStalled, State.gf_gfset_of_disjoint _ _ _ (by decide), State.gf_gfset _ _ _ (by decide)]
    rfl
  rw [State.gf, fld_one] at h
  exact b2n_inj h

theorem State.port_drainStalled (p : Nat) : (s.drainStalled p).gf rOResetStatus 16 7 = p % 2 ^ 7 := State.gf_gfset _ _ _ (by decide)

theorem execOwnerResetStall_late (h2 : s.oreset.step = 2) (hl : s.gf rResetLimit 0 24 ≠ 0)
    (hs : s.oreset.slot + s.gf rResetLimit 0 24 ≤ s.now) (hb : bit (s.g rOResetStatus) 11 = false)
    (hd : s.drainPorts s.oreset.owner ≠ [] ∨ s.drainService s.oreset.owner = true) :
    execOwnerResetStall s = .next ((s.drainStalled ((s.drainPorts s.oreset.owner).headD 0x7F)).occurInfo 377
      (s.oreset.owner + (s.drainPorts s.oreset.owner).headD 0x7F * 256)) := by
  unfold execOwnerResetStall
  dsimp only
  rw [if_pos ⟨h2, hl, hs, by rw [hb]; rfl, hd⟩]
  rfl

theorem execOwnerClose_due (h1 : s.oreset.step = 1) (hs : s.oreset.slot + 4 ≤ s.now) (hf : s.fcInSlot = 0) :
    execOwnerClose s = .next { ((s.gor rOClosed (bitMask s.oreset.owner)).eachPlane (fun pl t => t.closePlane s.oreset.owner pl)).oresetStep 2 true 0 with
      oreset := { ((s.gor rOClosed (bitMask s.oreset.owner)).eachPlane (fun pl t => t.closePlane s.oreset.owner pl)).oreset with
        step := 2
        slot := ((s.gor rOClosed (bitMask s.oreset.owner)).eachPlane (fun pl t => t.closePlane s.oreset.owner pl)).now } } := by
  unfold execOwnerClose
  rw [if_pos ⟨h1, hs, hf⟩]

end

theorem State.Records.gf {C W : Nat → Prop} {s t : State} (h : s.Records C W t) {off : Nat} (ho : infoWord off = false) (lo len : Nat) :
    t.gf off lo len = s.gf off lo len := by
  rw [State.gf, h.shared off ho, State.gf]

theorem State.Records.oreset {C W : Nat → Prop} {s t : State} (h : s.Records C W t) : t.oreset = s.oreset := by rw [h.same]

/-- An owner's reset begins, or is refused with its RESULT (R200, R204). -/
theorem ownerGo_cases (s : State) {o : Nat} (ho : o < 16) (hb : s.ownerBusy = false) :
    (bit (s.g (rOwner o)) 0 = false → (s.ownerGo o).gf rOResetStatus 8 3 = 1 ∧ (s.ownerGo o).oreset = s.oreset) ∧
    (bit (s.g (rOwner o)) 0 = true → s.gf (rEpoch o) 0 16 = 0xFFFF →
      (s.ownerGo o).gf rOResetStatus 8 3 = 2 ∧ (s.ownerGo o).oreset = s.oreset) ∧
    (bit (s.g (rOwner o)) 0 = true → s.gf (rEpoch o) 0 16 ≠ 0xFFFF →
      (s.ownerGo o).ownerBusy = true ∧ (s.ownerGo o).gf rOResetStatus 4 4 = o ∧ (s.ownerGo o).gf rOResetStatus 1 3 = 1 ∧
      (s.ownerGo o).oreset.step = 1 ∧ (s.ownerGo o).oreset.owner = o ∧ (s.ownerGo o).oreset.slot = s.now) := by
  refine ⟨fun hv => ?_, fun hv he => ?_, fun hv he => ?_⟩
  · rw [s.ownerGo_invalid ho hb hv]
    exact ⟨by rw [State.result_oresetStep], State.oreset_oresetStep _ 0 false 1⟩
  · rw [s.ownerGo_worn ho hb hv he]
    exact ⟨by rw [State.result_oresetStep], State.oreset_oresetStep _ 0 false 2⟩
  · rw [s.ownerGo_starts ho hb hv he]
    rw [State.ownerBusy_withReset, State.gf_withReset, State.gf_withReset, State.oreset_withReset]
    exact ⟨State.busy_oresetStep _ 1 true 0, by rw [State.owner_oresetStep, s.owner_ownerAsked ho], by rw [State.step_oresetStep],
      rfl, rfl, rfl⟩

/-- Settles O31. -/
theorem ownerResets : Obligations.OwnerResets := by
  refine ⟨fun s o ho => ⟨fun r h => ?_, fun hb => s.ownerGo_busy o hb, fun hb => (ownerGo_cases s ho hb).1,
    fun hb => (ownerGo_cases s ho hb).2.1, fun hb => (ownerGo_cases s ho hb).2.2⟩, fun s => ?_, ?_⟩
  · have h := s.cwWrite_allowed h (fun t => t.ownerGo (o % 16))
    rw [Nat.mod_eq_of_lt ho] at h
    show execOwnerResetGo r o s = _
    rw [execOwnerResetGo, Nat.mod_eq_of_lt ho, h]
  intro o ho
  refine ⟨fun h1 hs hf => ?_, ?_, ?_, ?_, ?_⟩
  · exact ⟨execOwnerClose_due s h1 hs hf, s.closedOwner_gor ho⟩
  · intro h2 hp hd he
    exact ⟨_, execOwnerDrainDone_done s h2 hp hd, s.epoch_epochMoved ho he, rfl, rfl, by rw [State.epochMoved, State.gf_withReset, State.step_oresetStep],
      by rw [State.epochMoved, State.keys_withReset, State.keys_oresetStep, State.keys_gfset]⟩
  · intro k v hk h3 hr hf
    exact ⟨_, execOwnerKeySwitch_ready s hk h3 hr hf, Tab.rd_wr_same _ _ _ _, rfl, rfl, fun j hj => Tab.rd_wr_ne _ _ _ _ hj⟩
  · intro h4 hc
    exact ⟨_, execOwnerCleanDone_done s h4 hc, rfl, rfl, by rw [State.cleaned, State.gf_withReset, State.step_oresetStep]⟩
  · intro h5 hs hf
    have hrec := State.Records.occurInfo (C := fun _ => False) (W := fun _ => False)
      ((s.ownerOpened o).ginc rOResets 0 32 1) (src := 376) (by decide) o
    have hclosed : ((s.ownerOpened o).ginc rOResets 0 32 1).g rOClosed = (s.ownerOpened o).g rOClosed :=
      State.g_ginc_ne _ (by decide) _ _ _
    refine ⟨_, execOwnerOpen_due s h5 hs hf, ?_, ?_, ?_, ?_, fun j hj hne => ?_⟩
    · rw [State.closedOwner, hrec.shared _ (by decide), hclosed, ← State.closedOwner, s.closedOwner_ownerOpened ho]
      simp
    · rw [State.ownerBusy, hrec.shared _ (by decide), State.g_ginc_ne _ (by decide)]
      exact s.busy_ownerOpened o
    · rw [hrec.oreset]
      rfl
    · rw [hrec.gf (by decide), State.gf_ginc _ _ _ (by decide), s.resets_ownerOpened]
      rfl
    · rw [State.closedOwner, hrec.shared _ (by decide), hclosed, ← State.closedOwner, s.closedOwner_ownerOpened hj,
        decide_eq_true hne, Bool.and_true]
  · intro s o h2 hl hs hb hd
    have hrec := State.Records.occurInfo (C := fun _ => False) (W := fun _ => False)
      (s.drainStalled ((s.drainPorts o).headD 0x7F)) (src := 377) (by decide) (o + (s.drainPorts o).headD 0x7F * 256)
    refine ⟨_, execOwnerResetStall_late s h2 hl hs hb hd, ?_, ?_, State.evCount_occurInfo _ 377 _, ?_⟩
    · rw [hrec.shared _ (by decide)]
      exact s.bit_drainStalled _
    · rw [hrec.gf (by decide)]
      exact s.port_drainStalled _
    · rw [hrec.oreset, State.drainStalled, State.oreset_gfset, State.oreset_gfset]

end Sys2Proof.Machine

namespace Sys2Proof.Machine

/-! ### What a reference and the islands see (R91, R92)

`State.clocks` keeps of a state what the slot reference, the start-up and the locks of the islands depend on. -/

/-- Of a plane, the islands. -/
def Plane.clocks (x : Plane) : Plane := { isl := x.isl }

def State.clocks (s : State) : State :=
  { s with
    hw := {}, evt := {}, snp := {}, rf := [], answers := [], ports := [], pads := {}
    pw := { dev := s.pw.dev, devExitAt := s.pw.devExitAt }
    pa := s.pa.clocks
    pb := s.pb.clocks }

section

variable {s t : State}

theorem State.clocks_of_outer (h : t.outer = s.outer) : t.clocks = s.clocks :=
  congrArg (fun x : State × (Nat → W32) => x.1.clocks) h

theorem State.clocks_of_aroundNis (h : t.aroundNis = s.aroundNis) : t.clocks = s.clocks :=
  congrArg (fun x : State × (Nat → W32) => x.1.clocks) h

variable (h : t.clocks = s.clocks)

include h

theorem State.isl_of_clocks (pl : Pl) : (t.pln pl).isl = (s.pln pl).isl := by
  cases pl with
  | a => exact (congrArg (fun x : State => x.pa.isl) h :)
  | b => exact (congrArg (fun x : State => x.pb.isl) h :)

theorem State.boot_of_clocks : t.boot = s.boot := (congrArg (fun x : State => x.boot) h :)
theorem State.pair_of_clocks : t.pair = s.pair := (congrArg (fun x : State => x.pair) h :)

theorem State.islLocked_of_clocks (pl : Pl) (i : Nat) : t.islLocked pl i = s.islLocked pl i := by
  unfold State.islLocked
  rw [State.isl_of_clocks h]

end

section

variable (s : State) (pl : Pl)

theorem State.clocks_ite {c : Prop} [Decidable c] {s a b : State} (ha : a.clocks = s.clocks) (hb : b.clocks = s.clocks) :
    (if c then a else b).clocks = s.clocks := by
  split
  · exact ha
  · exact hb

@[simp] theorem State.clocks_gset (off : Nat) (v : W32) : (s.gset off v).clocks = s.clocks := rfl

@[simp] theorem State.clocks_modPort (p : Nat) (f : Port → Port) : (s.modPort p f).clocks = s.clocks := rfl

@[simp] theorem State.clocks_modQp (q : Nat) (f : QPower → QPower) : (s.modQp q f).clocks = s.clocks := rfl

@[simp] theorem State.clocks_modSb (f : Sb → Sb) : (s.modSb pl f).clocks = s.clocks := State.clocks_of_outer (s.outer_modSb pl f)

@[simp] theorem State.clocks_pwrResult (result quire : Nat) (device auto : Bool) (port : Nat) :
    (s.pwrResult result quire device auto port).clocks = s.clocks := s.clocks_gset _ _

@[simp] theorem State.clocks_ginc (off lo len n : Nat) : (s.ginc off lo len n).clocks = s.clocks := rfl

@[simp] theorem State.clocks_occurInfo {src : Nat} (h : 372 ≤ src ∧ src ≤ 404) (info : Nat) : (s.occurInfo src info).clocks = s.clocks :=
  State.clocks_of_outer (State.Records.occurInfo (C := fun _ => True) (W := fun _ => True) s h info).outer

@[simp] theorem State.clocks_beginEntry (q : Nat) (t : PState) (auto device : Bool) : (s.beginEntry q t auto device).clocks = s.clocks :=
  s.clocks_modQp q _

@[simp] theorem State.clocks_beginExit (q x : Nat) (wake : Bool) : (s.beginExit q x wake).clocks = s.clocks := s.clocks_modQp q _

@[simp] theorem State.clocks_quireCmd (q x : Nat) (t : PState) (auto : Bool) : (s.quireCmd q x t auto).clocks = s.clocks := by
  unfold State.quireCmd
  dsimp only
  refine State.clocks_ite (State.clocks_ite (s.clocks_pwrResult ..) ?_) (State.clocks_ite (s.clocks_pwrResult ..) ?_)
  · exact (State.clocks_beginExit ..).trans (s.clocks_pwrResult ..)
  · split
    · exact s.clocks_pwrResult ..
    · exact s.clocks_beginEntry ..

@[simp] theorem State.clocks_runPending (q : Nat) : (s.runPending q).clocks = s.clocks := by
  unfold State.runPending
  split
  · refine (State.clocks_modQp _ q _).trans (State.clocks_ite ?_ ?_)
    · exact (State.clocks_beginEntry ..).trans (s.clocks_modQp q _)
    · exact (State.clocks_quireCmd ..).trans (s.clocks_modQp q _)
  · rfl

@[simp] theorem State.clocks_abortEntry (q result port : Nat) : (s.abortEntry q result port).clocks = s.clocks := by
  unfold State.abortEntry
  split
  · rfl
  next e _ =>
    extract_lets t pw u v
    have ht : t.clocks = s.clocks := (State.clocks_pwrResult ..).trans (s.clocks_modQp q _)
    have hu : u.clocks = t.clocks := State.clocks_ite rfl rfl
    have hv : v.clocks = u.clocks := foldl_same _ _ State.clocks (fun x p => x.clocks_modPort p _) u
    rw [State.clocks_runPending, hv, hu, ht]

@[simp] theorem State.clocks_abortVacates : (s.abortVacates pl).clocks = s.clocks := by
  refine foldl_same _ _ State.clocks (fun t q => ?_) s
  split
  · exact State.clocks_ite ((State.clocks_abortEntry ..).trans (t.clocks_modSb pl _)) rfl
  · rfl

@[simp] theorem State.clocks_timedCheck : (s.timedCheck pl).clocks = s.clocks := by
  unfold State.timedCheck
  dsimp only
  refine State.clocks_ite rfl (State.clocks_ite (s.clocks_modSb pl _) ?_)
  rw [State.clocks_abortVacates, State.clocks_of_outer (State.outer_migAbortAll ..), State.clocks_modSb, State.clocks_modSb]

@[simp] theorem State.clocks_timedSlot : (s.timedSlot pl).clocks = s.clocks := s.clocks_modSb pl _

/-- The loss of lock of an island, without what it causes (R120). -/
def State.dropLock (i : Nat) : State := s.modIsl pl i (fun x => { x with locked := false, disagree := 0, coin := 0 })

theorem State.clocks_unlock (i : Nat) : (s.unlock pl i).clocks = (s.dropLock pl i).clocks := by
  unfold State.unlock
  refine State.clocks_ite rfl ?_
  rw [State.clocks_timedCheck, State.clocks_occurInfo _ (by decide), State.clocks_ginc]
  rfl

end

end Sys2Proof.Machine

namespace Sys2Proof.Machine

/-! ### What changes the services of one plane only -/

/-- From `s` to `t` nothing has changed but the service block of `pl`. -/
def State.SbOnly (pl : Pl) (s t : State) : Prop := ∃ b, t = s.modSb pl (fun _ => b)

namespace State.SbOnly

variable {pl : Pl} {r s t : State}

theorem modSb (s : State) (pl : Pl) (f : Sb → Sb) : s.SbOnly pl (s.modSb pl f) := ⟨f (s.sb pl), by cases pl <;> rfl⟩

theorem refl (s : State) : s.SbOnly pl s := ⟨s.sb pl, by cases pl <;> rfl⟩

theorem trans (h1 : r.SbOnly pl s) (h2 : s.SbOnly pl t) : r.SbOnly pl t := by
  obtain ⟨b, rfl⟩ := h1
  obtain ⟨c, rfl⟩ := h2
  exact ⟨c, by cases pl <;> rfl⟩

theorem ite {c : Prop} [Decidable c] {a b : State} (ha : s.SbOnly pl a) (hb : s.SbOnly pl b) : s.SbOnly pl (if c then a else b) := by
  split
  · exact ha
  · exact hb

theorem foldl {γ : Type} (l : List γ) (f : State → γ → State) (h : ∀ t x, State.SbOnly pl t (f t x)) (s : State) :
    s.SbOnly pl (l.foldl f s) := by
  induction l generalizing s with
  | nil => exact refl s
  | cons x l ih => exact (h s x).trans (ih (f s x))

variable (h : s.SbOnly pl t)

include h

theorem mul (q : Pl) (e : Nat) : t.mul q e = s.mul q e := by
  obtain ⟨b, rfl⟩ := h
  exact s.mul_modSb ..

theorem outer : t.outer = s.outer := by
  obtain ⟨b, rfl⟩ := h
  exact s.outer_modSb ..

theorem g (off : Nat) : t.g off = s.g off := by
  obtain ⟨b, rfl⟩ := h
  exact s.g_modSb ..

end State.SbOnly

section

variable (s : State) (pl : Pl)

theorem State.sbOnly_sbSend (hdr : BitVec 64) (lines : List Line) : s.SbOnly pl (s.sbSend pl hdr lines) := .modSb s pl _

theorem State.sbOnly_sbIssueOne (i : Nat) : s.SbOnly pl (s.sbIssueOne pl i) := by
  unfold State.sbIssueOne
  extract_lets b
  split
  · refine .ite (.refl s) ?_
    extract_lets -underBinder _ s2 own
    have h2 : s.SbOnly pl s2 := .modSb s pl _
    have hown : ∀ st, s.SbOnly pl (own st) := fun st => h2.trans (.modSb s2 pl _)
    refine .ite (hown _) ?_
    split
    · exact h2.trans (s2.sbOnly_sbSend pl _ _)
    · exact hown _
  · exact .refl s

theorem State.sbOnly_sbIssue : s.SbOnly pl (s.sbIssue pl) :=
  .foldl _ _ (fun t i => .ite (t.sbOnly_sbIssueOne pl i) (.refl t)) s

theorem State.sbOnly_sbAdd (purpose : SbPurpose) (write ll : Bool) (owner priv addr span : Nat) (ben : BitVec 64) (data : List Line) :
    s.SbOnly pl (s.sbAdd pl purpose write ll owner priv addr span ben data) :=
  (State.SbOnly.modSb s pl _).trans (State.sbOnly_sbIssue _ pl)

theorem State.sbOnly_modQ (n : Nat) (f : QDyn → QDyn) : s.SbOnly pl (s.modQ pl n f) := .modSb s pl _

end

end Sys2Proof.Machine

namespace Sys2Proof.Machine

/-! ### What one fc leaves alone (log 3, R92, R120) -/

theorem State.answers_of_outer {s t : State} (h : t.outer = s.outer) : t.answers = s.answers :=
  (congrArg State.answers (State.outer_same h) :)

theorem State.router_of_outer {s t : State} (h : t.outer = s.outer) (pl : Pl) (q : Bool) (i : Nat) : t.router pl q i = s.router pl q i := by
  have hpl := State.plane_of_outer h pl
  have hf : (t.pln pl).frt = (s.pln pl).frt := (congrArg Plane.frt hpl :)
  have hq : (t.pln pl).qrt = (s.pln pl).qrt := (congrArg Plane.qrt hpl :)
  rw [State.router, State.router, hf, hq]

section

variable (s : State) (pl : Pl) (n : Nat)

/-- What no work of one fc reaches: everything outside the planes' services, and the Mule. -/
def State.units (s : State) : (State × (Nat → W32)) × (Pl → Nat → Mule) := (s.outer, s.mul)

theorem State.units_ite {c : Prop} [Decidable c] {s a b : State} (ha : a.units = s.units) (hb : b.units = s.units) :
    (if c then a else b).units = s.units := by
  split
  · exact ha
  · exact hb

variable {s pl} in
theorem State.SbOnly.units {t : State} (h : s.SbOnly pl t) : t.units = s.units :=
  Prod.ext h.outer (funext fun q => funext fun e => h.mul q e)

theorem State.Records.units {C W : Nat → Prop} {s t : State} (h : s.Records C W t) : t.units = s.units :=
  Prod.ext h.outer (funext fun q => funext fun e => h.mul q e)

theorem State.units_pset (off : Nat) (v : W32) : (s.pset pl off v).units = s.units :=
  Prod.ext (s.outer_pset ..) (funext fun _ => funext fun _ => s.mul_pset ..)

theorem State.units_qSetBit (i : Nat) (v : Bool) : (s.qSetBit pl n i v).units = s.units := s.units_pset pl _ _

theorem State.units_modQ (f : QDyn → QDyn) : (s.modQ pl n f).units = s.units := (s.sbOnly_modQ pl n f).units

theorem State.units_doorbell : (s.doorbell pl n).units = s.units := by
  unfold State.doorbell
  refine State.units_ite ?_ rfl
  exact ((State.sbOnly_sbAdd ..).units.trans (State.countQ_records ..).units).trans (s.units_qSetBit ..)

theorem State.units_joinFlag : (s.joinFlag pl n).units = s.units := by
  unfold State.joinFlag
  refine State.units_ite rfl (State.units_ite (s.units_modQ ..) (State.units_ite ?_ rfl))
  rw [State.units_qSetBit, State.units_qSetBit, State.units_qSetBit]

theorem State.units_queueFcEnd : (s.queueFcEnd pl).units = s.units := by
  unfold State.queueFcEnd
  extract_lets qs js t
  have ht : t.units = s.units := by
    refine (foldl_same _ _ State.units (fun u k => u.units_doorbell pl k) _).trans ?_
    exact State.units_ite rfl (State.SbOnly.modSb s pl _).units
  refine (foldl_same _ _ State.units (fun u k => ?_) t).trans ht
  rw [State.units_joinFlag, State.units_modQ]

theorem State.units_useFree (idx : Nat) : (s.useFree pl idx).units = s.units := by
  unfold State.useFree
  refine State.units_ite ?_ rfl
  exact Prod.ext (s.outer_modPln pl _ rfl) (funext fun q => funext fun _ => by cases pl <;> cases q <;> rfl)

theorem State.units_tickCounters : (s.tickCounters pl).units = s.units := by
  refine foldl_same _ _ State.units (fun t idx => ?_) s
  refine (State.units_useFree _ pl idx).trans (State.units_ite ?_ rfl)
  exact (State.ctrAdd_records 16 t pl idx _).units

theorem State.units_tickPlane : (s.tickPlane pl).units = s.units := by
  unfold State.tickPlane
  refine (State.units_tickCounters _ pl).trans ?_
  exact State.units_ite rfl (State.SbOnly.modSb s pl _).units

theorem State.units_fcQueues : s.fcQueues.units = s.units :=
  State.units_ite (s.eachPlane_same _ State.units fun pl t => t.units_queueFcEnd pl) rfl

theorem State.units_fcPlanes : s.fcPlanes.units = s.units :=
  State.units_ite (s.eachPlane_same _ State.units fun pl t => t.units_tickPlane pl) rfl

/-! #### Nothing under way to plane B -/

theorem State.skewed_idle (he : s.pair.edges = []) (hi : ∀ x ∈ s.ports, x.2.ingress = []) : s.skewed = s := by
  have hnone : s.ports.filter (fun x => !x.2.ingress.isEmpty) = [] :=
    List.filter_eq_nil_iff.2 fun x hx => by rw [hi x hx]; decide
  unfold State.skewed
  dsimp only
  rw [he, if_pos List.isEmpty_nil, hnone]
  rfl

@[simp] theorem State.clocks_ingressPass (p : Nat) : (s.ingressPass p).clocks = s.clocks :=
  State.clocks_of_aroundNis ((State.aroundNis_modNi _ .b p _).trans (s.aroundNis_modPort p _))

theorem State.clocks_skewed (he : s.pair.edges = []) : s.skewed.clocks = s.clocks := by
  unfold State.skewed
  dsimp only
  rw [he, if_pos List.isEmpty_nil]
  exact foldl_same _ _ State.clocks (fun t p => t.clocks_ingressPass p) s

theorem State.fcLoss_inSlot (h : s.boot.slotSeen = false ∨ s.fcInSlot < s.img.w) : s.fcLoss = s := by
  refine if_neg fun hc => ?_
  obtain ⟨hseen, hw⟩ := Bool.and_eq_true_iff.1 hc
  have hw := of_decide_eq_true hw
  rcases h with h | h
  · rw [h] at hseen; cases hseen
  · omega

theorem State.fcLoss_over (h : s.boot.slotSeen = true) (hw : s.img.w ≤ s.fcInSlot) : s.fcLoss = s.unlockAll :=
  if_pos (by rw [h, decide_eq_true hw]; rfl)

/-! #### The loss of every lock -/

theorem State.islLocked_unlock_self (i : Nat) : (s.unlock pl i).islLocked pl i = false := by
  rw [State.islLocked_of_clocks (s.clocks_unlock pl i), State.islLocked, State.dropLock, State.isl_modIsl_same]

theorem State.islLocked_unlock_ne (q : Pl) {i j : Nat} (h : q ≠ pl ∨ j ≠ i) : (s.unlock pl i).islLocked q j = s.islLocked q j := by
  rw [State.islLocked_of_clocks (s.clocks_unlock pl i), State.islLocked, State.islLocked, State.dropLock]
  by_cases hq : q = pl
  · subst hq
    rw [State.isl_modIsl_ne _ _ (h.resolve_left (not_not_intro rfl))]
  · rw [State.pln_modIsl_other _ _ hq]

/-- An island that is not locked stays so when one unlocks. -/
theorem State.islLocked_unlock_of_false (q : Pl) {i j : Nat} (h : s.islLocked q j = false) : (s.unlock pl i).islLocked q j = false := by
  by_cases hqj : q = pl ∧ j = i
  · obtain ⟨rfl, rfl⟩ := hqj
    exact s.islLocked_unlock_self q j
  · rw [s.islLocked_unlock_ne pl q (Decidable.not_and_iff_not_or_not.1 hqj), h]

theorem State.islLocked_unlockAll {i : Nat} (hpl : pl ∈ s.allPlanes) (hi : i ∈ s.islandsIn pl) : s.unlockAll.islLocked pl i = false := by
  have hin : ∀ q (t : State), ∀ j ∈ s.islandsIn q, ((s.islandsIn q).foldl (fun t k => t.unlock q k) t).islLocked q j = false :=
    fun q t => foldl_settles _ _ (fun j t => t.islLocked q j = false) (fun t k => t.islLocked_unlock_self q k)
      (fun t k j h => t.islLocked_unlock_of_false q q h) t
  refine foldl_settles s.allPlanes (fun t q => (s.islandsIn q).foldl (fun t k => t.unlock q k) t)
    (fun q t => ∀ j ∈ s.islandsIn q, t.islLocked q j = false) (fun t q => hin q t) (fun t q c hc j hj => ?_) s pl hpl i hi
  exact List.foldlRecOn (motive := fun t => State.islLocked t c j = false) _ _ (hc j hj)
    fun t ht k _ => State.islLocked_unlock_of_false t q c ht

/-! #### One fc -/

/-- In an fc of the slot's W in which nothing is under way to plane B, nothing outside the planes' services moves. -/
theorem State.units_tick (hr : s.referenceRuns = true) (hw : s.boot.slotSeen = false ∨ s.fcInSlot < s.img.w) (he : s.pair.edges = [])
    (hi : ∀ x ∈ s.ports, x.2.ingress = []) : s.tick.units = s.fcNext.units := by
  have hq : s.fcQueues.outer = s.outer := congrArg Prod.fst s.units_fcQueues
  have hmid : s.fcQueues.fcNext.skewed = s.fcQueues.fcNext :=
    State.skewed_idle _ ((congrArg Pair.edges (State.pair_of_outer hq)).trans he) (fun x hx => hi x ((State.ports_of_outer hq) ▸ hx))
  have hnext : s.fcQueues.fcNext.units = s.fcNext.units :=
    (congrArg (fun x : (State × (Nat → W32)) × (Pl → Nat → Mule) => ((x.1.1.fcNext, x.1.2), x.2)) s.units_fcQueues :)
  rw [State.tick_of_runs hr, State.fcLoss_inSlot s hw, State.units_fcPlanes, hmid, hnext]

/-- The counts of fc, the queue, the part, the keys and the configuration over one fc. -/
theorem State.counts_tick (hr : s.referenceRuns = true) : s.tick.fc = s.fc + 1 ∧ s.tick.fcInSlot = s.fcInSlot + 1 ∧ s.tick.slot = s.slot ∧
    s.tick.pending = s.pending ∧ s.tick.variant = s.variant ∧ s.tick.keys = s.keys ∧ s.tick.img = s.img := by
  have hbefore : s.Steady s.fcLoss.fcQueues := s.fcLoss_steady.trans (State.fcQueues_steady _)
  have hafter := (State.skewed_steady (.refl s.fcLoss.fcQueues.fcNext)).trans (State.fcPlanes_steady _)
  rw [State.tick_of_runs hr]
  exact ⟨hafter.fc.trans (congrArg (· + 1) hbefore.fc), hafter.fcInSlot.trans (congrArg (· + 1) hbefore.fcInSlot),
    hafter.slot.trans hbefore.slot, hafter.pending.trans hbefore.pending, hafter.variant.trans hbefore.variant,
    hafter.keys.trans hbefore.keys, hafter.img.trans hbefore.img⟩

theorem State.pair_unlockAll : s.unlockAll.pair = s.pair := by
  refine foldl_same _ _ State.pair (fun t q => foldl_same _ _ State.pair (fun t i => ?_) t) s
  exact (State.pair_of_clocks (t.clocks_unlock q i)).trans (by cases q <;> rfl)

end

/-- Settles O54: each stage of an fc is followed through the views it leaves alone. -/
theorem emptyQueueTicks : Obligations.EmptyQueueTicks := by
  intro s hp
  have hstep : step s = .next s.tick := by
    unfold step
    rw [hp]
  refine ⟨fun hr => by rw [hstep, State.tick_of_off hr], fun hr => ?_⟩
  obtain ⟨hfc, hin, hslot, hpend, hvar, hkeys, himg⟩ := s.counts_tick hr
  refine ⟨s.tick, hstep, hfc, hin, hslot, hpend.trans hp, hvar, hkeys, himg, fun hw he hi => ?_, fun hseen hw he pl hpl i hisl => ?_⟩
  · have hu := s.units_tick hr hw he hi
    have ho : s.tick.outer = s.fcNext.outer := congrArg Prod.fst hu
    exact ⟨(State.pw_of_outer ho :), (State.ports_of_outer ho :), (State.answers_of_outer ho :), fun pl p => (State.ni_of_outer ho pl p :),
      fun pl i q => (State.router_of_outer ho pl q i :), fun pl e => congrFun (congrFun (congrArg Prod.snd hu) pl) e⟩
  · have hq : s.unlockAll.fcQueues.outer = s.unlockAll.outer := congrArg Prod.fst s.unlockAll.units_fcQueues
    have hedges : s.unlockAll.fcQueues.fcNext.pair.edges = [] :=
      (congrArg Pair.edges ((State.pair_of_outer hq).trans s.pair_unlockAll)).trans he
    have hafter : s.tick.islLocked pl i = s.unlockAll.fcQueues.fcNext.islLocked pl i := by
      rw [State.tick_of_runs hr, State.fcLoss_over s hseen hw]
      exact State.islLocked_of_clocks ((State.clocks_of_outer (congrArg Prod.fst (State.units_fcPlanes _))).trans
        (State.clocks_skewed _ hedges)) pl i
    rw [hafter]
    exact (State.islLocked_of_clocks (State.clocks_of_outer hq) pl i).trans (s.islLocked_unlockAll pl hpl hisl)

end Sys2Proof.Machine

namespace Sys2Proof.Machine

/-! ### The fc of a slot, seen by plane A (R92, R233) -/

/-- What plane A's islands see: all that `State.clocks` keeps but plane B and the edges on their way to it. -/
def State.master (s : State) : State := { s.clocks with pb := {}, pair := { s.pair with edges := [] } }

section

variable {s t : State}

theorem State.master_of_clocks (h : t.clocks = s.clocks) : t.master = s.master :=
  (congrArg (fun x : State => ({ x with pb := {}, pair := { x.pair with edges := [] } } : State)) h :)

variable (h : t.master = s.master)

include h

theorem State.isl_of_master : t.pa.isl = s.pa.isl := (congrArg (fun x : State => x.pa.isl) h :)
theorem State.boot_of_master : t.boot = s.boot := (congrArg (fun x : State => x.boot) h :)

theorem State.referenceRuns_of_master : t.referenceRuns = s.referenceRuns := by
  have hdev : t.pw.dev = s.pw.dev := (congrArg (fun x : State => x.pw.dev) h :)
  have hexit : t.pw.devExitAt = s.pw.devExitAt := (congrArg (fun x : State => x.pw.devExitAt) h :)
  unfold State.referenceRuns
  rw [State.boot_of_master h, hdev, hexit]

end

section

variable (s : State)

theorem State.master_dropLock (i : Nat) : (s.dropLock .b i).master = s.master := rfl

theorem State.master_unlock (i : Nat) : (s.unlock .b i).master = s.master :=
  (State.master_of_clocks (s.clocks_unlock .b i)).trans (s.master_dropLock i)

theorem State.master_slotIslands (slot : BitVec 64) : (s.slotIslands .b slot).master = s.master := by
  unfold State.slotIslands
  extract_lets t
  have ht : t.master = s.master := rfl
  exact (foldl_same _ _ State.master (fun u i => u.master_unlock i) t).trans ht

/-- The routers of a plane begin a new window, and its timed mode a new slot. -/
theorem State.clocks_slotInside (pl : Pl) : (s.slotInside pl).clocks = s.clocks :=
  (State.clocks_timedSlot _ pl).trans (by cases pl <;> rfl)

theorem State.master_planeEdge (slot : BitVec 64) : (s.planeEdge .b slot).master = s.master := by
  unfold State.planeEdge
  dsimp only
  split
  · exact (State.master_of_clocks (State.clocks_slotInside _ .b)).trans (s.master_slotIslands slot)
  · exact s.master_slotIslands slot

theorem State.master_lateEdges : s.lateEdges.master = s.master := by
  unfold State.lateEdges
  extract_lets due
  have hstep := fun (u : State) (e : Nat × BitVec 64) => u.master_planeEdge e.2
  refine (foldl_same due _ State.master hstep _).trans ?_
  rfl

theorem State.master_skewed : s.skewed.master = s.master := by
  unfold State.skewed
  extract_lets t
  have ht : t.master = s.master := by
    unfold t
    split
    · rfl
    · exact s.master_lateEdges
  exact (foldl_same _ _ State.master (fun u p => State.master_of_clocks (u.clocks_ingressPass p)) t).trans ht

theorem State.master_tick (hr : s.referenceRuns = true) (hw : s.boot.slotSeen = false ∨ s.fcInSlot < s.img.w) :
    s.tick.master = s.fcNext.master := by
  have hq : s.fcQueues.fcNext.master = s.fcNext.master :=
    (congrArg (fun x : State × (Nat → W32) => x.1.fcNext.master) (congrArg Prod.fst s.units_fcQueues) :)
  have hp := fun t : State => State.master_of_clocks (State.clocks_of_outer (congrArg Prod.fst t.units_fcPlanes))
  rw [State.tick_of_runs hr, State.fcLoss_inSlot s hw, hp, State.master_skewed, hq]

end

/-- What stays over the fc that are left of a slot: time but for the fc, the configuration, and the locks of plane A's islands. -/
structure State.SameSlot (n : Nat) (s t : State) : Prop where
  fc : t.fc = s.fc + n
  slot : t.slot = s.slot
  pending : t.pending = s.pending
  variant : t.variant = s.variant
  img : t.img = s.img
  isl : t.pa.isl = s.pa.isl
  canon : s.Canon → t.Canon

theorem State.runFc_sameSlot (n : Nat) (s : State) (hr : s.referenceRuns = true) (hw : n = 0 ∨ s.fcInSlot + n ≤ s.img.w) :
    s.SameSlot n (State.runFc n s) := by
  induction n generalizing s with
  | zero => exact ⟨rfl, rfl, rfl, rfl, rfl, rfl, id⟩
  | succ n ih =>
    obtain ⟨hfc, hin, hslot, hpend, hvar, -, himg⟩ := s.counts_tick hr
    have hm := s.master_tick hr (.inr (by omega))
    have hrest := ih s.tick ((State.referenceRuns_of_master hm :).trans hr) (by rw [himg, hin]; omega)
    refine ⟨?_, hrest.slot.trans hslot, hrest.pending.trans hpend, hrest.variant.trans hvar, hrest.img.trans himg,
      hrest.isl.trans (State.isl_of_master hm :), fun h => hrest.canon ?_⟩
    · show (State.runFc n s.tick).fc = s.fc + (n + 1)
      rw [hrest.fc, hfc]
      omega
    · exact (s.tick_within (m := reachOf .slotBoundary) rfl).canon h

end Sys2Proof.Machine

namespace Sys2Proof.Machine

/-! ### Reading tables -/

section

variable {α : Type}

/-- A filter that asks for the key only hides whole rows. -/
theorem Tab.rd_filter_key (t : Tab α) (p : Nat → Bool) (k : Nat) (d : α) :
    Tab.rd (t.filter (fun x => p x.1)) k d = if p k then Tab.rd t k d else d := by
  unfold Tab.rd
  induction t with
  | nil => simp
  | cons x t ih =>
    obtain ⟨j, v⟩ := x
    rw [List.filter_cons]
    by_cases hj : j = k
    · subst hj
      cases hp : p j with
      | true => simp [Tab.find]
      | false => simpa [hp] using ih
    · cases hp : p j with
      | true => simpa [Tab.find, hj] using ih
      | false => simpa [Tab.find, hj] using ih

/-- In a table in order, what stands under a key is what is read there. -/
theorem Tab.rd_of_mem {t : Tab α} (h : Tab.Sorted t) {x : Nat × α} (hx : x ∈ t) (d : α) : Tab.rd t x.1 d = x.2 := by
  induction t with
  | nil => exact absurd hx List.not_mem_nil
  | cons y t ih =>
    obtain ⟨j, v⟩ := y
    obtain ⟨hy, ht⟩ := List.pairwise_cons.1 h
    rcases List.mem_cons.1 hx with rfl | hx
    · simp [Tab.rd, Tab.find]
    · have hlt : j < x.1 := hy x hx
      rw [← ih ht hx]
      simp [Tab.rd, Tab.find, Nat.ne_of_lt hlt]

/-- An update of each row of a list changes each row once. -/
theorem Tab.rd_foldl_upd [DecidableEq α] (l : List Nat) (hl : l.Nodup) (d : α) (f : Nat → α → α) (t : Tab α) {k : Nat} (hk : k ∈ l) :
    Tab.rd (l.foldl (fun t i => Tab.upd t i d (f i)) t) k d = f k (Tab.rd t k d) := by
  induction l generalizing t with
  | nil => exact absurd hk List.not_mem_nil
  | cons i l ih =>
    obtain ⟨hi, hl⟩ := List.nodup_cons.1 hl
    rcases List.mem_cons.1 hk with rfl | hk
    · refine (?_ : Tab.rd (l.foldl _ (Tab.upd t k d (f k))) k d = Tab.rd (Tab.upd t k d (f k)) k d).trans (Tab.rd_upd_same ..)
      exact List.foldlRecOn (motive := fun u => Tab.rd u k d = Tab.rd (Tab.upd t k d (f k)) k d) l _ rfl
        fun u hu j hj => (Tab.rd_upd_ne _ _ _ _ (fun e : k = j => hi (e ▸ hj))).trans hu
    · rw [List.foldl_cons, ih hl _ hk, Tab.rd_upd_ne _ _ _ _ (fun e : k = i => hi (e ▸ hk))]

end

/-! ### The islands at a slot edge (R91, R92) -/

theorem State.nodup_islandsIn (s : State) (pl : Pl) : (s.islandsIn pl).Nodup := by
  unfold State.islandsIn State.islands
  cases s.variant <;> cases pl <;> decide

section

variable (s : State) (pl : Pl)

/-- What the loss of lock of an island leaves of every island: its copy, and its lock unless it is that island. -/
theorem State.copy_unlock (j : Nat) (q : Pl) (i : Nat) : (((s.unlock pl j).pln q).isl.rd i {}).copy = ((s.pln q).isl.rd i {}).copy := by
  rw [State.isl_of_clocks (s.clocks_unlock pl j), State.dropLock]
  by_cases hq : q = pl
  · subst hq
    by_cases hi : i = j
    · subst hi
      rw [State.isl_modIsl_same]
    · rw [State.isl_modIsl_ne _ _ hi]
  · rw [State.pln_modIsl_other _ _ hq]

/-- The slot edge at the islands of a plane, before any of them loses its lock. -/
def State.islandEdges (slot : BitVec 64) : State :=
  s.modPln pl (fun x => { x with isl := (s.islandsIn pl).foldl (fun t i =>
    t.upd i {} (fun v => v.slotEdge (s.islandRuns pl i) slot)) x.isl })

theorem State.isl_islandEdges (slot : BitVec 64) {i : Nat} (hi : i ∈ s.islandsIn pl) :
    ((s.islandEdges pl slot).pln pl).isl.rd i {} = ((s.pln pl).isl.rd i {}).slotEdge (s.islandRuns pl i) slot := by
  rw [State.islandEdges, State.modPln_pln]
  exact Tab.rd_foldl_upd _ (s.nodup_islandsIn pl) ({} : Island) (fun i (v : Island) => v.slotEdge (s.islandRuns pl i) slot) _ hi

theorem State.slotIslands_eq (slot : BitVec 64) : s.slotIslands pl slot =
    (((((s.islandEdges pl slot).pln pl).isl.filter (fun x => decide (2 ≤ x.2.disagree))).map (·.1)).foldl
      (fun t i => t.unlock pl i) (s.islandEdges pl slot)) := rfl

/-- A locked island counts its copy on (R92). -/
theorem Island.copy_slotEdge {v : Island} (h : v.locked = true) (runs : Bool) (slot : BitVec 64) : (v.slotEdge runs slot).copy = v.copy + 1 := by
  unfold Island.slotEdge
  dsimp only
  rw [if_pos h]

/-- One whose copy agrees with the master stays locked and has no disagreement on record (R92). -/
theorem Island.slotEdge_agrees {v : Island} (h : v.locked = true) (runs : Bool) {slot : BitVec 64}
    (ha : fld (v.copy + 1) 0 8 = fld slot 0 8) : (v.slotEdge runs slot).locked = true ∧ (v.slotEdge runs slot).disagree = 0 := by
  unfold Island.slotEdge
  dsimp only
  rw [if_pos h, if_pos ha]
  exact ⟨h, rfl⟩

theorem State.copy_slotIslands (slot : BitVec 64) {i : Nat} (hi : i ∈ s.islandsIn pl) (hl : s.islLocked pl i = true) :
    (((s.slotIslands pl slot).pln pl).isl.rd i {}).copy = ((s.pln pl).isl.rd i {}).copy + 1 := by
  rw [s.slotIslands_eq pl]
  refine (foldl_same _ _ (fun t => ((State.pln t pl).isl.rd i {}).copy) (fun t j => State.copy_unlock t pl j pl i) _).trans ?_
  rw [s.isl_islandEdges pl slot hi, Island.copy_slotEdge hl]

theorem State.locked_slotIslands (slot : BitVec 64) {i : Nat} (hi : i ∈ s.islandsIn pl) (hl : s.islLocked pl i = true)
    (hs : Tab.Sorted (s.pln pl).isl) (ha : fld (((s.pln pl).isl.rd i {}).copy + 1) 0 8 = fld slot 0 8) :
    (s.slotIslands pl slot).islLocked pl i = true := by
  obtain ⟨hlock, hdis⟩ := Island.slotEdge_agrees hl (s.islandRuns pl i) ha
  have hsorted : Tab.Sorted ((s.islandEdges pl slot).pln pl).isl := by
    rw [State.islandEdges, State.modPln_pln]
    exact Tab.sorted_foldl_upd _ (fun i => i) ({} : Island) (fun i (v : Island) => v.slotEdge (s.islandRuns pl i) slot) hs
  have hkeep : ∀ j ∈ (((s.islandEdges pl slot).pln pl).isl.filter (fun x => decide (2 ≤ x.2.disagree))).map (·.1), i ≠ j := by
    rintro j hj rfl
    obtain ⟨x, hx, hxi⟩ := List.mem_map.1 hj
    obtain ⟨hx, hd⟩ := List.mem_filter.1 hx
    have hd := of_decide_eq_true hd
    rw [← Tab.rd_of_mem hsorted hx {}, hxi, s.isl_islandEdges pl slot hi, hdis] at hd
    omega
  rw [s.slotIslands_eq pl]
  refine (foldl_same_of_mem _ _ (fun t => State.islLocked t pl i) (fun t j hj => State.islLocked_unlock_ne t pl pl (.inr (hkeep j hj))) _).trans ?_
  rw [State.islLocked, s.isl_islandEdges pl slot hi, hlock]

end

end Sys2Proof.Machine

namespace Sys2Proof.Machine

/-! ### The slot boundary at the halves of the NIs (R106, R119, R120) -/

section

variable (s : State) (pl : Pl)

theorem State.aroundNis_admitRet (p : Nat) (r : RetRes) : (s.admitRet pl p r).aroundNis = s.aroundNis := by
  unfold State.admitRet
  split
  · rfl
  · exact (State.aroundNis_niPass ..).trans (s.aroundNis_modNi pl p _)

theorem State.aroundNis_admitStream (p n : Nat) : (s.admitStream pl p n).aroundNis = s.aroundNis := by
  unfold State.admitStream
  split
  · rfl
  · exact ((State.aroundNis_niPass ..).trans (State.aroundNis_countNi ..)).trans (s.aroundNis_modNi pl p _)

theorem State.aroundNis_gtAdmit (p : Nat) : (s.gtAdmit pl p).aroundNis = s.aroundNis := by
  unfold State.gtAdmit
  extract_lets t n
  have ht : t.aroundNis = s.aroundNis := s.aroundNis_modNi pl p _
  refine State.aroundNis_ite ht ?_
  split
  · split
    · exact (t.aroundNis_admitRet pl p _).trans ht
    · exact ht
  · split
    · exact (t.aroundNis_admitStream pl p _).trans ht
    · exact ht

theorem State.aroundNis_gtAdmitAll : (s.gtAdmitAll pl).aroundNis = s.aroundNis :=
  State.aroundNis_ite rfl (foldl_same _ _ State.aroundNis (fun t p => State.aroundNis_ite (t.aroundNis_gtAdmit pl p) rfl) s)

theorem State.aroundNis_gtDisableUnlocked : (s.gtDisableUnlocked pl).aroundNis = s.aroundNis :=
  State.aroundNis_ite rfl (foldl_same _ _ State.aroundNis (fun t r => t.aroundNis_gtDisable pl r) s)

/-- What the marks of R120 leave alone: the edges under way, and of each island its lock and its copy. -/
def State.locks (s : State) : Pair × (Pl → Nat → Bool × BitVec 64) :=
  (s.pair, fun q i => (((s.pln q).isl.rd i {}).locked, ((s.pln q).isl.rd i {}).copy))

theorem State.locks_of_clocks {s t : State} (h : t.clocks = s.clocks) : t.locks = s.locks := by
  unfold State.locks
  simp only [State.pair_of_clocks h, State.isl_of_clocks h]

theorem State.locks_mark (i : Nat) : (s.modIsl pl i (fun x => { x with marked := true })).locks = s.locks := by
  refine Prod.ext (by cases pl <;> rfl) (funext fun q => funext fun j => ?_)
  unfold State.locks
  dsimp only
  by_cases hq : q = pl
  · subst hq
    by_cases hj : j = i
    · subst hj
      rw [State.isl_modIsl_same]
    · rw [State.isl_modIsl_ne _ _ hj]
  · rw [State.pln_modIsl_other _ _ hq]

theorem State.locks_markUnlocked : (s.markUnlocked pl).locks = s.locks := by
  unfold State.markUnlocked
  extract_lets new t
  have ht : t.locks = s.locks := foldl_same _ _ State.locks (fun u i => u.locks_mark pl i) s
  split
  · rfl
  · exact (State.locks_of_clocks (State.clocks_of_outer (t.outer_pltFlags _))).trans ht

theorem State.locks_slotEnds : (s.slotEnds pl).locks = s.locks := by
  have hclocks := fun {s t : State} (h : t.aroundNis = s.aroundNis) => State.locks_of_clocks (State.clocks_of_aroundNis h)
  unfold State.slotEnds
  rw [hclocks (State.aroundNis_gtAdmitAll _ pl), State.locks_markUnlocked, hclocks (s.aroundNis_gtDisableUnlocked pl)]

theorem State.locks_slotHalves : s.slotHalves.locks = s.locks := by
  unfold State.slotHalves
  split
  · exact s.eachPlane_same _ State.locks fun q t => t.locks_slotEnds q
  · rfl

theorem State.pair_of_locks {s t : State} (h : t.locks = s.locks) : t.pair = s.pair := congrArg Prod.fst h

theorem State.lock_of_locks {s t : State} (h : t.locks = s.locks) (q : Pl) (i : Nat) :
    ((t.pln q).isl.rd i {}).locked = ((s.pln q).isl.rd i {}).locked ∧ ((t.pln q).isl.rd i {}).copy = ((s.pln q).isl.rd i {}).copy :=
  Prod.ext_iff.1 (congrFun (congrFun (congrArg Prod.snd h) q) i)

/-! #### The slot edge at both planes -/

/-- At plane A the edge is that of its islands. -/
theorem State.clocks_planeEdge (slot : BitVec 64) : (s.planeEdge pl slot).clocks = (s.slotIslands pl slot).clocks := by
  unfold State.planeEdge
  dsimp only
  split
  · exact State.clocks_slotInside _ pl
  · rfl

/-- Plane B's share of the edge leaves the islands of plane A alone. -/
theorem State.isl_slotEdges : s.slotEdges.pa.isl = (s.slotIslands .a s.slot).pa.isl := by
  have ha : (s.planeEdge .a s.slot).pa.isl = (s.slotIslands .a s.slot).pa.isl := State.isl_of_clocks (s.clocks_planeEdge .a s.slot) .a
  unfold State.slotEdges
  dsimp only
  split
  · exact ha
  split
  · exact (State.isl_of_master (State.master_planeEdge _ _)).trans ha
  · exact ha

/-- The edge is on its way to plane B, D fc behind (R233). -/
theorem State.edge_slotEdges (hp : s.variant.paired = true) (hd : s.img.skew ≠ 0) :
    (s.fc + s.img.skew, s.slot) ∈ s.slotEdges.pair.edges := by
  have h : s.Steady (s.planeEdge .a s.slot) := State.planeEdge_steady (.refl s) .a s.slot
  unfold State.slotEdges
  dsimp only
  rw [h.variant, h.img, h.fc, h.slot, if_neg (by rw [hp]; decide), if_neg hd]
  exact List.mem_append_right _ List.mem_cons_self

end

end Sys2Proof.Machine

namespace Sys2Proof.Machine

/-! ### The slot boundary (R91, R92, R233) -/

section

variable (s : State)

theorem State.clocks_beginHolds : s.beginHolds.clocks = s.clocks :=
  foldl_same _ _ State.clocks (fun t m => by split <;> rfl) s

theorem State.slotNext_after (hr : s.referenceRuns = true) :
    s.slotNext.fc = s.fc + (s.img.w - s.fcInSlot) ∧ s.slotNext.slot = s.slot + 1 ∧ s.slotNext.pending = s.pending ∧
    s.slotNext.variant = s.variant ∧ s.slotNext.img = s.img ∧ s.slotNext.pa.isl = s.pa.isl ∧ (s.Canon → s.slotNext.Canon) := by
  have hrun := State.runFc_sameSlot (s.img.w - s.fcInSlot) s hr (by omega)
  have hold : (State.runFc (s.img.w - s.fcInSlot) s).Steady (State.runFc (s.img.w - s.fcInSlot) s).beginHolds :=
    State.beginHolds_steady (.refl _)
  exact ⟨hold.fc.trans hrun.fc, congrArg (· + 1) (hold.slot.trans hrun.slot), hold.pending.trans hrun.pending,
    hold.variant.trans hrun.variant, hold.img.trans hrun.img,
    (State.isl_of_clocks (State.clocks_beginHolds _) .a).trans hrun.isl, fun h => hold.canon (hrun.canon h)⟩

theorem State.slotEdges_halves_steady : s.Steady s.slotEdges.slotHalves.slotShared :=
  ((State.slotEdges_steady (.refl s)).trans (State.slotHalves_steady _)).trans (State.slotShared_steady _)

theorem State.pair_slotShared : s.slotShared.pair = s.pair := rfl

theorem State.isl_slotShared : s.slotShared.pa.isl = (s.pln .a).isl := rfl

theorem State.fcInSlot_slotNext : s.slotNext.fcInSlot = 0 := rfl

/-- Over the boundary, plane A's islands are as the slot edge leaves them. -/
theorem State.lock_boundary (i : Nat) :
    (s.slotEdges.slotHalves.slotShared.pa.isl.rd i {}).locked = (s.slotIslands .a s.slot).islLocked .a i ∧
    (s.slotEdges.slotHalves.slotShared.pa.isl.rd i {}).copy = (((s.slotIslands .a s.slot).pln .a).isl.rd i {}).copy := by
  have he : (s.slotEdges.pln .a).isl = ((s.slotIslands .a s.slot).pln .a).isl := s.isl_slotEdges
  have h := State.lock_of_locks s.slotEdges.locks_slotHalves .a i
  rw [he] at h
  rw [State.isl_slotShared]
  exact h

end

/-- A boundary while the reference runs counts the slot, sends plane B its edge, and moves the copies of locked islands on. -/
theorem slotBoundary_later (s : State) (hr : s.referenceRuns = true) (hseen : s.boot.slotSeen = true) :
    ∃ t : State, exec .slotBoundary s = .next t ∧ t.slot = s.slot + 1 ∧ t.fcInSlot = 0 ∧
      t.fc = s.fc + (s.img.w - s.fcInSlot) ∧ t.img = s.img ∧ t.pending = s.pending ∧
      (s.variant.paired = true → s.img.skew ≠ 0 → (t.fc + s.img.skew, t.slot) ∈ t.pair.edges) ∧
      ∀ i, s.isIsland .a i = true → s.islLocked .a i = true →
        ((t.pa.isl.rd i {}).locked = true → (t.pa.isl.rd i {}).copy = (s.pa.isl.rd i {}).copy + 1) ∧
        (s.Canon → fld ((s.pa.isl.rd i {}).copy + 1) 0 8 = fld (s.slot + 1) 0 8 → (t.pa.isl.rd i {}).locked = true) := by
  obtain ⟨hfc, hslot, hpend, hvar, himg, hisl, hcanon⟩ := s.slotNext_after hr
  have hsteady := s.slotNext.slotEdges_halves_steady
  refine ⟨_, execSlotBoundary_later hr hseen, hsteady.slot.trans hslot, hsteady.fcInSlot.trans s.fcInSlot_slotNext, hsteady.fc.trans hfc,
    hsteady.img.trans himg, hsteady.pending.trans hpend, fun hp hd => ?_, fun i hi hl => ?_⟩
  · have hedge := s.slotNext.edge_slotEdges (by rw [hvar, hp]) (by rw [himg]; exact hd)
    rw [← State.pair_of_locks s.slotNext.slotEdges.locks_slotHalves] at hedge
    rw [hsteady.fc, hsteady.slot, ← himg, State.pair_slotShared]
    exact hedge
  · have hin : i ∈ s.slotNext.islandsIn .a := by
      rw [State.islandsIn, State.islands, hvar]
      exact List.contains_iff_mem.1 (Bool.and_eq_true_iff.1 hi).2
    have hl' : s.slotNext.islLocked .a i = true := (congrArg (fun x : Tab Island => (x.rd i {}).locked) hisl).trans hl
    have hrow : ((s.slotNext.pln .a).isl.rd i {}) = s.pa.isl.rd i {} := congrArg (fun x : Tab Island => x.rd i {}) hisl
    obtain ⟨hlocked, hcopy⟩ := s.slotNext.lock_boundary i
    refine ⟨fun _ => ?_, fun hc ha => ?_⟩
    · rw [hcopy, State.copy_slotIslands _ .a _ hin hl', hrow]
    · have hsorted : Tab.Sorted s.slotNext.pa.isl := by
        obtain ⟨-, -, ⟨-, -, -, -, -, h⟩, -⟩ := hcanon hc
        exact h
      rw [hlocked]
      exact State.locked_slotIslands _ .a _ hin hl' hsorted (by rw [hrow, hslot]; exact ha)

end Sys2Proof.Machine

namespace Sys2Proof.Machine

/-! ### Windows of a router, and islands that lock and unlock (R76, R91, R92, R119, R120) -/

theorem Router.window_whole (r : Router) (k : Nat) :
    (r.window.aged.rd k false = (r.asked.rd k false && !r.won.rd k false)) ∧ r.window.spent = [] ∧ r.window.asked = [] ∧
    r.window.won = [] ∧ r.window.buf = r.buf := by
  refine ⟨?_, rfl, rfl, rfl, rfl⟩
  have h := Tab.rd_filter_key r.asked (fun j => !r.won.rd j false) k false
  refine (h : r.window.aged.rd k false = _).trans ?_
  cases r.won.rd k false <;> simp

section

variable (s : State) (pl : Pl) (i : Nat)

theorem execIslandLock_due (hi : s.isIsland pl i = true) (hp : if i = 21 then s.phase ≤ 6 else s.phase = 6) (hd : s.lockDue pl i = true)
    (hl : s.islLocked pl i = false) : execIslandLock pl i s = .next (s.lockIsland pl i) := by
  have hphase : (if i = 21 then decide (s.phase ≤ 6) else decide (s.phase = 6)) = true := by
    split at hp
    · rw [if_pos ‹_›, decide_eq_true hp]
    · rw [if_neg ‹_›, decide_eq_true hp]
  unfold execIslandLock
  rw [if_pos (by rw [hi, hphase, hd, hl]; rfl)]

/-- The state after the loss of lock of a locked island, before timed mode asks about it. -/
def State.lockLost : State :=
  ((s.dropLock pl i).ginc rTiming 16 16 1).occurInfo 372 (i + (match pl with | .a => 0 | .b => 256))

theorem State.unlock_locked (hl : s.islLocked pl i = true) : s.unlock pl i = (s.lockLost pl i).timedCheck pl := by
  unfold State.unlock
  dsimp only
  rw [hl]
  rfl

theorem execIslandUnlock_locked (hi : s.isIsland pl i = true) (hl : s.islLocked pl i = true) :
    execIslandUnlock pl i s = .next ((s.lockLost pl i).timedCheck pl) := by
  unfold execIslandUnlock
  rw [if_pos hi, s.unlock_locked pl i hl]

theorem State.isl_lockLost : ((s.lockLost pl i).pln pl).isl = ((s.dropLock pl i).pln pl).isl :=
  State.isl_of_clocks ((State.clocks_occurInfo _ (by decide) _).trans (State.clocks_ginc ..)) pl

/-- The loss is counted and raises its event (R120). -/
theorem State.counted_lockLost : (s.lockLost pl i).gf rTiming 16 16 = satAdd 16 (s.gf rTiming 16 16) 1 ∧
    (s.lockLost pl i).evCount 372 = satAdd 8 (s.evCount 372) 1 := by
  refine ⟨?_, ?_⟩
  · have hrec := State.Records.occurInfo (C := fun _ => False) (W := fun _ => False)
      ((s.dropLock pl i).ginc rTiming 16 16 1) (src := 372) (by decide) (i + (match pl with | .a => 0 | .b => 256))
    have hdrop : (s.dropLock pl i).gf rTiming 16 16 = s.gf rTiming 16 16 := by cases pl <;> rfl
    refine (hrec.gf (by decide) 16 16).trans ?_
    rw [State.gf_ginc _ _ _ (by decide), hdrop]
    rfl
  · refine (State.evCount_occurInfo _ 372 _).trans ?_
    cases pl <;> rfl

/-- What was measured of the island's crossings is forgotten: only the others are on record. -/
theorem State.mem_forgetOff (o : Nat × Nat) :
    o ∈ (s.forgetOff pl i).boot.offList ↔ o ∈ s.boot.offList ∧ codeTouches pl i o.1 = false := by
  refine List.mem_filter.trans (and_congr_right fun _ => ?_)
  rw [Bool.not_eq_true']

theorem execIslandRelock_due (hi : s.isIsland pl i = true) (hr : s.islandRuns pl i = true) (hd : s.lockDue pl i = true)
    (hl : s.islLocked pl i = false) (hp : s.phase ≠ 6) (hm : s.minimal = false) (measured : List Crossing) :
    execIslandRelock pl i measured s =
      .next (if measured.any offNominal then (s.forgetOff pl i).recordOff measured else (s.forgetOff pl i).relocked pl i) := by
  unfold execIslandRelock
  rw [if_pos (by rw [hi, hr, hd, hl, decide_eq_true hp, hm]; rfl)]

theorem State.relocked_forgetOff : ((s.forgetOff pl i).relocked pl i).islLocked pl i = true ∧
    ((((s.forgetOff pl i).relocked pl i).pln pl).isl.rd i {}).copy = s.planeSlot pl ∧
    ((((s.forgetOff pl i).relocked pl i).pln pl).isl.rd i {}).marked = false ∧
    ((s.forgetOff pl i).relocked pl i).boot.offList = (s.forgetOff pl i).boot.offList := by
  have hrow := (s.forgetOff pl i).isl_relocked_same pl i
  have hboot := congrArg Boot.offList (State.boot_of_clocks (State.clocks_of_outer ((s.forgetOff pl i).outer_relocked pl i)))
  rw [State.islLocked, hrow]
  exact ⟨rfl, by cases pl <;> rfl, rfl, hboot.trans (by cases pl <;> rfl)⟩

end

/-- Settles O24. -/
theorem slotsAndIslands : Obligations.SlotsAndIslands := by
  refine ⟨fun s hr => ⟨fun hseen => ⟨_, execSlotBoundary_first hr hseen, rfl, rfl, rfl⟩, slotBoundary_later s hr⟩, Router.window_whole,
    fun s pl i hi => ⟨fun hp hd hl => ?_, fun hl => ?_, fun hr hd hl hp hm measured => ⟨fun hnom => ?_, fun hoff => ?_⟩⟩⟩
  · refine ⟨_, execIslandLock_due s pl i hi hp hd hl, ?_, ?_, fun j hj => s.isl_modIsl_ne pl hj _⟩
    · rw [State.islLocked, State.lockIsland, State.isl_modIsl_same]
    · rw [State.lockIsland, State.isl_modIsl_same]
  · obtain ⟨hcount, hevent⟩ := s.counted_lockLost pl i
    refine ⟨_, execIslandUnlock_locked s pl i hi hl, ?_, ?_, hcount, hevent⟩
    · rw [State.islLocked, State.isl_lockLost, State.dropLock, State.isl_modIsl_same]
    · rw [State.isl_lockLost, State.dropLock, State.isl_modIsl_same]
  · have hany : measured.any offNominal = false := List.any_eq_false.2 fun c hc => by rw [hnom c hc]; decide
    obtain ⟨hlock, hcopy, hmark, hlist⟩ := s.relocked_forgetOff pl i
    refine ⟨_, (execIslandRelock_due s pl i hi hr hd hl hp hm measured).trans ?_, hlock, hcopy, hmark, fun o ho => ?_⟩
    · rw [hany, if_neg Bool.false_ne_true]
    · rw [hlist] at ho
      exact ((s.mem_forgetOff pl i o).1 ho).2
  · have hany : measured.any offNominal = true := List.any_eq_true.2 hoff
    refine ⟨s.forgetOff pl i, (execIslandRelock_due s pl i hi hr hd hl hp hm measured).trans ?_, s.mem_forgetOff pl i⟩
    rw [hany, if_pos rfl]

end Sys2Proof.Machine

namespace Sys2Proof.Machine

/-! ### What a refusal leaves at an NI (R41, R192) -/

section

variable (s : State) (pl : Pl)

@[simp] theorem State.ni_pinc (off lo len n : Nat) (q : Pl) (j : Nat) : (s.pinc pl off lo len n).ni q j = s.ni q j := by
  unfold State.pinc State.pfset
  rw [State.ni_pset]
  exact (State.Records.noteInc (C := fun _ => True) (W := fun _ => True) s _ _ _ _ _).ni q j

@[simp] theorem State.ni_por (off : Nat) (m : W32) (q : Pl) (j : Nat) : (s.por pl off m).ni q j = s.ni q j :=
  (State.Records.por (C := fun _ => True) (W := fun _ => True) s pl trivial m).ni q j

@[simp] theorem State.ni_countNi (p code qual : Nat) (owner : Option Nat) (q : Pl) (j : Nat) :
    (s.countNi pl p code qual owner).ni q j = s.ni q j := (s.countNi_records pl p code qual owner).ni q j

@[simp] theorem State.ni_niEvent (p c : Nat) (q : Pl) (j : Nat) : (s.niEvent pl p c).ni q j = s.ni q j :=
  (State.Records.niEvent (C := fun _ => True) (W := fun _ => True) s pl trivial c).ni q j

@[simp] theorem State.ni_setVrec (p : Nat) (d : Line) (q : Pl) (j : Nat) : (s.setVrec pl p d).ni q j = s.ni q j :=
  foldl_same _ _ (fun t => State.ni t q j) (fun t _ => t.ni_pset ..) s

/-- A violation takes the next record number and may put a record into the queue (R192). -/
theorem State.ni_violation (p owner priv paddr kind cause region need len : Nat) :
    ∃ l, (s.violation pl p owner priv paddr kind cause region need len).ni pl p =
      { s.ni pl p with recSeq := (s.ni pl p).recSeq + 1, recQ := l } := by
  unfold State.violation
  extract_lets seq d t u v
  have hu : u.ni pl p = { s.ni pl p with recSeq := (s.ni pl p).recSeq + 1 } := by
    rw [State.ni_countNi, State.ni_modNi, State.ni_pinc]
  have hv : v.ni pl p = { s.ni pl p with recSeq := (s.ni pl p).recSeq + 1 } := (u.ni_setVrec ..).trans hu
  split
  · split
    · refine ⟨(v.ni pl p).recQ ++ [d], ?_⟩
      rw [State.ni_niEvent, State.ni_modNi, hv]
    · refine ⟨(v.ni pl p).recQ, ?_⟩
      rw [State.ni_pinc, hv]
  · split
    · exact ⟨(u.ni pl p).recQ, by rw [hu]⟩
    · refine ⟨(v.ni pl p).recQ, ?_⟩
      rw [State.ni_niEvent, State.ni_por]
      exact hv.trans (by rw [hv])

theorem State.ni_violation_ne (p owner priv paddr kind cause region need len : Nat) {i : Nat} (h : i ≠ p) :
    (s.violation pl p owner priv paddr kind cause region need len).ni pl i = s.ni pl i := by
  unfold State.violation
  extract_lets seq d t u v
  have hu : u.ni pl i = s.ni pl i := by simp [u, t, State.ni_modNi_ne _ _ h]
  split
  · split
    · simp [v, hu, State.ni_modNi_ne _ _ h]
    · simp [v, hu]
  · split
    · exact hu
    · simp [hu]

/-- The completion of a refused request (R41). -/
def State.refusalOf (p kind st n : Nat) : Irsp where
  ord := (s.ni pl p).nextOrd
  kind := kind
  status := st
  beats := if kind = kWrite ∨ kind = kMessage then [] else List.replicate n (st, 0)

/-- What a refusal leaves at its NI: the next number, the completion, and with ERR_PROT a violation's number. -/
theorem State.ni_refuse (p kind st owner priv addr len n : Nat) (first : Option (Nat × Nat × Nat)) (hf : st = stProt → first.isSome = true) :
    ∃ l, (s.refuse pl p kind st owner priv addr len n first).ni pl p =
      { s.ni pl p with
        nextOrd := (s.ni pl p).nextOrd + 1
        irsp := (s.ni pl p).irsp ++ [s.refusalOf pl p kind st n]
        recSeq := (s.ni pl p).recSeq + if st = stProt then 1 else 0
        recQ := l } := by
  unfold State.refuse
  extract_lets ord beats t
  have ht : t.ni pl p = { s.ni pl p with
      nextOrd := ord + 1
      irsp := (s.ni pl p).irsp ++ [s.refusalOf pl p kind st n] } := s.ni_modNi pl p _
  split
  next h =>
    obtain ⟨⟨i, cause, region⟩, rfl⟩ := Option.isSome_iff_exists.1 (hf h)
    obtain ⟨l, hl⟩ := t.ni_violation pl p owner priv (if cause < 2 then pieceAddr addr i else addr)
      (t.recKind (if cause < 2 then pieceAddr addr i else addr) kind) cause region (needOf kind) len
    exact ⟨l, hl.trans (by rw [ht])⟩
  next h => exact ⟨_, ht⟩

theorem State.ni_refuse_ne (p kind st owner priv addr len n : Nat) (first : Option (Nat × Nat × Nat)) {i : Nat} (h : i ≠ p) :
    (s.refuse pl p kind st owner priv addr len n first).ni pl i = s.ni pl i := by
  unfold State.refuse
  extract_lets ord beats t
  have ht : t.ni pl i = s.ni pl i := State.ni_modNi_ne _ _ h _
  split
  · split
    · exact (t.ni_violation_ne pl p _ _ _ _ _ _ _ _ h).trans ht
    · exact ht
  · exact ht

end

end Sys2Proof.Machine

namespace Sys2Proof.Machine

/-! ### Requests that fail a check (R41) -/

theorem stFirstOf_mem {l : List Nat} (h : stFirstOf l ≠ stOk) : stFirstOf l ∈ l := (foldl_stFirst l stOk).1.resolve_left h

/-- A list that holds a failure has a failure that ranks first. -/
theorem stFirstOf_ne_ok {l : List Nat} {x : Nat} (hx : x ∈ l) (h : stRank x < stRank stOk) : stFirstOf l ≠ stOk := by
  obtain ⟨-, -, hall⟩ := foldl_stFirst l stOk
  intro e
  have hle := hall x hx
  rw [show l.foldl stFirst stOk = stOk from e] at hle
  omega

section

variable (s : State) (pl : Pl) (p kind subop asize : Nat) (r : Stitch)

/-- A conversion that fails does so with ERR_ALIGN or ERR_DECODE. -/
theorem State.convert_error {t : Tgt} {k : Nat} {whole : Bool} {st : Nat} (h : s.convert t k whole = .error st) :
    st = stAlign ∨ st = stDecode := by
  revert h
  unfold State.convert
  split <;> (repeat' split) <;> intro h <;> cases h <;> decide

/-- Every failure of a piece is one of three; ERR_PROT comes with what the protection check found. -/
theorem State.pieceFails_status {i x : Nat} (hx : x ∈ (s.pieceFails pl p kind subop asize r i).1) :
    (x = stProt ∧ (s.pieceFails pl p kind subop asize r i).2.isSome = true) ∨ x = stAlign ∨ x = stDecode := by
  have hprot : (s.pieceFails pl p kind subop asize r i).2 =
      s.protCheck pl p kind r.owner r.priv (pieceAddr r.addr i) (decide (granules r.addr (stitchLen kind asize r) = 1)) := rfl
  rw [hprot]
  unfold State.pieceFails at hx
  simp only [List.mem_append] at hx
  rcases hx with ((hx | hx) | hx) | hx
  · split at hx
    next h => exact .inl ⟨List.mem_singleton.1 hx, by rw [h]; rfl⟩
    · cases hx
  · split at hx
    · cases hx
    next h =>
      rw [List.mem_singleton.1 hx]
      exact .inr (s.convert_error h)
  · split at hx
    · exact .inr (.inl (List.mem_singleton.1 hx))
    · cases hx
  · split at hx
    · exact .inr (.inl (List.mem_singleton.1 hx))
    · cases hx

/-- The failures of all pieces, in order of their granules. -/
def State.stitchFails : List Nat :=
  (List.range (granules r.addr (stitchLen kind asize r))).flatMap (fun i => (s.pieceFails pl p kind subop asize r i).1)

variable (hready : s.stitchReady p = true)

theorem State.stitchFails_status {x : Nat} (hx : x ∈ s.stitchFails pl p kind subop asize r) : stRank x < stRank stOk := by
  obtain ⟨i, -, hx⟩ := List.mem_flatMap.1 hx
  rcases s.pieceFails_status pl p kind subop asize r hx with ⟨rfl, -⟩ | rfl | rfl <;> decide

/-- Some check fails exactly when not every piece passes. -/
theorem State.stitchFails_nil : s.stitchFails pl p kind subop asize r = [] ↔ s.piecesPass pl p kind subop asize r := by
  rw [State.stitchFails, List.flatMap_eq_nil_iff]
  exact forall_congr' fun i => by rw [List.mem_range]

theorem State.status_stitchFails : stFirstOf (s.stitchFails pl p kind subop asize r) ≠ stOk ↔ ¬ s.piecesPass pl p kind subop asize r := by
  rw [← State.stitchFails_nil]
  constructor
  · intro h e
    rw [e] at h
    exact h rfl
  · intro h
    obtain ⟨x, hx⟩ := List.exists_mem_of_ne_nil _ h
    exact stFirstOf_ne_ok hx (s.stitchFails_status pl p kind subop asize r hx)

/-- ERR_PROT comes with the first piece that the protection check refused (R192). -/
def State.firstDenied : Option (Nat × Nat × Nat) :=
  (((List.range (granules r.addr (stitchLen kind asize r))).map (fun i => (i, s.pieceFails pl p kind subop asize r i))).filterMap
    (fun x => x.2.2.map (fun c => (x.1, c.1, c.2)))).head?

theorem State.firstDenied_of_prot (h : stProt ∈ s.stitchFails pl p kind subop asize r) :
    (s.firstDenied pl p kind subop asize r).isSome = true := by
  obtain ⟨i, hi, hx⟩ := List.mem_flatMap.1 h
  have hsome : (s.pieceFails pl p kind subop asize r i).2.isSome = true := by
    rcases s.pieceFails_status pl p kind subop asize r hx with ⟨-, h⟩ | h | h
    · exact h
    · cases h
    · cases h
  obtain ⟨c, hc⟩ := Option.isSome_iff_exists.1 hsome
  rw [State.firstDenied, List.isSome_head?]
  refine List.ne_nil_of_mem (a := (i, c.1, c.2)) (List.mem_filterMap.2 ⟨(i, s.pieceFails pl p kind subop asize r i), List.mem_map.2 ⟨i, hi, rfl⟩, ?_⟩)
  rw [hc]
  rfl

include hready

/-- A request that fails a check is refused with the status that ranks first. -/
theorem State.stitch_refused (hf : ¬ s.piecesPass pl p kind subop asize r) : s.stitch pl p kind subop asize r =
    s.refuse pl p kind (stFirstOf (s.stitchFails pl p kind subop asize r)) r.owner r.priv r.addr (stitchLen kind asize r)
      (granules r.addr (stitchLen kind asize r)) (s.firstDenied pl p kind subop asize r) := by
  have hst := (s.status_stitchFails pl p kind subop asize r).2 hf
  unfold State.stitch
  rw [if_neg (by rw [hready]; decide)]
  dsimp only
  rw [List.flatMap_map]
  exact if_pos hst

theorem State.stitch_is_refused (hk : kind = kRead ∨ kind = kFetch ∨ kind = kWrite ∨ kind = kAtomic)
    (hf : ¬ s.piecesPass pl p kind subop asize r) : s.Refused (s.stitch pl p kind subop asize r) pl p kind subop asize r := by
  have hst := (s.status_stitchFails pl p kind subop asize r).2 hf
  rw [s.stitch_refused pl p kind subop asize r hready hf]
  obtain ⟨l, hni⟩ := s.ni_refuse pl p kind (stFirstOf (s.stitchFails pl p kind subop asize r)) r.owner r.priv r.addr
    (stitchLen kind asize r) (granules r.addr (stitchLen kind asize r)) (s.firstDenied pl p kind subop asize r)
    (fun h => s.firstDenied_of_prot pl p kind subop asize r (h ▸ stFirstOf_mem hst))
  have hmsg : (kind = kWrite ∨ kind = kMessage) = (kind = kWrite) := by
    refine propext (or_iff_left fun e => ?_)
    rcases hk with h | h | h | h <;> rw [h] at e <;> cases e
  refine ⟨⟨?_, ?_, ?_, ?_, ?_⟩, ?_, ?_, ?_, fun i hi => s.ni_refuse_ne pl p _ _ _ _ _ _ _ _ hi⟩
  all_goals rw [hni]
  · unfold State.refusalOf
    simp only [hmsg]
    rfl
  · rfl

end

theorem atUnit_single {s : State} {pl : Pl} (hp : s.planes = [pl]) (f : Pl → State → State) : atUnit s pl f = .next (f pl s) := by
  have hr : s.runs pl = true := (List.mem_filter.1 (hp ▸ List.mem_singleton_self pl : pl ∈ s.planes)).2
  unfold atUnit State.eachPlane
  rw [if_pos hr, hp]
  rfl

/-- Settles O2. -/
theorem stitchRequestsRefused : Obligations.StitchRequestsRefused := by
  refine ⟨fun s pl p kind subop asize r hready hk hf => s.stitch_is_refused pl p kind subop asize r hready hk hf,
    fun s pl p r hp hready => ⟨fun hf => ?_, fun hf => ?_, fun hf => ?_, fun subop asize hf => ?_⟩⟩
  · exact ⟨_, atUnit_single hp _, s.stitch_is_refused pl p kRead 0 0 r hready (.inl rfl) hf⟩
  · exact ⟨_, atUnit_single hp _, s.stitch_is_refused pl p kFetch 0 0 r hready (.inr (.inl rfl)) hf⟩
  · exact ⟨_, atUnit_single hp _, s.stitch_is_refused pl p kWrite 0 0 r hready (.inr (.inr (.inl rfl))) hf⟩
  · exact ⟨_, atUnit_single hp _, s.stitch_is_refused pl p kAtomic subop asize r hready (.inr (.inr (.inr rfl))) hf⟩

end Sys2Proof.Machine

namespace Sys2Proof.Machine

/-! ### Requests whose pieces pass (R40) -/

/-- Piece `i` of a Stitch request (R37, R40): what `PiecesOf` says of it. -/
def Piece.IsPart (kind asize ord : Nat) (r : Stitch) (i : Nat) (q : Piece) : Prop :=
  q.ord = ord ∧ q.pidx = i ∧ q.paddr = pieceAddr r.addr i ∧ q.owner = r.owner ∧ q.priv = r.priv ∧
  (kind ≠ kWrite → q.ben = pieceBen r.addr (stitchLen kind asize r) i) ∧
  (kind = kWrite → ∀ b, r.beats[i]? = some b → q.ben = pieceBen r.addr r.len i &&& b.ben ∧ q.data = b.data)

section

variable (s : State) (pl : Pl) (p : Nat)

theorem State.mkPiece_isPart (kind subop asize ord cls : Nat) (r : Stitch) (i : Nat) :
    (s.mkPiece pl p kind subop asize ord cls r i).2.IsPart kind asize ord r i := by
  have hben : (s.mkPiece pl p kind subop asize ord cls r i).2.ben = if kind = kWrite
      then pieceBen r.addr (stitchLen kind asize r) i &&& ((r.beats[i]?).getD { data := 0, ben := 0 }).ben
      else pieceBen r.addr (stitchLen kind asize r) i := rfl
  have hdata : (s.mkPiece pl p kind subop asize ord cls r i).2.data = ((r.beats[i]?).getD { data := 0, ben := 0 }).data := rfl
  refine ⟨rfl, rfl, rfl, rfl, rfl, fun hk => hben.trans (if_neg hk), fun hk b hb => ?_⟩
  have hlen : stitchLen kind asize r = r.len := if_neg (by rw [hk]; decide)
  rw [hben, if_pos hk, hdata, hb, hlen]
  exact ⟨rfl, rfl⟩

theorem State.demote_isPart {kind asize ord : Nat} {r : Stitch} {i : Nat} {q : Piece} (h : q.IsPart kind asize ord r i) :
    (s.demote pl p q).2.IsPart kind asize ord r i := by
  unfold State.demote
  split
  · exact h
  · exact h

theorem State.wait_mkPiece (kind subop asize ord cls : Nat) (r : Stitch) (i : Nat) :
    ((s.mkPiece pl p kind subop asize ord cls r i).1.ni pl p).wait = (s.ni pl p).wait := by
  unfold State.mkPiece
  extract_lets len a t conv page beat range ben nn sh sampled u uk mh k cls
  have hu : (u.ni pl p).wait = (s.ni pl p).wait := by
    unfold u
    split
    · rw [State.ni_modNi]
    · rfl
  show (mh.2.ni pl p).wait = _
  unfold mh
  clear_value t
  split
  · refine (?_ : (uk.2.ni pl p).wait = (u.ni pl p).wait).trans hu
    unfold uk State.nextUnkeyed
    rw [State.ni_modNi]
  · exact hu
  · exact hu

theorem State.wait_demote (q : Piece) : ((s.demote pl p q).1.ni pl p).wait = (s.ni pl p).wait := by
  unfold State.demote
  split
  · dsimp only
    rw [State.ni_modNi]
    split
    · rw [State.ni_pinc]
    · rfl
  · rfl

/-- The pieces of a request are made one after the other, and each may be demoted as it is made. -/
def State.makePieces (kind subop asize ord cls : Nat) (r : Stitch) (n : Nat) : State × List Piece :=
  (List.range n).foldl (fun (a : State × List Piece) i =>
    let x := a.1.mkPiece pl p kind subop asize ord cls r i
    let y := x.1.demote pl p x.2
    (y.1, a.2 ++ [y.2])) (s, [])

theorem State.makePieces_parts (kind subop asize ord cls : Nat) (r : Stitch) (n : Nat) :
    ((s.makePieces pl p kind subop asize ord cls r n).1.ni pl p).wait = (s.ni pl p).wait ∧
    (s.makePieces pl p kind subop asize ord cls r n).2.length = n ∧
    ∀ i q, (s.makePieces pl p kind subop asize ord cls r n).2[i]? = some q → Piece.IsPart kind asize ord r i q := by
  induction n with
  | zero => exact ⟨rfl, rfl, fun i q h => absurd h (by simp [State.makePieces])⟩
  | succ n ih =>
    obtain ⟨hwait, hlen, hparts⟩ := ih
    have hsucc : s.makePieces pl p kind subop asize ord cls r (n + 1) =
        (let a := s.makePieces pl p kind subop asize ord cls r n
        let x := a.1.mkPiece pl p kind subop asize ord cls r n
        let y := x.1.demote pl p x.2
        (y.1, a.2 ++ [y.2])) := by
      unfold State.makePieces
      rw [List.range_succ, List.foldl_append]
      rfl
    rw [hsucc]
    extract_lets a x y
    refine ⟨((x.1.wait_demote pl p x.2).trans (a.1.wait_mkPiece pl p ..)).trans hwait, ?_, fun i q hq => ?_⟩
    · rw [List.length_append, hlen]
      rfl
    · by_cases hi : i < n
      · exact hparts i q (by rwa [List.getElem?_append_left (by rw [hlen]; exact hi)] at hq)
      · rw [List.getElem?_append_right (by rw [hlen]; omega), hlen] at hq
        have hin : i = n := by
          have := (List.getElem?_eq_some_iff.1 hq).1
          simp only [List.length_singleton] at this
          omega
        subst hin
        rw [Nat.sub_self] at hq
        cases hq
        exact x.1.demote_isPart pl p (a.1.mkPiece_isPart pl p ..)

/-- The record of a request at its NI (R40). -/
def stitchRecord (kind asize ord cls : Nat) (r : Stitch) (ps : List Piece) : StReq where
  ord := ord
  kind := kind
  cls := (ps.head?.map (·.cls)).getD cls
  owner := r.owner
  priv := r.priv
  addr := r.addr
  len := stitchLen kind asize r
  pieces := granules r.addr (stitchLen kind asize r)
  posted := ps.all (·.posted)
  answers := []

/-- A request has entered: its pieces wait behind the others, and its record stands behind theirs. -/
def State.stitched (kind subop asize : Nat) (r : Stitch) : State :=
  let ord := (s.ni pl p).nextOrd
  let a := s.makePieces pl p kind subop asize ord (stitchCls r) r (granules r.addr (stitchLen kind asize r))
  a.1.modNi pl p (fun x => { x with
    nextOrd := ord + 1, reqs := x.reqs ++ [stitchRecord kind asize ord (stitchCls r) r a.2], wait := x.wait ++ a.2 })

theorem State.stitch_enters {kind subop asize : Nat} {r : Stitch} (hready : s.stitchReady p = true)
    (hf : s.piecesPass pl p kind subop asize r) :
    s.stitch pl p kind subop asize r = (s.stitched pl p kind subop asize r).niSettle pl p := by
  have hst : stFirstOf (s.stitchFails pl p kind subop asize r) = stOk := by
    rw [(s.stitchFails_nil pl p kind subop asize r).2 hf]
    rfl
  unfold State.stitch
  rw [if_neg (by rw [hready]; decide)]
  dsimp only
  rw [List.flatMap_map]
  exact if_neg (not_not_intro hst)

theorem State.stitched_entered (kind subop asize : Nat) (r : Stitch) : s.Entered (s.stitched pl p kind subop asize r) pl p kind asize r := by
  unfold State.stitched
  extract_lets ord a
  obtain ⟨hwait, hlen, hparts⟩ := s.makePieces_parts pl p kind subop asize ord (stitchCls r) r (granules r.addr (stitchLen kind asize r))
  unfold State.Entered
  rw [State.ni_modNi]
  refine ⟨rfl, ⟨a.2, congrArg (· ++ a.2) hwait, hlen, hparts⟩, stitchRecord kind asize ord (stitchCls r) r a.2, ?_, rfl, rfl, rfl, rfl, rfl⟩
  exact List.mem_append_right _ List.mem_cons_self

/-! ### Messages (R162) -/

/-- The one piece of a message; `u` is the key slot it carries. -/
def State.messagePiece (m : MsgReq) (ord u : Nat) : Piece :=
  { ord := ord, pidx := 0, kind := kMessage, cls := 3, owner := m.owner, priv := m.priv, paddr := s.msgAddr m
    taddr := s.msgAddr m, dest := epService, placed := false, resolved := true, pepoch := 0, ben := benAll
    data := 0, subop := 0, asize := 0, gts := 0, hdrHi := msgHi m.tflock m.num u, msg := m.beats
    tag := none, sent := false, loss := 0, retryAt := none, posted := false, inBuf := false
    recWrite := false, heldCounted := false, waitLookup := false, sampled := false
    raddr := s.msgAddr m, rlen := 64 * m.beats.length - 1 }

/-- The key slot of a message and the NI that has given it (R162). -/
def State.messageSlot (m : MsgReq) : Nat × State := if m.tflock ∧ m.unkeyed then s.nextUnkeyed pl p else (keySlot m.key, s)

section

variable {m : MsgReq} (hready : s.stitchReady p = true) (hmin : s.minimal = false)

include hready hmin

theorem State.stitchMessage_passes (hp : s.protCheck pl p kMessage m.owner m.priv (s.msgAddr m) false = none) : ∃ req,
    s.stitchMessage pl p m = (s.messageSlot pl p m).2.modNi pl p (fun x => { x with
      nextOrd := ((s.messageSlot pl p m).2.ni pl p).nextOrd + 1, reqs := x.reqs ++ [req]
      wait := x.wait ++ [s.messagePiece m ((s.messageSlot pl p m).2.ni pl p).nextOrd (s.messageSlot pl p m).1] }) := by
  unfold State.stitchMessage
  rw [if_neg (by rw [hready]; decide)]
  dsimp only
  rw [hmin, if_neg (fun h => absurd h.1 Bool.false_ne_true), hp]
  dsimp only
  rw [if_neg Bool.false_ne_true]
  exact ⟨_, rfl⟩

theorem State.stitchMessage_denied {c : Nat × Nat} (hp : s.protCheck pl p kMessage m.owner m.priv (s.msgAddr m) false = some c) :
    s.stitchMessage pl p m = s.refuse pl p kMessage stProt m.owner m.priv (s.msgAddr m) (64 * m.beats.length - 1) 1 (some (0, c.1, c.2)) := by
  unfold State.stitchMessage
  rw [if_neg (by rw [hready]; decide)]
  dsimp only
  rw [hmin, if_neg (fun h => absurd h.1 Bool.false_ne_true), hp]

end

/-- What giving a key slot leaves of the NI. -/
theorem State.ni_messageSlot (m : MsgReq) : ((s.messageSlot pl p m).2.ni pl p) =
    { s.ni pl p with unkeyed := (s.ni pl p).unkeyed + if m.tflock ∧ m.unkeyed then 1 else 0 } := by
  unfold State.messageSlot
  split
  · rw [State.nextUnkeyed, State.ni_modNi]
  · rfl

theorem State.slot_messageSlot {m : MsgReq} (hf : m.tflock = true) :
    (s.messageSlot pl p m).1 = if m.unkeyed then (s.ni pl p).unkeyed % 4096 else keySlot m.key := by
  unfold State.messageSlot
  by_cases hu : m.unkeyed = true
  · rw [if_pos ⟨hf, hu⟩, if_pos hu, State.nextUnkeyed]
  · rw [if_neg (fun h => hu h.2), if_neg hu]

end

theorem atUnit_runs {s : State} {pl : Pl} (hr : s.runs pl = true) (f : Pl → State → State) : atUnit s pl f = .next (s.eachPlane f) := by
  unfold atUnit
  rw [if_pos hr]

theorem State.stitchFence_held {s : State} {pl : Pl} {p : Nat} (hready : s.stitchReady p = true) (cls : BitVec 4) :
    s.stitchFence pl p cls = s.modNi pl p (fun n => { n with
      nextOrd := n.nextOrd + 1, fences := n.fences ++ [{ ord := n.nextOrd, classes := cls }] }) := if_pos hready

/-- A message to a queue carries no key slot (R162). -/
theorem msgHi_queue (num u : Nat) : msgHi false num u = msgHi false num 0 := by
  unfold msgHi
  rw [if_neg Bool.false_ne_true, if_neg Bool.false_ne_true]

theorem State.stitchMessage_waits {s : State} {pl : Pl} {p : Nat} (hready : s.stitchReady p = true) {m : MsgReq} (hmin : s.minimal = false)
    (hp : s.protCheck pl p kMessage m.owner m.priv (s.msgAddr m) false = none) : ∃ q,
      ((s.stitchMessage pl p m).ni pl p).nextOrd = (s.ni pl p).nextOrd + 1 ∧
      ((s.stitchMessage pl p m).ni pl p).wait = (s.ni pl p).wait ++ [q] ∧ q.kind = kMessage ∧ q.dest = epService ∧ q.msg = m.beats ∧
      (m.tflock = true → q.hdrHi = msgHi true m.num (if m.unkeyed then (s.ni pl p).unkeyed % 4096 else keySlot m.key)) ∧
      (m.tflock = true → m.unkeyed = true → ((s.stitchMessage pl p m).ni pl p).unkeyed = (s.ni pl p).unkeyed + 1) ∧
      (m.tflock = false → q.hdrHi = msgHi false m.num 0) := by
  obtain ⟨req, heq⟩ := s.stitchMessage_passes pl p hready hmin hp
  refine ⟨s.messagePiece m ((s.messageSlot pl p m).2.ni pl p).nextOrd (s.messageSlot pl p m).1, ?_⟩
  rw [heq, State.ni_modNi, s.ni_messageSlot]
  refine ⟨rfl, rfl, rfl, rfl, rfl, fun hf => ?_, fun hf hu => ?_, fun hf => ?_⟩
  · unfold State.messagePiece
    rw [s.slot_messageSlot pl p hf, hf]
  · rw [if_pos ⟨hf, hu⟩]
  · unfold State.messagePiece
    rw [hf, msgHi_queue]

theorem State.stitchMessage_refused {s : State} {pl : Pl} {p : Nat} (hready : s.stitchReady p = true) {m : MsgReq} (hmin : s.minimal = false)
    {c : Nat × Nat} (hp : s.protCheck pl p kMessage m.owner m.priv (s.msgAddr m) false = some c) :
    s.Unissued (s.stitchMessage pl p m) pl p ∧ ((s.stitchMessage pl p m).ni pl p).irsp =
      (s.ni pl p).irsp ++ [s.refusalOf pl p kMessage stProt 1] := by
  rw [s.stitchMessage_denied pl p hready hmin hp]
  obtain ⟨l, hni⟩ := s.ni_refuse pl p kMessage stProt m.owner m.priv (s.msgAddr m) (64 * m.beats.length - 1) 1 (some (0, c.1, c.2))
    (fun _ => rfl)
  unfold State.Unissued
  rw [hni]
  exact ⟨⟨rfl, rfl, rfl, rfl, rfl⟩, rfl⟩

/-- Settles O1. -/
theorem stitchRequestsEnter : Obligations.StitchRequestsEnter := by
  refine ⟨fun s pl p hr => ⟨fun r => ⟨?_, ?_, ?_, fun subop asize => ?_⟩, fun cls => ?_, fun m => ?_⟩,
    fun s pl p kind subop asize r hready _ hf => ⟨_, s.stitch_enters pl p hready hf, s.stitched_entered pl p kind subop asize r⟩,
    fun s pl p hready => ⟨State.stitchFence_held hready, fun m hmin hp => State.stitchMessage_waits hready hmin hp,
      fun m c hmin hp => State.stitchMessage_refused hready hmin hp⟩⟩
  · exact atUnit_runs hr _
  · exact atUnit_runs hr _
  · exact atUnit_runs hr _
  · exact atUnit_runs hr _
  · exact atUnit_runs hr _
  · exact atUnit_runs hr _

end Sys2Proof.Machine

namespace Sys2Proof.Machine

/-! ### The locks (R57 to R59) -/

section

variable (s : State) (pl : Pl) (n : Nat)

theorem State.lock_modLock (f : Lock → Lock) : (s.modLock pl n f).lock pl n = f (s.lock pl n) := by
  rw [State.lock, State.modLock, State.sb_modSb]
  exact Tab.rd_upd_same _ _ _ _

theorem State.Records.lock {C W : Nat → Prop} {s t : State} (h : s.Records C W t) (pl : Pl) (n : Nat) : t.lock pl n = s.lock pl n := by
  rw [State.lock, h.sb, State.lock]

theorem State.countLock_records (code : Nat) : s.Records (fun _ => True) (countWord 984 8) (s.countLock pl code) :=
  s.countN_records pl 984 8 code 0 none 1

@[simp] theorem State.lock_countLock (code : Nat) : (s.countLock pl code).lock pl n = s.lock pl n := (s.countLock_records pl code).lock pl n

/-- A lock that breaks: its holder is cleared, LAST kept (R58). -/
def Lock.broken (l : Lock) : Lock := { l with state := .broken, holderM := false, holderPort := 0x7F, holderOwner := 0, hold := 0 }

theorem State.lock_breakLock (cause : Nat) (h : (s.lock pl n).state = .held) : (s.breakLock pl n cause).lock pl n = (s.lock pl n).broken := by
  unfold State.breakLock
  rw [if_pos h, State.lock_countLock, (State.Records.occurP (C := fun _ => True) (W := fun _ => True) _ pl _ _).lock,
    State.lock_modLock]
  rfl

theorem State.expireLock_due (h : (s.lock pl n).state = .held) (hl : s.lockLimit pl n ≤ (s.lock pl n).hold) :
    s.expireLock pl n = s.breakLock pl n 1 := if_pos ⟨h, hl⟩

theorem State.expireLock_not_held (h : (s.lock pl n).state ≠ .held) : s.expireLock pl n = s := if_neg fun hc => h hc.1

theorem inPlane_runs {s : State} {pl : Pl} (hr : s.runs pl = true) (f : State → State) : inPlane s pl f = .next (f s) := by
  unfold inPlane
  rw [if_pos hr]

/-! #### Acquire and release -/

section

variable (hdr : BitVec 64)

theorem State.acquire_denied (h : s.lockDenied n hdr = true) : s.acquire pl n hdr = s.lockReply pl hdr stProt 0 := by
  unfold State.acquire
  dsimp only
  rw [if_pos h]

theorem State.acquire_busy (h : s.lockDenied n hdr = false) (hb : (s.lock pl n).state = .held) :
    s.acquire pl n hdr = ((s.freeLine pl).2.countLock pl 0x03).lockReply pl hdr stRetry (s.freeLine pl).1 := by
  unfold State.acquire
  dsimp only
  rw [h, if_neg Bool.false_ne_true, if_pos (.inl hb)]

/-- The lock as an acquire of `hdr` leaves it. -/
def Lock.taken (l : Lock) (hdr : BitVec 64) (fc : Nat) : Lock :=
  { l with
    state := .held, holderM := decide (hPriv hdr = 3), holderPort := hSrc hdr
    holderOwner := if decide (hPriv hdr = 3) then 0 else hOwner hdr
    hold := 0, last := hSrc hdr, changedAt := some fc }

/-- The lock is taken, and the answer's line stated. -/
def State.acquired : Line × State :=
  ((s.modLock pl n (fun l => l.taken hdr s.fc)).countLock pl 0x02).stated pl 8 (lockData n (s.lock pl n) (s.lockLimit pl n))

theorem State.lock_acquired : (s.acquired pl n hdr).2.lock pl n = (s.lock pl n).taken hdr s.fc := by
  have h : (s.acquired pl n hdr).2.lock pl n = ((s.modLock pl n (fun l => l.taken hdr s.fc)).countLock pl 0x02).lock pl n := by
    rw [State.acquired, State.stated_state]
    cases pl <;> rfl
  rw [h, State.lock_countLock, State.lock_modLock]

theorem State.acquire_granted (h : s.lockDenied n hdr = false) (hc : (s.lock pl n).changedAt ≠ some s.fc) (hb : (s.lock pl n).state ≠ .held) :
    s.acquire pl n hdr = if (s.lock pl n).state = .broken
      then ((s.acquired pl n hdr).2.countLock pl 0x05).lockReply pl hdr stBroken (s.acquired pl n hdr).1
      else (s.acquired pl n hdr).2.lockReply pl hdr stOk (s.acquired pl n hdr).1 := by
  unfold State.acquire
  dsimp only
  rw [h, if_neg Bool.false_ne_true, if_neg (not_or.2 ⟨hb, hc⟩)]
  rfl

/-- A granted acquire is answered with the lock's data, and the requester holds the lock. -/
theorem State.acquire_grants (h : s.lockDenied n hdr = false) (hc : (s.lock pl n).changedAt ≠ some s.fc) (hb : (s.lock pl n).state ≠ .held) :
    ∃ t : State, ∃ x : Line, s.acquire pl n hdr = t.lockReply pl hdr (if (s.lock pl n).state = .broken then stBroken else stOk) x ∧
      fld x 0 64 = fld (lockData n (s.lock pl n) (s.lockLimit pl n)) 0 64 ∧ t.lock pl n = (s.lock pl n).taken hdr s.fc := by
  obtain ⟨hlow, -, -⟩ := State.stated_low ((s.modLock pl n (fun l => l.taken hdr s.fc)).countLock pl 0x02) pl
    (lockData n (s.lock pl n) (s.lockLimit pl n))
  by_cases hk : (s.lock pl n).state = .broken
  · refine ⟨(s.acquired pl n hdr).2.countLock pl 0x05, (s.acquired pl n hdr).1, (s.acquire_granted pl n hdr h hc hb).trans ?_, hlow, ?_⟩
    · rw [if_pos hk, if_pos hk]
    · rw [State.lock_countLock, State.lock_acquired]
  · refine ⟨(s.acquired pl n hdr).2, (s.acquired pl n hdr).1, (s.acquire_granted pl n hdr h hc hb).trans ?_, hlow, s.lock_acquired pl n hdr⟩
    rw [if_neg hk, if_neg hk]

/-- The lock as a release leaves it. -/
def Lock.released (l : Lock) (fc : Nat) : Lock :=
  { l with state := .free, holderM := false, holderPort := 0x7F, holderOwner := 0, hold := 0, changedAt := some fc }

theorem State.release_held (h : s.lockDenied n hdr = false) (hh : (s.lock pl n).heldBy hdr = true)
    (hc : (s.lock pl n).changedAt ≠ some s.fc) : s.release pl n hdr =
      (s.modLock pl n (fun l => l.released s.fc)).sbReply pl (hSrc hdr) (hVc hdr) (hTag hdr) stOk none := by
  unfold State.release
  dsimp only
  rw [h, if_neg Bool.false_ne_true, if_pos hh, if_neg hc]
  rfl

theorem State.release_refused (h : s.lockDenied n hdr = true ∨ (s.lock pl n).heldBy hdr = false) :
    s.release pl n hdr = s.sbReply pl (hSrc hdr) (hVc hdr) (hTag hdr) stProt none := by
  unfold State.release
  dsimp only
  split
  · rfl
  next hd => rw [if_neg (by rw [h.resolve_left hd]; exact Bool.false_ne_true)]

end

/-! #### Requests at a link of the service block -/

variable {s pl n}

section

variable {u : State} {q vc op : Nat} {g : Flit} {k : Packet}
  (hg : ((s.sb pl).rx.rd (q * 8 + vc) []).head? = some g) (hkind : hKind g.hdr = kLock) (hop : cSubop g.data = op)
  (hbehind : s.lockBehind pl (q * 8 + vc) g = false) (hpop : s.popSb pl q vc = some (k, u)) (hpoison : k.poison = false)
  (hjoin : s.pair.joining = none)

include hg hkind hop hbehind hpop hpoison hjoin

theorem State.lockRequest_taken (f : State → Nat → BitVec 64 → State) :
    s.lockRequest pl q vc op f = f (u.expireLock pl (s.lockNum g.data)) (s.lockNum g.data) k.hdr := by
  unfold State.lockRequest
  rw [hg]
  dsimp only
  rw [if_neg (not_or.2 ⟨not_not_intro hkind, not_or.2 ⟨not_not_intro hop, by rw [hbehind]; exact Bool.false_ne_true⟩⟩), hpop]
  dsimp only
  rw [hjoin, hpoison]
  rfl

end

theorem State.fc_expired {u : State} {q vc : Nat} {k : Packet} (hpop : s.popSb pl q vc = some (k, u)) : (u.expireLock pl n).fc = s.fc :=
  (State.expireLock_steady (State.popSb_steady (.refl s) hpop) pl n).fc

theorem State.freeLock_broken (hj : s.pair.joining = none) (h : (s.lock pl n).state = .broken) : s.freeLock n pl =
    (s.pset pl rLockCmdStatus (BitVec.ofNat 32 (n * 2 ^ 16))).modLock pl n (fun l => { l with state := .free }) := by
  unfold State.freeLock
  dsimp only
  rw [hj, Option.isSome_none, if_neg Bool.false_ne_true, s.expireLock_not_held pl n (by rw [h]; decide), decide_eq_true h, if_pos rfl,
    Bool.not_true, b2n, if_neg Bool.false_ne_true, Nat.zero_add]

theorem State.freeLock_free (hj : s.pair.joining = none) (h : (s.lock pl n).state = .free) : s.freeLock n pl =
    s.pset pl rLockCmdStatus (BitVec.ofNat 32 (1 + n * 2 ^ 16)) := by
  unfold State.freeLock
  dsimp only
  rw [hj, Option.isSome_none, if_neg Bool.false_ne_true, s.expireLock_not_held pl n (by rw [h]; decide),
    decide_eq_false (by rw [h]; decide), if_neg Bool.false_ne_true]
  rfl

/-- A lock whose holder's port has fallen, or whose NI reports a fault, breaks for a cause (R58). -/
theorem State.breakCause_ne_zero (b : Bool)
    (h : b = true ∨ ((s.lock pl n).holderPort ≤ 95 ∧ (s.port (s.lock pl n).holderPort).live = false)) : s.breakCause pl n b ≠ 0 := by
  unfold State.breakCause
  dsimp only
  split
  · decide
  next hport =>
    rcases h with rfl | ⟨hp, hl⟩
    · rw [Bool.true_or, if_pos rfl]
      decide
    · exact absurd ⟨hp, by rw [hl]; rfl⟩ hport

end

theorem execLockAcquire_runs {s : State} {pl : Pl} (hr : s.runs pl = true) (q vc : Nat) :
    execLockAcquire pl q vc s = .next (s.lockRequest pl q vc 0 (fun t n h => t.acquire pl n h)) := inPlane_runs hr _

theorem execLockRelease_runs {s : State} {pl : Pl} (hr : s.runs pl = true) (q vc : Nat) :
    execLockRelease pl q vc s = .next (s.lockRequest pl q vc 1 (fun t n h => t.release pl n h)) := inPlane_runs hr _

theorem execLockBreak_cause {s : State} {pl : Pl} {n : Nat} {b : Bool} (hr : s.runs pl = true) (h : s.breakCause pl n b ≠ 0) :
    execLockBreak pl n b s = .next (s.breakLock pl n (s.breakCause pl n b)) := by
  unfold execLockBreak
  rw [inPlane_runs hr]
  dsimp only
  rw [if_neg h]

theorem execLockExpiry_due {s : State} {pl : Pl} {n : Nat} (hr : s.runs pl = true) (hj : s.pair.joining = none)
    (hheld : (s.lock pl n).state = .held) (hl : s.lockLimit pl n ≤ (s.lock pl n).hold) :
    execLockExpiry pl n s = .next (s.breakLock pl n 1) := by
  unfold execLockExpiry
  rw [inPlane_runs hr]
  rw [hj, Option.isSome_none, if_neg Bool.false_ne_true, s.expireLock_due pl n hheld hl]

/-- Settles O9. -/
theorem lockRules : Obligations.LockRules := by
  refine ⟨fun s u pl q vc g k hr hg hkind hop hbehind hpop hpoison hjoin => ?_, fun s u pl hjoin => ⟨?_, ?_, ?_⟩, fun s pl n hr hheld => ?_⟩
  · intro n v l d
    have hrun : exec (.lockAcquire pl q vc) s = .next (v.acquire pl n k.hdr) :=
      (execLockAcquire_runs hr q vc).trans
        (congrArg Host.Outcome.next (State.lockRequest_taken hg hkind hop hbehind hpop hpoison hjoin fun t n h => t.acquire pl n h))
    have hfc : v.fc = s.fc := State.fc_expired hpop
    refine ⟨fun hd => ?_, fun hd hc hb => ?_, fun hd hb => ?_⟩
    · rw [hrun, v.acquire_denied pl n k.hdr hd]
    · obtain ⟨t, x, heq, hlow, hlock⟩ := v.acquire_grants pl n k.hdr hd (by rw [hfc]; exact hc) hb
      refine ⟨t, x, hrun.trans (congrArg Host.Outcome.next heq), hlow, hlock.trans ?_⟩
      unfold Lock.taken
      simp only [hfc, decide_eq_true_eq]
    · rw [hrun, v.acquire_busy pl n k.hdr hd hb]
  · intro q vc g k hr hg hkind hop hbehind hpop hpoison n v l
    have hrun : exec (.lockRelease pl q vc) s = .next (v.release pl n k.hdr) :=
      (execLockRelease_runs hr q vc).trans
        (congrArg Host.Outcome.next (State.lockRequest_taken hg hkind hop hbehind hpop hpoison hjoin fun t n h => t.release pl n h))
    have hfc : v.fc = s.fc := State.fc_expired hpop
    refine ⟨fun hd hh hc => ⟨v.modLock pl n (fun l => l.released v.fc), ?_, ?_⟩, fun h => ?_⟩
    · rw [hrun, v.release_held pl n k.hdr hd hh (by rw [hfc]; exact hc)]
    · rw [State.lock_modLock, hfc]
      rfl
    · rw [hrun, v.release_refused pl n k.hdr h]
  · intro r n h
    exact s.cwWrite_allowed h (fun t => t.eachPlane (fun pl u => u.freeLock (n % 1024) pl))
  · exact fun n => ⟨State.freeLock_broken hjoin, State.freeLock_free hjoin⟩
  · intro broken
    have hbreak : ∀ b, (b = true ∨ ((s.lock pl n).holderPort ≤ 95 ∧ (s.port (s.lock pl n).holderPort).live = false)) →
        ∃ t : State, exec (.lockBreak pl n b) s = .next t ∧ t.lock pl n = broken := fun b hb =>
      ⟨s.breakLock pl n (s.breakCause pl n b), execLockBreak_cause hr (State.breakCause_ne_zero b hb),
        s.lock_breakLock pl n _ hheld⟩
    exact ⟨fun hj hl => ⟨s.breakLock pl n 1, execLockExpiry_due hr hj hheld hl, s.lock_breakLock pl n 1 hheld⟩,
      fun hp hl b => hbreak b (.inr ⟨hp, hl⟩), hbreak true (.inl rfl)⟩

end Sys2Proof.Machine

namespace Sys2Proof.Machine

/-! ### Migrations and page commands (R126, R138 to R155) -/

/-- The fields of an entry (R126). -/
theorem mkEntry_fields {st frame owner epoch : Nat} (inframe : Bool) (hst : st < 4) (hf : frame < 2048) (ho : owner < 16) (he : epoch < 256) :
    eState (mkEntry st inframe frame owner epoch) = st ∧ eInframe (mkEntry st inframe frame owner epoch) = inframe ∧
    eFrame (mkEntry st inframe frame owner epoch) = (if inframe then frame else 0) ∧
    eOwner (mkEntry st inframe frame owner epoch) = owner ∧ eEpoch (mkEntry st inframe frame owner epoch) = epoch := by
  have hbit : eInframe (mkEntry st inframe frame owner epoch) = inframe ↔ fld (mkEntry st inframe frame owner epoch) 2 1 = b2n inframe := by
    rw [fld_one]
    exact ⟨congrArg b2n, b2n_inj⟩
  rw [hbit]
  unfold eState eFrame eOwner eEpoch mkEntry fld
  rw [BitVec.toNat_ofNat]
  cases inframe
  · simp only [b2n, Bool.false_eq_true, if_false]
    omega
  · simp only [b2n, if_true]
    omega

section

variable (s : State) (pl : Pl)

/-! #### Acknowledgements -/

section

variable {u : State} {q : Nat} {k : Packet} (hr : s.runs pl = true) (hpop : s.popSbIn pl q 6 = some (k, u)) (hk : hKind k.hdr = kMgmt)
  (hm : hMop k.hdr = 4)

include hr hpop hk hm

theorem execInvalidateAcknowledge_inv (ha : hMarg k.hdr / 2 ^ 18 = 0) : execInvalidateAcknowledge pl q s =
    .next ((u.modSb pl (fun b => { b with invWait := b.invWait.erase (hSrc k.hdr) })).migPump pl) := by
  unfold execInvalidateAcknowledge
  rw [inPlane_runs hr]
  dsimp only
  rw [hpop]
  dsimp only
  rw [if_neg (not_or.2 ⟨not_not_intro hk, not_not_intro hm⟩), if_pos ha]

/-- An acknowledgement of a migration takes the first one that is waited for of its initiator. -/
theorem execInvalidateAcknowledge_mig {m : Mig} (ha : hMarg k.hdr / 2 ^ 18 ≠ 0) (hmig : u.migOf pl (mgPage k.hdr) = some m)
    (hw : ∃ f, (hSrc k.hdr, f) ∈ m.acks) : ∃ x ∈ m.acks, x.1 = hSrc k.hdr ∧ execInvalidateAcknowledge pl q s =
      .next (if hMarg k.hdr / 2 ^ 18 = 3 ∧ !m.stopping
        then ((u.modMig pl (mgPage k.hdr) (fun y => { y with acks := y.acks.erase x })).migWatched pl m (dirtyOf k)).migSettle pl
        else (u.modMig pl (mgPage k.hdr) (fun y => { y with acks := y.acks.erase x })).migSettle pl) := by
  obtain ⟨f, hf⟩ := hw
  have hsome : (m.acks.find? (fun x => decide (x.1 = hSrc k.hdr))).isSome = true :=
    List.find?_isSome.2 ⟨_, hf, decide_eq_true rfl⟩
  obtain ⟨x, hx⟩ := Option.isSome_iff_exists.1 hsome
  have hsrc : x.1 = hSrc k.hdr := of_decide_eq_true (List.find?_some hx :)
  refine ⟨x, List.mem_of_find?_eq_some hx, hsrc, ?_⟩
  unfold execInvalidateAcknowledge
  rw [inPlane_runs hr]
  dsimp only
  rw [hpop]
  dsimp only
  rw [if_neg (not_or.2 ⟨not_not_intro hk, not_not_intro hm⟩), if_neg ha, hmig]
  dsimp only
  rw [hx]

end

/-! #### Copies, limits and the period -/

theorem execMigrationCopyDone_over {e : Nat} {m : Mig} (hr : s.runs pl = true)
    (hm : (s.sb pl).migs.find? (fun m => decide (m.engine = e ∧ (m.step = 2 ∨ m.step = 3)) && m.acks.isEmpty && m.toFreeze.isEmpty &&
      !m.stopping) = some m) (hc : s.chanState pl e 3 = 3) : execMigrationCopyDone pl e s =
    .next (((s.setChan pl e 3 0 0).modMig pl m.page (fun m => { m with step := 3, toFreeze := [m.oldHome] })).migPump pl) := by
  unfold execMigrationCopyDone
  rw [inPlane_runs hr]
  dsimp only
  rw [hm]
  dsimp only
  rw [if_neg (not_not_intro hc)]

theorem execMigrationRecopyDone_over {e : Nat} {m : Mig} (hr : s.runs pl = true)
    (hm : (s.sb pl).migs.find? (fun m => decide (m.engine = e ∧ m.step = 5) && m.acks.isEmpty && m.toFreeze.isEmpty && !m.stopping) = some m)
    (hc : s.chanState pl e 3 = 3) : execMigrationRecopyDone pl e s =
    .next (if s.freezeOver pl m then (s.setChan pl e 3 0 0).migAbort pl m.page 3 0x7F else (s.setChan pl e 3 0 0).migSwitch pl m) := by
  unfold execMigrationRecopyDone
  rw [inPlane_runs hr]
  rw [hm]
  dsimp only
  rw [if_neg (not_not_intro hc)]

theorem execFreezeLimitReached_over {page : Nat} {m : Mig} (hr : s.runs pl = true) (hm : s.migOf pl page = some m)
    (hstep : m.step = 4 ∨ m.step = 5) (hs : m.stopping = false) (ho : s.freezeOver pl m = true) :
    execFreezeLimitReached pl page s = .next (s.migAbort pl page 3 0x7F) := by
  unfold execFreezeLimitReached
  rw [inPlane_runs hr]
  rw [hm]
  dsimp only
  rw [if_pos ⟨hstep, by rw [hs]; rfl, ho⟩]

theorem State.page_of_migOf {page : Nat} {m : Mig} (hm : s.migOf pl page = some m) : m.page = page :=
  of_decide_eq_true (List.find?_some hm :)

theorem State.freezeOver_of_limit {page f : Nat} {m : Mig} (hm : s.migOf pl page = some m) (hf : m.fzFc = some f)
    (hl : s.freezeLimit pl page * s.img.w ≤ s.fc - f) : s.freezeOver pl m = true := by
  unfold State.freezeOver
  rw [hf, s.page_of_migOf pl hm]
  exact decide_eq_true hl

/-- An initiator that has been silent for 4,096 fc (R144). -/
theorem execSilentInitiator_late {agent f page : Nat} {m : Mig} (hr : s.runs pl = true) (hm : s.migOf pl page = some m)
    (ha : (agent, f) ∈ m.acks) (hf : f + 4096 ≤ s.fc) (hstep : m.step = 4) : execSilentInitiator pl agent page s =
    .next (if !s.initiators.contains agent
      then (s.modMig pl page (fun m => { m with acks := m.acks.filter (fun x => decide (x.1 ≠ agent)) })).migSettle pl
      else if m.step = 4 ∧ !m.stopping
        then ((s.placeFault pl page 3).modMig pl page (fun m =>
          { m with acks := m.acks.filter (fun x => decide (x.1 ≠ agent)) })).migAbort pl page 7 agent
        else (((s.placeFault pl page 3).modMig pl page (fun m =>
          { m with acks := m.acks.filter (fun x => decide (x.1 ≠ agent)) })).pfset pl rLastAbort 25 7 agent).migSettle pl) := by
  have hany : m.acks.any (fun x => decide (x.1 = agent ∧ x.2 + 4096 ≤ s.fc)) = true :=
    List.any_eq_true.2 ⟨_, ha, decide_eq_true ⟨rfl, hf⟩⟩
  unfold execSilentInitiator
  rw [inPlane_runs hr]
  dsimp only
  rw [hm]
  dsimp only
  rw [if_pos ⟨hany, .inl hstep⟩]

theorem execSilentInitiator_dead {agent f page : Nat} {m : Mig} (hr : s.runs pl = true) (hm : s.migOf pl page = some m)
    (ha : (agent, f) ∈ m.acks) (hf : f + 4096 ≤ s.fc) (hstep : m.step = 4) (hi : agent ∉ s.initiators) :
    execSilentInitiator pl agent page s =
      .next ((s.modMig pl page (fun m => { m with acks := m.acks.filter (fun x => decide (x.1 ≠ agent)) })).migSettle pl) := by
  rw [execSilentInitiator_late s pl hr hm ha hf hstep, if_pos]
  rw [Bool.not_eq_true', ← Bool.not_eq_true, List.contains_iff_mem]
  exact hi

theorem execSilentInitiator_live {agent f page : Nat} {m : Mig} (hr : s.runs pl = true) (hm : s.migOf pl page = some m)
    (ha : (agent, f) ∈ m.acks) (hf : f + 4096 ≤ s.fc) (hstep : m.step = 4) (hs : m.stopping = false) (hi : agent ∈ s.initiators) :
    execSilentInitiator pl agent page s = .next (((s.placeFault pl page 3).modMig pl page (fun m =>
      { m with acks := m.acks.filter (fun x => decide (x.1 ≠ agent)) })).migAbort pl page 7 agent) := by
  have hin : s.initiators.contains agent = true := List.contains_iff_mem.2 hi
  rw [execSilentInitiator_late s pl hr hm ha hf hstep, if_neg (by rw [hin]; decide), if_pos ⟨hstep, by rw [hs]; rfl⟩]

theorem execPeriodBoundary_due (hr : s.runs pl = true) (hc : bit (s.p pl rPlcCtrl) 0 = true)
    (hn : s.now % 2 ^ (s.pf pl rPolicy0 4 4 + 10) = 0) (hp : (s.sb pl).periodAt ≠ some s.now) (hj : s.pair.joining = none) :
    execPeriodBoundary pl s =
      .next (((s.modSb pl (fun b => { b with periodAt := some s.now, slotWait := [] })).period pl).tryDemotes pl) := by
  unfold execPeriodBoundary
  rw [inPlane_runs hr]
  rw [if_neg]
  rw [hc, hj]
  simp [hn, hp]

theorem execTimedModeEnd_due (hr : s.runs pl = true) (ht : (s.sb pl).timed = true) (hc : s.timedCause pl = 0)
    (hn : s.pf pl rResume 0 24 ≠ 0) (hl : s.pf pl rResume 0 24 ≤ (s.sb pl).clearSlots) :
    execTimedModeEnd pl s = .next (s.modSb pl (fun b => { b with timed := false })) := by
  unfold execTimedModeEnd
  rw [inPlane_runs hr]
  dsimp only
  rw [if_pos ⟨ht, hc, hn, hl⟩]

/-! #### Page commands -/

/-- RESUME ends timed mode where no cause is left (R152). -/
theorem State.timed_resume (ht : (s.sb pl).timed = true) (hc : (s.pfset pl rPlcCtrl 1 1 0).timedCause pl = 0) :
    ((s.plcCtrl 4 pl).sb pl).timed = false := by
  have hcheck : (s.pfset pl rPlcCtrl 1 1 0).timedCheck pl = s.pfset pl rPlcCtrl 1 1 0 := if_pos hc
  have hsb : (s.pfset pl rPlcCtrl 1 1 0).sb pl = s.sb pl := s.sb_pset ..
  have h4 : bit (4 : W32) 2 = true := by decide
  have h1 : b2n (bit (4 : W32) 1) = 0 := by decide
  unfold State.plcCtrl
  dsimp only
  rw [h1, hcheck, h4, hsb, ht, hc, if_pos (by decide), State.sb_modSb]

section

variable {page : Nat} (hb : bit (s.p pl rPlcCmdStatus) 0 = false) (hp : page < s.regionPages pl)

include hb hp

theorem State.pageCmd_pin (he : eState (s.entry pl page) ≠ 2) (hm : s.migOf pl page = none) :
    s.pageCmd page 1 pl = (s.setEntry pl page (setFld (s.entry pl page) 0 2 2)).cmdDone pl 0 := by
  unfold State.pageCmd
  rw [hb, if_neg (by decide), if_neg (by omega)]
  dsimp only
  rw [if_pos rfl, if_neg he, hm]

theorem State.pageCmd_unpin (he : eState (s.entry pl page) = 2) :
    s.pageCmd page 2 pl = (s.setEntry pl page (setFld (s.entry pl page) 0 2 0)).cmdDone pl 0 := by
  unfold State.pageCmd
  rw [hb, if_neg (by decide), if_neg (by omega)]
  dsimp only
  rw [if_neg (by decide), if_pos rfl, if_pos he]

theorem State.pageCmd_pinned (he : eState (s.entry pl page) = 2) :
    s.pageCmd page 1 pl = s.cmdDone pl 1 ∧ s.pageCmd page 3 pl = s.cmdDone pl 1 := by
  unfold State.pageCmd
  rw [hb]
  refine ⟨?_, ?_⟩
  · rw [if_neg (by decide), if_neg (by omega)]
    dsimp only
    rw [if_pos rfl, if_pos he]
  · rw [if_neg (by decide), if_neg (by omega)]
    dsimp only
    rw [if_neg (by decide), if_neg (by decide), if_pos (.inl he)]

end

end

/-- Settles O12. -/
theorem migrationsAndPageCommands : Obligations.MigrationsAndPageCommands := by
  refine ⟨fun s u pl hr => ⟨?_, ?_, ?_, ?_, ?_⟩, ?_, fun s pl page m hr => ⟨?_, ?_, ?_, ?_⟩, fun s pl r => ⟨?_, ?_, ?_, ?_, ?_⟩⟩
  · exact fun q k hpop hk hm ha => execInvalidateAcknowledge_inv s pl hr hpop hk hm ha
  · intro q k m hpop hk hm ha hmig hs hw
    obtain ⟨x, hx, hsrc, heq⟩ := execInvalidateAcknowledge_mig s pl hr hpop hk hm (by omega) hmig hw
    refine ⟨x, hx, hsrc, heq.trans ?_⟩
    rw [if_pos ⟨ha, by rw [hs]; rfl⟩]
  · intro q k m hpop hk hm ha hmig hw
    have h12 : hMarg k.hdr / 2 ^ 18 = 1 ∨ hMarg k.hdr / 2 ^ 18 = 2 := by
      rcases List.mem_cons.1 ha with h | h
      · exact .inl h
      · exact .inr (List.mem_singleton.1 h)
    obtain ⟨x, hx, hsrc, heq⟩ := execInvalidateAcknowledge_mig s pl hr hpop hk hm (by omega) hmig hw
    refine ⟨x, hx, hsrc, heq.trans ?_⟩
    rw [if_neg (by omega)]
  · exact fun e m hm hc => execMigrationCopyDone_over s pl hr hm hc
  · intro e m hm hc
    have heq := execMigrationRecopyDone_over s pl hr hm hc
    refine ⟨fun ho => heq.trans ?_, fun ho => heq.trans ?_⟩
    · rw [ho, if_neg Bool.false_ne_true]
    · rw [ho, if_pos rfl]
  · exact fun st inframe frame owner epoch hst hf ho => mkEntry_fields inframe hst hf ho (Nat.mod_lt _ (by decide))
  · exact fun f hm hstep hs hf hl => execFreezeLimitReached_over s pl hr hm hstep hs (s.freezeOver_of_limit pl hm hf hl)
  · exact fun agent f hm ha hf hstep hi => execSilentInitiator_dead s pl hr hm ha hf hstep hi
  · exact fun agent f hm ha hf hstep hs hi => execSilentInitiator_live s pl hr hm ha hf hstep hs hi
  · exact execPeriodBoundary_due s pl hr
  · exact execTimedModeEnd_due s pl
  · exact s.timed_resume pl
  · exact fun h => ⟨fun v => s.cwWrite_allowed h (fun t => t.eachPlane (fun pl u => u.plcCtrl (if v then 2 else 0) pl)),
      s.cwWrite_allowed h (fun t => t.eachPlane (fun pl u => u.plcCtrl 4 pl))⟩
  · exact fun h page => ⟨s.cwWrite_allowed h (fun t => t.eachPlane (fun pl u => u.pageCmd (page % 2 ^ 18) 1 pl)),
      s.cwWrite_allowed h (fun t => t.eachPlane (fun pl u => u.pageCmd (page % 2 ^ 18) 2 pl)),
      s.cwWrite_allowed h (fun t => t.eachPlane (fun pl u => u.pageCmd (page % 2 ^ 18) 3 pl))⟩
  · exact fun page hb hp => ⟨s.pageCmd_pin pl hb hp, fun he => ⟨s.pageCmd_unpin pl hb hp he, s.pageCmd_pinned pl hb hp he⟩⟩

end Sys2Proof.Machine

namespace Sys2Proof.Machine

/-! ### What lies outside of the planes' traffic

`State.shell` keeps what `State.clocks` keeps, and the shared register words but for those of the records. -/

def State.shell (s : State) : State × (Nat → W32) := (s.clocks, fun o => if infoWord o then 0 else s.g o)

section

variable {s t : State}

theorem State.shell_of_outer (h : t.outer = s.outer) : t.shell = s.shell :=
  Prod.ext (State.clocks_of_outer h) (congrArg Prod.snd h :)

theorem State.Records.shell {C W : Nat → Prop} (h : s.Records C W t) : t.shell = s.shell := State.shell_of_outer h.outer

theorem State.clocks_of_shell (h : t.shell = s.shell) : t.clocks = s.clocks := congrArg Prod.fst h

end

section

variable (s : State) (pl : Pl)

theorem State.shell_modPln (f : Plane → Plane) (h : (f (s.pln pl)).isl = (s.pln pl).isl) : (s.modPln pl f).shell = s.shell := by
  refine Prod.ext ?_ (by cases pl <;> rfl)
  cases pl with
  | a => exact congrArg (fun x => ({ s.clocks with pa := { isl := x } } : State)) h
  | b => exact congrArg (fun x => ({ s.clocks with pb := { isl := x } } : State)) h

theorem State.shell_modPort (p : Nat) (f : Port → Port) : (s.modPort p f).shell = s.shell := rfl

theorem State.shell_modNi (p : Nat) (f : Ni → Ni) : (s.modNi pl p f).shell = s.shell := s.shell_modPln pl _ rfl

theorem State.shell_modCredit (out : OutPort) (vc : Nat) (f : Nat → Nat) : (s.modCredit pl out vc f).shell = s.shell := by
  cases out with
  | niLink p => exact s.shell_modNi pl p _
  | folio g o => exact s.shell_modPln pl _ rfl
  | quire q o => exact s.shell_modPln pl _ rfl
  | service q => exact s.shell_modPln pl _ rfl
  | mule e => exact s.shell_modPln pl _ rfl

theorem State.shell_giveCredit (out : OutPort) (vc n : Nat) : (s.giveCredit pl out vc n).shell = s.shell := s.shell_modCredit pl out vc _

/-! #### A flit that enters a port (R237, R242) -/

theorem State.shell_gtArrive (p : Nat) (f : Flit) : (s.gtArrive p f).shell = s.shell := by
  unfold State.gtArrive
  exact s.shell_modPort p _

theorem State.shell_edgeGt (p : Nat) (f : Flit) : (s.edgeGt p f).shell = s.shell := by
  unfold State.edgeGt
  split
  · exact s.shell_gtArrive p f
  · rfl

theorem State.shell_enterNi (p : Nat) (f : Flit) : (s.enterNi pl p f).shell = s.shell := by
  unfold State.enterNi
  extract_lets vc g t back u
  have ht : t.shell = s.shell := (s.countNi_records pl p ..).shell
  split
  · split
    · exact ht
    · exact (t.shell_giveCredit pl ..).trans ht
  split
  · exact ((State.shell_giveCredit _ pl ..).trans (t.shell_modNi pl p _)).trans ht
  · have hu : u.shell = s.shell := (t.shell_modNi pl p _).trans ht
    split
    · exact hu
    · exact (u.shell_giveCredit pl ..).trans hu

theorem State.shell_edgeEnter (p : Nat) (f : Flit) : (s.edgeEnter p f).shell = s.shell :=
  (State.eachPlane_same _ _ State.shell fun q t => t.shell_enterNi q p f).trans (s.shell_edgeGt p f)

/-! #### What a comparator's delivery leaves alone (R240) -/

/-- What `State.shell` keeps, but for the comparators. -/
def State.core (s : State) : State × (Nat → W32) :=
  ({ s.clocks with pair := { s.pair with cmp := [] } }, fun o => if infoWord o then 0 else s.g o)

theorem State.core_of_shell {s t : State} (h : t.shell = s.shell) : t.core = s.core :=
  (congrArg (fun x : State × (Nat → W32) => (({ x.1 with pair := { x.1.pair with cmp := [] } } : State), x.2)) h :)

theorem State.core_modCmp (p : Nat) (f : Cmp → Cmp) : (s.modCmp p f).core = s.core := rfl

theorem State.cmp_of_shell {s t : State} (h : t.shell = s.shell) : t.pair.cmp = s.pair.cmp :=
  congrArg Pair.cmp (State.pair_of_clocks (State.clocks_of_shell h))

/-- A comparator that waits for nothing (R240). -/
def Cmp.released (c : Cmp) : Cmp := { c with waitAt := none, diverged := none, copyA := none, copyB := none }

/-- The end of a wait releases the comparator and delivers a flit. -/
theorem State.shell_endWait (p : Nat) : (s.endWait p pl false).shell = (s.modCmp p Cmp.released).shell := by
  unfold State.endWait
  extract_lets c t
  have ht : t = s.modCmp p Cmp.released := rfl
  split
  · rw [State.deliver, if_neg Bool.false_ne_true, State.shell_edgeEnter, ht]
  · rw [ht]

theorem State.core_endWait (p : Nat) : (s.endWait p pl false).core = s.core :=
  (State.core_of_shell (s.shell_endWait pl p)).trans (s.core_modCmp p _)

theorem State.cmpOf_endWait_same (p : Nat) : (s.endWait p pl false).cmpOf p = (s.cmpOf p).released := by
  rw [State.cmpOf, State.cmp_of_shell (s.shell_endWait pl p)]
  exact Tab.rd_upd_same _ _ _ _

theorem State.cmpOf_endWait_ne {p i : Nat} (h : i ≠ p) : (s.endWait p pl false).cmpOf i = s.cmpOf i := by
  rw [State.cmpOf, State.cmp_of_shell (s.shell_endWait pl p)]
  exact Tab.rd_upd_ne _ _ _ _ h

/-- A comparator that is not stalled stays so when waits end. -/
theorem State.stalled_endWait {p i : Nat} (h : (s.cmpOf i).stalled = false) : ((s.endWait p pl false).cmpOf i).stalled = false := by
  by_cases hi : i = p
  · rw [hi, State.cmpOf_endWait_same]
    rfl
  · rw [s.cmpOf_endWait_ne pl hi, h]

end

/-- What an update of rows leaves of every row, it leaves of each. -/
theorem Tab.obs_foldl_upd {α β : Type} [DecidableEq α] (l : List (Nat × α)) (d : α) (f : α → α) (obs : α → β) (h : ∀ v, obs (f v) = obs v)
    (t : Tab α) (k : Nat) : obs (Tab.rd (l.foldl (fun t x => t.upd x.1 d f) t) k d) = obs (Tab.rd t k d) := by
  induction l generalizing t with
  | nil => rfl
  | cons x l ih =>
    rw [List.foldl_cons, ih]
    by_cases hk : k = x.1
    · rw [hk, Tab.rd_upd_same, h]
    · rw [Tab.rd_upd_ne _ _ _ _ hk]

/-- What an update brings about in each row of a table, and holds of the empty row, holds of every row at the end. -/
theorem Tab.all_foldl_upd {α : Type} [DecidableEq α] (t : Tab α) (d : α) (f : α → α) (P : α → Prop) (hd : P d) (h : ∀ v, P (f v)) (k : Nat) :
    P (Tab.rd (t.foldl (fun t x => t.upd x.1 d f) t) k d) := by
  have hrow : ∀ (l : List (Nat × α)) (u : Tab α), (P (Tab.rd u k d) ∨ ∃ x ∈ l, x.1 = k) →
      P (Tab.rd (l.foldl (fun t x => Tab.upd t x.1 d f) u) k d) := by
    intro l
    induction l with
    | nil => exact fun u hu => hu.resolve_right (by simp)
    | cons x l ih =>
      intro u hu
      refine ih _ ?_
      by_cases hk : k = x.1
      · rw [hk, Tab.rd_upd_same]
        exact .inl (h _)
      · rw [Tab.rd_upd_ne _ _ _ _ hk]
        rcases hu with hu | ⟨y, hy, hyk⟩
        · exact .inl hu
        · rcases List.mem_cons.1 hy with rfl | hy
          · exact absurd hyk.symm hk
          · exact .inr ⟨y, hy, hyk⟩
  refine hrow t t ?_
  by_cases hk : Tab.rd t k d = d
  · rw [hk]
    exact .inl hd
  · exact .inr (Tab.exists_mem_of_rd_ne hk)

end Sys2Proof.Machine

namespace Sys2Proof.Machine

/-! ### Plane faults (R239, R245, R246, R250) -/

section

variable (s : State) (pl : Pl)

theorem State.abortJoin_none (h : s.pair.joining = none) : s.abortJoin = s := by
  unfold State.abortJoin
  rw [h]
  exact if_neg fun hc => absurd hc.1 Bool.false_ne_true

theorem State.not_failed_of_runs (hv : s.variant.paired = true) (hr : s.runs pl = true) : s.plState pl ≠ .failed := by
  have h : s.plState pl = .inService := by
    unfold State.runs at hr
    rw [if_pos hv] at hr
    exact of_decide_eq_true hr
  rw [h]
  decide

theorem State.planeFault_first (hv : s.variant.paired = true) (hr : s.runs pl = true) (cause port : Nat) (owners : Option (BitVec 16))
    (hw : s.pair.window = false) (hf : s.pair.faulty = none) (hj : s.pair.joining = none) : s.planeFault pl cause port owners =
      { s with pair := { s.pair with faulty := some pl, cause := cause, port := port, slot := s.now } } := by
  unfold State.planeFault
  rw [if_neg (by rw [hv]; decide), if_neg (s.not_failed_of_runs pl hv hr), s.abortJoin_none hj]
  dsimp only
  rw [if_neg (by rw [hr]; decide), if_neg]
  rw [hw, hf]
  decide

theorem State.planeFault_second (hv : s.variant.paired = true) (hr : s.runs pl = true) (cause port : Nat) (owners : Option (BitVec 16))
    (hw : s.pair.window = true) (hf : s.pair.faulty = none) (hj : s.pair.joining = none) : s.planeFault pl cause port owners =
      (s.affectOwners (owners.getD s.validOwners)).occurInfo 381 port := by
  unfold State.planeFault
  rw [if_neg (by rw [hv]; decide), if_neg (s.not_failed_of_runs pl hv hr), s.abortJoin_none hj]
  dsimp only
  rw [if_neg (by rw [hr]; decide), if_pos (.inl hw), if_neg]
  rw [hf]
  exact (Option.some_ne_none pl).symm

theorem execPlaneCheckerFire_paired (hv : s.variant.paired = true) (site : CheckSite) :
    execPlaneCheckerFire pl site s = .next (s.planeFault pl 2 site.port site.owners).wakeComparators := by
  unfold execPlaneCheckerFire
  rw [if_pos hv]

theorem State.forceOut_both (ha : s.runs .a = true) (hb : s.runs .b = true) (hf : s.pair.faulty = none) :
    s.forceOut pl = s.planeFault pl 5 epService none := by
  unfold State.forceOut
  rw [if_pos]
  rw [ha, hb, hf]
  rfl

/-! #### A fault of the recovering plane -/

section

variable (hv : s.variant.paired = true) (hr : s.runs pl = false) (hs : s.plState pl ≠ .failed)

include hv hr hs

theorem State.planeFault_recovering (cause port : Nat) (owners : Option (BitVec 16)) :
    s.planeFault pl cause port owners = s.abortJoin.restartPlane pl := by
  have hruns : s.abortJoin.runs pl = s.runs pl := by
    unfold State.abortJoin
    split
    · cases pl <;> rfl
    · rfl
  unfold State.planeFault
  rw [if_neg (by rw [hv]; decide), if_neg hs]
  dsimp only
  rw [hruns, hr]
  rfl

omit hs in
theorem execLinkCheckFailure_recovering (out : OutPort) (got : LinkFlit) :
    execLinkCheckFailure pl out got s = .next (s.planeFault pl 3 epService none) := by
  unfold execLinkCheckFailure
  rw [if_pos ⟨hv, by rw [hr]; rfl⟩]

end

theorem State.restarts_abortJoin : s.abortJoin.pair.restarts = s.pair.restarts ∧ s.abortJoin.now = s.now := by
  unfold State.abortJoin
  split <;> exact ⟨rfl, rfl⟩

/-- The recovering plane starts again at RESET, the third time it has failed (R246). -/
theorem State.pair_restartPlane : (s.restartPlane pl).plState pl = (if 2 ≤ s.pair.restarts then .failed else .reset) ∧
    (s.restartPlane pl).pair.restarts = min (s.pair.restarts + 1) 3 ∧ (s.restartPlane pl).pair.since = s.now := by
  have hn : (3 ≤ min (s.pair.restarts + 1) 3) = (2 ≤ s.pair.restarts) := propext (by omega)
  refine ⟨?_, by cases pl <;> rfl, by cases pl <;> rfl⟩
  have h : (s.restartPlane pl).plState pl = if 3 ≤ min (s.pair.restarts + 1) 3 then .failed else .reset := by cases pl <;> rfl
  rw [h]
  simp only [hn]

theorem State.isl_restartPlane : ((s.restartPlane pl).pln pl).isl = (s.pln pl).isl.filter (fun x => decide (x.1 = 21)) := by
  cases pl <;> rfl

theorem State.islLocked_restartPlane {i : Nat} (h : i ≠ 21) : (s.restartPlane pl).islLocked pl i = false := by
  rw [State.islLocked, s.isl_restartPlane pl]
  have hrd := Tab.rd_filter_key (s.pln pl).isl (fun j => decide (j = 21)) i ({} : Island)
  rw [decide_eq_false h, if_neg Bool.false_ne_true] at hrd
  rw [hrd]

/-! #### The faulty plane goes out (R245) -/

/-- The recovery window opens, and the faulty plane goes to RESET. -/
def State.windowOpened : State :=
  { s.setPlState pl .reset with pair := { (s.setPlState pl .reset).pair with
      window := true, restarts := 0, faulty := none, since := s.now, sinceFc := s.fc, rejoin := false, kfails := 0 } }

/-- The fault is counted, raised and put on record. -/
def State.faultNoted : State :=
  let t := (s.ginc rPairFaults 0 32 1).occurInfo 380 s.pair.port
  (t.gset rPairSlotLo (BitVec.ofNat 32 t.pair.slot)).gset rPairSlotHi (BitVec.ofNat 32 (t.pair.slot / 2 ^ 32))

/-- The comparators that wait deliver the flits of plane `q`. -/
def State.waitsEnded (q : Pl) : State := (s.pair.cmp.filter (fun x => x.2.stalled)).foldl (fun t x => t.endWait x.1 q false) s

/-- No comparator has seen a fault any more. -/
def State.faultUnseen : State :=
  { s with pair := { s.pair with cmp := s.pair.cmp.foldl (fun t x => t.upd x.1 {} (fun c => { c with faultSeen := none })) s.pair.cmp } }

/-- The faulty plane is out, but for what its Bellwether's timed mode does (R245). -/
def State.takenOut : State := (((s.windowOpened pl).faultNoted.waitsEnded (otherPl pl)).faultUnseen).resetPlane pl

theorem execPlaneOut_due (hf : s.pair.faulty = some pl) (hslot : s.pair.slot + 4 ≤ s.now) (h0 : s.fcInSlot = 0) (hr : s.runs pl = true) :
    execPlaneOut s = .next (s.takenOut pl).timedCheckAll := by
  unfold execPlaneOut
  rw [hf]
  dsimp only
  rw [if_pos ⟨hslot, h0, hr⟩]
  rfl

end

end Sys2Proof.Machine

namespace Sys2Proof.Machine

/-! ### What stays while a plane goes out (R245) -/

theorem Tab.mem_of_rd_ne {α : Type} {t : Tab α} {k : Nat} {d : α} (h : Tab.rd t k d ≠ d) : (k, Tab.rd t k d) ∈ t := by
  induction t with
  | nil => exact absurd rfl h
  | cons x t ih =>
    obtain ⟨j, v⟩ := x
    by_cases hj : j = k
    · subst hj
      simp [Tab.rd, Tab.find]
    · have hrd : Tab.rd ((j, v) :: t) k d = Tab.rd t k d := by simp [Tab.rd, Tab.find, hj]
      rw [hrd] at h ⊢
      exact List.mem_cons_of_mem _ (ih h)

section

variable (s : State) (pl : Pl)

theorem State.core_waitsEnded (q : Pl) : (s.waitsEnded q).core = s.core :=
  foldl_same _ (fun t (x : Nat × Cmp) => State.endWait t x.1 q false) State.core (fun t x => t.core_endWait q x.1) s

theorem State.core_faultUnseen : s.faultUnseen.core = s.core := rfl

theorem State.core_faultNoted : s.faultNoted.clocks = s.clocks := by
  unfold State.faultNoted
  exact ((State.clocks_gset ..).trans (State.clocks_gset ..)).trans ((State.clocks_occurInfo _ (by decide) _).trans (s.clocks_ginc ..))

/-- The state just before the plane's own reset. -/
def State.waitsOver : State := ((s.windowOpened pl).faultNoted.waitsEnded (otherPl pl)).faultUnseen

theorem State.core_waitsOver : (s.waitsOver pl).core = (s.windowOpened pl).faultNoted.core :=
  (State.core_faultUnseen _).trans (State.core_waitsEnded _ _)

theorem State.pair_waitsOver : { (s.waitsOver pl).pair with cmp := [] } = { (s.windowOpened pl).pair with cmp := [] } := by
  have h : { (s.waitsOver pl).pair with cmp := [] } = { (s.windowOpened pl).faultNoted.pair with cmp := [] } :=
    congrArg (fun x : State × (Nat → W32) => x.1.pair) (s.core_waitsOver pl)
  rw [h, State.pair_of_clocks (State.core_faultNoted _)]

theorem State.isl_waitsOver (q : Pl) : ((s.waitsOver pl).pln q).isl = (s.pln q).isl := by
  have h : ((s.waitsOver pl).pln q).isl = ((s.windowOpened pl).faultNoted.pln q).isl := by
    cases q with
    | a => exact congrArg (fun x : State × (Nat → W32) => x.1.pa.isl) (s.core_waitsOver pl)
    | b => exact congrArg (fun x : State × (Nat → W32) => x.1.pb.isl) (s.core_waitsOver pl)
  rw [h, State.isl_of_clocks (State.core_faultNoted _)]
  cases q <;> cases pl <;> rfl

theorem State.g_waitsOver {off : Nat} (ho : infoWord off = false) : (s.waitsOver pl).g off = (s.windowOpened pl).faultNoted.g off := by
  have h := congrFun (congrArg Prod.snd (s.core_waitsOver pl)) off
  simpa [State.core, ho] using h

/-- The fault is counted, its slot on record (R259). -/
theorem State.g_faultNoted : s.faultNoted.gf rPairFaults 0 32 = satAdd 32 (s.gf rPairFaults 0 32) 1 ∧
    s.faultNoted.g rPairSlotLo = BitVec.ofNat 32 s.pair.slot := by
  have hrec := State.Records.occurInfo (C := fun _ => True) (W := fun _ => True) (s.ginc rPairFaults 0 32 1) (src := 380) (by decide) s.pair.port
  have hslot : ((s.ginc rPairFaults 0 32 1).occurInfo 380 s.pair.port).pair.slot = s.pair.slot := congrArg Pair.slot hrec.pair
  refine ⟨?_, ?_⟩
  · unfold State.faultNoted
    dsimp only
    rw [State.gf, State.g_gset_ne _ (by decide), State.g_gset_ne _ (by decide), ← State.gf, hrec.gf (by decide),
      State.gf_ginc _ _ _ (by decide)]
    rfl
  · unfold State.faultNoted
    dsimp only
    rw [State.g_gset_ne _ (by decide), State.g_gset, hslot]

/-! #### The comparators -/

theorem State.stalled_waitsEnded (q : Pl) (p : Nat) : ((s.waitsEnded q).cmpOf p).stalled = false := by
  by_cases hp : (s.cmpOf p).stalled = false
  · exact List.foldlRecOn (motive := fun t => (State.cmpOf t p).stalled = false) _ _ hp fun t ht x _ => t.stalled_endWait q ht
  · have hrow : s.cmpOf p ≠ {} := fun e => hp (by rw [e]; rfl)
    have hmem : (p, s.cmpOf p) ∈ s.pair.cmp.filter (fun x => x.2.stalled) :=
      List.mem_filter.2 ⟨Tab.mem_of_rd_ne hrow, Bool.of_not_eq_false hp⟩
    exact foldl_settles _ (fun t (x : Nat × Cmp) => State.endWait t x.1 q false) (fun x t => (State.cmpOf t x.1).stalled = false)
      (fun t x => by rw [t.cmpOf_endWait_same q x.1]; rfl) (fun t x y hy => t.stalled_endWait q hy) s _ hmem

theorem State.cmp_resetPlane {β : Type} (obs : Cmp → β) (h : ∀ c, obs (c.dropHalf pl) = obs c) (p : Nat) :
    obs ((s.resetPlane pl).cmpOf p) = obs (s.cmpOf p) := by
  cases pl with
  | a => exact Tab.obs_foldl_upd s.pair.cmp {} (fun c => c.dropHalf .a) obs h s.pair.cmp p
  | b => exact Tab.obs_foldl_upd s.pair.cmp {} (fun c => c.dropHalf .b) obs h s.pair.cmp p

theorem Cmp.stalled_dropHalf (c : Cmp) : (c.dropHalf pl).stalled = c.stalled ∧ (c.dropHalf pl).faultSeen = c.faultSeen := by
  cases pl <;> exact ⟨rfl, rfl⟩

theorem State.faultSeen_faultUnseen (p : Nat) : (s.faultUnseen.cmpOf p).faultSeen = none :=
  Tab.all_foldl_upd s.pair.cmp {} (fun c => { c with faultSeen := none }) (fun c => c.faultSeen = none) rfl (fun _ => rfl) p

theorem State.stalled_faultUnseen (p : Nat) : (s.faultUnseen.cmpOf p).stalled = (s.cmpOf p).stalled :=
  Tab.obs_foldl_upd s.pair.cmp {} (fun c => { c with faultSeen := none }) Cmp.stalled (fun _ => rfl) s.pair.cmp p

/-- No comparator waits, and none has seen a fault, once the plane is out. -/
theorem State.cmp_takenOut (p : Nat) : ((s.takenOut pl).cmpOf p).stalled = false ∧ ((s.takenOut pl).cmpOf p).faultSeen = none := by
  have hst := (s.waitsOver pl).cmp_resetPlane pl Cmp.stalled (fun c => (c.stalled_dropHalf pl).1) p
  have hfs := (s.waitsOver pl).cmp_resetPlane pl Cmp.faultSeen (fun c => (c.stalled_dropHalf pl).2) p
  exact ⟨hst.trans ((State.stalled_faultUnseen _ p).trans (State.stalled_waitsEnded _ _ p)),
    hfs.trans (State.faultSeen_faultUnseen _ p)⟩

/-- What the plane's own reset leaves of the pair's record (R245). -/
theorem State.pair_resetPlane : { (s.resetPlane pl).pair with cmp := [], edges := [] } = { s.pair with cmp := [], edges := [] } := by
  cases pl <;> rfl

theorem State.pair_takenOut : { (s.takenOut pl).pair with cmp := [], edges := [] } = { (s.windowOpened pl).pair with cmp := [], edges := [] } :=
  (State.pair_resetPlane (s.waitsOver pl) pl).trans (congrArg (fun x : Pair => { x with edges := [] }) (s.pair_waitsOver pl))

theorem State.plState_takenOut (q : Pl) : (s.takenOut pl).plState q = (s.windowOpened pl).plState q := by
  cases q with
  | a => exact (congrArg Pair.a (s.pair_takenOut pl) :)
  | b => exact (congrArg Pair.b (s.pair_takenOut pl) :)

theorem State.plState_windowOpened : (s.windowOpened pl).plState pl = .reset ∧
    (s.windowOpened pl).plState (otherPl pl) = s.plState (otherPl pl) := by
  cases pl <;> exact ⟨rfl, rfl⟩

theorem State.pln_takenOut : (s.takenOut pl).pln pl = { isl := (s.pln pl).isl.filter (fun x => decide (x.1 = 21)) } := by
  have h : (s.takenOut pl).pln pl = { isl := ((s.waitsOver pl).pln pl).isl.filter (fun x => decide (x.1 = 21)) } := by cases pl <;> rfl
  rw [h, s.isl_waitsOver pl]

theorem State.g_resetPlane (off : Nat) : (s.resetPlane pl).g off = s.g off := by cases pl <;> rfl

theorem State.g_windowOpened (off : Nat) : (s.windowOpened pl).g off = s.g off := by cases pl <;> rfl

theorem State.g_takenOut : (s.takenOut pl).gf rPairFaults 0 32 = satAdd 32 (s.gf rPairFaults 0 32) 1 ∧
    (s.takenOut pl).g rPairSlotLo = BitVec.ofNat 32 s.pair.slot := by
  have hword : ∀ off, infoWord off = false → (s.takenOut pl).g off = (s.windowOpened pl).faultNoted.g off := fun off ho =>
    ((s.waitsOver pl).g_resetPlane pl off).trans (s.g_waitsOver pl ho)
  obtain ⟨hcount, hslot⟩ := (s.windowOpened pl).g_faultNoted
  refine ⟨?_, ?_⟩
  · rw [State.gf, hword _ (by decide), ← State.gf, hcount, State.gf, s.g_windowOpened pl, State.gf]
  · rw [hword _ (by decide), hslot]
    cases pl <;> rfl

end

end Sys2Proof.Machine

namespace Sys2Proof.Machine

/-! ### The states of a plane that is out (R246 to R249) -/

section

variable (s : State) (pl : Pl)

theorem State.plState_of_pair {s t : State} (h : t.pair = s.pair) (q : Pl) : t.plState q = s.plState q := by
  unfold State.plState
  rw [h]

/-- The plane that is out enters state `next` now. -/
def State.recovered (next : PlState) : State :=
  { s.setPlState pl next with pair := { (s.setPlState pl next).pair with since := s.now, sinceFc := s.fc } }

theorem State.recover_from {was next : PlState} {f : Pl → State → State} (ho : s.outPlane = some pl) (hw : s.plState pl = was) :
    s.recover was next f = f pl (s.recovered pl next) := by
  unfold State.recover
  rw [ho]
  dsimp only
  rw [if_pos hw]
  rfl

theorem State.plState_recovered (next : PlState) : (s.recovered pl next).plState pl = next ∧
    (s.recovered pl next).plState (otherPl pl) = s.plState (otherPl pl) := by
  cases pl <;> exact ⟨rfl, rfl⟩

theorem State.pln_recovered (next : PlState) (q : Pl) : (s.recovered pl next).pln q = s.pln q := by cases pl <;> cases q <;> rfl

/-! #### The islands that lock after RESET -/

theorem State.pair_relocked (i : Nat) : (s.relocked pl i).pair = s.pair :=
  (State.pair_of_outer (s.outer_relocked pl i)).trans (by cases pl <;> rfl)

theorem State.pair_lockDueIn (l : List Nat) : (s.lockDueIn pl l).pair = s.pair :=
  foldl_same _ _ State.pair (fun t i => t.pair_relocked pl i) s

theorem State.planeSlot_of_edges {s t : State} (h : t.pair = s.pair) (hs : t.slot = s.slot) (q : Pl) : t.planeSlot q = s.planeSlot q := by
  cases q with
  | a => exact hs
  | b => exact (congr (congrArg (fun x (y : Pair) => x - BitVec.ofNat 64 y.edges.length) hs) h :)

theorem State.slot_relocked (i : Nat) : (s.relocked pl i).slot = s.slot :=
  (congrArg (fun x : State × (Nat → W32) => x.1.slot) (s.outer_relocked pl i) :).trans (by cases pl <;> rfl)

/-- An island of the list that is not locked in the walk is as it was. -/
theorem State.isl_lockDueIn_skipped (l : List Nat) {i : Nat} (h : (s.lockDue pl i && !s.offAt pl i) = false) :
    ((s.lockDueIn pl l).pln pl).isl.rd i {} = (s.pln pl).isl.rd i {} := by
  refine foldl_same_of_mem _ _ (fun t => (State.pln t pl).isl.rd i ({} : Island)) (fun t j hj => t.isl_relocked_ne pl ?_) s
  rintro rfl
  rw [(List.mem_filter.1 hj).2] at h
  cases h

theorem State.planeSlot_relocked (i : Nat) (q : Pl) : (s.relocked pl i).planeSlot q = s.planeSlot q :=
  State.planeSlot_of_edges (s.pair_relocked pl i) (s.slot_relocked pl i) q

/-- Island `i` is locked, with `copy` as its copy. -/
def State.LockedAt (s : State) (pl : Pl) (copy : BitVec 64) (i : Nat) : Prop :=
  s.islLocked pl i = true ∧ ((s.pln pl).isl.rd i {}).copy = copy

theorem State.lockedAt_relocked (i : Nat) : (s.relocked pl i).LockedAt pl (s.planeSlot pl) i := by
  unfold State.LockedAt
  rw [State.islLocked, s.isl_relocked_same pl i]
  exact ⟨rfl, rfl⟩

theorem State.lockedAt_relocked_ne {copy : BitVec 64} {i j : Nat} (h : i ≠ j) (hl : s.LockedAt pl copy i) :
    (s.relocked pl j).LockedAt pl copy i := by
  unfold State.LockedAt
  rw [State.islLocked, s.isl_relocked_ne pl h]
  exact hl

/-- One that meets R91 and has no off-nominal crossing is locked, at the plane's slot. -/
theorem State.isl_lockDueIn_due (l : List Nat) {i : Nat} (hi : i ∈ l) (hd : s.lockDue pl i = true) (ho : s.offAt pl i = false) :
    (s.lockDueIn pl l).LockedAt pl (s.planeSlot pl) i := by
  have hmem : i ∈ l.filter (fun i => s.lockDue pl i && !s.offAt pl i) := List.mem_filter.2 ⟨hi, by rw [hd, ho]; rfl⟩
  have hself : ∀ (t : State) (j : Nat), (t.relocked pl j).LockedAt pl ((t.relocked pl j).planeSlot pl) j := fun t j => by
    rw [t.planeSlot_relocked]
    exact t.lockedAt_relocked pl j
  have h := foldl_settles _ (fun t j => State.relocked t pl j) (fun j t => State.LockedAt t pl (State.planeSlot t pl) j) hself
    (fun t k j hj => by
      by_cases hjk : j = k
      · rw [hjk]
        exact hself t k
      · rw [t.planeSlot_relocked]
        exact t.lockedAt_relocked_ne pl hjk hj) s i hmem
  have hslot : (s.lockDueIn pl l).planeSlot pl = s.planeSlot pl :=
    foldl_same _ _ (fun t => State.planeSlot t pl) (fun t j => t.planeSlot_relocked pl j pl) s
  rw [← hslot]
  exact h

/-! #### Kettle words -/

theorem State.kettleWord_ok {w : KettleWord} (h : w.crc = kettleCrc w.data) :
    s.kettleWord pl w = { s with pair := { s.pair with kfails := 0 } } := by
  unfold State.kettleWord
  dsimp only
  rw [if_pos h]

/-- The block with the record `x` of the pair. -/
def State.withPair (x : Pair) : State := { s with pair := x }

@[simp] theorem State.g_withPair (x : Pair) (off : Nat) : (s.withPair x).g off = s.g off := rfl
@[simp] theorem State.pair_withPair (x : Pair) : (s.withPair x).pair = x := rfl
@[simp] theorem State.variant_withPair (x : Pair) : (s.withPair x).variant = s.variant := rfl

/-- A word that fails is counted. -/
def State.kettleFailed : State :=
  (s.ginc rPairKettle 0 16 1).withPair { s.pair with kfails := s.pair.kfails + 1, resent := s.pair.resent + 1 }

theorem State.kettleWord_fails {w : KettleWord} (h : w.crc ≠ kettleCrc w.data) : s.kettleWord pl w =
    if 15 ≤ s.pair.kfails ∧ s.plState pl ≠ .join then
      (s.kettleFailed.ginc rPairKettle 16 4 1).recover (s.plState pl) .sweep
        (fun _ t => { t with pair := { t.pair with kfails := 0, resent := 0 } })
    else s.kettleFailed := by
  have h16 : (16 ≤ s.pair.kfails + 1) = (15 ≤ s.pair.kfails) := propext (by omega)
  unfold State.kettleWord
  rw [if_neg h]
  simp only [← h16]
  rfl

theorem State.pair_ginc (off lo len n : Nat) : (s.ginc off lo len n).pair = s.pair := rfl

theorem State.variant_ginc (off lo len n : Nat) : (s.ginc off lo len n).variant = s.variant := rfl

theorem State.outPlane_of_pair {s t : State} (h : t.pair = s.pair) (hv : t.variant = s.variant) : t.outPlane = s.outPlane := by
  unfold State.outPlane
  rw [h, hv]

/-- What a failed word leaves: the count, and after 16 in a row the sweep starts again (R247). -/
theorem State.kettleWord_counts {w : KettleWord} (ho : s.outPlane = some pl) (h : w.crc ≠ kettleCrc w.data) :
    (s.kettleWord pl w).gf rPairKettle 0 16 = satAdd 16 (s.gf rPairKettle 0 16) 1 ∧
    (s.kettleWord pl w).plState pl = (if 15 ≤ s.pair.kfails ∧ s.plState pl ≠ .join then .sweep else s.plState pl) ∧
    (s.kettleWord pl w).pair.kfails = (if 15 ≤ s.pair.kfails ∧ s.plState pl ≠ .join then 0 else s.pair.kfails + 1) ∧
    (s.pair.kfails < 15 → (s.kettleWord pl w).pair.resent = s.pair.resent + 1) := by
  have hword : s.kettleFailed.gf rPairKettle 0 16 = satAdd 16 (s.gf rPairKettle 0 16) 1 := by
    rw [State.kettleFailed, State.gf, State.g_withPair, ← State.gf, State.gf_ginc _ _ _ (by decide)]
    rfl
  have hpair : s.kettleFailed.pair = { s.pair with kfails := s.pair.kfails + 1, resent := s.pair.resent + 1 } := State.pair_withPair _ _
  have hstate : s.kettleFailed.plState pl = s.plState pl := by
    unfold State.plState
    rw [hpair]
  have hout : s.kettleFailed.outPlane = some pl := by
    rw [← ho]
    unfold State.outPlane
    rw [hpair, State.kettleFailed, State.variant_withPair, State.variant_ginc]
  rw [s.kettleWord_fails pl h]
  by_cases hc : 15 ≤ s.pair.kfails ∧ s.plState pl ≠ .join
  · have hpair2 := s.kettleFailed.pair_ginc rPairKettle 16 4 1
    have hout2 := (State.outPlane_of_pair hpair2 (s.kettleFailed.variant_ginc ..)).trans hout
    have hst2 := (State.plState_of_pair hpair2 pl).trans hstate
    rw [if_pos hc, if_pos hc, if_pos hc, State.recover_from _ pl hout2 hst2]
    have hcount2 : (s.kettleFailed.ginc rPairKettle 16 4 1).gf rPairKettle 0 16 = satAdd 16 (s.gf rPairKettle 0 16) 1 := by
      rw [State.ginc, State.gf_gfset_of_disjoint _ _ _ (by decide), State.gf, State.g_noteInc, ← State.gf, hword]
    generalize s.kettleFailed.ginc rPairKettle 16 4 1 = u at hcount2
    refine ⟨?_, (u.plState_recovered pl .sweep).1, rfl, fun hk => absurd hc.1 (by omega)⟩
    rw [← hcount2]
    cases pl <;> rfl
  · rw [if_neg hc, if_neg hc, if_neg hc, hpair]
    exact ⟨hword, hstate, rfl, fun _ => rfl⟩

theorem execKettleWordError_runs (ho : s.outPlane = some pl) (hst : s.plState pl = .sweep ∨ s.plState pl = .ready ∨ s.plState pl = .join)
    (w : KettleWord) : execKettleWordError w s = .next (s.kettleWord pl w) := by
  unfold execKettleWordError
  rw [ho]
  dsimp only
  rw [if_pos hst]

end

/-! #### The copy over the kettle link (R247) -/

theorem Tab.rd_map {α β : Type} (t : Tab α) (f : α → β) (k : Nat) (d : α) :
    Tab.rd (t.map (fun e => (e.1, f e.2))) k (f d) = f (Tab.rd t k d) := by
  induction t with
  | nil => rfl
  | cons x t ih =>
    obtain ⟨j, v⟩ := x
    by_cases hj : j = k
    · subst hj
      simp [Tab.rd, Tab.find]
    · simpa [Tab.rd, Tab.find, hj] using ih

/-- An NI without the flits in flight. -/
def Ni.noFlight (n : Ni) : Ni := { n with tx := [], rx := [], inbox := n.inbox.filter (fun b => decide (7 ≤ b.1 ∨ b.1 = 0)) }

theorem Plane.copyTo_parts (x y : Plane) : (x.copyTo y).isl = y.isl ∧ (x.copyTo y).rf = x.rf ∧ (x.copyTo y).ctr = x.ctr ∧
    (∀ e ∈ (x.copyTo y).frt ++ (x.copyTo y).qrt, e.2.buf = []) ∧ (∀ e ∈ (x.copyTo y).ni, e.2.tx = [] ∧ e.2.rx = []) ∧
    ∀ p, ((x.copyTo y).ni.rd p {}).look = (x.ni.rd p {}).look ∧ ((x.copyTo y).ni.rd p {}).out = (x.ni.rd p {}).out := by
  refine ⟨rfl, rfl, rfl, fun e he => ?_, fun e he => ?_, fun p => ?_⟩
  · rcases List.mem_append.1 he with he | he
    · obtain ⟨z, -, rfl⟩ := List.mem_map.1 he
      rfl
    · obtain ⟨z, -, rfl⟩ := List.mem_map.1 he
      rfl
  · obtain ⟨z, -, rfl⟩ := List.mem_map.1 he
    exact ⟨rfl, rfl⟩
  · have h : (x.copyTo y).ni.rd p {} = (x.ni.rd p {}).noFlight := Tab.rd_map x.ni Ni.noFlight p {}
    rw [h]
    exact ⟨rfl, rfl⟩

end Sys2Proof.Machine

namespace Sys2Proof.Machine

/-! ### The join (R248, R249) -/

section

variable (s : State) (pl : Pl)

theorem State.plState_ready_of_mayJoin (ho : s.outPlane = some pl) (h : s.mayJoin = true) : s.plState pl = .ready := by
  unfold State.mayJoin at h
  rw [ho] at h
  simp only [Bool.and_eq_true, decide_eq_true_eq] at h
  obtain ⟨⟨⟨⟨⟨hready, -⟩, -⟩, -⟩, -⟩, -⟩ := h
  exact hready

theorem execJoinStart_may (ho : s.outPlane = some pl) (h : s.mayJoin = true) : execJoinStart s = .next ((s.recovered pl .join).withPair
    { (s.recovered pl .join).pair with joining := some (s.recovered pl .join).now, resumeWait := false, aborted := false }) := by
  unfold execJoinStart
  rw [if_pos h, s.recover_from pl ho (s.plState_ready_of_mayJoin pl ho h)]
  rfl

theorem execJoinDrainDone_over (ho : s.outPlane = some pl) (hst : s.plState pl = .join) (hj : s.pair.joining.isSome = true)
    (ha : s.pair.aborted = false) (hw : s.pair.resumeWait = false) (hd : (s.pln (otherPl pl)).joinDrained = true)
    (he : s.edgeDrained = true) :
    execJoinDrainDone s = .next { s with pair := { s.pair with resumeWait := true, sinceFc := s.fc } } := by
  unfold execJoinDrainDone
  rw [ho]
  dsimp only
  rw [if_pos ⟨hst, hj, by rw [ha]; rfl, by rw [hw]; rfl, hd, he⟩]

/-- The plane is in service again, with the last copy of the other's state. -/
def State.rejoined : State :=
  let t := (s.copyPlane pl).setPlState pl .inService
  t.withPair { t.pair with joining := none, resumeWait := false, window := false, restarts := 0, rejoin := false }

/-- The join is counted, and the length of the recovery noted (R259). -/
def State.joinNoted : State := (s.ginc rPairRejoins 0 32 1).gset rPairRecovery (BitVec.ofNat 32 (s.now - s.pair.slot))

theorem State.joinNoted_keeps : s.joinNoted.now = s.now ∧ s.joinNoted.pair = s.pair ∧ ∀ q, s.joinNoted.pln q = s.pln q :=
  ⟨rfl, rfl, fun q => by cases q <;> rfl⟩

theorem State.rejoins_joinNoted : s.joinNoted.gf rPairRejoins 0 32 = satAdd 32 (s.gf rPairRejoins 0 32) 1 := by
  rw [State.joinNoted, State.gf, State.g_gset_ne _ (by decide), ← State.gf, State.gf_ginc _ _ _ (by decide)]
  rfl

def State.joined : State := (s.rejoined pl).joinNoted

theorem State.rejoined_facts : (s.rejoined pl).now = s.now ∧ (s.rejoined pl).plState pl = .inService ∧ (s.rejoined pl).pair.window = false ∧
    (s.rejoined pl).pair.joining = none ∧ (s.rejoined pl).pair.restarts = 0 ∧ (s.rejoined pl).pln (otherPl pl) = s.pln (otherPl pl) ∧
    (s.rejoined pl).pln pl = (s.pln (otherPl pl)).copyTo (s.pln pl) ∧ ∀ off, (s.rejoined pl).g off = s.g off := by
  cases pl <;> exact ⟨rfl, rfl, rfl, rfl, rfl, rfl, rfl, fun _ => rfl⟩

theorem execJoinResume_over {j : Nat} (ho : s.outPlane = some pl) (hj : s.pair.joining = some j) (h0 : s.fcInSlot = 0)
    (hn : s.now % 16 = 0) (ha : s.pair.aborted = false) (hw : s.pair.resumeWait = true) (hf : s.pair.sinceFc + 512 ≤ s.fc) :
    execJoinResume s = .next ((s.joined pl).eachPlane (fun q t => t.resumePlane (s.now - j) q)) := by
  have hnow : (s.joined pl).now = s.now := (State.joinNoted_keeps _).1.trans (s.rejoined_facts pl).1
  rw [← hnow]
  unfold execJoinResume
  rw [hj, ho]
  dsimp only
  rw [if_neg (not_or.2 ⟨not_not_intro h0, not_not_intro hn⟩), ha, if_neg Bool.false_ne_true, if_pos ⟨hw, hf⟩]
  rfl

/-- What a join leaves: both planes in service, the window shut, the copy, the count (R248, R259). -/
theorem State.joined_facts : (s.joined pl).plState pl = .inService ∧ (s.joined pl).pair.window = false ∧
    (s.joined pl).pair.joining = none ∧ (s.joined pl).pair.restarts = 0 ∧ (s.joined pl).pln (otherPl pl) = s.pln (otherPl pl) ∧
    (s.joined pl).pln pl = (s.pln (otherPl pl)).copyTo (s.pln pl) ∧
    (s.joined pl).gf rPairRejoins 0 32 = satAdd 32 (s.gf rPairRejoins 0 32) 1 := by
  obtain ⟨-, hpair, hpln⟩ := (s.rejoined pl).joinNoted_keeps
  obtain ⟨-, hst, hwin, hjoin, hres, hother, hcopy, hg⟩ := s.rejoined_facts pl
  refine ⟨(State.plState_of_pair hpair pl).trans hst, (congrArg Pair.window hpair).trans hwin, (congrArg Pair.joining hpair).trans hjoin,
    (congrArg Pair.restarts hpair).trans hres, (hpln _).trans hother, (hpln _).trans hcopy, ?_⟩
  rw [State.joined, State.rejoins_joinNoted, State.gf, hg, State.gf]

/-- A join that was aborted ends: the plane is READY again. -/
def State.joinUndone : State :=
  let t := if s.plState pl = .join then s.setPlState pl .ready else s
  t.withPair { t.pair with joining := none, resumeWait := false, aborted := false, since := t.now, sinceFc := t.fc }

theorem State.now_joinUndone : (s.joinUndone pl).now = s.now := by
  unfold State.joinUndone
  dsimp only
  split <;> rfl

theorem execJoinResume_aborted {j : Nat} (ho : s.outPlane = some pl) (hj : s.pair.joining = some j) (h0 : s.fcInSlot = 0)
    (hn : s.now % 16 = 0) (ha : s.pair.aborted = true) :
    execJoinResume s = .next ((s.joinUndone pl).eachPlane (fun q t => t.resumePlane (s.now - j) q)) := by
  rw [← s.now_joinUndone pl]
  unfold execJoinResume
  rw [hj, ho]
  dsimp only
  rw [if_neg (not_or.2 ⟨not_not_intro h0, not_not_intro hn⟩), if_pos ha]
  rfl

theorem State.joinUndone_facts (hst : s.plState pl = .join) : (s.joinUndone pl).plState pl = .ready ∧
    (s.joinUndone pl).pair.joining = none ∧ (s.joinUndone pl).pair.aborted = false := by
  unfold State.joinUndone
  rw [if_pos hst]
  cases pl <;> exact ⟨rfl, rfl, rfl⟩

theorem execJoinAbort_late {j : Nat} (hj : s.pair.joining = some j) (hl : j + s.gf rPairCfg 16 16 ≤ s.now) (hw : s.pair.resumeWait = false) :
    execJoinAbort s = .next s.abortJoin := by
  unfold execJoinAbort
  rw [hj]
  dsimp only
  rw [if_pos ⟨hl, by rw [hw]; rfl⟩]

theorem State.abortJoin_running {j : Nat} (hj : s.pair.joining = some j) (ha : s.pair.aborted = false) :
    s.abortJoin = (s.ginc rPairAborts 0 32 1).withPair { s.pair with aborted := true, resumeWait := false, notBefore := s.now + 65536 } := by
  unfold State.abortJoin
  rw [hj, ha]
  rfl

theorem State.abortJoin_facts {j : Nat} (hj : s.pair.joining = some j) (ha : s.pair.aborted = false) : s.abortJoin.pair.aborted = true ∧
    s.abortJoin.pair.notBefore = s.now + 65536 ∧ s.abortJoin.gf rPairAborts 0 32 = satAdd 32 (s.gf rPairAborts 0 32) 1 := by
  rw [s.abortJoin_running hj ha, State.gf, State.g_withPair, ← State.gf, State.gf_ginc _ _ _ (by decide)]
  exact ⟨rfl, rfl, rfl⟩

/-! #### The steps of recovery -/

theorem execPlaneResetDone_due (ho : s.outPlane = some pl) (hst : s.plState pl = .reset) (h : s.pair.since + 2048 ≤ s.now) :
    execPlaneResetDone s = .next ((s.recovered pl .selftest).lockDueIn pl s.islands) := by
  unfold execPlaneResetDone
  rw [if_pos h, s.recover_from pl ho hst]

theorem execSelftestDone_due (ho : s.outPlane = some pl) (hst : s.plState pl = .selftest) (h : s.pair.since + 2400000 ≤ s.now) (ok : Bool) :
    execSelftestDone ok s = .next ((s.recovered pl (if ok then .sweep else .failed)).withPair
      { (s.recovered pl (if ok then .sweep else .failed)).pair with kfails := 0, resent := 0 }) := by
  unfold execSelftestDone
  rw [if_pos h, s.recover_from pl ho hst]
  rfl

theorem execSweepDone_due (ho : s.outPlane = some pl) (hst : s.plState pl = .sweep)
    (h : s.pair.sinceFc + 212992 + s.pair.resent ≤ s.fc) : execSweepDone s = .next ((s.recovered pl .ready).copyPlane pl) := by
  unfold execSweepDone
  rw [if_pos h, s.recover_from pl ho hst]

theorem State.copyPlane_facts : (s.copyPlane pl).pair = s.pair ∧ (s.copyPlane pl).pln (otherPl pl) = s.pln (otherPl pl) ∧
    (s.copyPlane pl).pln pl = (s.pln (otherPl pl)).copyTo (s.pln pl) := by
  cases pl <;> exact ⟨rfl, rfl, rfl⟩

theorem State.lockDue_recovered (next : PlState) (i : Nat) : (s.recovered pl next).lockDue pl i = s.lockDue pl i ∧
    (s.recovered pl next).offAt pl i = s.offAt pl i ∧ (s.recovered pl next).planeSlot pl = s.planeSlot pl := by
  cases pl <;> exact ⟨rfl, rfl, rfl⟩

end

/-- A plane that is out for its reset's time goes to SELFTEST, and its islands that meet R91 lock (R246). -/
theorem planeResetDone_locks (s : State) (pl : Pl) (ho : s.outPlane = some pl) (hst : s.plState pl = .reset)
    (h : s.pair.since + 2048 ≤ s.now) : ∃ t : State, exec .planeResetDone s = .next t ∧ t.plState pl = .selftest ∧
      t.pair.since = s.now ∧ (∀ i ∈ s.islands, s.lockDue pl i = true → s.offAt pl i = false →
        t.islLocked pl i = true ∧ ((t.pln pl).isl.rd i {}).copy = s.planeSlot pl) ∧
      ∀ i, s.lockDue pl i = false → (t.pln pl).isl.rd i {} = (s.pln pl).isl.rd i {} := by
  have hpair := (s.recovered pl .selftest).pair_lockDueIn pl s.islands
  refine ⟨_, execPlaneResetDone_due s pl ho hst h, (State.plState_of_pair hpair pl).trans (s.plState_recovered pl .selftest).1,
    (congrArg Pair.since hpair).trans rfl, fun i hi hd hoff => ?_, fun i hd => ?_⟩
  · obtain ⟨hdue, hat, hslot⟩ := s.lockDue_recovered pl .selftest i
    rw [← hslot]
    exact State.isl_lockDueIn_due _ pl s.islands hi (hdue.trans hd) (hat.trans hoff)
  · rw [State.isl_lockDueIn_skipped _ pl _ (by rw [(s.lockDue_recovered pl .selftest i).1, hd]; rfl), s.pln_recovered]

/-- Settles O35. -/
theorem planeFaultsAndRecovery : Obligations.PlaneFaultsAndRecovery := by
  refine ⟨fun s pl hv hr => ⟨s.planeFault_first pl hv hr, s.planeFault_second pl hv hr, execPlaneCheckerFire_paired s pl hv,
      fun r h => ⟨s.cwWrite_allowed h (fun t => t.forceOut .a), s.cwWrite_allowed h (fun t => t.forceOut .b),
        fun ha hb hf q => s.forceOut_both q ha hb hf⟩⟩,
    fun s pl hv hr hs => ⟨execLinkCheckFailure_recovering s pl hv hr, fun cause port owners => ?_⟩,
    fun s pl hf hslot h0 hr hv => ?_, fun s pl ho => ⟨planeResetDone_locks s pl ho, fun hst h ok => ?_, fun hst h => ?_, fun w hst => ?_⟩,
    Plane.copyTo_parts, fun s pl ho => ⟨fun h => ?_, execJoinDrainDone_over s pl ho, fun j hj h0 hn ha hw hf => ?_,
      fun j hj h0 hn ha hst => ?_, fun j hj hl hw ha => ?_⟩⟩
  · obtain ⟨hrestarts, hnow⟩ := s.restarts_abortJoin
    have hfacts := s.abortJoin.pair_restartPlane pl
    rw [hrestarts, hnow] at hfacts
    obtain ⟨hst, hn, hsince⟩ := hfacts
    dsimp only
    rw [s.planeFault_recovering pl hv hr hs]
    exact ⟨hst, hn, hsince, fun i hi => s.abortJoin.islLocked_restartPlane pl hi⟩
  · obtain ⟨hst, hother⟩ := s.plState_windowOpened pl
    obtain ⟨hcount, hrec⟩ := s.g_takenOut pl
    have hpair := s.pair_takenOut pl
    exact ⟨s.takenOut pl, execPlaneOut_due s pl hf hslot h0 hr, (s.plState_takenOut pl pl).trans hst,
      (s.plState_takenOut pl _).trans hother, (congrArg Pair.window hpair :), (congrArg Pair.faulty hpair :),
      (congrArg Pair.restarts hpair :), (congrArg Pair.since hpair :), hcount, hrec, s.pln_takenOut pl,
      fun p _ => (s.cmp_takenOut pl p).1, fun p => (s.cmp_takenOut pl p).2⟩
  · exact ⟨_, execSelftestDone_due s pl ho hst h ok, s.plState_recovered pl _⟩
  · obtain ⟨hpair, hother, hcopy⟩ := (s.recovered pl .ready).copyPlane_facts pl
    refine ⟨_, execSweepDone_due s pl ho hst h, (State.plState_of_pair hpair pl).trans (s.plState_recovered pl _).1, ?_, ?_⟩
    · rw [hother, s.pln_recovered]
    · rw [hcopy, s.pln_recovered, s.pln_recovered]
  · refine ⟨fun hc => ?_, fun hc => ?_⟩
    · exact (execKettleWordError_runs s pl ho hst w).trans (congrArg Host.Outcome.next (s.kettleWord_ok pl hc))
    · obtain ⟨hcount, hstate, hfails, -⟩ := s.kettleWord_counts pl ho hc
      exact ⟨_, execKettleWordError_runs s pl ho hst w, hcount, hstate, hfails⟩
  · exact ⟨_, execJoinStart_may s pl ho h, (s.plState_recovered pl .join).1, rfl, rfl, rfl⟩
  · exact ⟨s.joined pl, execJoinResume_over s pl ho hj h0 hn ha hw hf, s.joined_facts pl⟩
  · exact ⟨s.joinUndone pl, execJoinResume_aborted s pl ho hj h0 hn ha, s.joinUndone_facts pl hst⟩
  · exact ⟨_, execJoinAbort_late s hj hl hw, s.abortJoin_facts hj ha⟩

end Sys2Proof.Machine

namespace Sys2Proof.Machine

/-! ### What sending a dump packet leaves alone (R65, R331) -/

/-- What the pumping of a host at `pl` leaves alone: the register words of the plane, the mirror latch of an NI, and the dump
work of each group but for the runs that still wait to go. -/
def State.dumpView (s : State) (pl : Pl) (p : Nat) : (Nat → W32) × List (BitVec 64) × (Nat → DumpG) :=
  (s.p pl, (s.ni pl p).mirrorLatch, fun g => { s.dumpG pl g with toSend := [] })

section

variable (s : State) (pl : Pl) (p : Nat)

theorem State.dumpView_eq {t : State} (hp : ∀ o, t.p pl o = s.p pl o) (hn : (t.ni pl p).mirrorLatch = (s.ni pl p).mirrorLatch)
    (hb : t.sb pl = s.sb pl) : t.dumpView pl p = s.dumpView pl p := by
  have hw : t.p pl = s.p pl := funext hp
  have hd : ∀ g, t.dumpG pl g = s.dumpG pl g := fun g => by rw [State.dumpG, State.dumpG, hb]
  rw [State.dumpView, State.dumpView, hw, hn]
  exact congrArg (fun x => (s.p pl, (s.ni pl p).mirrorLatch, x)) (funext fun g => by rw [hd])

theorem State.mirrorLatch_modNi (q : Nat) (f : Ni → Ni) (h : ∀ n, (f n).mirrorLatch = n.mirrorLatch) :
    ((s.modNi pl q f).ni pl p).mirrorLatch = (s.ni pl p).mirrorLatch := by
  by_cases hq : p = q
  · subst hq
    rw [State.ni_modNi, h]
  · rw [State.ni_modNi_ne s pl hq]

theorem State.dumpView_modNi (q : Nat) (f : Ni → Ni) (h : ∀ n, (f n).mirrorLatch = n.mirrorLatch) :
    (s.modNi pl q f).dumpView pl p = s.dumpView pl p :=
  State.dumpView_eq s pl p (fun _ => State.p_modNi ..) (s.mirrorLatch_modNi pl p q f h) (State.sb_modNi ..)

theorem State.dumpView_modMul (e : Nat) (f : Mule → Mule) : (s.modMul pl e f).dumpView pl p = s.dumpView pl p :=
  State.dumpView_eq s pl p (fun _ => State.p_modMul ..) (congrArg Ni.mirrorLatch (State.ni_modMul ..)) (State.sb_modMul ..)

theorem State.dumpView_modRouter (quire : Bool) (i : Nat) (f : Router → Router) :
    (s.modRouter pl quire i f).dumpView pl p = s.dumpView pl p :=
  State.dumpView_eq s pl p (fun _ => State.p_modRouter ..) (congrArg Ni.mirrorLatch (State.ni_modRouter ..)) (State.sb_modRouter ..)

theorem State.dumpView_modPort (q : Nat) (f : Port → Port) : (s.modPort q f).dumpView pl p = s.dumpView pl p :=
  State.dumpView_eq s pl p (fun _ => State.p_modPort ..) (congrArg Ni.mirrorLatch (State.ni_modPort ..)) (State.sb_modPort ..)

theorem State.dumpView_niPass (q vc : Nat) (fs : List Flit) : (s.niPass pl q vc fs).dumpView pl p = s.dumpView pl p := by
  unfold State.niPass
  dsimp only
  split
  · exact s.dumpView_modPort pl p q _
  · exact s.dumpView_modNi pl p q _ (fun _ => rfl)

theorem State.dumpView_epSend (ep : Nat) (h : BitVec 64) (lines : List Line) :
    (s.epSend pl ep h lines).dumpView pl p = s.dumpView pl p := by
  unfold State.epSend
  split
  · exact s.dumpView_modMul pl p _ _
  · exact s.dumpView_niPass pl p _ _ _

theorem State.dumpView_modDumpOut (ep : Nat) (f : Nat → Nat) : (s.modDumpOut pl ep f).dumpView pl p = s.dumpView pl p := by
  unfold State.modDumpOut
  split
  · exact s.dumpView_modNi pl p _ _ (fun _ => rfl)
  · split
    · exact s.dumpView_modMul pl p _ _
    · split <;> exact s.dumpView_modRouter pl p _ _ _

theorem State.dumpView_sendDump (ep g first : Nat) (l : List (BitVec 64)) :
    (s.sendDump pl ep g first l).dumpView pl p = s.dumpView pl p := by
  unfold State.sendDump
  dsimp only
  split
  · exact (State.dumpView_epSend _ pl p _ _ _).trans (s.dumpView_modDumpOut pl p _ _)
  · exact (State.dumpView_modRouter _ pl p _ _ _).trans (s.dumpView_modDumpOut pl p _ _)

theorem State.dumpView_pumpMirror (q : Nat) : (s.pumpMirror pl q).dumpView pl p = s.dumpView pl p := by
  unfold State.pumpMirror
  dsimp only
  split
  · rfl
  · refine (State.dumpView_modNi _ pl p q _ ?_).trans (s.dumpView_sendDump pl p q 8 (8 * q) _)
    exact fun _ => rfl

theorem State.dumpG_modDump (g : Nat) (f : DumpG → DumpG) : (s.modDump pl g f).dumpG pl g = f (s.dumpG pl g) := by
  unfold State.dumpG State.modDump
  rw [State.sb_modSb]
  exact Tab.rd_upd_same _ _ _ _

theorem State.dumpG_modDump_ne {g h : Nat} (hh : h ≠ g) (f : DumpG → DumpG) : (s.modDump pl g f).dumpG pl h = s.dumpG pl h := by
  unfold State.dumpG State.modDump
  rw [State.sb_modSb]
  exact Tab.rd_upd_ne _ _ _ _ hh

@[simp] theorem State.p_modDump (g : Nat) (f : DumpG → DumpG) (q : Pl) (o : Nat) : (s.modDump pl g f).p q o = s.p q o :=
  State.p_modSb ..

/-- A change of the waiting runs alone is not seen. -/
theorem State.dumpView_modDump (g : Nat) (f : DumpG → DumpG) (h : ∀ d, { f d with toSend := [] } = { d with toSend := [] }) :
    (s.modDump pl g f).dumpView pl p = s.dumpView pl p := by
  have hw : (s.modDump pl g f).p pl = s.p pl := funext (State.p_modDump s pl g f pl)
  have hn : ((s.modDump pl g f).ni pl p).mirrorLatch = (s.ni pl p).mirrorLatch := congrArg Ni.mirrorLatch (State.ni_modSb ..)
  rw [State.dumpView, State.dumpView, hw, hn]
  refine congrArg (fun x => (s.p pl, (s.ni pl p).mirrorLatch, x)) (funext fun g' => ?_)
  by_cases hg : g' = g
  · subst hg
    rw [State.dumpG_modDump, h]
  · rw [State.dumpG_modDump_ne s pl hg]

theorem State.dumpView_pumpRun (g i : Nat) : (s.pumpRun pl g i).dumpView pl p = s.dumpView pl p := by
  unfold State.pumpRun
  split
  · rfl
  · split
    · rfl
    · exact (State.dumpView_sendDump _ pl p _ _ _ _).trans (s.dumpView_modDump pl p g _ (fun _ => rfl))

/-- Pumping a host sends; it changes no register, no latch and no dump. -/
theorem State.dumpView_pumpHost (ep : Nat) : (s.pumpHost pl ep).dumpView pl p = s.dumpView pl p := by
  have hrun : ∀ (t : State) (g : Nat) (l : List Nat), (l.foldl (fun t i => t.pumpRun pl g i) t).dumpView pl p = t.dumpView pl p :=
    fun t g l => foldl_same _ _ (State.dumpView · pl p) (fun t i => t.dumpView_pumpRun pl p g i) t
  unfold State.pumpHost
  dsimp only
  split
  · rfl
  · refine (foldl_same _ _ (State.dumpView · pl p) (fun t g => hrun t g _) _).trans ?_
    split
    · exact s.dumpView_pumpMirror pl p ep
    · rfl

theorem State.dumpView_pumpHosts (l : List Nat) : (l.foldl (fun t ep => t.pumpHost pl ep) s).dumpView pl p = s.dumpView pl p :=
  foldl_same _ _ (State.dumpView · pl p) (fun t ep => t.dumpView_pumpHost pl p ep) s

theorem State.p_of_dumpView {t : State} (h : t.dumpView pl p = s.dumpView pl p) (o : Nat) : t.p pl o = s.p pl o :=
  congrFun (congrArg (·.1) h :) o

theorem State.mirrorLatch_of_dumpView {t : State} (h : t.dumpView pl p = s.dumpView pl p) :
    (t.ni pl p).mirrorLatch = (s.ni pl p).mirrorLatch := (congrArg (·.2.1) h :)

theorem State.dumpG_of_dumpView {t : State} (h : t.dumpView pl p = s.dumpView pl p) (g : Nat) :
    { t.dumpG pl g with toSend := [] } = { s.dumpG pl g with toSend := [] } := congrFun (congrArg (·.2.2) h :) g

/-! ### The mirror (R327) -/

/-- The latch of an NI: its eight counters. -/
theorem State.mirrorLatch_mirrorNi (hq : s.quireUp (p / 24) = true) (h : (s.ni pl p).mirrorLatch = []) :
    ((s.mirrorNi pl p).ni pl p).mirrorLatch = (List.range 8).map (fun i => s.ctrEntry pl (8 * p + i)) := by
  unfold State.mirrorNi
  rw [if_neg (by rw [hq]; decide), if_neg (by rw [h]; decide)]
  dsimp only
  rw [State.mirrorLatch_of_dumpView _ pl p (State.dumpView_pumpHost _ pl p p), State.ni_modNi]

theorem State.mirrorNi_waiting (hq : s.quireUp (p / 24) = true) (h : (s.ni pl p).mirrorLatch ≠ []) :
    s.mirrorNi pl p = s.pinc pl rMirrorLost 0 32 1 := by
  unfold State.mirrorNi
  rw [if_neg (by rw [hq]; decide), if_pos (by rw [Bool.not_eq_true', List.isEmpty_eq_false_iff]; exact h)]

theorem execMirrorRefresh_due (hr : s.runs pl = true) (hd : s.done = true) (h : s.mirrorDue pl = true) :
    execMirrorRefresh pl s = .next ((List.range s.variant.ports).foldl (fun t p => t.mirrorNi pl p)
      (s.modSb pl (fun b => { b with mirrorAt := some s.now }))) := by
  unfold execMirrorRefresh
  rw [inPlane_runs hr, if_pos ⟨hd, h⟩]

/-! ### Packets and acknowledgements (R331) -/

/-- What a packet of entries changes before it is acknowledged. -/
def State.dumpStored (t : State) (pl : Pl) (k : Packet) : State :=
  if hMarg k.hdr % 16 = 8 then
    t.modSb pl (fun b => { b with mirror := k.dumpEntries.foldl (fun a x => a.wr x.1 x.2 0) b.mirror })
  else if hMarg k.hdr % 16 < 8 then t.modDump pl (hMarg k.hdr % 16) (fun d =>
    if d.active && d.need.contains (hMarg k.hdr / 16 % 1024) then
      { d with
        need := d.need.filter (fun x => decide (x ≠ hMarg k.hdr / 16 % 1024))
        entries := k.dumpEntries.foldl (fun a x => a.wr x.1 x.2 0) d.entries }
    else d)
  else t

theorem execDumpPacket_took {k : Packet} {u : State} {q : Nat} (hr : s.runs pl = true) (hp : s.popSbIn pl q 6 = some (k, u))
    (hk : hKind k.hdr = kMgmt) (hm : hMop k.hdr = 5) :
    execDumpPacket pl q s = .next ((u.dumpStored pl k).sbMgmt pl (hSrc k.hdr) 6 (hMarg k.hdr) (hTag k.hdr) [0]) := by
  unfold execDumpPacket
  rw [inPlane_runs hr, hp]
  dsimp only
  rw [if_neg (by simp [hk, hm])]
  rfl

/-- Writing a run of entries from `b` on: each entry is then read at its own index. -/
theorem Tab.rd_foldl_wr_run (f : Nat → BitVec 64) (b n : Nat) (t : Tab (BitVec 64)) {i : Nat} (hi : i < n) :
    (((List.range n).map (fun i => (b + i, f i))).foldl (fun a x => a.wr x.1 x.2 0) t).rd (b + i) 0 = f i := by
  induction n with
  | zero => omega
  | succ n ih =>
    rw [List.range_succ, List.map_append, List.foldl_append]
    dsimp only [List.map, List.foldl]
    by_cases h : i = n
    · subst h
      exact Tab.rd_wr_same _ _ _ _
    · rw [Tab.rd_wr_ne _ _ _ _ (by omega), ih (by omega)]

theorem Packet.rd_dumpEntries (k : Packet) (t : Tab (BitVec 64)) {i : Nat} (hi : i < hMarg k.hdr / 2 ^ 14 % 8 + 1) :
    (k.dumpEntries.foldl (fun a x => a.wr x.1 x.2 0) t).rd (hMarg k.hdr / 16 % 1024 + i) 0 =
      BitVec.ofNat 64 (fld ((k.flits.head?).getD 0) (64 * i) 64) :=
  Tab.rd_foldl_wr_run _ _ _ t hi

theorem State.mirror_dumpStored (k : Packet) (h : hMarg k.hdr % 16 = 8) {i : Nat} (hi : i < hMarg k.hdr / 2 ^ 14 % 8 + 1) :
    ((s.dumpStored pl k).sb pl).mirror.rd (hMarg k.hdr / 16 % 1024 + i) 0 =
      BitVec.ofNat 64 (fld ((k.flits.head?).getD 0) (64 * i) 64) := by
  rw [State.dumpStored, if_pos h, State.sb_modSb]
  exact k.rd_dumpEntries _ hi

theorem State.dumpG_dumpStored (k : Packet) {g : Nat} (hg : g < 8) (h : hMarg k.hdr % 16 = g) (ha : (s.dumpG pl g).active = true)
    (hn : hMarg k.hdr / 16 % 1024 ∈ (s.dumpG pl g).need) :
    hMarg k.hdr / 16 % 1024 ∉ ((s.dumpStored pl k).dumpG pl g).need ∧
      ∀ i, i < hMarg k.hdr / 2 ^ 14 % 8 + 1 → ((s.dumpStored pl k).dumpG pl g).entries.rd (hMarg k.hdr / 16 % 1024 + i) 0 =
        BitVec.ofNat 64 (fld ((k.flits.head?).getD 0) (64 * i) 64) := by
  have hc : ((s.dumpG pl g).active && (s.dumpG pl g).need.contains (hMarg k.hdr / 16 % 1024)) = true := by
    rw [ha, Bool.true_and, List.contains_iff_mem]
    exact hn
  rw [State.dumpStored, if_neg (by omega), if_pos (by omega), h, State.dumpG_modDump, if_pos hc]
  exact ⟨fun hm => of_decide_eq_true (List.mem_filter.mp hm).2 rfl, fun i hi => k.rd_dumpEntries _ hi⟩

/-- What an acknowledgement changes before its host is pumped. -/
def State.dumpAcked (t : State) (pl : Pl) (agent : Nat) (k : Packet) : State :=
  let t := t.modDumpOut pl agent (· - 1)
  if hMarg k.hdr % 16 = 8 then
    t.modNi pl agent (fun n => { n with
      mirrorLatch := []
      mirrorSent := false })
  else t

theorem execDumpAcknowledge_took {k : Packet} {u : State} {agent : Nat} (hr : s.runs pl = true) (ha : agent ≤ 95)
    (hp : s.takeMgmt pl agent 6 none = some (k, u)) :
    execDumpAcknowledge pl agent s = .next ((u.dumpAcked pl agent k).pumpHost pl agent) := by
  unfold execDumpAcknowledge
  rw [inPlane_runs hr]
  dsimp only
  rw [if_pos (Or.inl ha), hp]
  rfl

theorem State.dumpOut_dumpAcked (k : Packet) {agent : Nat} (ha : agent ≤ 95) :
    ((s.dumpAcked pl agent k).ni pl agent).dumpOut = (s.ni pl agent).dumpOut - 1 := by
  unfold State.dumpAcked State.modDumpOut
  rw [if_pos ha]
  dsimp only
  split
  · rw [State.ni_modNi, State.ni_modNi]
  · rw [State.ni_modNi]

theorem State.mirrorLatch_dumpAcked (k : Packet) {agent : Nat} (h : hMarg k.hdr % 16 = 8) :
    ((s.dumpAcked pl agent k).ni pl agent).mirrorLatch = [] := by
  unfold State.dumpAcked
  dsimp only
  rw [if_pos h, State.ni_modNi]

end

end Sys2Proof.Machine

namespace Sys2Proof.Machine

/-! ### Dumps: boundaries, records and registers (R330 to R333, R339) -/

section

variable (s : State) (pl : Pl) (g : Nat)

@[simp] theorem State.p_occurP (src info o : Nat) (q : Pl) : (s.occurP pl src info).p q o = s.p q o :=
  (State.Records.occurP (C := fun _ => False) (W := fun _ => False) s pl src info).words q o id

@[simp] theorem State.dumpG_occurP (src info : Nat) (q : Pl) (h : Nat) : (s.occurP pl src info).dumpG q h = s.dumpG q h := by
  rw [State.dumpG, (State.Records.occurP (C := fun _ => False) (W := fun _ => False) s pl src info).sb, State.dumpG]

@[simp] theorem State.dumpG_pset (off : Nat) (v : W32) (q : Pl) (h : Nat) : (s.pset pl off v).dumpG q h = s.dumpG q h := by
  rw [State.dumpG, State.sb_pset, State.dumpG]

@[simp] theorem State.dumpG_noteSet (k : Nat) (m : W32) (q : Pl) (h : Nat) : (s.noteSet k m).dumpG q h = s.dumpG q h := by
  rw [State.dumpG, State.sb_noteSet, State.dumpG]

@[simp] theorem State.dumpG_noteInc (k lo len v n : Nat) (q : Pl) (h : Nat) : (s.noteInc k lo len v n).dumpG q h = s.dumpG q h := by
  rw [State.dumpG, State.sb_noteInc, State.dumpG]

@[simp] theorem State.dumpG_por (off : Nat) (m : W32) (q : Pl) (h : Nat) : (s.por pl off m).dumpG q h = s.dumpG q h := by
  rw [State.por, State.dumpG_pset, State.dumpG_noteSet]

@[simp] theorem State.dumpG_pinc (off lo len n : Nat) (q : Pl) (h : Nat) : (s.pinc pl off lo len n).dumpG q h = s.dumpG q h := by
  rw [State.pinc, State.pfset, State.dumpG_pset, State.dumpG_noteInc]

theorem State.p_por_ne {o off : Nat} (h : o ≠ off) (m : W32) : (s.por pl off m).p pl o = s.p pl o := by
  rw [State.por, State.p_pset_ne _ _ h, State.p_noteSet]

/-- Hardware sets a bit of a word. -/
theorem State.bit_por (off : Nat) {i : Nat} (h : i < 32) : bit ((s.por pl off (bitMask i)).p pl off) i = true := by
  rw [State.por, State.p_pset, bit, BitVec.getLsbD_or]
  exact Bool.or_eq_true_iff.mpr (.inr (bit_bitMask h))

/-! ### A boundary (R330, R333, R334) -/

/-- A dump that is due, before it is taken or skipped: this boundary is handled, and none is owed. -/
def State.dumpHandled : State :=
  (s.modDump pl g (fun d => { d with doneAt := some s.now })).modDump pl g (fun d => { d with owed := false })

theorem State.dumpG_dumpHandled : (s.dumpHandled pl g).dumpG pl g = { s.dumpG pl g with
    doneAt := some s.now
    owed := false } := by
  rw [State.dumpHandled, State.dumpG_modDump, State.dumpG_modDump]

@[simp] theorem State.p_dumpHandled (o : Nat) : (s.dumpHandled pl g).p pl o = s.p pl o := by
  rw [State.dumpHandled, State.p_modDump, State.p_modDump]

theorem State.now_modDump (f : DumpG → DumpG) : (s.modDump pl g f).now = s.now :=
  congrArg BitVec.toNat (s.modSb_slot pl _)

theorem State.now_dumpHandled : (s.dumpHandled pl g).now = s.now := by
  rw [State.dumpHandled, State.now_modDump, State.now_modDump]

theorem State.dgUsed_dumpHandled : (s.dumpHandled pl g).dgUsed pl g = s.dgUsed pl g := by
  rw [State.dgUsed, State.p_dumpHandled, State.p_dumpHandled, State.dgUsed]

theorem State.dgSlots_dumpHandled : (s.dumpHandled pl g).dgSlots pl g = s.dgSlots pl g := by
  rw [State.dgSlots, State.pf, State.p_dumpHandled, State.dgSlots, State.pf]

/-- A dump that is due while the device runs is skipped or taken. -/
theorem execDumpBoundary_due (hr : s.runs pl = true) (hg : g < 8) (hd : s.done = true) (he : bit (s.p pl (bDg g)) 0 = true)
    (hf : s.fcInSlot = 0) (hdev : s.pw.dev = .run) (hn : (s.dumpG pl g).doneAt ≠ some s.now)
    (hdue : (s.dumpG pl g).owed = true ∨ s.dumpFalls pl g = true) :
    execDumpBoundary pl g s = .next (
      if s.dgUsed pl g = s.dgSlots pl g ∨ bit (s.p pl (bDg g)) 2 = true ∨ (s.dumpG pl g).active = true
      then (s.dumpHandled pl g).dumpSkip pl g else (s.dumpHandled pl g).dumpTake pl g) := by
  have hnow : (¬(g < 8 ∧ s.done = true) ∨ (!bit (s.p pl (bDg g)) 0) = true ∨ s.fcInSlot ≠ 0 ∨
      (s.dumpG pl g).doneAt = some s.now) ↔ False := by
    rw [he]
    simp [hg, hd, hf, hn]
  have hskip : ((!(s.dumpG pl g).owed) = true ∧ (!s.dumpFalls pl g) = true) ↔ False := by
    rcases hdue with h | h <;> simp [h]
  have hrun : ¬ (s.modDump pl g (fun d => { d with doneAt := some s.now })).pw.dev ≠ .run := by
    rw [State.modDump, State.modSb_pw]
    exact fun h => h hdev
  unfold execDumpBoundary
  rw [inPlane_runs hr]
  dsimp only
  rw [if_neg hnow.mp, if_neg hskip.mp, if_neg hrun, ← State.dumpHandled, State.dgUsed_dumpHandled, State.dgSlots_dumpHandled,
    State.p_dumpHandled]

/-- A skipped dump is counted, takes its number, and is told of in the next record (R333). -/
theorem State.dumpSkip_counts : (s.dumpSkip pl g).pf pl (bDg g + 0x28) 0 32 = satAdd 32 (s.pf pl (bDg g + 0x28) 0 32) 1 ∧
    (s.dumpSkip pl g).p pl (bDg g + 0x24) = s.p pl (bDg g + 0x24) + 1 ∧
    ((s.dumpSkip pl g).dumpG pl g).lostSince = (s.dumpG pl g).lostSince + 1 := by
  have hw : ∀ o, o ≠ bDg g →
      (if s.dgUsed pl g = s.dgSlots pl g then s.por pl (bDg g) (bitMask 1) else s).p pl o = s.p pl o := fun o ho => by
    split
    · exact s.p_por_ne pl ho _
    · rfl
  have hd : (if s.dgUsed pl g = s.dgSlots pl g then s.por pl (bDg g) (bitMask 1) else s).dumpG pl g = s.dumpG pl g := by
    split
    · exact s.dumpG_por pl _ _ _ _
    · rfl
  unfold State.dumpSkip
  dsimp only
  refine ⟨?_, ?_, ?_⟩
  · rw [State.pf, State.p_occurP, State.p_modDump, State.p_pset_ne _ _ (by omega), ← State.pf, State.pf_pinc _ _ _ _ (by decide),
      State.pf, hw _ (by omega), ← State.pf]
    rfl
  · rw [State.p_occurP, State.p_modDump, State.p_pset, hw _ (by omega)]
  · rw [State.dumpG_occurP, State.dumpG_modDump, State.dumpG_pset, State.dumpG_pinc, hd]

/-- A dump skipped because the ring is full sets OVF. -/
theorem State.dumpSkip_full (h : s.dgUsed pl g = s.dgSlots pl g) : bit ((s.dumpSkip pl g).p pl (bDg g)) 1 = true := by
  unfold State.dumpSkip
  dsimp only
  rw [if_pos h, State.p_occurP, State.p_modDump, State.p_pset_ne _ _ (by omega), State.p_pinc_ne _ _ (by omega)]
  exact s.bit_por pl _ (by decide)

/-- A dump taken is numbered, carries the slot and is under way (R331). -/
theorem State.dumpTake_begins : (s.dumpTake pl g).p pl (bDg g + 0x24) = s.p pl (bDg g + 0x24) + 1 ∧
    ((s.dumpTake pl g).dumpG pl g).active = true ∧ ((s.dumpTake pl g).dumpG pl g).slot = s.now ∧
    ((s.dumpTake pl g).dumpG pl g).seq = (s.p pl (bDg g + 0x24)).toNat := by
  unfold State.dumpTake
  extract_lets first count range remote all runs seq t u
  have hv := u.dumpView_pumpHosts pl 0 (runs.filterMap hostEp)
  have hd := State.dumpG_of_dumpView u pl 0 hv g
  have hu : u.dumpG pl g = { t.dumpG pl g with
      slot := t.now
      seq := seq
      first := first
      count := count
      latch := all
      toSend := runs
      need := runs
      entries := all.filter (fun x => !remote x.1)
      active := true
      writing := false
      writes := 0
      bad := false } := t.dumpG_modDump pl g _
  rw [hu] at hd
  refine ⟨?_, (congrArg DumpG.active hd :), ((congrArg DumpG.slot hd :)).trans ?_, (congrArg DumpG.seq hd :)⟩
  · rw [State.p_of_dumpView u pl 0 hv]
    exact (State.p_modDump ..).trans (s.p_pset pl _ _)
  · exact congrArg BitVec.toNat (s.pset_slot pl _ _)

/-! ### Records (R332, R333) -/

/-- A record begins to be written. -/
def State.dumpWriting (n : Nat) : State :=
  s.modDump pl g (fun d => { d with
    writing := true
    writes := n
    lostSince := 0 })

theorem State.dumpG_dumpWriting (n : Nat) : ((s.dumpWriting pl g n).dumpG pl g).writing = true ∧
    ((s.dumpWriting pl g n).dumpG pl g).lostSince = 0 := by
  rw [State.dumpWriting, State.dumpG_modDump]
  exact ⟨rfl, rfl⟩

/-- Byte address of the slot of the ring that the next record takes (R332). -/
def State.dumpAddr : Nat :=
  s.dgBase pl g + 64 * (s.dumpLines g (s.dumpG pl g)).length * ((s.p pl (bDg g + 0x1C)).toNat % s.dgSlots pl g)

section

variable {s pl g} (hr : s.runs pl = true) (ha : (s.dumpG pl g).active = true) (hw : (s.dumpG pl g).writing = false)
  (hc : s.dumpComplete (s.dumpG pl g) = true) (hdev : s.pw.dev = .run)
include hr ha hw hc hdev

/-- A record of up to 63 granules goes as one WRITE. -/
theorem execDumpRecordWrite_short (h : (s.dumpLines g (s.dumpG pl g)).length ≤ 63) :
    execDumpRecordWrite pl g s = .next ((s.dumpWriting pl g 1).sbAdd pl (.dump g) true false 0 3 (s.dumpAddr pl g)
      (s.dumpLines g (s.dumpG pl g)).length benAll (s.dumpLines g (s.dumpG pl g))) := by
  unfold execDumpRecordWrite
  rw [inPlane_runs hr]
  dsimp only
  rw [if_pos ⟨ha, by rw [hw]; rfl, hc, hdev⟩, if_neg (by omega), List.take_of_length_le h]
  rfl

/-- A longer record goes as two: 63 granules, then the rest behind them. -/
theorem execDumpRecordWrite_long (h : 63 < (s.dumpLines g (s.dumpG pl g)).length) :
    execDumpRecordWrite pl g s = .next (((s.dumpWriting pl g 2).sbAdd pl (.dump g) true false 0 3 (s.dumpAddr pl g) 63 benAll
      ((s.dumpLines g (s.dumpG pl g)).take 63)).sbAdd pl (.dump g) true false 0 3 (s.dumpAddr pl g + 64 * 63)
      ((s.dumpLines g (s.dumpG pl g)).length - 63) benAll ((s.dumpLines g (s.dumpG pl g)).drop 63)) := by
  have ht : ((s.dumpLines g (s.dumpG pl g)).take 63).length = 63 := by
    rw [List.length_take]
    omega
  unfold execDumpRecordWrite
  rw [inPlane_runs hr]
  dsimp only
  rw [if_pos ⟨ha, by rw [hw]; rfl, hc, hdev⟩, if_pos h]
  dsimp only [List.cons_append, List.nil_append, List.foldl]
  rw [ht, List.length_drop]
  rfl

end

theorem execDumpWriteRack_answered {k : Packet} {o : SbOut} {st q : Nat} {u : State} (hr : s.runs pl = true)
    (hs : s.sbResponse pl q 4 isDump = some (k, o, st, u)) (ho : o.purpose = .dump g) :
    execDumpWriteRack pl q s = .next (u.dumpAnswered pl g st) := by
  unfold execDumpWriteRack
  rw [inPlane_runs hr, hs]
  dsimp only
  rw [ho]

/-- The last WRITE of a record answered with OK: HEAD passes the record. -/
theorem State.dumpAnswered_last (hw : (s.dumpG pl g).writes = 1) (hb : (s.dumpG pl g).bad = false) :
    (s.dumpAnswered pl g stOk).p pl (bDg g + 0x1C) = s.p pl (bDg g + 0x1C) + 1 ∧
      ((s.dumpAnswered pl g stOk).dumpG pl g).active = false := by
  unfold State.dumpAnswered
  rw [if_pos rfl]
  dsimp only
  rw [State.dumpG_modDump, if_pos (by rw [hw]), if_neg (fun h => by simp [hb] at h), State.p_occurP, State.p_pset, State.p_modDump,
    State.p_modDump, State.dumpG_occurP, State.dumpG_pset, State.dumpG_modDump]
  exact ⟨rfl, rfl⟩

/-- What is left of a group's WRITEs when it withdraws those that wait has a tag. -/
theorem State.outs_dumpWithdraw {o : SbOut} (ho : o ∈ ((s.dumpWithdraw pl g).sb pl).outs) (hp : o.purpose = .dump g) :
    o.tag.isSome = true := by
  have hm : o ∈ ((s.sb pl).outs.filter (fun o => !(o.tag.isNone && decide (o.purpose = .dump g)))) := by
    rw [State.dumpWithdraw, State.modDump, State.sb_modSb, State.sb_modSb] at ho
    exact ho
  have h := (List.mem_filter.mp hm).2
  rw [hp, decide_eq_true rfl, Bool.and_true, Bool.not_eq_true', Option.isNone_eq_false_iff] at h
  exact h

@[simp] theorem State.p_dumpWithdraw (o : Nat) : (s.dumpWithdraw pl g).p pl o = s.p pl o := by
  rw [State.dumpWithdraw, State.p_modDump, State.p_modSb]

theorem State.outs_modDump (f : DumpG → DumpG) : ((s.modDump pl g f).sb pl).outs = (s.sb pl).outs := by
  rw [State.modDump, State.sb_modSb]

/-- A WRITE answered with another status: WRITE_ERR is set, HEAD stays, and what waits is withdrawn (R333). -/
theorem State.dumpAnswered_bad {st : Nat} (h : st ≠ stOk) : bit ((s.dumpAnswered pl g st).p pl (bDg g)) 2 = true ∧
    (s.dumpAnswered pl g st).p pl (bDg g + 0x1C) = s.p pl (bDg g + 0x1C) ∧
    ∀ o ∈ ((s.dumpAnswered pl g st).sb pl).outs, o.purpose = .dump g → o.tag.isSome = true := by
  have hbad : ∀ b, (b || decide (st ≠ stOk)) = true := fun b => by rw [decide_eq_true h, Bool.or_true]
  unfold State.dumpAnswered
  rw [if_neg h]
  dsimp only
  rw [State.dumpG_modDump, if_pos (hbad _)]
  split
  · rw [State.p_modDump, State.p_modDump, State.p_modDump, State.p_modDump, State.p_dumpWithdraw, State.p_dumpWithdraw,
      State.outs_modDump, State.outs_modDump]
    exact ⟨s.bit_por pl _ (by decide), s.p_por_ne pl (by omega) _, fun o ho hp => State.outs_dumpWithdraw _ pl g ho hp⟩
  · rw [State.p_modDump, State.p_modDump, State.p_dumpWithdraw, State.p_dumpWithdraw, State.outs_modDump]
    exact ⟨s.bit_por pl _ (by decide), s.p_por_ne pl (by omega) _, fun o ho hp => State.outs_dumpWithdraw _ pl g ho hp⟩

/-! ### Registers of the groups (R330, R333, R339) -/

theorem execDgTailWrite_allowed {r : CwReq} {v : W32} (hg : g < 8) (h : s.writeAllowed r (bDg g + 0x20)) :
    execDgTailWrite r g v s =
      .next (((s.touch (bDg g + 0x20)).eachPlane (fun pl t => t.dgTail g v pl)).answer r stOk none) := by
  rw [execDgTailWrite, if_pos hg]
  exact State.cwWrite_allowed h (fun t => t.eachPlane (fun pl t => t.dgTail g v pl))

theorem execDgEnable_allowed {r : CwReq} (hg : g < 8) (h : s.writeAllowed r (bDg g)) :
    execDgEnable r g s = .next (((s.touch (bDg g)).eachPlane (fun pl t => t.dgCtrl g 1 pl)).answer r stOk none) := by
  rw [execDgEnable, if_pos hg]
  exact State.cwWrite_allowed h (fun t => t.eachPlane (fun pl t => t.dgCtrl g 1 pl))

variable (v : W32)

theorem State.dgTail_over (h : s.dgSlots pl g < (s.p pl (bDg g + 0x1C) - v).toNat) : s.dgTail g v pl = s := by
  rw [State.dgTail, if_pos h]

theorem State.p_dgTail (h : (s.p pl (bDg g + 0x1C) - v).toNat ≤ s.dgSlots pl g) : (s.dgTail g v pl).p pl (bDg g + 0x20) = v := by
  unfold State.dgTail
  dsimp only
  rw [if_neg (by omega)]
  split
  · rw [State.p_pfset_ne _ _ (by omega), State.p_pset]
  · rw [State.p_pset]

/-- Room in the ring clears OVF. -/
theorem State.ovf_dgTail (h : (s.p pl (bDg g + 0x1C) - v).toNat < s.dgSlots pl g) : (s.dgTail g v pl).pf pl (bDg g) 1 1 = 0 := by
  have hs : (s.pset pl (bDg g + 0x20) v).dgSlots pl g = s.dgSlots pl g := by
    rw [State.dgSlots, State.pf, State.p_pset_ne _ _ (by omega), State.dgSlots, State.pf]
  unfold State.dgTail
  dsimp only
  rw [if_neg (by omega), if_pos (by rw [hs]; exact h), State.pf_pfset _ _ _ _ (by decide), Nat.zero_mod]

/-- A written 1 is ENABLE alone. -/
theorem dgCtrl_one : ¬ bit (1 : W32) 2 = true ∧ ¬ (!bit (1 : W32) 0) = true := by decide

theorem State.dgCtrl_overlap {h : Nat} (hh : h < 8) (hne : h ≠ g) (he : bit (s.p pl (bDg h)) 0 = true)
    (ho : s.dgOverlap pl g h = true) : s.dgCtrl g 1 pl = s := by
  unfold State.dgCtrl
  dsimp only
  rw [if_neg dgCtrl_one.1, if_neg dgCtrl_one.2, if_pos]
  exact List.any_eq_true.mpr ⟨h, List.mem_range.mpr hh, by simp [hne, he, ho]⟩

theorem State.dgCtrl_free (h : ∀ h, h < 8 → h ≠ g → bit (s.p pl (bDg h)) 0 = true → s.dgOverlap pl g h = false) :
    s.dgCtrl g 1 pl = s.pfset pl (bDg g) 0 1 1 := by
  unfold State.dgCtrl
  dsimp only
  rw [if_neg dgCtrl_one.1, if_neg dgCtrl_one.2, if_neg]
  intro hany
  obtain ⟨x, hx, hc⟩ := List.any_eq_true.mp hany
  simp only [Bool.and_eq_true, decide_eq_true_eq] at hc
  obtain ⟨⟨hne, hb⟩, ho⟩ := hc
  rw [h x (List.mem_range.mp hx) hne hb] at ho
  exact absurd ho (by decide)

end

/-- Settles O51: the mirror by `State.mirrorNi` and the packets of the hosts, the dump groups by the boundary's two outcomes,
the record's WRITEs and their answers; pumping a host changes neither a latch nor a dump (`State.dumpView_pumpHost`). -/
theorem mirrorAndDumps : Obligations.MirrorAndDumps := by
  unfold Obligations.MirrorAndDumps
  refine ⟨fun s pl hr => ⟨fun hd h => execMirrorRefresh_due s pl hr hd h, fun p hq h => s.mirrorNi_waiting pl p hq h,
    fun p hq h => s.mirrorLatch_mirrorNi pl p hq h, fun k u q hp hk hm h8 => ?_, fun k u agent ha hp h8 => ?_⟩,
    fun s pl g hr hg => ⟨fun hd he hf hdev hn hdue => ?_, ?_, s.dumpTake_begins pl g, fun k u q hp hk hm hgk ha hn => ?_,
      fun ha hw hc hdev => ?_, fun k o st q u hs ho => execDumpWriteRack_answered s pl g hr hs ho,
      fun hw hb => s.dumpAnswered_last pl g hw hb, fun st hst => s.dumpAnswered_bad pl g hst,
      fun r v h => execDgTailWrite_allowed s g hg h, fun v => ⟨s.dgTail_over pl g v, s.p_dgTail pl g v, s.ovf_dgTail pl g v⟩,
      fun r h => execDgEnable_allowed s g hg h, fun ⟨h, hh, hne, he, ho⟩ => s.dgCtrl_overlap pl g hh hne he ho, fun h => ?_⟩⟩
  · exact ⟨u.dumpStored pl k, execDumpPacket_took s pl hr hp hk hm, fun i hi => u.mirror_dumpStored pl k h8 hi⟩
  · exact ⟨u.dumpAcked pl agent k, execDumpAcknowledge_took s pl hr ha hp, u.mirrorLatch_dumpAcked pl k h8,
      u.dumpOut_dumpAcked pl k ha⟩
  · refine ⟨s.dumpHandled pl g, s.now_dumpHandled pl g, ?_, s.p_dumpHandled pl g, execDumpBoundary_due s pl g hr hg hd he hf hdev hn hdue⟩
    rw [State.dumpG_dumpHandled]
  · obtain ⟨hlost, hseq, hsince⟩ := s.dumpSkip_counts pl g
    exact ⟨hlost, hseq, hsince, s.dumpSkip_full pl g⟩
  · exact ⟨u.dumpStored pl k, execDumpPacket_took s pl hr hp hk hm, u.dumpG_dumpStored pl k hg hgk ha hn⟩
  · by_cases hl : (s.dumpLines g (s.dumpG pl g)).length ≤ 63
    · obtain ⟨hwr, hls⟩ := s.dumpG_dumpWriting pl g 1
      exact ⟨s.dumpWriting pl g 1, hwr, hls, fun _ => execDumpRecordWrite_short hr ha hw hc hdev hl, fun h => absurd hl (by omega)⟩
    · obtain ⟨hwr, hls⟩ := s.dumpG_dumpWriting pl g 2
      exact ⟨s.dumpWriting pl g 2, hwr, hls, fun h => absurd h hl, fun h => execDumpRecordWrite_long hr ha hw hc hdev h⟩
  · rw [s.dgCtrl_free pl g h]
    exact ⟨s.pf_pfset pl _ _ (by decide), fun o ho => s.p_pfset_ne pl ho _ _ _⟩

end Sys2Proof.Machine

namespace Sys2Proof.Machine

/-! ### The commands of migrations, of recovery and of dumps complete -/

section

variable (s : State) (pl : Pl)

/-- The only migration is the one that a finished copy of its engine belongs to. -/
theorem execMigrationCopyDone_only {m : Mig} (hr : s.runs pl = true) (ha : m.acks = []) (hf : m.toFreeze = []) (hs : m.stopping = false)
    (hm : (s.sb pl).migs = [m]) (hc : s.chanState pl m.engine 3 = 3) (h2 : m.step = 2) : execMigrationCopyDone pl m.engine s =
    .next (((s.setChan pl m.engine 3 0 0).modMig pl m.page (fun m => { m with step := 3, toFreeze := [m.oldHome] })).migPump pl) :=
  execMigrationCopyDone_over s pl hr (by rw [hm]; simp [ha, hf, hs, h2]) hc

theorem execMigrationRecopyDone_only {m : Mig} (hr : s.runs pl = true) (ha : m.acks = []) (hf : m.toFreeze = []) (hs : m.stopping = false)
    (hm : (s.sb pl).migs = [m]) (hc : s.chanState pl m.engine 3 = 3) (h5 : m.step = 5) (ho : s.freezeOver pl m = false) :
    execMigrationRecopyDone pl m.engine s = .next ((s.setChan pl m.engine 3 0 0).migSwitch pl m) := by
  rw [execMigrationRecopyDone_over s pl (m := m) hr (by rw [hm]; simp [ha, hf, hs, h5]) hc, ho, if_neg Bool.false_ne_true]

theorem State.plState_timedCheckAll : s.timedCheckAll.plState pl = s.plState pl :=
  State.plState_of_pair (State.eachPlane_same s _ State.pair (fun q t => State.pair_of_clocks (t.clocks_timedCheck q))) pl

theorem State.pair_resumePlane (d : Nat) (q : Pl) : (s.resumePlane d q).pair = s.pair :=
  (State.pair_of_outer (State.outer_sbIssue _ q)).trans (s.modPln_pair q _)

theorem State.plState_resumePlanes (d : Nat) : (s.eachPlane (fun q t => t.resumePlane d q)).plState pl = s.plState pl :=
  State.plState_of_pair (State.eachPlane_same s _ State.pair (fun q t => t.pair_resumePlane d q)) pl

theorem planeOut_resets (hf : s.pair.faulty = some pl) (hslot : s.pair.slot + 4 ≤ s.now) (h0 : s.fcInSlot = 0) (hr : s.runs pl = true) :
    ∃ t : State, exec .planeOut s = .next t ∧ t.plState pl = .reset :=
  ⟨(s.takenOut pl).timedCheckAll, execPlaneOut_due s pl hf hslot h0 hr,
    (State.plState_timedCheckAll _ pl).trans ((s.plState_takenOut pl pl).trans (s.plState_windowOpened pl).1)⟩

variable (ho : s.outPlane = some pl)
include ho

theorem selftestDone_goes (hst : s.plState pl = .selftest) (h : s.pair.since + 2400000 ≤ s.now) (ok : Bool) :
    ∃ t : State, exec (.selftestDone ok) s = .next t ∧ t.plState pl = (if ok then .sweep else .failed) :=
  ⟨_, execSelftestDone_due s pl ho hst h ok, (s.plState_recovered pl _).1⟩

theorem kettleWordError_counts (hst : s.plState pl = .sweep) (hk : s.pair.kfails < 15) {w : KettleWord} (hc : w.crc ≠ kettleCrc w.data) :
    ∃ t : State, exec (.kettleWordError w) s = .next t ∧ t.pair.kfails = s.pair.kfails + 1 ∧ t.pair.resent = s.pair.resent + 1 := by
  obtain ⟨-, -, hfails, hresent⟩ := s.kettleWord_counts pl ho hc
  rw [if_neg (by omega)] at hfails
  exact ⟨_, execKettleWordError_runs s pl ho (.inl hst) w, hfails, hresent hk⟩

theorem sweepDone_readies (hst : s.plState pl = .sweep) (h : s.pair.sinceFc + 212992 + s.pair.resent ≤ s.fc) :
    ∃ t : State, exec .sweepDone s = .next t ∧ t.plState pl = .ready := by
  obtain ⟨hpair, -, -⟩ := (s.recovered pl .ready).copyPlane_facts pl
  exact ⟨_, execSweepDone_due s pl ho hst h, (State.plState_of_pair hpair pl).trans (s.plState_recovered pl _).1⟩

theorem joinResume_serves {j : Nat} (hj : s.pair.joining = some j) (h0 : s.fcInSlot = 0) (hn : s.now % 16 = 0)
    (ha : s.pair.aborted = false) (hw : s.pair.resumeWait = true) (hf : s.pair.sinceFc + 512 ≤ s.fc) :
    ∃ t : State, exec .joinResume s = .next t ∧ t.plState pl = .inService := by
  obtain ⟨hst, -⟩ := s.joined_facts pl
  exact ⟨_, execJoinResume_over s pl ho hj h0 hn ha hw hf, (State.plState_resumePlanes _ pl _).trans hst⟩

end

/-- A dump that falls due with room in its ring, no error and none under way is taken. -/
theorem dumpBoundary_takes (s : State) (pl : Pl) {g : Nat} (hr : s.runs pl = true) (hd : s.done = true) (hf : s.fcInSlot = 0)
    (hdev : s.pw.dev = .run) (hg : g < 8) (he : bit (s.p pl (bDg g)) 0 = true) (herr : bit (s.p pl (bDg g)) 2 = false)
    (hn : (s.dumpG pl g).doneAt ≠ some s.now) (hdue : s.dumpFalls pl g = true) (hroom : s.dgUsed pl g < s.dgSlots pl g)
    (ha : (s.dumpG pl g).active = false) :
    ∃ u : State, exec (.dumpBoundary pl g) s = .next (u.dumpTake pl g) ∧ (u.dumpG pl g).doneAt = some s.now := by
  have htake : ¬ (s.dgUsed pl g = s.dgSlots pl g ∨ bit (s.p pl (bDg g)) 2 = true ∨ (s.dumpG pl g).active = true) := by
    rw [herr, ha]
    simp [Nat.ne_of_lt hroom]
  refine ⟨s.dumpHandled pl g, ?_, by rw [State.dumpG_dumpHandled]⟩
  have h := execDumpBoundary_due s pl g hr hg hd he hf hdev hn (.inr hdue)
  rw [if_neg htake] at h
  exact h

/-- Settles O60: each clause is the lemma of its command, with the conditions that the command tests. -/
theorem migrationRecoveryAndDumpCommandsComplete : Obligations.MigrationRecoveryAndDumpCommandsComplete := by
  refine ⟨fun s u pl q k hr hpop hk => ⟨fun hm ha => execInvalidateAcknowledge_inv s pl hr hpop hk hm ha,
      fun hm => ⟨_, execDumpPacket_took s pl hr hpop hk hm⟩⟩,
    fun s pl m hr ha hf hs hm hc => ⟨execMigrationCopyDone_only s pl hr ha hf hs hm hc, execMigrationRecopyDone_only s pl hr ha hf hs hm hc⟩,
    fun s pl page agent f m hr hm hstep hs => ⟨execFreezeLimitReached_over s pl hr hm (.inl hstep) hs,
      fun ha hf hi => execSilentInitiator_live s pl hr hm ha hf hstep hs hi⟩,
    fun s pl hr => ⟨execPeriodBoundary_due s pl hr, execTimedModeEnd_due s pl hr⟩,
    fun s r page v => ⟨fun h => ?_, fun h => ?_, fun h => ?_⟩,
    fun s pl hv => ⟨execPlaneCheckerFire_paired s pl hv, planeOut_resets s pl⟩,
    fun s pl ho => ⟨fun hst h => ?_, selftestDone_goes s pl ho, fun hst hk w hc => kettleWordError_counts s pl ho hst hk hc,
      sweepDone_readies s pl ho, fun h => ⟨_, execJoinStart_may s pl ho h, rfl⟩, execJoinDrainDone_over s pl ho,
      fun j hj h0 hn ha hw hf => joinResume_serves s pl ho hj h0 hn ha hw hf, fun j hj hl hw => execJoinAbort_late s hj hl hw⟩,
    fun s pl hr hd hf hdev => ⟨execMirrorRefresh_due s pl hr hd, fun g hg he herr hn hdue hroom ha =>
      dumpBoundary_takes s pl hr hd hf hdev hg he herr hn hdue hroom ha⟩,
    fun s u pl hr => ⟨fun agent k ha hp => ⟨u.dumpAcked pl agent k, execDumpAcknowledge_took s pl hr ha hp, u.dumpOut_dumpAcked pl k ha⟩,
      fun g ha hw hc hdev hl => ⟨s.dumpWriting pl g 1, (s.dumpG_dumpWriting pl g 1).1, execDumpRecordWrite_short hr ha hw hc hdev hl⟩,
      fun g q k o st hs ho => execDumpWriteRack_answered s pl g hr hs ho⟩,
    fun s r g v hg => ⟨execDgTailWrite_allowed s g hg, execDgEnable_allowed s g hg⟩⟩
  · exact ⟨s.cwWrite_allowed h (fun t => t.eachPlane (fun pl u => u.plcCtrl (if v then 2 else 0) pl)),
      s.cwWrite_allowed h (fun t => t.eachPlane (fun pl u => u.plcCtrl 4 pl))⟩
  · exact ⟨s.cwWrite_allowed h (fun t => t.eachPlane (fun pl u => u.pageCmd (page % 2 ^ 18) 1 pl)),
      s.cwWrite_allowed h (fun t => t.eachPlane (fun pl u => u.pageCmd (page % 2 ^ 18) 2 pl)),
      s.cwWrite_allowed h (fun t => t.eachPlane (fun pl u => u.pageCmd (page % 2 ^ 18) 3 pl))⟩
  · exact ⟨s.cwWrite_allowed h (fun t => t.forceOut .a), s.cwWrite_allowed h (fun t => t.forceOut .b)⟩
  · obtain ⟨t, ht, hs, -⟩ := planeResetDone_locks s pl ho hst h
    exact ⟨t, ht, hs⟩

end Sys2Proof.Machine

namespace Sys2Proof.Machine

/-! ### What issuing a request of the services leaves alone -/

/-- A service block apart from the requests it has made and what they put on its links. -/
def Sb.stateOf (b : Sb) : Sb := { b with
  outs := []
  tx := []
  inbox := [] }

section

variable (s : State) (pl : Pl)

theorem State.stateOf_modSb (f : Sb → Sb) (h : ∀ b, (f b).stateOf = b.stateOf) : ((s.modSb pl f).sb pl).stateOf = (s.sb pl).stateOf := by
  rw [State.sb_modSb, h]

theorem State.stateOf_ite {c : Prop} [Decidable c] {a b : State} {x : Sb} (ha : (a.sb pl).stateOf = x) (hb : (b.sb pl).stateOf = x) :
    ((if c then a else b).sb pl).stateOf = x := by
  split
  · exact ha
  · exact hb

theorem State.stateOf_sbIssueOne (i : Nat) : ((s.sbIssueOne pl i).sb pl).stateOf = (s.sb pl).stateOf := by
  unfold State.sbIssueOne
  extract_lets b
  split
  · refine State.stateOf_ite pl rfl ?_
    extract_lets -underBinder _ s2 own
    have h2 : (s2.sb pl).stateOf = (s.sb pl).stateOf := s.stateOf_modSb pl _ (fun _ => rfl)
    have hown : ∀ st, ((own st).sb pl).stateOf = (s.sb pl).stateOf := fun st => by
      refine (State.stateOf_modSb s2 pl _ ?_).trans h2
      exact fun _ => rfl
    refine State.stateOf_ite pl (hown _) ?_
    split
    · refine (State.stateOf_modSb s2 pl _ ?_).trans h2
      exact fun _ => rfl
    · exact hown _
  · rfl

theorem State.stateOf_sbIssue : ((s.sbIssue pl).sb pl).stateOf = (s.sb pl).stateOf := by
  refine foldl_same _ _ (fun t => (State.sb t pl).stateOf) (fun t i => ?_) s
  split
  · exact t.stateOf_sbIssueOne pl i
  · rfl

variable (purpose : SbPurpose) (write ll : Bool) (owner priv addr span : Nat) (ben : BitVec 64) (data : List Line)

theorem State.stateOf_sbAdd :
    ((s.sbAdd pl purpose write ll owner priv addr span ben data).sb pl).stateOf = (s.sb pl).stateOf :=
  (State.stateOf_sbIssue _ pl).trans (s.stateOf_modSb pl _ (fun _ => rfl))

@[simp] theorem State.p_sbAdd (q : Pl) (o : Nat) :
    (s.sbAdd pl purpose write ll owner priv addr span ben data).p q o = s.p q o := by
  obtain ⟨b, hb⟩ := s.sbOnly_sbAdd pl purpose write ll owner priv addr span ben data
  rw [hb, State.p_modSb]

@[simp] theorem State.qdyn_sbAdd (m : Nat) : (s.sbAdd pl purpose write ll owner priv addr span ben data).qdyn pl m = s.qdyn pl m := by
  have h := congrArg Sb.queues (s.stateOf_sbAdd pl purpose write ll owner priv addr span ben data)
  exact congrArg (fun q : Tab QDyn => q.rd m {}) h

end

/-! ### What the queue engine leaves alone of the words of a queue -/

/-- Bits of QDS word 0x34 that hold the reservations. -/
def resvBits (i : Nat) : Prop := 4 ≤ i ∧ i < 9

/-- From `s` to `t` the QDS words of queue `n` are the same, but for the bits of word 0x34 that `F` names. -/
structure State.KeepsQueue (F : Nat → Prop) (pl : Pl) (n : Nat) (s t : State) : Prop where
  words : ∀ o, o < 0x40 → o ≠ 0x34 → t.p pl (bQds n + o) = s.p pl (bQds n + o)
  flags : ∀ i, ¬ F i → t.qBit pl n i = s.qBit pl n i

namespace State.KeepsQueue

variable {F : Nat → Prop} {pl : Pl} {n : Nat} {r s t : State}

theorem refl (s : State) : s.KeepsQueue F pl n s := ⟨fun _ _ _ => rfl, fun _ _ => rfl⟩

theorem trans (h : r.KeepsQueue F pl n s) (k : s.KeepsQueue F pl n t) : r.KeepsQueue F pl n t :=
  ⟨fun o ho h34 => (k.words o ho h34).trans (h.words o ho h34), fun i hi => (k.flags i hi).trans (h.flags i hi)⟩

theorem mono {G : Nat → Prop} (h : s.KeepsQueue F pl n t) (hFG : ∀ i, F i → G i) : s.KeepsQueue G pl n t :=
  ⟨h.words, fun i hi => h.flags i (fun hf => hi (hFG i hf))⟩

theorem of_words (h : ∀ o, o < 0x40 → t.p pl (bQds n + o) = s.p pl (bQds n + o)) : s.KeepsQueue F pl n t :=
  ⟨fun o ho _ => h o ho, fun i _ => congrArg (bit · i) (h 0x34 (by decide))⟩

theorem foldl {β : Type} (l : List β) (f : State → β → State) (h : ∀ t x, State.KeepsQueue F pl n t (f t x)) (s : State) :
    s.KeepsQueue F pl n (l.foldl f s) := by
  induction l generalizing s with
  | nil => exact refl s
  | cons x l ih => exact (h s x).trans (ih (f s x))

theorem ite {c : Prop} [Decidable c] {a b : State} (ha : s.KeepsQueue F pl n a) (hb : s.KeepsQueue F pl n b) :
    s.KeepsQueue F pl n (if c then a else b) := by
  split
  · exact ha
  · exact hb

theorem modSb (s : State) (f : Sb → Sb) : s.KeepsQueue F pl n (s.modSb pl f) := of_words fun _ _ => State.p_modSb ..

theorem sbAdd (s : State) (purpose : SbPurpose) (write ll : Bool) (owner priv addr span : Nat) (ben : BitVec 64) (data : List Line) :
    s.KeepsQueue F pl n (s.sbAdd pl purpose write ll owner priv addr span ben data) := of_words fun _ _ => State.p_sbAdd ..

theorem countQ (s : State) (hn : n < 16384) (code : Nat) : s.KeepsQueue F pl n (s.countQ pl code) :=
  of_words fun _ ho => (s.countQ_records pl code).words pl _ (not_countWord_queue hn ho)

theorem occurP (s : State) (src info : Nat) : s.KeepsQueue F pl n (s.occurP pl src info) := of_words fun _ _ => State.p_occurP ..

/-- A counter of the queue services lies below the queues' words. -/
theorem pinc (s : State) {off : Nat} (hoff : off < 0x400000) (lo len v : Nat) : s.KeepsQueue F pl n (s.pinc pl off lo len v) :=
  of_words fun o _ => State.p_pinc_ne s pl (by unfold bQds; omega) lo len v

/-- A write of one field of word 0x34 of any queue. -/
theorem qdset34 (s : State) (m lo len v : Nat) (h : ∀ i, lo ≤ i → i < lo + len → F i) : s.KeepsQueue F pl n (s.qdset pl m 0x34 lo len v) := by
  refine ⟨fun o ho h34 => State.p_pfset_ne s pl (by unfold bQds; omega) lo len v, fun i hi => ?_⟩
  by_cases hm : m = n
  · subst hm
    unfold State.qBit State.qdset State.pfset
    rw [State.p_pset]
    exact bit_setFld_of_disjoint _ _ (by have := h i; exact Decidable.byContradiction fun hc => hi (this (by omega) (by omega)))
  · refine congrArg (bit · i) (State.p_pfset_ne s pl ?_ lo len v)
    unfold bQds
    omega

variable (hn : n < 16384)
include hn

/-- A message admitted to any queue: a reservation, and WRITEs. -/
theorem enqueue (s : State) (m src tag : Nat) (reply : Bool) (keyslot owner : Nat) (redel flock : Bool) (lines : List Line) :
    s.KeepsQueue resvBits pl n (s.enqueue pl m src tag reply keyslot owner redel flock lines) := by
  unfold State.enqueue
  extract_lets q len data rec? o a s1 s2 s3
  have h1 : s.KeepsQueue resvBits pl n s1 := (qdset34 s m 4 5 _ (fun i h1 h2 => ⟨h1, h2⟩)).trans (.modSb _ _)
  refine ((h1.trans (countQ s1 hn 0x02)).trans ?_).trans (sbAdd s3 ..)
  exact .ite ((sbAdd s2 ..).trans (sbAdd _ ..)) (sbAdd s2 ..)

omit hn in
theorem readRecord (s : State) (m : Nat) (l : Loss) : s.KeepsQueue F pl n (s.readRecord pl m l) :=
  (modSb s _).trans (sbAdd _ ..)

theorem readmit (s : State) (m : Nat) (l : Loss) (w : BitVec 64) : s.KeepsQueue resvBits pl n (s.readmit pl m l w) := by
  unfold State.readmit
  extract_lets f k
  split
  · exact .refl s
  · refine .ite (.refl s) ?_
    extract_lets l' s1
    have h1 : s.KeepsQueue resvBits pl n s1 := (modSb s _).trans (modSb _ _)
    exact (h1.trans (enqueue hn s1 ..)).trans ((pinc _ (by decide) ..).trans (countQ _ hn _))

theorem lossStep (s : State) (m : Nat) : s.KeepsQueue resvBits pl n (s.lossStep pl m) := by
  unfold State.lossStep
  split
  · exact .refl s
  · refine .ite (.refl s) ?_
    extract_lets l'
    refine .ite (modSb s _) ?_
    split
    · refine .ite (.refl s) ?_
      extract_lets t
      have ht : s.KeepsQueue resvBits pl n t := readmit hn s ..
      split
      · exact .ite (ht.trans (readRecord t ..)) ht
      · exact ht
    · exact readRecord s ..

theorem lossSettle (s : State) : s.KeepsQueue resvBits pl n (s.lossSettle pl) := .foldl _ _ (fun t m => lossStep hn t m) s

end State.KeepsQueue

end Sys2Proof.Machine

namespace Sys2Proof.Machine

/-! ### The queue engine: ring answers, doorbells, queue operations and QDS.CTRL (R165 to R170, R180) -/

/-- The purpose is a doorbell. -/
def isDoorbell : SbPurpose → Bool
  | .doorbell _ => true
  | _ => false

theorem fld_ofNat_low {n : Nat} (x : Nat) {len : Nat} (h : len ≤ n) : fld (BitVec.ofNat n x) 0 len = x % 2 ^ len := by
  unfold fld
  rw [BitVec.toNat_ofNat, Nat.pow_zero, Nat.div_one, Nat.mod_mod_of_dvd _ (Nat.pow_dvd_pow 2 h)]

theorem b2n_le (b : Bool) : b2n b ≤ 1 := by cases b <;> decide

section

variable (s : State) (pl : Pl) (n : Nat)

/-! #### Answers (R167, R168, R170) -/

theorem execRingWriteRack_runs {q m st : Nat} {k : Packet} {o : SbOut} {t : State} (hr : s.runs pl = true)
    (hs : s.sbResponse pl q 4 isRing = some (k, o, st, t)) (ho : o.purpose = .ring n m ∨ o.purpose = .record n m) :
    execRingWriteRack pl q s = .next (t.ringAnswered pl n m st) := by
  unfold execRingWriteRack
  rw [inPlane_runs hr, hs]
  dsimp only
  rcases ho with ho | ho <;> rw [ho]

theorem State.ringAnswered_ok {m : Nat} (h : ∃ a ∈ (s.qdyn pl n).adm, a.seq = m) : s.ringAnswered pl n m stOk =
    (State.commit (((s.modQ pl n (fun d => { d with
      adm := d.adm.map (fun a => if a.seq = m then { a with waits := a.waits - 1 } else a) })).qdyn pl n).adm.length + 1)
      (s.modQ pl n (fun d => { d with
        adm := d.adm.map (fun a => if a.seq = m then { a with waits := a.waits - 1 } else a) })) pl n).queueSettle pl n := by
  have hany : (s.qdyn pl n).adm.any (fun a => decide (a.seq = m)) = true := List.any_eq_true.mpr (by simpa using h)
  unfold State.ringAnswered
  rw [if_neg (by rw [hany]; decide), if_neg (fun hn => hn rfl)]

theorem State.ringAnswered_failed {m st : Nat} (h : ∃ a ∈ (s.qdyn pl n).adm, a.seq = m) (hst : st ≠ stOk) :
    s.ringAnswered pl n m st = (s.ringFailed pl n m).queueSettle pl n := by
  have hany : (s.qdyn pl n).adm.any (fun a => decide (a.seq = m)) = true := List.any_eq_true.mpr (by simpa using h)
  unfold State.ringAnswered
  rw [if_neg (by rw [hany]; decide), if_pos hst]

theorem execDoorbellRack_runs {q st : Nat} {k : Packet} {o : SbOut} {t : State} (hr : s.runs pl = true)
    (hs : s.sbResponse pl q 2 isDoorbell = some (k, o, st, t)) (ho : o.purpose = .doorbell n) :
    execDoorbellRack pl q s = .next (if st = stOk then t else (t.qSetBit pl n 9 true).queueFault pl n true false) := by
  unfold execDoorbellRack
  rw [inPlane_runs hr]
  split
  next h => cases (h.symm.trans hs :)
  next h =>
    cases Option.some.inj (h.symm.trans hs)
    rw [ho]

/-! #### Bits of word 0x34 -/

theorem State.qBit_qSetBit {i : Nat} (hi : i < 32) (v : Bool) : (s.qSetBit pl n i v).qBit pl n i = v := by
  unfold State.qBit State.qSetBit State.qdset State.pfset
  rw [State.p_pset]
  exact bit_setFld_same _ v hi

theorem State.qBit_qSetBit_ne {i j : Nat} (h : j ≠ i) (v : Bool) : (s.qSetBit pl n i v).qBit pl n j = s.qBit pl n j := by
  unfold State.qBit State.qSetBit State.qdset State.pfset
  rw [State.p_pset]
  exact bit_setFld_of_disjoint _ _ (by omega)

theorem State.qd_qSetBit {o : Nat} (h : o ≠ 0x34) (i : Nat) (v : Bool) (lo len : Nat) :
    (s.qSetBit pl n i v).qd pl n o lo len = s.qd pl n o lo len := s.qd_qdset_ne pl n h _ _ _ _ _

theorem State.doorbell_sent (hn : n < 16384) (hb : s.qBit pl n 0 = true) (h : s.qd pl n 0xC 0 17 ≤ s.qCount pl n) :
    (s.doorbell pl n).qBit pl n 0 = false := by
  unfold State.doorbell
  rw [if_pos (by rw [hb, decide_eq_true h]; rfl)]
  dsimp only
  have hc := State.KeepsQueue.countQ (F := fun _ => False) (pl := pl) (s.qSetBit pl n 0 false) hn 0x07
  rw [State.qBit, State.p_sbAdd, ← State.qBit, hc.flags 0 id]
  exact s.qBit_qSetBit pl n (by decide) false

theorem State.doorbell_none (h : s.qBit pl n 0 = false ∨ s.qCount pl n < s.qd pl n 0xC 0 17) : s.doorbell pl n = s := by
  unfold State.doorbell
  rw [if_neg]
  rcases h with h | h
  · rw [h, Bool.false_and]; decide
  · rw [decide_eq_false (by omega), Bool.and_false]; decide

/-! #### Queue operations (R165, R169, R176) -/

section

variable {s pl} {q vc : Nat} {g : Flit} {k : Packet} {u : State} (hg : ((s.sb pl).rx.rd (q * 8 + vc) []).head? = some g)
  (hk : hKind g.hdr = kQop) (hb : s.gateBehind pl (q * 8 + vc) g = false) (hp : s.popSb pl q vc = some (k, u)) (hpo : k.poison = false)
  (hat : (u.qdyn pl (s.gateObj g).2).qopAt ≠ some u.fc) (ht : u.qopTest pl (s.gateObj g).2 k.hdr = stOk) {pick : Nat → BitVec 8 → Bool}
  (hpick : pick (cPaddr g.data / 64 % 4) (BitVec.ofNat 8 (byteAt g.data 36)) = true)

/-- A queue operation is taken in its fc. -/
def State.qopTaken (u : State) (pl : Pl) (n : Nat) : State := u.modQ pl n (fun d => { d with qopAt := some u.fc })

include hg hk hb hp hpo hat ht hpick

/-- A STATUS that passes the tests of R165 is read and answered. -/
theorem State.qop_status (hop : cPaddr g.data / 64 % 4 = 1) : s.qop pl q vc pick =
    ((u.qopTaken pl (s.gateObj g).2).stated pl 9 (BitVec.ofNat 512 ((u.qopTaken pl (s.gateObj g).2).qHead pl (s.gateObj g).2
      + (u.qopTaken pl (s.gateObj g).2).qTail pl (s.gateObj g).2 * 2 ^ 32
      + (u.qopTaken pl (s.gateObj g).2).qFlags pl (s.gateObj g).2 * 2 ^ 64))).2.qopReply pl k.hdr stOk
    ((u.qopTaken pl (s.gateObj g).2).stated pl 9 (BitVec.ofNat 512 ((u.qopTaken pl (s.gateObj g).2).qHead pl (s.gateObj g).2
      + (u.qopTaken pl (s.gateObj g).2).qTail pl (s.gateObj g).2 * 2 ^ 32
      + (u.qopTaken pl (s.gateObj g).2).qFlags pl (s.gateObj g).2 * 2 ^ 64))).1 := by
  unfold State.qop
  rw [hg]
  dsimp only
  rw [if_neg (by rw [hpick, hb]; simp [hk]), hp]
  dsimp only
  rw [hpo, if_neg Bool.false_ne_true, if_neg Bool.false_ne_true, ht, if_neg (by decide), if_neg hat, if_pos hop]
  rfl

/-- A CONSUME that passes the tests of R165 advances HEAD, and its flags act. -/
theorem State.qop_consume (hop : cPaddr g.data / 64 % 4 ≠ 1) : s.qop pl q vc pick =
    (u.qopTaken pl (s.gateObj g).2).consume pl (s.gateObj g).2 k.hdr (cOpA g.data % 2 ^ 32) (BitVec.ofNat 8 (byteAt g.data 36)) := by
  unfold State.qop
  rw [hg]
  dsimp only
  rw [if_neg (by rw [hpick, hb]; simp [hk]), hp]
  dsimp only
  rw [hpo, if_neg Bool.false_ne_true, if_neg Bool.false_ne_true, ht, if_neg (by decide), if_neg hat, if_neg hop]
  rfl

end

theorem State.qFlags_lt : s.qFlags pl n < 2 ^ 8 := by
  unfold State.qFlags
  have := b2n_le (s.qBit pl n 0)
  have := b2n_le (s.qBit pl n 1)
  have := b2n_le (s.qBit pl n 2)
  have := b2n_le (s.qBit pl n 3)
  have := b2n_le (s.qBit pl n 10)
  omega

/-- What STATUS returns: HEAD, TAIL and the flags (R165). -/
theorem State.fld_statusLine : fld (s.stated pl 9 (BitVec.ofNat 512 (s.qHead pl n + s.qTail pl n * 2 ^ 32 + s.qFlags pl n * 2 ^ 64))).1 0 72 =
    s.qHead pl n + s.qTail pl n * 2 ^ 32 + s.qFlags pl n * 2 ^ 64 := by
  obtain ⟨-, h72, -⟩ := s.stated_low pl (BitVec.ofNat 512 (s.qHead pl n + s.qTail pl n * 2 ^ 32 + s.qFlags pl n * 2 ^ 64))
  rw [h72, fld_ofNat_low _ (by decide)]
  have hh : s.qHead pl n < 2 ^ 32 := fld_lt _ _ _
  have ht : s.qTail pl n < 2 ^ 32 := fld_lt _ _ _
  have hf := s.qFlags_lt pl n
  exact Nat.mod_eq_of_lt (by omega)

/-! #### QDS.CTRL (R168, R180) -/

theorem execQueueStop_allowed {r : CwReq} (hn : n < 16384) (h : s.writeAllowed r (bQds n + 0x3C)) (b : Bool) :
    execQueueStop r n b s = .next (((s.touch (bQds n + 0x3C)).eachPlane (fun pl t => t.qCtrl n (if b then 1 else 0) pl)).answer r stOk none) := by
  rw [execQueueStop, Nat.mod_eq_of_lt hn]
  exact s.cwWrite_allowed h (fun t => t.eachPlane (fun pl t => t.qCtrl n (if b then 1 else 0) pl))

theorem execQueueFlush_allowed {r : CwReq} (hn : n < 16384) (h : s.writeAllowed r (bQds n + 0x3C)) (b : Bool) :
    execQueueFlush r n b s = .next (((s.touch (bQds n + 0x3C)).eachPlane (fun pl t => t.qCtrl n (if b then 3 else 2) pl)).answer r stOk none) := by
  rw [execQueueFlush, Nat.mod_eq_of_lt hn]
  exact s.cwWrite_allowed h (fun t => t.eachPlane (fun pl t => t.qCtrl n (if b then 3 else 2) pl))

theorem State.qIsMember_qSetBit (i : Nat) (v : Bool) : (s.qSetBit pl n i v).qIsMember pl n = s.qIsMember pl n :=
  congrArg (fun x => decide (x = 1)) (s.qd_qSetBit pl n (by decide) i v 0 1)

theorem State.loseMember_single (h : s.qIsMember pl n = false) : s.loseMember pl n = s := by
  unfold State.loseMember
  rw [if_pos (by rw [h]; rfl)]

theorem State.headMoved_single (h : s.qIsMember pl n = false) : s.headMoved pl n = s := by
  unfold State.headMoved
  rw [if_pos (by rw [h]; rfl)]

/-- What STOP (CTRL bit 0) does to a queue that is no member of a flock. -/
theorem State.qCtrl_stop (h : s.qIsMember pl n = false) : s.qCtrl n 1 pl = s.qSetBit pl n 3 true := by
  unfold State.qCtrl
  dsimp only
  have h0 : bit (1 : W32) 0 = true := by decide
  have h1 : bit (1 : W32) 1 = false := by decide
  rw [if_pos h0, h1, State.loseMember_single _ pl n ((s.qIsMember_qSetBit pl n 3 true).trans h)]
  rfl

theorem State.qCtrl_start : s.qCtrl n 0 pl = (s.qSetBit pl n 3 false).qSetBit pl n 9 false := by
  unfold State.qCtrl
  dsimp only
  have h0 : ¬ bit (0 : W32) 0 = true := by decide
  have h1 : bit (0 : W32) 1 = false := by decide
  rw [if_neg h0, h1]
  rfl

theorem State.qHead_setHead (v : Nat) : (s.setHead pl n v).qHead pl n = v % 2 ^ 32 := State.qd_qdset _ pl n 0x2C v (by decide)

theorem State.qIsMember_setHead (v : Nat) : (s.setHead pl n v).qIsMember pl n = s.qIsMember pl n := by
  unfold State.qIsMember State.setHead
  rw [State.qd_qdset_ne _ _ _ (by decide), State.qd_modQ]

/-- FLUSH of a stopped queue takes HEAD to TAIL. -/
theorem State.qHead_qCtrl_flush (hn : n < 16384) (h : s.qIsMember pl n = false) : (s.qCtrl n 3 pl).qHead pl n = s.qTail pl n := by
  have hm := (s.qIsMember_qSetBit pl n 3 true).trans h
  have ht : (s.qSetBit pl n 3 true).qTail pl n = s.qTail pl n := s.qd_qSetBit pl n (by decide) 3 true 0 32
  have h0 : bit (3 : W32) 0 = true := by decide
  have h1 : bit (3 : W32) 1 = true := by decide
  have hk := State.KeepsQueue.lossSettle (pl := pl) hn ((s.qSetBit pl n 3 true).setHead pl n (s.qTail pl n))
  unfold State.qCtrl
  dsimp only
  rw [if_pos h0, State.loseMember_single _ pl n hm, h1, s.qBit_qSetBit pl n (by decide), ht, if_pos (by decide),
    State.headMoved_single _ pl n ((State.qIsMember_setHead _ pl n _).trans hm), State.qHead, State.qd, State.pf,
    hk.words 0x2C (by decide) (by decide), ← State.pf, ← State.qd, ← State.qHead, State.qHead_setHead]
  exact Nat.mod_eq_of_lt (fld_lt _ _ _)

/-- FLUSH of a queue that runs does not touch HEAD. -/
theorem State.qHead_qCtrl_running : (s.qCtrl n 2 pl).qHead pl n = s.qHead pl n := by
  have h0 : ¬ bit (2 : W32) 0 = true := by decide
  unfold State.qCtrl
  dsimp only
  rw [if_neg h0, State.qBit_qSetBit_ne _ pl n (by decide), s.qBit_qSetBit pl n (by decide), Bool.and_false, if_neg Bool.false_ne_true]
  exact (State.qd_qSetBit _ pl n (by decide) ..).trans (s.qd_qSetBit pl n (by decide) ..)

end

/-- Settles O16: the answers by `State.ringAnswered`, the operations by the two cases of `State.qop` that pass R165, CTRL by its
four values; FLUSH keeps HEAD at TAIL, as no step of a loss moves the HEAD of a queue (`State.KeepsQueue.lossSettle`). -/
theorem queueEngine : Obligations.QueueEngine := by
  unfold Obligations.QueueEngine
  refine ⟨fun s t pl q k o st hr => ⟨fun hs n m ho ha => ?_, fun n hs ho => ?_, fun n hn hb h => s.doorbell_sent pl n hn hb h,
    fun n h => s.doorbell_none pl n h⟩, fun s u pl q vc g k hr hg hk hb hp hpo => ?_, fun s r n hn => ⟨fun h b => ?_, fun pl hm => ?_⟩⟩
  · have hx := execRingWriteRack_runs s pl n hr hs ho
    refine ⟨fun hst => hx.trans ?_, fun hst => hx.trans ?_⟩
    · rw [hst, t.ringAnswered_ok pl n ha]
    · rw [t.ringAnswered_failed pl n ha hst]
  · have hx := execDoorbellRack_runs s pl n hr hs ho
    refine ⟨fun hst => hx.trans ?_, fun hst => hx.trans ?_⟩
    · rw [if_pos hst]
    · rw [if_neg hst]
  · intro n op flags cnt hat ht
    dsimp only
    have hrun : ∀ pick, inPlane s pl (fun s => s.qop pl q vc pick) = .next (s.qop pl q vc pick) := fun pick => inPlane_runs hr _
    have hcons : ∀ pick, op = 2 → pick op flags = true → inPlane s pl (fun s => s.qop pl q vc pick) =
        .next ((u.qopTaken pl n).consume pl n k.hdr cnt flags) := fun pick hop hpick =>
      (hrun pick).trans (congrArg Host.Outcome.next (State.qop_consume hg hk hb hp hpo hat ht hpick (fun h1 => by omega)))
    refine ⟨fun hop => ⟨_, (hrun _).trans (congrArg Host.Outcome.next
      (State.qop_status hg hk hb hp hpo hat ht (decide_eq_true hop) hop)), State.fld_statusLine _ pl n⟩,
      fun hop h0 h1 h2 => hcons _ hop ?_, fun hop h0 h1 h2 => hcons _ hop ?_, fun hop h1 h2 => hcons _ hop ?_, fun hop h2 => hcons _ hop ?_⟩
    · simp [hop, h0, h1, h2]
    · simp [hop, h0, h1, h2]
    · simp [hop, h1, h2]
    · simp [hop, h2]
  · exact ⟨execQueueStop_allowed s n hn h b, execQueueFlush_allowed s n hn h b⟩
  · rw [s.qCtrl_stop pl n hm, s.qCtrl_start pl n]
    refine ⟨s.qBit_qSetBit pl n (by decide) true, s.qd_qSetBit pl n (by decide) 3 true 0 32, ?_,
      State.qBit_qSetBit _ pl n (by decide) false, s.qHead_qCtrl_flush pl n hn hm, s.qHead_qCtrl_running pl n⟩
    rw [State.qBit_qSetBit_ne _ pl n (by decide)]
    exact s.qBit_qSetBit pl n (by decide) false

end Sys2Proof.Machine

namespace Sys2Proof.Machine

/-! ### The queue-tail gate (R160, R166, R172 to R174) -/

section

variable (s : State) (pl : Pl) (n : Nat)

/-! #### Admission -/

/-- What the queue engine keeps of a message that it admits to queue `n`. -/
def State.admitted (s : State) (pl : Pl) (n src tag : Nat) (reply : Bool) (keyslot owner : Nat) (redel flock : Bool)
    (lines : List Line) : Adm where
  seq := s.qAdm pl n
  src := src
  tag := tag
  reply := reply
  keyslot := keyslot
  srcOwner := owner
  redel := redel
  waits := if lines.length = 64 then 3 else 2
  flits := lines
  room := lines.length
  flock := flock

theorem State.kmap_countQ (code : Nat) : ((s.countQ pl code).sb pl).kmap = (s.sb pl).kmap := by
  rw [(s.countQ_records pl code).sb]

theorem State.sb_qdset (o lo len v : Nat) : (s.qdset pl n o lo len v).sb pl = s.sb pl := State.sb_pset ..

variable (src tag : Nat) (reply : Bool) (keyslot owner : Nat) (redel flock : Bool) (lines : List Line)

/-- An admission apart from its count and its WRITEs. -/
def State.reserved : State :=
  (s.qdset pl n 0x34 4 5 (s.qResv pl n + 1)).modQ pl n (fun d =>
    { d with adm := d.adm ++ [s.admitted pl n src tag reply keyslot owner redel flock lines] })

/-- After the reservation and its count only WRITEs are issued. -/
theorem State.stateOf_enqueue : ((s.enqueue pl n src tag reply keyslot owner redel flock lines).sb pl).stateOf =
    (((s.reserved pl n src tag reply keyslot owner redel flock lines).countQ pl 0x02).sb pl).stateOf := by
  unfold State.enqueue
  refine (State.stateOf_sbAdd _ pl ..).trans (State.stateOf_ite pl ?_ (State.stateOf_sbAdd _ pl ..))
  exact (State.stateOf_sbAdd _ pl ..).trans (State.stateOf_sbAdd _ pl ..)

theorem State.p_enqueue (o : Nat) : (s.enqueue pl n src tag reply keyslot owner redel flock lines).p pl o =
    ((s.reserved pl n src tag reply keyslot owner redel flock lines).countQ pl 0x02).p pl o := by
  unfold State.enqueue
  extract_lets _ len data _ o' _ _ s2 s3
  have h3 : s3.p pl o = s2.p pl o := by
    refine (apply_ite (fun t : State => t.p pl o) _ _ _).trans ?_
    rw [State.p_sbAdd, State.p_sbAdd, State.p_sbAdd, ite_self]
  rw [State.p_sbAdd, h3]
  rfl

theorem State.adm_enqueue : ((s.enqueue pl n src tag reply keyslot owner redel flock lines).qdyn pl n).adm =
    (s.qdyn pl n).adm ++ [s.admitted pl n src tag reply keyslot owner redel flock lines] := by
  have hq : (s.enqueue pl n src tag reply keyslot owner redel flock lines).qdyn pl n =
      ((s.reserved pl n src tag reply keyslot owner redel flock lines).countQ pl 0x02).qdyn pl n :=
    (congrArg (fun b : Sb => b.queues.rd n {}) (s.stateOf_enqueue pl n src tag reply keyslot owner redel flock lines) :)
  rw [hq, State.qdyn_countQ, State.reserved, State.qdyn_modQ, State.qdyn_qdset]

theorem State.kmap_enqueue : ((s.enqueue pl n src tag reply keyslot owner redel flock lines).sb pl).kmap = (s.sb pl).kmap := by
  have hk : ((s.enqueue pl n src tag reply keyslot owner redel flock lines).sb pl).kmap =
      (((s.reserved pl n src tag reply keyslot owner redel flock lines).countQ pl 0x02).sb pl).kmap :=
    (congrArg Sb.kmap (s.stateOf_enqueue pl n src tag reply keyslot owner redel flock lines) :)
  rw [hk, State.kmap_countQ, State.reserved, State.modQ, State.sb_modSb]
  dsimp only
  rw [State.sb_qdset]

theorem State.qResv_enqueue (hn : n < 16384) (h : s.qResv pl n < 16) :
    (s.enqueue pl n src tag reply keyslot owner redel flock lines).qResv pl n = s.qResv pl n + 1 := by
  rw [State.qResv, State.qd, State.pf, State.p_enqueue, ← State.pf, ← State.qd, State.qd_countQ _ pl n _ hn (by decide),
    State.reserved, State.qd_modQ, State.qd_qdset _ _ _ _ _ (by decide)]
  exact Nat.mod_eq_of_lt (by omega)

theorem State.qResv_of_room {head flits : Nat} (h : s.noRoom pl n head flits = false) : s.qResv pl n < 16 := by
  unfold State.noRoom at h
  simp only [Bool.or_eq_false_iff, decide_eq_false_iff_not] at h
  omega

/-- HEAD and TAIL stay as a message is admitted. -/
theorem State.qd_enqueue (hn : n < 16384) {o : Nat} (ho : o < 0x40) (h34 : o ≠ 0x34) (lo len : Nat) :
    (s.enqueue pl n src tag reply keyslot owner redel flock lines).qd pl n o lo len = s.qd pl n o lo len := by
  unfold State.qd State.pf
  rw [(State.KeepsQueue.enqueue hn s n src tag reply keyslot owner redel flock lines).words o ho h34]

end

/-! #### A message for a queue -/

section

variable {s u : State} {pl : Pl} {q : Nat} {g : Flit} {k : Packet} (hr : s.runs pl = true)
  (hg : ((s.sb pl).rx.rd (q * 8 + 5) []).head? = some g) (hk : hKind g.hdr = kMessage) (hb : s.gateBehind pl (q * 8 + 5) g = false)
  (hp : s.popSb pl q 5 = some (k, u)) (hpo : k.poison = false)
include hr hg hk hb hp hpo

theorem execQueueTailGate_decides : execQueueTailGate pl q s =
    .next (if hTflock k.hdr then u.gateFlock pl (hFlock k.hdr) k else u.gateQueue pl (hQueue k.hdr) k) := by
  unfold execQueueTailGate
  rw [inPlane_runs hr, hg]
  dsimp only
  rw [if_neg (by rw [hb]; simp [hk]), hp]
  dsimp only
  rw [hpo, if_neg Bool.false_ne_true]

theorem execQueueTailGate_queue (ht : hTflock k.hdr = false) : execQueueTailGate pl q s = .next (u.gateQueue pl (hQueue k.hdr) k) := by
  rw [execQueueTailGate_decides hr hg hk hb hp hpo, if_neg (by rw [ht]; decide)]

theorem execQueueTailGate_flock (ht : hTflock k.hdr = true) : execQueueTailGate pl q s = .next (u.gateFlock pl (hFlock k.hdr) k) := by
  rw [execQueueTailGate_decides hr hg hk hb hp hpo, if_pos ht]

end

section

variable (s : State) (pl : Pl) (n : Nat) (k : Packet)

/-- The rows of R166 for queue `n`, and the admission of what passes them. -/
theorem State.gateQueue_unknown (h : (s.qValid pl n && !s.qIsMember pl n) = false) :
    s.gateQueue pl n k = (s.pinc pl (bQds n + 0x38) 16 16 1).msgAnswer pl k stDecode := by
  unfold State.gateQueue
  dsimp only
  rw [if_pos]
  cases hv : s.qValid pl n <;> cases hm : s.qIsMember pl n <;> simp_all

variable (hknown : (s.qValid pl n && !s.qIsMember pl n) = true)
include hknown

theorem State.gateQueue_known : ¬ (!s.qValid pl n || s.qIsMember pl n) = true := by
  simp only [Bool.and_eq_true, Bool.not_eq_true'] at hknown
  rw [hknown.1, hknown.2]
  decide

theorem State.gateQueue_prot (hs : s.mayNotSend pl n k.hdr = true) :
    s.gateQueue pl n k = (s.pinc pl (bQds n + 0x38) 16 16 1).msgAnswer pl k stProt := by
  unfold State.gateQueue
  dsimp only
  rw [if_neg (s.gateQueue_known pl n hknown), if_pos hs]

variable (hs : s.mayNotSend pl n k.hdr = false)
include hs

theorem State.gateQueue_align (hl : s.qSlot pl n < hLen k.hdr + 1) :
    s.gateQueue pl n k = (s.pinc pl (bQds n + 0x38) 16 16 1).msgAnswer pl k stAlign := by
  unfold State.gateQueue
  dsimp only
  rw [if_neg (s.gateQueue_known pl n hknown), if_neg (by rw [hs]; decide), if_pos hl]

variable (hl : hLen k.hdr + 1 ≤ s.qSlot pl n) (hpo : k.poison = false)
include hl hpo

theorem State.gateQueue_shut (hsh : (s.qBit pl n 3 || s.closedOwner (s.qOwner pl n) || !s.ringLive pl n) = true) :
    s.gateQueue pl n k = s.msgAnswer pl k stRetry := by
  unfold State.gateQueue
  dsimp only
  rw [if_neg (s.gateQueue_known pl n hknown), if_neg (by rw [hs]; decide), if_neg (by omega), if_neg (by rw [hpo]; decide), if_pos hsh]

variable (hsh : (s.qBit pl n 3 || s.closedOwner (s.qOwner pl n) || !s.ringLive pl n) = false)
include hsh

theorem State.gateQueue_full (hf : s.noRoom pl n (s.qHeadAt pl n true) (hLen k.hdr + 1) = true) :
    s.gateQueue pl n k = (s.pinc pl (bQds n + 0x38) 0 16 1).msgAnswer pl k stRetry := by
  unfold State.gateQueue
  dsimp only
  rw [if_neg (s.gateQueue_known pl n hknown), if_neg (by rw [hs]; decide), if_neg (by omega), if_neg (by rw [hpo]; decide), hsh,
    if_neg Bool.false_ne_true, if_pos hf]

theorem State.gateQueue_admits (hf : s.noRoom pl n (s.qHeadAt pl n true) (hLen k.hdr + 1) = false) :
    s.gateQueue pl n k = s.enqueue pl n (hSrc k.hdr) (hTag k.hdr) true 0 (hOwner k.hdr) false false k.flits := by
  unfold State.gateQueue
  dsimp only
  rw [if_neg (s.gateQueue_known pl n hknown), if_neg (by rw [hs]; decide), if_neg (by omega), if_neg (by rw [hpo]; decide), hsh,
    if_neg Bool.false_ne_true, hf, if_neg Bool.false_ne_true]

end

/-! #### A message for a flock -/

section

variable (s : State) (pl : Pl) (f : Nat) (k : Packet)

theorem State.gateFlock_unknown (h : s.fValid pl f = false) : s.gateFlock pl f k = s.msgAnswer pl k stDecode := by
  unfold State.gateFlock
  dsimp only
  rw [if_pos (by rw [h]; rfl)]

/-- What rows 2 to 4 of R166 ask of a message for a flock: every member takes it, and the flock's owner is open. -/
def State.flockPasses (s : State) (pl : Pl) (f : Nat) (k : Packet) : Bool :=
  (s.members pl f).all (fun m => !s.mayNotSend pl m.2 k.hdr && decide (hLen k.hdr + 1 ≤ s.qSlot pl m.2)) && !s.closedOwner (s.fOwner pl f)

/-- What becomes of a message of a key slot that is not moving, once its member is known (R166, R172). -/
def State.flockTo (s : State) (pl : Pl) (f : Nat) (k : Packet) (m : Nat × Nat) : State :=
  (s.setK pl f (hKeyslot k.hdr) (m.1 + 128)).enqueue pl m.2 (hSrc k.hdr) (hTag k.hdr) true (hKeyslot k.hdr) (hOwner k.hdr) false true k.flits

variable (hv : s.fValid pl f = true) (hpass : s.flockPasses pl f k = true) (hpo : k.poison = false)
include hpass

theorem State.flockPasses_rows : (s.members pl f).any (fun m => s.mayNotSend pl m.2 k.hdr) ≠ true ∧
    (s.members pl f).any (fun m => decide (s.qSlot pl m.2 < hLen k.hdr + 1)) ≠ true ∧ s.closedOwner (s.fOwner pl f) = false := by
  simp only [State.flockPasses, Bool.and_eq_true, List.all_eq_true, Bool.not_eq_true', decide_eq_true_eq] at hpass
  obtain ⟨hall, hc⟩ := hpass
  refine ⟨fun h => ?_, fun h => ?_, hc⟩
  · obtain ⟨m, hm, hx⟩ := List.any_eq_true.mp h
    rw [(hall m hm).1] at hx
    exact Bool.false_ne_true hx
  · obtain ⟨m, hm, hx⟩ := List.any_eq_true.mp h
    exact absurd (of_decide_eq_true hx) (by have := (hall m hm).2; omega)

include hv hpo

theorem State.gateFlock_holds (he : bit (s.kEntry pl f (hKeyslot k.hdr)) 5 = true) (h : (s.sb pl).holdFlits + (hLen k.hdr + 1) ≤ 512) :
    s.gateFlock pl f k = (s.countQ pl 0x05).modSb pl (fun b => { b with held := b.held ++ [{
      flock := f
      key := hKeyslot k.hdr
      src := hSrc k.hdr
      tag := hTag k.hdr
      srcOwner := hOwner k.hdr
      flits := k.flits }] }) := by
  obtain ⟨hprot, halign, hc⟩ := s.flockPasses_rows pl f k hpass
  unfold State.gateFlock
  dsimp only
  rw [if_neg (by rw [hv]; decide), if_neg hprot, if_neg halign, if_neg (by rw [hpo]; decide), hc, if_neg Bool.false_ne_true, if_pos he,
    if_neg (by omega)]

theorem State.gateFlock_holdFull (he : bit (s.kEntry pl f (hKeyslot k.hdr)) 5 = true) (h : 512 < (s.sb pl).holdFlits + (hLen k.hdr + 1)) :
    s.gateFlock pl f k = s.msgAnswer pl k stRetry := by
  obtain ⟨hprot, halign, hc⟩ := s.flockPasses_rows pl f k hpass
  unfold State.gateFlock
  dsimp only
  rw [if_neg (by rw [hv]; decide), if_neg hprot, if_neg halign, if_neg (by rw [hpo]; decide), hc, if_neg Bool.false_ne_true, if_pos he,
    if_pos h]

theorem State.gateFlock_admits {m : Nat × Nat} (he : bit (s.kEntry pl f (hKeyslot k.hdr)) 5 = false)
    (hmap : bit (s.kEntry pl f (hKeyslot k.hdr)) 7 = true →
      fld (s.kEntry pl f (hKeyslot k.hdr)) 0 5 = m.1 ∧ s.memberQ pl f m.1 = some m.2)
    (hnew : bit (s.kEntry pl f (hKeyslot k.hdr)) 7 = false → s.chooseMember pl f true = some m)
    (hstop : s.qBit pl m.2 3 = false) (hlive : s.ringLive pl m.2 = true)
    (hroom : s.noRoom pl m.2 (s.qHeadAt pl m.2 true) (hLen k.hdr + 1) = false) : s.gateFlock pl f k = s.flockTo pl f k m := by
  obtain ⟨hprot, halign, hc⟩ := s.flockPasses_rows pl f k hpass
  have hm : (if bit (s.kEntry pl f (hKeyslot k.hdr)) 7 = true
      then (s.memberQ pl f (fld (s.kEntry pl f (hKeyslot k.hdr)) 0 5)).map (fun n => (fld (s.kEntry pl f (hKeyslot k.hdr)) 0 5, n))
      else s.chooseMember pl f true) = some m := by
    cases h7 : bit (s.kEntry pl f (hKeyslot k.hdr)) 7 with
    | true =>
      obtain ⟨hidx, hq⟩ := hmap h7
      rw [if_pos rfl, hidx, hq]
      rfl
    | false => rw [if_neg Bool.false_ne_true, hnew h7]
  unfold State.gateFlock
  dsimp only
  rw [if_neg (by rw [hv]; decide), if_neg hprot, if_neg halign, if_neg (by rw [hpo]; decide), hc, if_neg Bool.false_ne_true, he,
    if_neg Bool.false_ne_true, hm]
  dsimp only
  rw [hstop, hlive, if_neg (by decide), hroom, if_neg Bool.false_ne_true]
  rfl

end

theorem State.kEntry_flockTo (s : State) (pl : Pl) (f : Nat) (k : Packet) (m : Nat × Nat) :
    (s.flockTo pl f k m).kEntry pl f (hKeyslot k.hdr) = BitVec.ofNat 8 (m.1 + 128) := by
  rw [State.kEntry, State.flockTo, State.kmap_enqueue, State.setK, State.sb_modSb]
  exact Tab.rd_wr_same _ _ _ _

theorem State.adm_flockTo (s : State) (pl : Pl) (f : Nat) (k : Packet) (m : Nat × Nat) : ((s.flockTo pl f k m).qdyn pl m.2).adm =
    (s.qdyn pl m.2).adm ++ [(s.setK pl f (hKeyslot k.hdr) (m.1 + 128)).admitted pl m.2 (hSrc k.hdr) (hTag k.hdr) true (hKeyslot k.hdr)
      (hOwner k.hdr) false true k.flits] := by
  rw [State.flockTo, State.adm_enqueue]
  refine congrArg (fun d : QDyn => d.adm ++ _) ?_
  rw [State.qdyn, State.setK, State.sb_modSb]
  rfl

/-- Settles O13: each row of R166 by the case of the gate that it decides; what passes is admitted (`State.enqueue`), at the queue
itself or at the member of the flock that R172 gives. -/
theorem queueTailGate : Obligations.QueueTailGate := by
  unfold Obligations.QueueTailGate
  refine ⟨fun s u pl q g k hr hg hk hb hp hpo ht => ?_, fun s u pl q g k hr hg hk hb hp hpo ht => ?_⟩
  · have hx := execQueueTailGate_queue hr hg hk hb hp hpo ht
    intro n flits known refusedOther shut full
    have hn : n < 16384 := fld_lt _ _ _
    have next {t : State} (h : u.gateQueue pl n k = t) : exec (.queueTailGate pl q) s = .next t := hx.trans (congrArg Host.Outcome.next h)
    refine ⟨fun hkn => next (u.gateQueue_unknown pl n k hkn), fun hkn hs => next (u.gateQueue_prot pl n k hkn hs),
      fun hkn hs hl => next (u.gateQueue_align pl n k hkn hs hl), fun hkn hs hl hsh => next (u.gateQueue_shut pl n k hkn hs hl hpo hsh),
      fun hkn hs hl hsh hf => next (u.gateQueue_full pl n k hkn hs hl hpo hsh hf), fun hkn hs hl hsh hf => ?_⟩
    exact ⟨_, next (u.gateQueue_admits pl n k hkn hs hl hpo hsh hf), _, u.adm_enqueue pl n .., rfl, rfl, rfl, rfl, rfl, rfl,
      u.qResv_enqueue pl n _ _ _ _ _ _ _ _ hn (u.qResv_of_room pl n hf),
      u.qd_enqueue pl n _ _ _ _ _ _ _ _ hn (by decide) (by decide) 0 32, u.qd_enqueue pl n _ _ _ _ _ _ _ _ hn (by decide) (by decide) 0 32⟩
  · have hx := execQueueTailGate_flock hr hg hk hb hp hpo ht
    intro f slot flits e passes
    have next {t : State} (h : u.gateFlock pl f k = t) : exec (.queueTailGate pl q) s = .next t := hx.trans (congrArg Host.Outcome.next h)
    refine ⟨fun hv => next (u.gateFlock_unknown pl f k hv), fun hv hpass he h => ?_,
      fun hv hpass he h => next (u.gateFlock_holdFull pl f k hv hpass hpo he h), fun m hv hpass he hmap hnew hstop hlive hroom => ?_⟩
    · refine ⟨_, next (u.gateFlock_holds pl f k hv hpass hpo he h), ?_⟩
      rw [State.sb_modSb, (u.countQ_records pl 0x05).sb]
    · exact ⟨_, next (u.gateFlock_admits pl f k hv hpass hpo he hmap hnew hstop hlive hroom), u.kEntry_flockTo pl f k m, _,
        u.adm_flockTo pl f k m, rfl, rfl, rfl⟩

end Sys2Proof.Machine

namespace Sys2Proof.Machine

/-! ### Upkeep of the flocks: held messages, rebalancing, losses (R173, R175, R177) -/

/-- The purpose is a read of a redelivery. -/
def isRedelivery : SbPurpose → Bool
  | .redeliver _ _ => true
  | .redeliverRec _ _ => true
  | _ => false

section

variable (s : State) (pl : Pl)

/-! #### Held messages (R173) -/

theorem State.kmap_modQ (n : Nat) (f : QDyn → QDyn) : ((s.modQ pl n f).sb pl).kmap = (s.sb pl).kmap := by
  rw [State.modQ, State.sb_modSb]

/-- The members that have left are noted: the key map stays. -/
theorem State.kmap_settleLeft (f : Nat) : ((s.settleLeft pl f).sb pl).kmap = (s.sb pl).kmap := by
  unfold State.settleLeft
  refine foldl_same _ _ (fun t => (State.sb t pl).kmap) (fun t m => ?_) s
  dsimp only
  split
  · rw [State.qSetBit, State.sb_qdset]
    exact t.kmap_modQ pl _ _
  · rfl

/-- A fold whose steps change nothing ends where it began. -/
theorem foldl_unchanged {α β : Type} (l : List β) (f : α → β → α) (a : α) (h : ∀ x ∈ l, f a x = a) : l.foldl f a = a := by
  induction l with
  | nil => rfl
  | cons x l ih =>
    obtain ⟨hx, hl⟩ := List.forall_mem_cons.1 h
    rw [List.foldl_cons, hx]
    exact ih hl

/-- A drain of key slots that nothing is held for clears them where nothing else is waited for. -/
theorem State.drain_none (f : Nat) (ks : List Nat) (h : ∀ x ∈ (s.sb pl).held, x.flock = f → ks.contains x.key = false) :
    s.drain pl f ks = (ks.foldl (fun t k => t.clearMoving pl f k) s).settleLeft pl f := by
  have hskip : ∀ (a : State × List Nat) (x : Held), x ∈ (s.sb pl).held →
      x.flock ≠ f ∨ (!ks.contains x.key) = true ∨ a.2.contains x.key = true := fun a x hx => by
    by_cases hf : x.flock = f
    · exact .inr (.inl (by rw [h x hx hf]; rfl))
    · exact .inl hf
  unfold State.drain
  extract_lets r
  have hr : r = (s, []) :=
    foldl_unchanged _ _ _ fun x hx => if_pos (hskip (s, []) x hx)
  rw [hr]

theorem bit_moving_cleared : ∀ e : BitVec 8, bit e 5 = true → bit (BitVec.ofNat 8 (e.toNat - 32)) 5 = false := by decide

/-- A key slot that waits for nothing, and that nothing is held for, is no longer moving. -/
theorem State.bit_kEntry_drain {f k : Nat} (hr : s.keyReady pl f k = true) (hh : (s.sb pl).firstHeld f k = none) :
    bit ((s.drain pl f [k]).kEntry pl f k) 5 = false := by
  have hnone : ∀ x ∈ (s.sb pl).held, x.flock = f → [k].contains x.key = false := fun x hx hf => by
    have hx' := List.find?_eq_none.mp hh x hx
    rw [decide_eq_true_eq] at hx'
    simpa using fun hk : x.key = k => hx' ⟨hf, hk⟩
  have hmov : bit (s.kEntry pl f k) 5 = true := by
    unfold State.keyReady at hr
    simp only [Bool.and_eq_true] at hr
    exact hr.1.1
  rw [s.drain_none pl f [k] hnone, State.kEntry, State.kmap_settleLeft, List.foldl_cons, List.foldl_nil, State.clearMoving,
    if_pos (by rw [hr, hh]; rfl), State.setK, State.sb_modSb]
  dsimp only
  rw [Tab.rd_wr_same]
  exact bit_moving_cleared _ hmov

theorem execHeldMessageAdmit_ready {f k : Nat} (hr : s.runs pl = true) (h : s.keyReady pl f k = true) :
    execHeldMessageAdmit pl f k s = .next (s.drain pl f [k]) := by
  unfold execHeldMessageAdmit
  rw [inPlane_runs hr, if_pos h]

/-! #### Rebalancing (R175) -/

/-- The flocks that rebalance at a boundary: those that are valid and asked for it. -/
def State.rebalancing (s : State) (pl : Pl) : List Nat :=
  (s.pln pl).rf.filterMap (fun x =>
    if 0x30000 ≤ x.1 ∧ x.1 < 0x34000 ∧ x.1 % 0x10 = 0 ∧ bit x.2 0 ∧ bit x.2 10 then some ((x.1 - 0x30000) / 0x10) else none)

theorem execRebalanceBoundary_due (hr : s.runs pl = true) (hn : s.now % 2 ^ (s.pf pl rFlkPolicy 0 4 + 10) = 0)
    (hat : (s.sb pl).rebalAt ≠ some s.now) (hj : s.pair.joining = none) : execRebalanceBoundary pl s =
      .next ((s.rebalancing pl).foldl (fun t f => t.rebalance pl f) (s.modSb pl (fun b => { b with rebalAt := some s.now }))) := by
  unfold execRebalanceBoundary
  rw [inPlane_runs hr, if_neg]
  · rfl
  · rintro (h | h | h)
    · exact h hn
    · exact hat h
    · rw [hj] at h
      exact Bool.false_ne_true h

theorem State.wf_of_canon (hc : s.Canon) : Tab.wf (s.pln pl).rf resetWord := by
  obtain ⟨-, -, ha, hb⟩ := hc
  cases pl with
  | a => exact ha.1
  | b => exact hb.1

theorem resetWord_rFcfg {f : Nat} (hf : f < 1024) : resetWord (rFcfg f) = 0 := by
  unfold resetWord rFcfg
  exact if_neg (by omega)

theorem State.mem_rebalancing (hc : s.Canon) (f : Nat) :
    f ∈ s.rebalancing pl ↔ f < 1024 ∧ bit (s.p pl (rFcfg f)) 0 = true ∧ bit (s.p pl (rFcfg f)) 10 = true := by
  obtain ⟨hsorted, -⟩ := s.wf_of_canon pl hc
  have hword : ∀ x ∈ (s.pln pl).rf, s.p pl x.1 = x.2 := fun x hx => Tab.rd_of_mem hsorted hx _
  unfold State.rebalancing
  rw [List.mem_filterMap]
  constructor
  · rintro ⟨x, hx, h⟩
    split at h
    next hcond =>
      obtain ⟨hlo, hhi, hmod, h0, h10⟩ := hcond
      obtain rfl : (x.1 - 0x30000) / 0x10 = f := Option.some.inj h
      have hoff : rFcfg ((x.1 - 0x30000) / 0x10) = x.1 := by unfold rFcfg; omega
      rw [hoff, hword x hx]
      exact ⟨by omega, h0, h10⟩
    next => cases h
  · rintro ⟨hf, h0, h10⟩
    have hne : (s.pln pl).rf.rd (rFcfg f) (resetWord (rFcfg f)) ≠ resetWord (rFcfg f) := fun he => by
      have hz : s.p pl (rFcfg f) = 0 := he.trans (resetWord_rFcfg hf)
      rw [hz] at h0
      exact absurd h0 (by decide)
    obtain ⟨x, hx, hk⟩ := Tab.exists_mem_of_rd_ne hne
    have hw := hword x hx
    rw [hk] at hw
    refine ⟨x, hx, ?_⟩
    rw [hk, ← hw, if_pos ⟨by unfold rFcfg; omega, by unfold rFcfg; omega, by unfold rFcfg; omega, h0, h10⟩]
    exact congrArg some (by unfold rFcfg; omega)

/-! #### Losses (R177) -/

variable (n : Nat)

theorem execKeywaitExpiry_waited (hr : s.runs pl = true) (hm : s.qIsMember pl n = true) (hw : s.keyWaited pl n = true) :
    execKeywaitExpiry pl n s = .next (s.loseMember pl n) := by
  unfold execKeywaitExpiry
  rw [inPlane_runs hr, hm, hw]
  rfl

theorem State.KeepsQueue.takeKeys {F : Nat → Prop} {pl : Pl} {n : Nat} (s : State) (m : Nat) : s.KeepsQueue F pl n (s.takeKeys pl m) := by
  unfold State.takeKeys
  extract_lets f idx ks s1 s2
  exact ((State.KeepsQueue.modSb s _).trans (.foldl _ _ (fun t k => .modSb t _) s1)).trans (.modSb s2 _)

/-- A member that is lost keeps LEFT, and LEAVING only where it has left. -/
theorem State.qBit_loseMember (hm : s.qIsMember pl n = true) (hv : s.qValid pl n = true) (hl : s.qBit pl n 2 = false) (hn : n < 16384) :
    (s.loseMember pl n).qBit pl n 2 = true ∧ (s.loseMember pl n).qBit pl n 10 = s.qBit pl n 10 ∧
      (s.loseMember pl n).qBit pl n 1 = (s.qBit pl n 1 && s.qBit pl n 10) := by
  unfold State.loseMember
  rw [if_neg (by rw [hm, hv, hl]; decide)]
  extract_lets s1 s2 s3 s4
  have hk : s2.KeepsQueue resvBits pl n (s4.lossStep pl n) :=
    ((((State.KeepsQueue.pinc s2 (by decide) ..).trans (.occurP _ ..)).trans (.takeKeys s3 n)).trans (.modSb _ _)).trans (.lossStep hn s4 n)
  have h2 : ∀ i, s2.qBit pl n i = if s.qBit pl n 10 then s1.qBit pl n i else (s1.qSetBit pl n 1 false).qBit pl n i := fun i => by
    have h10 : s1.qBit pl n 10 = s.qBit pl n 10 := s.qBit_qSetBit_ne pl n (by decide) true
    rw [← h10]
    exact apply_ite (fun t : State => t.qBit pl n i) _ _ _
  rw [hk.flags 2 (by unfold resvBits; omega), hk.flags 10 (by unfold resvBits; omega), hk.flags 1 (by unfold resvBits; omega),
    h2, h2, h2, s1.qBit_qSetBit_ne pl n (by decide), s1.qBit_qSetBit_ne pl n (by decide), s1.qBit_qSetBit pl n (by decide),
    s.qBit_qSetBit pl n (by decide), s.qBit_qSetBit_ne pl n (by decide), s.qBit_qSetBit_ne pl n (by decide)]
  cases s.qBit pl n 10 <;> simp

/-- What a drain after a loss leaves alone of the member. -/
theorem State.settleLeft_keeps (f : Nat) : ((s.settleLeft pl f).qdyn pl n).loss = (s.qdyn pl n).loss ∧
    ((s.settleLeft pl f).qdyn pl n).joinDue = (s.qdyn pl n).joinDue ∧ (s.settleLeft pl f).qHead pl n = s.qHead pl n := by
  have hstep : ∀ (t : State) (m : Nat), ((t.modQ pl m (fun d => { d with leaving := [] })).qdyn pl n).loss = (t.qdyn pl n).loss ∧
      ((t.modQ pl m (fun d => { d with leaving := [] })).qdyn pl n).joinDue = (t.qdyn pl n).joinDue := fun t m => by
    by_cases hm : m = n
    · subst hm
      rw [State.qdyn_modQ]
      exact ⟨rfl, rfl⟩
    · rw [State.qdyn, State.modQ, State.sb_modSb]
      dsimp only
      rw [Tab.rd_upd_ne _ _ _ _ (Ne.symm hm)]
      exact ⟨rfl, rfl⟩
  unfold State.settleLeft
  refine ⟨?_, ?_, ?_⟩
  · refine foldl_same _ _ (fun t => (State.qdyn t pl n).loss) (fun t m => ?_) s
    dsimp only
    split
    · rw [State.qSetBit, State.qdyn_qdset]
      exact (hstep t m.2).1
    · rfl
  · refine foldl_same _ _ (fun t => (State.qdyn t pl n).joinDue) (fun t m => ?_) s
    dsimp only
    split
    · rw [State.qSetBit, State.qdyn_qdset]
      exact (hstep t m.2).2
    · rfl
  · refine foldl_same _ _ (fun t => State.qHead t pl n) (fun t m => ?_) s
    dsimp only
    split
    · have hk : t.KeepsQueue (fun i => i = 10) pl n ((t.modQ pl m.2 (fun d => { d with leaving := [] })).qSetBit pl m.2 10 true) :=
        (State.KeepsQueue.modSb t _).trans (.qdset34 _ m.2 10 1 _ (fun i h1 h2 => by omega))
      exact congrArg (fun w => fld w 0 32) (hk.words 0x2C (by decide) (by decide))
    · rfl

/-- A loss that has re-admitted every message ends (R177). -/
theorem execLossFinish_ends {l : Loss} (hr : s.runs pl = true) (hl : ((s.lossStep pl n).qdyn pl n).loss = some l)
    (hd : l.readsDone = true) (he : l.next = l.finish) (hwr : l.waitRec = false) (hwd : l.waitData = false)
    (ht : ((s.lossStep pl n).qdyn pl n).taken = []) :
    ∃ t : State, execLossFinish pl n s = .next t ∧ (t.qdyn pl n).loss = none ∧ (t.qdyn pl n).joinDue = l.joinAfter ∧
      t.qHead pl n = (s.lossStep pl n).qTail pl n := by
  unfold execLossFinish
  rw [inPlane_runs hr]
  extract_lets u f ks v
  have hks : ks = [] := ht
  rw [hl]
  dsimp only
  rw [if_neg (by rw [hd, hwr, hwd]; simp [he]), hks, List.foldl_nil, State.drain_none _ pl _ [] (fun _ _ _ => rfl), List.foldl_nil]
  obtain ⟨hloss, hjoin, hhead⟩ := State.settleLeft_keeps (v.modQ pl n (fun d =>
    { d with
      loss := none
      taken := []
      joinDue := l.joinAfter })) pl n f
  refine ⟨_, rfl, hloss.trans ?_, hjoin.trans ?_, hhead.trans ?_⟩
  · rw [State.qdyn_modQ]
  · rw [State.qdyn_modQ]
  · rw [State.qHead, State.qd_modQ, ← State.qHead, State.qHead_setHead]
    exact Nat.mod_eq_of_lt (fld_lt _ _ _)

/-! #### Redelivery reads (R177 step 3) -/

section

variable {s pl n} {t : State} {q seq st : Nat} {k : Packet} {o : SbOut} {l : Loss} (hr : s.runs pl = true)
  (hs : s.sbResponse pl q 4 isRedelivery = some (k, o, st, t)) (hl : (t.qdyn pl n).loss = some l) (hseq : l.next = seq)
include hr hs hl hseq

theorem execRedeliveryRead_record (ho : o.purpose = .redeliverRec n seq) (hw : l.waitRec = true) :
    execRedeliveryRead pl q s = .next (if st = stOk then t.recordRead pl n seq k.line0 l else t.skipMessage pl n l) := by
  unfold execRedeliveryRead
  rw [inPlane_runs hr]
  split
  next h => cases (h.symm.trans hs :)
  next h =>
    cases Option.some.inj (h.symm.trans hs)
    rw [ho]
    dsimp only
    rw [hl]
    dsimp only
    rw [if_neg (by rw [hw]; simp [hseq])]

theorem execRedeliveryRead_payload (ho : o.purpose = .redeliver n seq) (hw : l.waitData = true) :
    execRedeliveryRead pl q s = .next (if st = stOk then
      (t.modQ pl n (fun x => { x with loss := some { l with waitData := false, flits := k.flits } })).lossStep pl n
      else t.skipMessage pl n l) := by
  unfold execRedeliveryRead
  rw [inPlane_runs hr]
  split
  next h => cases (h.symm.trans hs :)
  next h =>
    cases Option.some.inj (h.symm.trans hs)
    rw [ho]
    dsimp only
    rw [hl]
    dsimp only
    rw [if_neg (by rw [hw]; simp [hseq])]

end

end

/-- Settles O18: a drain of key slots with nothing held only clears them (`State.drain_none`), and no step of a loss touches the
flags of the member (`State.KeepsQueue.lossStep`). -/
theorem flockUpkeep : Obligations.FlockUpkeep := by
  unfold Obligations.FlockUpkeep
  refine ⟨fun s pl hr => ⟨fun f k h => execHeldMessageAdmit_ready s pl hr h, fun f k h hh t ht => ?_,
      fun hn hat hj => ⟨s.rebalancing pl, execRebalanceBoundary_due s pl hr hn hat hj, s.mem_rebalancing pl⟩,
      fun n hm hw => execKeywaitExpiry_waited s pl n hr hm hw, fun n hm hv hl hn => s.qBit_loseMember pl n hm hv hl hn,
      fun n l hn hl hd he hwr hwd ht => execLossFinish_ends s pl n hr hl hd he hwr hwd ht⟩,
    fun s t pl q n seq st k o l hr hs hl hseq => ⟨fun ho hw hst => ?_, fun ho hw hst => ?_, fun ho hst => ?_⟩⟩
  · cases (execHeldMessageAdmit_ready s pl hr h).symm.trans ht
    exact s.bit_kEntry_drain pl h hh
  · exact (execRedeliveryRead_record hr hs hl hseq ho hw).trans (by rw [if_pos hst])
  · exact (execRedeliveryRead_payload hr hs hl hseq ho hw).trans (by rw [if_pos hst])
  · rcases ho with ⟨ho, hw⟩ | ⟨ho, hw⟩
    · exact (execRedeliveryRead_record hr hs hl hseq ho hw).trans (by rw [if_neg hst])
    · exact (execRedeliveryRead_payload hr hs hl hseq ho hw).trans (by rw [if_neg hst])

end Sys2Proof.Machine

namespace Sys2Proof.Machine

/-! ### Port-live and the reset handshake (R81, R362 to R365) -/

/-- What an NI keeps for its unit, and the presented requests that have no answer yet. -/
def Ni.asked (n : Ni) : Ni := { n with
  jobs := []
  rets := []
  tx := [] }

/-- A port apart from what has left its NI for plane B. -/
def Port.held (x : Port) : Port := { x with ingress := [] }

section

variable (s : State) (p : Nat) (pl q : Pl)

/-! #### Answering without presenting (R81, R365) -/

theorem State.held_modNi (f : Ni → Ni) (i : Nat) : ((s.modNi pl p f).port i).held = (s.port i).held := congrArg Port.held (State.port_modNi ..)

theorem State.asked_modNi (f : Ni → Ni) (h : ∀ n, (f n).asked = n.asked) (i : Nat) : ((s.modNi pl p f).ni pl i).asked = (s.ni pl i).asked := by
  by_cases hi : i = p
  · subst hi
    rw [State.ni_modNi, h]
  · rw [State.ni_modNi_ne s pl hi]

/-- What passes an answer on from an NI: it changes neither what the NI keeps nor another plane, and of the ports only what is
under way to plane B. -/
structure State.Sends (pl : Pl) (s t : State) : Prop where
  asked : ∀ i, (t.ni pl i).asked = (s.ni pl i).asked
  other : ∀ q i, q ≠ pl → t.ni q i = s.ni q i
  ports : ∀ i, (t.port i).held = (s.port i).held

namespace State.Sends

variable {pl} {r s t : State}

theorem refl (s : State) : s.Sends pl s := ⟨fun _ => rfl, fun _ _ _ => rfl, fun _ => rfl⟩

theorem trans (h : r.Sends pl s) (k : s.Sends pl t) : r.Sends pl t :=
  ⟨fun i => (k.asked i).trans (h.asked i), fun q i hq => (k.other q i hq).trans (h.other q i hq), fun i => (k.ports i).trans (h.ports i)⟩

theorem modNi (s : State) (p : Nat) (f : Ni → Ni) (h : ∀ n, (f n).asked = n.asked) : s.Sends pl (s.modNi pl p f) :=
  ⟨s.asked_modNi p pl f h, fun _ i hq => State.ni_modNi_other s hq p f i, s.held_modNi p pl f⟩

theorem modPort (s : State) (p : Nat) (f : Port → Port) (h : ∀ x, (f x).held = x.held) : s.Sends pl (s.modPort p f) where
  asked i := congrArg Ni.asked (State.ni_modPort ..)
  other q i _ := State.ni_modPort ..
  ports i := by
    by_cases hi : i = p
    · subst hi
      rw [State.port_modPort, h]
    · rw [State.port_modPort_ne s hi]

theorem niPass (s : State) (p vc : Nat) (fs : List Flit) : s.Sends pl (s.niPass pl p vc fs) := by
  unfold State.niPass
  dsimp only
  split
  · exact modPort s p _ (fun _ => rfl)
  · exact modNi s p _ (fun _ => rfl)

theorem usedFree (s : State) : s.Sends pl (s.usedFree pl) where
  asked i := by cases pl <;> rfl
  other q i _ := by cases pl <;> cases q <;> rfl
  ports i := by cases pl <;> rfl

theorem freeLines (s : State) (n : Nat) : s.Sends pl (State.freeLines pl n s).2 := by
  induction n generalizing s with
  | zero => exact refl s
  | succ n ih => exact (usedFree s).trans (ih _)

theorem respond (s : State) (p src vc tag priv owner gts status : Nat) (lines : List Line) :
    s.Sends pl (s.respond pl p src vc tag priv owner gts status lines) := by
  unfold State.respond
  dsimp only
  split
  · refine modNi s p _ (fun n => ?_)
    unfold Ni.queueRet
    split <;> rfl
  · exact niPass s p _ _

theorem finishJob (s : State) (p : Nat) (j : Job) (status : Nat) (lines : List Line) : s.Sends pl (s.finishJob pl p j status lines) := by
  have h : s.Sends pl (s.modNi pl p (fun n => { n with jobs := n.jobs.filter (fun x => decide (x.id ≠ j.id)) })) :=
    modNi s p _ (fun _ => rfl)
  exact h.trans (respond _ p _ _ _ _ _ _ _ _)

theorem foldl {β : Type} (l : List β) (f : State → β → State) (h : ∀ t x, State.Sends pl t (f t x)) (s : State) : s.Sends pl (l.foldl f s) := by
  induction l generalizing s with
  | nil => exact refl s
  | cons x l ih => exact (h s x).trans (ih (f s x))

end State.Sends

/-- The accepted requests are answered with POISON: the NI presents nothing any more, and keeps what else it had. -/
theorem State.asked_poisonJobs : ((s.poisonJobs p pl).ni pl p).asked = { (s.ni pl p).asked with pres := [] } := by
  unfold State.poisonJobs
  extract_lets js t
  have h := State.Sends.foldl js (fun t j =>
    ((State.freeLines pl (answerFlits j.kind j.span) t).2.finishJob pl p j stPoison (State.freeLines pl (answerFlits j.kind j.span) t).1))
    (fun t j => (State.Sends.freeLines t _).trans (.finishJob _ p j _ _)) t
  refine (h.asked p).trans ?_
  rw [State.ni_modNi]
  rfl

theorem State.ni_poisonJobs_other (hq : q ≠ pl) (i : Nat) : (s.poisonJobs p pl).ni q i = s.ni q i := by
  unfold State.poisonJobs
  extract_lets js t
  have h := State.Sends.foldl js (fun t j =>
    ((State.freeLines pl (answerFlits j.kind j.span) t).2.finishJob pl p j stPoison (State.freeLines pl (answerFlits j.kind j.span) t).1))
    (fun t j => (State.Sends.freeLines t _).trans (.finishJob _ p j _ _)) t
  exact (h.other q i hq).trans (State.ni_modNi_other s hq p _ i)

theorem State.held_poisonJobs (i : Nat) : ((s.poisonJobs p pl).port i).held = (s.port i).held := by
  unfold State.poisonJobs
  extract_lets js t
  have h := State.Sends.foldl js (fun t j =>
    ((State.freeLines pl (answerFlits j.kind j.span) t).2.finishJob pl p j stPoison (State.freeLines pl (answerFlits j.kind j.span) t).1))
    (fun t j => (State.Sends.freeLines t _).trans (.finishJob _ p j _ _)) t
  exact (h.ports i).trans (s.held_modNi p pl _ i)

/-! #### A unit is lost without the handshake (R365) -/

/-- A port that begins to answer with POISON. -/
def Port.poisoned (x : Port) (fc : Nat) : Port := { x with
  ready := false
  draining := false
  poisoning := true
  poisonFrom := fc }

theorem State.startPoison_eq (h : (s.port p).live = true) :
    s.startPoison p = (s.modPort p (fun x => x.poisoned s.fc)).eachPlane (fun pl t => t.poisonJobs p pl) := by
  unfold State.startPoison
  rw [if_pos h]
  rfl

theorem State.held_startPoison (h : (s.port p).live = true) : ((s.startPoison p).port p).held = ((s.port p).poisoned s.fc).held := by
  rw [s.startPoison_eq p h]
  refine (State.eachPlane_same _ _ (fun t => (State.port t p).held) (fun q t => t.held_poisonJobs p q p)).trans ?_
  rw [State.port_modPort]

theorem State.asked_startPoison (h : (s.port p).live = true) (hr : s.runs pl = true) :
    ((s.startPoison p).ni pl p).asked = { (s.ni pl p).asked with pres := [] } := by
  rw [s.startPoison_eq p h]
  obtain ⟨u, -, hu, hout⟩ := State.eachPlane_read (s := s.modPort p (fun x => x.poisoned s.fc)) (pl := pl) hr
    (fun pl t => t.poisonJobs p pl) (fun _ => True) (fun t => (State.ni t pl p)) trivial (fun _ _ _ _ => trivial)
    (fun q t hq => t.ni_poisonJobs_other p q pl hq.symm p)
  rw [congrArg Ni.asked hout, u.asked_poisonJobs p pl, hu, State.ni_modPort]

/-- What the unit's loss makes of the NI in each plane: `f` in each, and nothing is presented any more. -/
theorem State.asked_lost (f : Ni → Ni) (hl : (s.port p).live = true) (hr : s.runs pl = true) :
    (((s.eachPlane (fun pl t => t.modNi pl p f)).startPoison p).ni pl p).asked = { (f (s.ni pl p)).asked with pres := [] } := by
  have hport : (s.eachPlane (fun pl t => t.modNi pl p f)).port p = s.port p :=
    State.eachPlane_same s _ (fun t => State.port t p) (fun q t => State.port_modNi ..)
  have hruns : (s.eachPlane (fun pl t => t.modNi pl p f)).runs pl = s.runs pl :=
    State.runs_congr (State.eachPlane_same s _ State.variant (fun q t => t.modNi_variant q p f))
      (State.eachPlane_same s _ State.pair (fun q t => t.modNi_pair q p f)) pl
  obtain ⟨u, -, hu, hout⟩ := State.eachPlane_read hr (fun pl t => t.modNi pl p f) (fun _ => True) (fun t => (State.ni t pl p)) trivial
    (fun _ _ _ _ => trivial) (fun q t hq => State.ni_modNi_other t hq.symm p f p)
  rw [State.asked_startPoison _ p pl (by rw [hport]; exact hl) (by rw [hruns]; exact hr), hout, State.ni_modNi, hu]

theorem State.held_lost (f : Ni → Ni) (hl : (s.port p).live = true) :
    (((s.eachPlane (fun pl t => t.modNi pl p f)).startPoison p).port p).held = ((s.port p).poisoned s.fc).held := by
  have hport : (s.eachPlane (fun pl t => t.modNi pl p f)).port p = s.port p :=
    State.eachPlane_same s _ (fun t => State.port t p) (fun q t => State.port_modNi ..)
  have hfc : (s.eachPlane (fun pl t => t.modNi pl p f)).fc = s.fc := State.eachPlane_same s _ State.fc (fun q t => t.modNi_fc q p f)
  rw [State.held_startPoison _ p (by rw [hport]; exact hl), hport, hfc]

variable (hp : s.isPort p = true) (hack : (s.port p).prstAck = false) (hl : (s.port p).live = true)

/-- The block as PRST_N asserts. -/
def State.assertReset : State := s.modPort p (fun x => { x with inReset := true })

/-- The block as UNIT_UP falls. -/
def State.unitLost : State := s.modPort p (fun x => { x with unitUp := false })

include hp hack

theorem execPortResetAssert_lost : execPortResetAssert p s =
    .next (((s.assertReset p).eachPlane (fun pl t => t.modNi pl p Ni.resetEnd)).startPoison p) := by
  have hport : ((s.assertReset p).eachPlane (fun pl t => t.modNi pl p Ni.resetEnd)).port p = (s.assertReset p).port p :=
    State.eachPlane_same _ _ (fun t => State.port t p) (fun q t => State.port_modNi ..)
  have hno : (((s.assertReset p).eachPlane (fun pl t => t.modNi pl p Ni.resetEnd)).port p).prstAck = false := by
    rw [hport, State.assertReset, State.port_modPort]
    exact hack
  unfold execPortResetAssert
  rw [if_pos hp]
  dsimp only
  rw [← State.assertReset, hno, if_neg Bool.false_ne_true]

include hl

theorem execUnitDown_lost : execUnitDown p s = .next (((s.unitLost p).eachPlane (fun pl t => t.modNi pl p Ni.dropInit)).startPoison p) := by
  have hno : (((s.unitLost p).port p).prstAck || !((s.unitLost p).port p).live) = false := by
    rw [State.unitLost, State.port_modPort]
    dsimp only
    rw [hack, hl]
    rfl
  unfold execUnitDown
  rw [if_pos hp]
  dsimp only
  rw [← State.unitLost, hno, if_neg Bool.false_ne_true]

end

end Sys2Proof.Machine

namespace Sys2Proof.Machine

section

variable (s : State) (p : Nat) (pl : Pl)

/-! ### Port-live rises and falls (R81, R362, R363) -/

theorem State.port_risePort (i : Nat) : (s.risePort p).port i = (s.modPort p (fun x => { x with
    unitUp := true
    live := true
    ready := s.done || s.minimal
    draining := false
    poisoning := false })).port i :=
  State.eachPlane_same _ _ (fun t => State.port t i) (fun _ _ => State.port_modSb ..)

theorem execPortLiveRise_may (h0 : s.fcInSlot = 0) (h : s.mayRise p = true) : execPortLiveRise p s = .next (s.risePort p) := by
  rw [execPortLiveRise, if_pos ⟨h0, h⟩]

theorem execPortLiveFall_may (hp : s.isPort p = true) (h : s.mayFall p = true) : execPortLiveFall p s = .next (s.fallPort p) := by
  rw [execPortLiveFall, if_pos (by rw [hp, h]; rfl)]

theorem State.ni_portDown : (s.portDown p pl).ni pl p = (s.ni pl p).fall := by
  unfold State.portDown
  rw [State.ni_of_outer (State.outer_queuesPortDown _ pl p), State.ni_of_outer (State.outer_bwEndDown _ pl p), State.ni_modRouter,
    State.ni_modNi]

theorem State.ni_portDown_other {q : Pl} (hq : q ≠ pl) (i : Nat) : (s.portDown p pl).ni q i = s.ni q i := by
  unfold State.portDown
  rw [State.ni_of_outer (State.outer_queuesPortDown _ pl p), State.ni_of_outer (State.outer_bwEndDown _ pl p), State.ni_modRouter,
    State.ni_modNi_other s hq]

/-- The port and its comparator as port-live falls, before the planes follow. -/
def State.portOff : State :=
  let t := s.modPort p Port.fallen
  { t with pair := { t.pair with cmp := t.pair.cmp.upd p {} Cmp.flush } }

theorem State.runs_portOff : (s.portOff p).runs pl = s.runs pl := by cases pl <;> rfl

/-- A fallen port's NI is empty in every plane in service. -/
theorem State.ni_fallPort (hr : s.runs pl = true) : ∃ n : Ni, (s.fallPort p).ni pl p = n.fall := by
  obtain ⟨u, -, -, hout⟩ := State.eachPlane_read ((s.runs_portOff p pl).trans hr) (fun pl t => t.portDown p pl) (fun _ => True)
    (fun t => (State.ni t pl p)) trivial (fun _ _ _ _ => trivial) (fun q t hq => t.ni_portDown_other p q hq.symm p)
  exact ⟨u.ni pl p, (show (s.fallPort p).ni pl p = _ from hout).trans (u.ni_portDown p pl)⟩

/-! ### The reset handshake (R363, R365) -/

/-- A port whose reset request is withdrawn. -/
def State.withdrawn : State :=
  s.modPort p (fun x => { x with
    prstReq := false
    prstAck := false
    draining := x.draining && s.quireClosed (p / 24)
    ready := x.live && !x.poisoning && !s.quireClosed (p / 24) && (s.done || s.minimal) })

theorem execPortResetWithdraw_asked (hp : s.isPort p = true) (h : (s.port p).prstReq = true) :
    execPortResetWithdraw p s = .next (s.withdrawn p) := by
  rw [execPortResetWithdraw, if_pos (by rw [hp, h]; rfl)]
  rfl

theorem State.port_withdrawn : (s.withdrawn p).port p = { s.port p with
    prstReq := false
    prstAck := false
    draining := (s.port p).draining && s.quireClosed (p / 24)
    ready := (s.port p).live && !(s.port p).poisoning && !s.quireClosed (p / 24) && (s.done || s.minimal) } := s.port_modPort p _

/-- A live port whose unit is reset without the handshake (R365). -/
theorem portResetAssert_poisons (hp : s.isPort p = true) (hack : (s.port p).prstAck = false) (hl : (s.port p).live = true) :
    ∃ t : State, exec (.portResetAssert p) s = .next t ∧ (t.port p).inReset = true ∧ (t.port p).poisoning = true ∧
      (t.port p).poisonFrom = s.fc ∧ (t.port p).ready = false ∧
      ∀ pl, s.runs pl = true → (t.ni pl p).reqs = [] ∧ (t.ni pl p).out = [] ∧ (t.ni pl p).pres = [] ∧ (t.ni pl p).unkeyed = 0 ∧
        (t.ni pl p).recSeq = 0 := by
  have hx : (s.assertReset p).port p = { s.port p with inReset := true } := s.port_modPort p _
  have hlive : ((s.assertReset p).port p).live = true := by rw [hx]; exact hl
  have hport := (s.assertReset p).held_lost p Ni.resetEnd hlive
  rw [hx] at hport
  refine ⟨_, execPortResetAssert_lost s p hp hack, (congrArg Port.inReset hport :), (congrArg Port.poisoning hport :),
    (congrArg Port.poisonFrom hport :), (congrArg Port.ready hport :), fun pl hr => ?_⟩
  have hni := (s.assertReset p).asked_lost p pl Ni.resetEnd hlive hr
  exact ⟨(congrArg Ni.reqs hni :), (congrArg Ni.out hni :), (congrArg Ni.pres hni :), (congrArg Ni.unkeyed hni :), (congrArg Ni.recSeq hni :)⟩

/-- A live port whose UNIT_UP falls (R365). -/
theorem unitDown_poisons (hp : s.isPort p = true) (hack : (s.port p).prstAck = false) (hl : (s.port p).live = true) :
    ∃ t : State, exec (.unitDown p) s = .next t ∧ (t.port p).unitUp = false ∧ (t.port p).poisoning = true ∧
      (t.port p).poisonFrom = s.fc ∧ (t.port p).ready = false ∧
      ∀ pl, s.runs pl = true → (t.ni pl p).reqs = [] ∧ (t.ni pl p).out = [] ∧ (t.ni pl p).pres = [] ∧
        (t.ni pl p).unkeyed = (s.ni pl p).unkeyed := by
  have hx : (s.unitLost p).port p = { s.port p with unitUp := false } := s.port_modPort p _
  have hlive : ((s.unitLost p).port p).live = true := by rw [hx]; exact hl
  have hport := (s.unitLost p).held_lost p Ni.dropInit hlive
  rw [hx] at hport
  refine ⟨_, execUnitDown_lost s p hp hack hl, (congrArg Port.unitUp hport :), (congrArg Port.poisoning hport :),
    (congrArg Port.poisonFrom hport :), (congrArg Port.ready hport :), fun pl hr => ?_⟩
  have hni := (s.unitLost p).asked_lost p pl Ni.dropInit hlive hr
  have hbefore : (s.unitLost p).ni pl p = s.ni pl p := State.ni_modPort ..
  rw [hbefore] at hni
  exact ⟨(congrArg Ni.reqs hni :), (congrArg Ni.out hni :), (congrArg Ni.pres hni :), (congrArg Ni.unkeyed hni :)⟩

end

/-- Settles O19: a fall empties the NI in each plane's own turn (`State.ni_fallPort`); a unit lost without the handshake leaves the
answers with POISON, which change nothing else of the NI (`State.asked_poisonJobs`). -/
theorem portLifeAndResets : Obligations.PortLifeAndResets := by
  unfold Obligations.PortLifeAndResets
  refine ⟨fun s p => ⟨fun h0 h => ?_, fun hp h => ?_⟩, fun s p hp => ⟨?_, ?_, fun h => ?_⟩,
    fun s p hp hack hl => ⟨portResetAssert_poisons s p hp hack hl, unitDown_poisons s p hp hack hl⟩⟩
  · refine ⟨_, execPortLiveRise_may s p h0 h, ?_, ?_, fun i hi => ?_⟩
    · rw [State.port_risePort, State.port_modPort]
    · rw [State.port_risePort, State.port_modPort]
    · rw [State.port_risePort, State.port_modPort_ne s hi]
  · refine ⟨_, execPortLiveFall_may s p hp h, ?_, ?_, ?_, fun i hi => s.port_fallPort_ne hi, fun pl hr => ?_⟩
    · rw [s.port_fallPort_same p]
      rfl
    · rw [s.port_fallPort_same p]
      rfl
    · rw [s.port_fallPort_same p]
      rfl
    · obtain ⟨n, hn⟩ := s.ni_fallPort p pl hr
      rw [hn]
      exact ⟨rfl, rfl, rfl, rfl, rfl⟩
  · exact congrArg Host.Outcome.next (if_pos hp)
  · exact congrArg Host.Outcome.next (if_pos hp)
  · refine ⟨_, execPortResetWithdraw_asked s p hp h, ?_, ?_, ?_, fun hc => ⟨?_, ?_⟩⟩
    · rw [State.port_withdrawn]
    · rw [State.port_withdrawn]
    · rw [State.port_withdrawn]
    · rw [State.port_withdrawn, hc, Bool.and_false]
    · rw [State.port_withdrawn, hc, Bool.not_false, Bool.and_true]

end Sys2Proof.Machine

namespace Sys2Proof.Machine

/-! ### Bursts and responses (R213, R218 to R223) -/

theorem rotatePick_none {l : List Nat} {p n : Nat} (h : rotatePick l p n = none) : l = [] := by
  cases l with
  | nil => rfl
  | cons x rest => cases h

section

variable (s : State) (pl : Pl) (e : Nat)

theorem State.chPrio_le (c : Nat) : s.chPrio pl e c ≤ 3 := by
  unfold State.chPrio
  split
  · exact Nat.le_refl 3
  · exact Nat.le_of_lt_succ (fld_lt _ 8 2)

/-- The ready channels of level `l`. -/
def State.readyAt (s : State) (pl : Pl) (e l : Nat) : List Nat :=
  ((List.range 32).filter (s.burstReady pl e)).filter (fun c => decide (s.chPrio pl e c = l))

theorem State.mem_readyAt {l c : Nat} : c ∈ s.readyAt pl e l ↔ c < 32 ∧ s.burstReady pl e c = true ∧ s.chPrio pl e c = l := by
  rw [State.readyAt, List.mem_filter, List.mem_filter, List.mem_range, decide_eq_true_eq, and_assoc]

/-- The level at which the pick is made: the highest at which a channel is ready. -/
theorem State.pickBurst_level {l c : Nat} (h : s.pickBurst pl e = some (l, c)) :
    c ∈ s.readyAt pl e l ∧ ∀ y, l < y → y ≤ 3 → s.readyAt pl e y = [] := by
  have hat (y : Nat) : ((rotatePick (s.readyAt pl e y) ((s.mul pl e).rr.rd y 0) 32).map (fun c => (y, c)) = none → s.readyAt pl e y = []) ∧
      ((rotatePick (s.readyAt pl e y) ((s.mul pl e).rr.rd y 0) 32).map (fun c => (y, c)) = some (l, c) → y = l ∧ c ∈ s.readyAt pl e l) := by
    refine ⟨fun hn => rotatePick_none (Option.map_eq_none_iff.mp hn), fun hs => ?_⟩
    obtain ⟨x, hx, hxy⟩ := Option.map_eq_some_iff.mp hs
    cases hxy
    exact ⟨rfl, rotatePick_mem hx⟩
  obtain ⟨l1, y, l2, hl, hy, hbefore⟩ := List.findSome?_eq_some_iff.mp (show [3, 2, 1, 0].findSome?
    (fun l => (rotatePick (s.readyAt pl e l) ((s.mul pl e).rr.rd l 0) 32).map (fun c => (l, c))) = some (l, c) from h)
  obtain ⟨rfl, hc⟩ := (hat y).2 hy
  refine ⟨hc, fun x hlt hx => (hat x).1 (hbefore x ?_)⟩
  have hsorted : (l1 ++ y :: l2).Pairwise (· > ·) := hl ▸ (by decide : [3, 2, 1, 0].Pairwise (· > ·))
  have hmem : x ∈ l1 ++ y :: l2 := hl ▸ (by simp; omega : x ∈ [3, 2, 1, 0])
  rcases List.mem_append.mp hmem with hm | hm
  · exact hm
  · rcases List.mem_cons.mp hm with rfl | hm
    · omega
    · have := (List.pairwise_cons.mp (List.pairwise_append.mp hsorted).2.1).1 x hm
      omega

/-- R218: the picked channel is ready, and no ready channel has a higher level. -/
theorem State.pickBurst_highest {l c : Nat} (h : s.pickBurst pl e = some (l, c)) : s.burstReady pl e c = true ∧ s.chPrio pl e c = l ∧
    ∀ x, x < 32 → s.burstReady pl e x = true → s.chPrio pl e x ≤ l := by
  obtain ⟨hc, hnone⟩ := s.pickBurst_level pl e h
  obtain ⟨-, hready, hprio⟩ := (s.mem_readyAt pl e).mp hc
  refine ⟨hready, hprio, fun x hx hr => ?_⟩
  refine Decidable.byContradiction fun hlt => ?_
  have hempty := hnone (s.chPrio pl e x) (by omega) (s.chPrio_le pl e x)
  have hmem := (s.mem_readyAt pl e).mpr ⟨hx, hr, rfl⟩
  rw [hempty] at hmem
  exact List.not_mem_nil hmem

variable {s pl e} (hr : s.runs pl = true)
include hr

section

variable (he : e < s.variant.mules) (hq : s.quireRuns (e / 2) = true)
include he hq

theorem execBurstStart_paused (hj : s.pair.joining ≠ none) : execBurstStart pl e s = .next (s.mulPump pl e) := by
  unfold execBurstStart
  rw [inPlane_runs hr, if_neg (by rw [hq]; simp [he]), if_pos (Option.isSome_iff_ne_none.mpr hj)]

/-- What an engine does in an fc before it picks a channel. -/
def State.prepared (s : State) (pl : Pl) (e : Nat) : State :=
  (List.range 32).foldl (fun t c => ((t.sendLists pl e c).judgeLists pl e c).burstMeets pl e c) (s.mulPump pl e)

theorem execBurstStart_picks (hj : s.pair.joining = none) {l c : Nat} (h : (s.prepared pl e).pickBurst pl e = some (l, c)) :
    execBurstStart pl e s =
      .next (((s.prepared pl e).startBurst pl e c).modMul pl e (fun m => { m with rr := m.rr.wr l ((c + 1) % 32) 0 })) := by
  unfold execBurstStart
  rw [inPlane_runs hr, if_neg (by rw [hq]; simp [he]), if_neg (by rw [hj]; decide)]
  dsimp only
  rw [← State.prepared, h]

end

variable {u : State} {c : Nat} {k : Packet} (hp : s.popMulIn pl e 4 = some (k, u))
include hp

theorem execListReadAnswer_owned (ho : (u.mul pl e).ownerOf (hTag k.hdr) = some (c, true)) (hpo : k.poison = false) :
    execListReadAnswer pl e s = .next (((((u.modMul pl e (fun m => { m with tags := m.tags.erase (hTag k.hdr) })).modChan pl e c
      (fun x => { x with listReads := x.listReads.map (fun q => q.answerBy (hTag k.hdr) k.status k.flits) })).judgeLists pl e c).finishStop
        pl e c).mulPump pl e) := by
  unfold execListReadAnswer
  rw [inPlane_runs hr, hp]
  dsimp only
  rw [ho]
  dsimp only
  rw [State.mulPoison, hpo, if_neg Bool.false_ne_true]

theorem execMuleResponse_burst (hf : (u.mul pl e).frozen.any (fun f => f.gtTags.contains (hTag k.hdr)) = false)
    (ho : (u.mul pl e).ownerOf (hTag k.hdr) = some (c, false)) : execMuleResponse pl e s =
      .next (((u.modMul pl e (fun m => { m with tags := m.tags.erase (hTag k.hdr) })).burstAnswer pl e c k).mulPump pl e) := by
  unfold execMuleResponse
  rw [inPlane_runs hr, hp]
  dsimp only
  rw [hf, if_neg Bool.false_ne_true, ho]

/-- The path fence of a freeze has been answered: no freeze waits for its tag any more. -/
theorem execMuleResponse_fence (hf : (u.mul pl e).frozen.any (fun f => f.gtTags.contains (hTag k.hdr)) = true) :
    ∃ t : State, execMuleResponse pl e s = .next t ∧ ∀ f ∈ (t.mul pl e).frozen, (hTag k.hdr) ∉ f.gtTags := by
  unfold execMuleResponse
  rw [inPlane_runs hr, hp]
  dsimp only
  rw [hf, if_pos rfl]
  refine ⟨_, rfl, fun f hm => ?_⟩
  rw [State.mul_modMul] at hm
  obtain ⟨x, -, hx⟩ := List.mem_map.mp hm
  subst hx
  split
  · exact List.not_mem_nil
  next hc => exact fun hin => hc (List.contains_iff_mem.mpr hin)

end

/-- Settles O29: the pick is made at the highest level with a ready channel (`State.pickBurst_level`); a response is found by its
tag. -/
theorem burstsAndResponses : Obligations.BurstsAndResponses := by
  unfold Obligations.BurstsAndResponses
  refine ⟨fun s pl e l c hr he hq hj => ?_, fun s pl e hr he hq hj => execBurstStart_paused hr he hq hj, fun s u pl e c k hr hp =>
    ⟨fun ho hpo => execListReadAnswer_owned hr hp ho hpo, fun hf ho => execMuleResponse_burst hr hp hf ho, fun hf => execMuleResponse_fence hr hp hf⟩⟩
  intro v h
  exact ⟨execBurstStart_picks hr he hq hj h, v.pickBurst_highest pl e h⟩

end Sys2Proof.Machine

namespace Sys2Proof.Machine

/-! ### A channel's words and state (R207, R220 to R223) -/

section

variable (s : State) (pl : Pl) (e c : Nat)

theorem State.chan_modChan (f : Chan → Chan) : (s.modChan pl e c f).chan pl e c = f (s.chan pl e c) := by
  unfold State.chan State.modChan
  rw [State.mul_modMul]
  exact Tab.rd_upd_same _ _ _ _

@[simp] theorem State.p_modChan (f : Chan → Chan) (q : Pl) (o : Nat) : (s.modChan pl e c f).p q o = s.p q o := State.p_modMul ..

theorem State.chan_of_mul {t : State} (h : t.mul pl e = s.mul pl e) : t.chan pl e c = s.chan pl e c := by
  rw [State.chan, h, State.chan]

theorem State.chan_pset (off : Nat) (v : W32) : (s.pset pl off v).chan pl e c = s.chan pl e c := s.chan_of_mul pl e c (State.mul_pset ..)

theorem State.chan_pfset (off lo len v : Nat) : (s.pfset pl off lo len v).chan pl e c = s.chan pl e c := s.chan_pset pl e c _ _

theorem State.chan_csetN (off v : Nat) : (s.csetN pl e c off v).chan pl e c = s.chan pl e c := s.chan_pset pl e c _ _

theorem State.chan_endChan (st code reason cause : Nat) : (s.endChan pl e c st code reason cause).chan pl e c = s.chan pl e c := by
  unfold State.endChan
  dsimp only
  rw [State.chan_pfset, State.chan_pfset, State.chan_pfset, State.chan_pfset]

/-- An event of a channel touches none of the channels' words. -/
theorem State.creg_chanEvent (hc : c < 32) (c' k : Nat) {off : Nat} (ho : off < 0x100) :
    (s.chanEvent pl e c' k).creg pl e c off = s.creg pl e c off := by
  unfold State.creg State.chanEvent
  rw [State.p_occurP]
  exact s.p_por_ne pl (by unfold bChan; omega) _

theorem State.chan_chanEvent (c' k : Nat) : (s.chanEvent pl e c' k).chan pl e c = s.chan pl e c := by
  refine s.chan_of_mul pl e c ?_
  unfold State.chanEvent
  rw [(State.Records.occurP (C := fun _ => False) (W := fun _ => False) _ pl (32 * e + c') 0).mul, State.por, State.mul_pset,
    State.mul_noteSet]

theorem State.creg_csetN {off v : Nat} : (s.csetN pl e c off v).creg pl e c off = BitVec.ofNat 32 v := s.p_pset pl _ _

theorem State.creg_csetN_ne {off o : Nat} (h : o ≠ off) (v : Nat) : (s.csetN pl e c off v).creg pl e c o = s.creg pl e c o :=
  s.p_pset_ne pl (by omega) _

theorem State.creg_modChan (f : Chan → Chan) (off : Nat) : (s.modChan pl e c f).creg pl e c off = s.creg pl e c off := State.p_modChan ..

/-- What the status word of a channel reads after its end: STATE, CODE, REASON and CAUSE. -/
theorem State.creg_endChan (st code reason cause : Nat) : (s.endChan pl e c st code reason cause).chanState pl e c = st % 8 ∧
    fld ((s.endChan pl e c st code reason cause).creg pl e c 0x44) 4 4 = code % 16 ∧
    fld ((s.endChan pl e c st code reason cause).creg pl e c 0x44) 8 4 = reason % 16 ∧
    fld ((s.endChan pl e c st code reason cause).creg pl e c 0x44) 12 3 = cause % 8 := by
  have hf (lo len : Nat) : fld ((s.endChan pl e c st code reason cause).creg pl e c 0x44) lo len =
      (s.endChan pl e c st code reason cause).pf pl (bChan e c + 0x44) lo len := rfl
  rw [hf, hf, hf, State.chanState]
  unfold State.endChan
  dsimp only
  refine ⟨?_, ?_, ?_, State.pf_pfset _ _ _ _ (by decide)⟩
  · rw [State.pf_pfset_of_disjoint _ _ _ _ (by decide), State.pf_pfset_of_disjoint _ _ _ _ (by decide),
      State.pf_pfset_of_disjoint _ _ _ _ (by decide)]
    exact State.pf_pfset _ _ _ _ (by decide)
  · rw [State.pf_pfset_of_disjoint _ _ _ _ (by decide), State.pf_pfset_of_disjoint _ _ _ _ (by decide)]
    exact State.pf_pfset _ _ _ _ (by decide)
  · rw [State.pf_pfset_of_disjoint _ _ _ _ (by decide)]
    exact State.pf_pfset _ _ _ _ (by decide)

theorem State.chanState_of_creg {t : State} (h : t.creg pl e c 0x44 = s.creg pl e c 0x44) : t.chanState pl e c = s.chanState pl e c :=
  congrArg (fld · 0 3) h

/-! ### DONE (R220 to R222) -/

theorem writtenScan_append (l1 l2 : List Burst) (h1 : ∀ b ∈ l1, b.writing = true ∧ b.len ≤ okBytes b.writes)
    (h2 : ∀ b ∈ l2.head?, (if b.writing then okBytes b.writes else 0) < b.len) : writtenScan (l1 ++ l2) =
      (l2, (l1.map (·.len)).sum + (l2.head?.map (fun b => if b.writing then okBytes b.writes else 0)).getD 0) := by
  induction l1 with
  | nil =>
    cases l2 with
    | nil => rfl
    | cons b rest =>
      have hb := h2 b rfl
      rw [List.nil_append, writtenScan]
      rw [if_pos hb]
      simp
  | cons b l1 ih =>
    obtain ⟨hw, hl⟩ := h1 b List.mem_cons_self
    have hrest := ih (fun x hx => h1 x (List.mem_cons_of_mem b hx))
    rw [List.cons_append, writtenScan]
    rw [hw, if_pos rfl, if_neg (by omega), hrest, List.map_cons, List.sum_cons, Nat.add_assoc]

theorem okBytes_append (l : List SubReq) (q : SubReq) (rest : List SubReq) (h : ∀ x ∈ l, x.done = true ∧ x.status = stOk)
    (hq : q.done = false ∨ q.status ≠ stOk) : okBytes (l ++ q :: rest) = (l.map SubReq.bytes).sum := by
  induction l with
  | nil =>
    rw [List.nil_append, okBytes, if_neg]
    · rfl
    · rintro ⟨hd, hs⟩
      rcases hq with hq | hq
      · rw [hq] at hd
        exact Bool.false_ne_true hd
      · exact hq hs
  | cons x l ih =>
    rw [List.cons_append, okBytes, if_pos (h x List.mem_cons_self), ih (fun y hy => h y (List.mem_cons_of_mem x hy)), List.map_cons,
      List.sum_cons]

/-- DONE as it is set; the half mark's event leaves it alone. -/
theorem State.setDone_keeps (hc : c < 32) (d : Nat) : (s.setDone pl e c d).creg pl e c 0x48 = BitVec.ofNat 32 d ∧
    ((s.setDone pl e c d).chan pl e c).bursts = (s.chan pl e c).bursts := by
  unfold State.setDone
  dsimp only
  split
  · split
    · rw [State.creg_chanEvent _ pl e c hc _ _ (by decide), State.chan_chanEvent, State.creg_modChan, State.chan_modChan, State.creg_csetN]
      exact ⟨rfl, (congrArg Chan.bursts (s.chan_csetN pl e c _ _) :)⟩
    · rw [State.creg_modChan, State.chan_modChan, State.creg_csetN]
      exact ⟨rfl, (congrArg Chan.bursts (s.chan_csetN pl e c _ _) :)⟩
  · rw [State.creg_csetN, State.chan_csetN]
    exact ⟨rfl, rfl⟩

theorem State.chanAdvance_moves (hc : c < 32) {b : Burst} {rest : List Burst} (hb : (s.chan pl e c).bursts = b :: rest)
    (hst : s.chanState pl e c = 1 ∨ s.chanState pl e c = 2) (hop : s.chOp pl e c ≠ 2) :
    (s.chanAdvance pl e c).creg pl e c 0x48 = BitVec.ofNat 32 (b.off + (writtenScan (b :: rest)).2) ∧
      ((s.chanAdvance pl e c).chan pl e c).bursts = (writtenScan (b :: rest)).1 := by
  have hcmp : s.comparing pl e c = false := by rw [State.comparing, decide_eq_false hop, Bool.false_and]
  unfold State.chanAdvance
  rw [hb]
  dsimp only
  rw [if_neg (by omega), hcmp, if_neg Bool.false_ne_true]
  obtain ⟨hd, hbs⟩ := (s.modChan pl e c (fun x => { x with bursts := (writtenScan (b :: rest)).1 })).setDone_keeps pl e c hc
    (b.off + (writtenScan (b :: rest)).2)
  exact ⟨hd, hbs.trans (congrArg Chan.bursts (s.chan_modChan pl e c _))⟩

/-- The completion event changes nothing of the channel. -/
theorem State.completed_keeps (hc : c < 32) {off : Nat} (ho : off < 0x100) :
    (if s.chMode pl e c 7 1 = 1 then s.chanEvent pl e c 1 else s).creg pl e c off = s.creg pl e c off := by
  split
  · exact s.creg_chanEvent pl e c hc _ _ ho
  · rfl

theorem State.reachedCount_once (hc : c < 32) (h : s.chMode pl e c 8 1 = 0) : (s.reachedCount pl e c).chanState pl e c = 3 := by
  have hm : (if s.chMode pl e c 7 1 = 1 then s.chanEvent pl e c 1 else s).chMode pl e c 8 1 = 0 := by
    rw [State.chMode, s.completed_keeps pl e c hc (by decide)]
    exact h
  unfold State.reachedCount
  dsimp only
  rw [if_neg (by omega)]
  exact (State.creg_endChan _ pl e c 3 stOk 0 0).1

theorem State.reachedCount_auto (hc : c < 32) (h : s.chMode pl e c 8 1 = 1) : ((s.reachedCount pl e c).chan pl e c).pos = 0 ∧
    (s.reachedCount pl e c).creg pl e c 0x48 = 0 ∧ (s.reachedCount pl e c).chanState pl e c = s.chanState pl e c := by
  have hm : (if s.chMode pl e c 7 1 = 1 then s.chanEvent pl e c 1 else s).chMode pl e c 8 1 = 1 := by
    rw [State.chMode, s.completed_keeps pl e c hc (by decide)]
    exact h
  unfold State.reachedCount
  dsimp only
  rw [if_pos hm]
  refine ⟨?_, ?_, State.chanState_of_creg _ pl e c ?_⟩
  · rw [State.chan_modChan]
  · rw [State.creg_modChan, State.creg_csetN]
    rfl
  · rw [State.creg_modChan, State.creg_csetN_ne _ pl e c (by decide), State.creg, State.p_pinc_ne _ pl (by omega), ← State.creg,
      s.completed_keeps pl e c hc (by decide)]

/-- A stopping channel with nothing outstanding and no failure is STOPPED. -/
theorem State.finishStop_stopped (hst : s.chanState pl e c = 2) (ho : (s.chan pl e c).outstanding = false)
    (hf : (s.chan pl e c).failed = []) : s.finishStop pl e c =
      (s.modChan pl e c (fun x => { x with
        bursts := []
        listReads := []
        listing := false })).endChan pl e c 4 stOk 0 (s.chan pl e c).stopCause := by
  unfold State.finishStop
  dsimp only
  rw [if_neg (by rw [ho]; simp [hst]), hf]
  rfl

theorem State.chanSettle_stopped (hb : (s.chan pl e c).bursts = []) (hst : s.chanState pl e c = 2)
    (ho : (s.chan pl e c).outstanding = false) (hf : (s.chan pl e c).failed = []) :
    (s.chanSettle pl e c).chanState pl e c = 4 ∧
      fld ((s.chanSettle pl e c).creg pl e c 0x44) 12 3 = (s.chan pl e c).stopCause % 8 := by
  have ha : s.chanAdvance pl e c = s := by
    unfold State.chanAdvance
    rw [hb]
  unfold State.chanSettle
  dsimp only
  rw [ha, if_neg (by rw [hst]; omega), s.finishStop_stopped pl e c hst ho hf]
  obtain ⟨hstate, -, -, hcause⟩ := State.creg_endChan (s.modChan pl e c (fun x => { x with
    bursts := []
    listReads := []
    listing := false })) pl e c 4 stOk 0 (s.chan pl e c).stopCause
  exact ⟨hstate, hcause⟩

end

/-- Settles O30: the scans by induction on their lists, DONE by `State.setDone`, the ends by the status word that `State.endChan`
leaves. -/
theorem doneAdvances : Obligations.DoneAdvances := by
  unfold Obligations.DoneAdvances
  refine ⟨writtenScan_append, fun l q h hq rest => okBytes_append l q rest h hq, fun s pl e c b he hc => ⟨fun rest hb hst hop hlt => ?_,
    s.reachedCount_once pl e c hc, fun h hst => ?_, fun hb hst ho hf => s.chanSettle_stopped pl e c hb hst ho hf⟩⟩
  · obtain ⟨hd, hbs⟩ := s.chanAdvance_moves pl e c hc hb hst hop
    refine ⟨?_, hbs⟩
    rw [hd, BitVec.toNat_ofNat]
    exact Nat.mod_eq_of_lt hlt
  · obtain ⟨hpos, hdone, hstate⟩ := s.reachedCount_auto pl e c hc h
    exact ⟨hpos, by rw [hdone]; rfl, hstate.trans hst⟩

end Sys2Proof.Machine

namespace Sys2Proof.Machine

/-! ### The commands of a channel (R207 to R210, R222) -/

section

variable (s : State) (r : CwReq) (e c off : Nat) (ben : BitVec 64) (hit : Line → Bool) (f : Pl → State → State)

/-! #### Access to the registers (R207 to R209) -/

theorem State.chanWriteStatus_cases (pl : Pl) :
    s.chanWriteStatus pl r e c ben = stProt ∨ s.chanWriteStatus pl r e c ben = stAlign ∨ s.chanWriteStatus pl r e c ben = stOk := by
  unfold State.chanWriteStatus
  split
  · exact .inl rfl
  · split
    · exact .inr (.inl rfl)
    · exact .inr (.inr rfl)

theorem stFirst_ok_chan (pl : Pl) : stFirst stOk (s.chanWriteStatus pl r e c ben) = s.chanWriteStatus pl r e c ben := by
  rcases s.chanWriteStatus_cases r e c ben pl with h | h | h <;> rw [h] <;> decide

section

variable {s r e c off ben hit f} (he : e < s.variant.mules) (hc : c < 32) (ho : off < 0x100)
include he hc ho

theorem State.chanWrite_window (h : s.writeAllowed r (bChan e c + off)) (hm : s.minimal = false)
    (hst : s.chanWriteStatus s.lead r e c ben = stOk) : s.chanWrite false r e c off ben hit f =
      .next (((s.touch (bChan e c)).eachPlane f).answer r stOk none) := by
  obtain ⟨htakes, hstatus, -⟩ := h
  unfold State.chanWrite State.chanWindow
  rw [if_neg (by simp [he, hc, ho]), if_neg Bool.false_ne_true, if_neg (by rw [htakes]; decide)]
  dsimp only
  rw [hstatus, hst, if_pos ⟨by decide, by rw [hm]; rfl⟩]
  rfl

theorem State.chanWrite_windowRefused (h : s.writeAllowed r (bChan e c + off)) (hst : s.chanWriteStatus s.lead r e c ben ≠ stOk) :
    s.chanWrite false r e c off ben hit f = .next (s.answer r (s.chanWriteStatus s.lead r e c ben) none) := by
  obtain ⟨htakes, hstatus, -⟩ := h
  unfold State.chanWrite State.chanWindow
  rw [if_neg (by simp [he, hc, ho]), if_neg Bool.false_ne_true, if_neg (by rw [htakes]; decide)]
  dsimp only
  rw [hstatus, stFirst_ok_chan, if_neg (fun hn => hst hn.1)]

/-- An aperture write that is allowed, on a part with one plane. -/
theorem State.chanWrite_aperture {k : Packet} {u : State} (hv : s.variant.paired = false) (hpo : k.poison = false)
    (ht : s.aperTake .a e r kWrite c off ben hit = some (k, u))
    (hst : u.chanWriteStatus .a { r with owner := hOwner k.hdr, priv := hPriv k.hdr } e c ben = stOk) :
    s.chanWrite true r e c off ben hit f =
      .next ((f .a { u with answers := u.answers ++ [{ src := r.src, tag := r.tag, status := stOk, data := 0 }] }).mulReply .a e r stOk none) := by
  have hra : s.runs .a = true := by
    unfold State.runs
    rw [hv]
    rfl
  have hrb : s.runs .b = false := by
    unfold State.runs
    rw [hv]
    rfl
  have hplanes : s.eachPlane (State.aperWrite r e c off ben hit f) = State.aperWrite r e c off ben hit f .a s := by
    simp [State.eachPlane, State.planes, hra, hrb]
  have hlead : Pl.a = s.lead := by rw [State.lead, hra, if_pos rfl]
  have hok : stFirst stOk stOk = stOk := by decide
  unfold State.chanWrite
  rw [if_neg (by simp [he, hc, ho]), if_pos rfl, hplanes]
  unfold State.aperWrite
  rw [ht]
  dsimp only
  rw [hst, hpo, if_neg Bool.false_ne_true, if_neg Bool.false_ne_true, hok, if_pos rfl, if_pos hlead]

end

end

/-! #### START and STOP (R209, R210, R222) -/

section

variable (s : State) (pl : Pl) (e c : Nat)

theorem State.chanCtrl_start : s.chanCtrl pl e c 1 = s.startChan pl e c := by
  have h1 : ¬ bit (1 : W32) 1 = true := by decide
  have h0 : bit (1 : W32) 0 = true := by decide
  rw [State.chanCtrl, if_neg h1, if_pos h0]

theorem State.chanCtrl_stop : s.chanCtrl pl e c 2 = s.mulStop pl e c 1 := by
  have h1 : bit (2 : W32) 1 = true := by decide
  rw [State.chanCtrl, if_pos h1]

/-- A channel that is neither RUNNING nor STOPPING, started without a list, runs from the start of its stream. -/
theorem State.startChan_runs (hi : s.chanState pl e c ≠ 1 ∧ s.chanState pl e c ≠ 2) (hk : s.startCheck pl e c = none)
    (hl : (s.sidesUsed pl e c).flatMap (fun d => (s.walk pl e c d).listReads d) = []) :
    s.startChan pl e c = (s.modChan pl e c (fun x => {
      nextOk := x.nextOk
      listReads := []
      listing := false })).runChan pl e c := by
  unfold State.startChan
  dsimp only
  rw [if_neg (by omega), hk]
  dsimp only
  rw [hl]
  rfl

theorem State.runChan_begins : (s.runChan pl e c).chanState pl e c = 1 ∧ (s.runChan pl e c).creg pl e c 0x48 = 0 ∧
    (s.runChan pl e c).chan pl e c = { s.chan pl e c with listing := false } := by
  unfold State.runChan
  refine ⟨?_, ?_, ?_⟩
  · refine (State.chanState_of_creg _ pl e c ?_).trans (s.creg_endChan pl e c 1 stOk 0 0).1
    rw [State.creg_modChan, State.creg_csetN_ne _ pl e c (by decide), State.creg_csetN_ne _ pl e c (by decide)]
  · rw [State.creg_modChan, State.creg_csetN_ne _ pl e c (by decide), State.creg_csetN]
    rfl
  · rw [State.chan_modChan, State.chan_csetN, State.chan_csetN, State.chan_endChan]

/-- CODE and REASON of a failed check (R210) fit their fields. -/
theorem State.startCheck_lt {code reason : Nat} (h : s.startCheck pl e c = some (code, reason)) : code < 16 ∧ reason < 16 := by
  unfold State.startCheck at h
  dsimp only at h
  repeat' split at h
  all_goals cases h
  all_goals decide

theorem State.startFails_ends (hc : c < 32) {code reason : Nat} (hcode : code < 16) (hreason : reason < 16) :
    (s.startFails pl e c code reason).chanState pl e c = 5 ∧
    fld ((s.startFails pl e c code reason).creg pl e c 0x44) 4 4 = code ∧
    fld ((s.startFails pl e c code reason).creg pl e c 0x44) 8 4 = reason := by
  obtain ⟨hstate, hfcode, hfreason, -⟩ := s.creg_endChan pl e c 5 code reason 0
  have hw : (s.startFails pl e c code reason).creg pl e c 0x44 = (s.endChan pl e c 5 code reason 0).creg pl e c 0x44 := by
    unfold State.startFails
    rw [State.creg_modChan, State.creg_chanEvent _ pl e c hc _ _ (by decide)]
  rw [State.chanState_of_creg _ pl e c hw, hw, hfcode, hfreason]
  exact ⟨hstate, Nat.mod_eq_of_lt hcode, Nat.mod_eq_of_lt hreason⟩

theorem State.startChan_fails (hi : s.chanState pl e c ≠ 1 ∧ s.chanState pl e c ≠ 2) {code reason : Nat}
    (hk : s.startCheck pl e c = some (code, reason)) : s.startChan pl e c = s.startFails pl e c code reason := by
  unfold State.startChan
  dsimp only
  rw [if_neg (by omega), hk]

theorem State.startChan_ignored (hi : s.chanState pl e c = 1 ∨ s.chanState pl e c = 2) : s.startChan pl e c = s.setIgnored pl e c := by
  unfold State.startChan
  dsimp only
  rw [if_pos hi]

/-- A refused START is noted, and changes nothing else of the channel's words. -/
theorem State.setIgnored_notes : bit ((s.setIgnored pl e c).creg pl e c 0x44) 15 = true ∧
    (s.setIgnored pl e c).chanState pl e c = s.chanState pl e c ∧ (s.setIgnored pl e c).creg pl e c 0x48 = s.creg pl e c 0x48 := by
  refine ⟨s.bit_por pl _ (by decide), ?_, s.p_por_ne pl (by omega) _⟩
  unfold State.chanState State.setIgnored State.pf State.por
  rw [State.p_pset]
  refine fld_congr fun i hi => ?_
  rw [Nat.zero_add, bit, bit, BitVec.getLsbD_or, Bool.or_eq_left_iff_imp]
  intro hb
  exact absurd hb (by rw [bitMask, BitVec.getLsbD_ofNat, Nat.testBit_two_pow_of_ne (by omega), Bool.and_false]; decide)

theorem State.mulStop_idle (h : s.chanState pl e c ≠ 1) (cause : Nat) : s.mulStop pl e c cause = s := by
  rw [State.mulStop, if_neg h]

/-- STOP of a channel with nothing outstanding stops it at once. -/
theorem State.mulStop_quiet (h : s.chanState pl e c = 1) (hb : (s.chan pl e c).bursts = []) (hl : (s.chan pl e c).listReads = []) :
    (s.mulStop pl e c 1).chanState pl e c = 4 ∧ fld ((s.mulStop pl e c 1).creg pl e c 0x44) 12 3 = 1 := by
  have ho : (s.chan pl e c).outstanding = false := by
    unfold Chan.outstanding
    rw [hb, hl]
    rfl
  have hst : s.stopChan pl e c 1 = (s.setChan pl e c 4 1).modChan pl e c (fun x => { x with
      stopCause := 1
      bursts := []
      listReads := []
      listing := false }) := by
    rw [State.stopChan, if_pos h, ho, if_neg Bool.false_ne_true]
  have hstate : (s.stopChan pl e c 1).chanState pl e c = 4 := by
    rw [hst, State.chanState, State.pf, State.p_modChan, ← State.pf, State.setChan, State.pf_pfset_of_disjoint _ _ _ _ (by decide)]
    exact State.pf_pfset _ _ _ _ (by decide)
  have hfin : (s.stopChan pl e c 1).finishStop pl e c = s.stopChan pl e c 1 := by
    unfold State.finishStop
    dsimp only
    rw [if_pos (by rw [hstate]; rfl)]
  rw [State.mulStop, if_pos h, hfin]
  refine ⟨hstate, ?_⟩
  rw [hst, State.creg, State.p_modChan]
  exact State.pf_pfset _ pl (bChan e c + 0x44) 1 (by decide)

end

/-! #### Parity errors (R146, R229) -/

section

variable (s : State) (pl : Pl) (e : Nat)

/-- The engine is faulty, and it is recorded and told. -/
def State.parityNoted : State :=
  ((s.modMul pl e (fun m => { m with fault := true })).por pl (bMul e + 0x2180) 1).occurP pl (386 + e) 1

/-- Every channel of the engine that runs or stops has ended. -/
def State.parityEnded : State := (List.range 32).foldl (fun t c => t.faultChan pl e c) (s.parityNoted pl e)

/-- The engine is known to the services as faulty. -/
def State.parityFault : State :=
  (s.parityEnded pl e).modSb pl (fun b => { b with badEngines := if b.badEngines.contains e then b.badEngines else b.badEngines ++ [e] })

theorem execMuleParityError_runs (hr : s.runs pl = true) (he : e < s.variant.mules) : execMuleParityError pl e s =
    .next (((s.parityFault pl e).migAbortAll pl 6 (fun m => decide (m.engine = e ∧ m.step ≤ 5))).planeFault pl 2 (epMule e) none) := by
  unfold execMuleParityError
  rw [inPlane_runs hr, if_neg (fun hn => hn he)]
  rfl

theorem State.faultChan_running (c : Nat) (h : s.chanState pl e c = 1 ∨ s.chanState pl e c = 2) :
    s.faultChan pl e c = (s.modChan pl e c (fun x => { x with
      bursts := []
      listReads := []
      listing := false })).endChan pl e c 5 stPoison 0 4 := by
  unfold State.faultChan
  dsimp only
  rw [if_pos h]

theorem State.faultChan_idle (c : Nat) (h : s.chanState pl e c ≠ 1 ∧ s.chanState pl e c ≠ 2) : s.faultChan pl e c = s := by
  unfold State.faultChan
  dsimp only
  rw [if_neg (by omega)]

theorem State.creg_faultChan_ne {c d : Nat} (h : d ≠ c) : (s.faultChan pl e c).creg pl e d 0x44 = s.creg pl e d 0x44 := by
  have hoff : bChan e d + 0x44 ≠ bChan e c + 0x44 := by unfold bChan; omega
  unfold State.faultChan
  dsimp only
  split
  · unfold State.endChan State.creg
    dsimp only
    rw [State.p_pfset_ne _ _ hoff, State.p_pfset_ne _ _ hoff, State.p_pfset_ne _ _ hoff, State.p_pfset_ne _ _ hoff, State.p_modChan]
  · rfl

theorem State.fault_faultChan (c : Nat) : ((s.faultChan pl e c).mul pl e).fault = (s.mul pl e).fault := by
  unfold State.faultChan
  dsimp only
  split
  · unfold State.endChan State.pfset
    dsimp only
    rw [State.mul_pset, State.mul_pset, State.mul_pset, State.mul_pset, State.modChan, State.mul_modMul]
  · rfl

theorem State.creg_parityNoted {c : Nat} (hc : c < 32) : (s.parityNoted pl e).creg pl e c 0x44 = s.creg pl e c 0x44 := by
  unfold State.parityNoted State.creg
  rw [State.p_occurP, State.p_por_ne _ pl (by have := hc; unfold bChan; omega), State.p_modMul]

/-- A channel's status word once the engine's channels have ended is what its own end makes of it. -/
theorem State.creg_parityFault {c : Nat} (hc : c < 32) : ∃ u : State, u.creg pl e c 0x44 = s.creg pl e c 0x44 ∧
    (s.parityFault pl e).creg pl e c 0x44 = (u.faultChan pl e c).creg pl e c 0x44 := by
  obtain ⟨u, hu, hout⟩ := foldl_once (List.range 32) List.nodup_range (fun t c => State.faultChan t pl e c)
    (fun t => State.creg t pl e c 0x44) (List.mem_range.2 hc) (fun t d hd => t.creg_faultChan_ne pl e hd.symm) (s.parityNoted pl e)
  exact ⟨u, hu.trans (s.creg_parityNoted pl e hc), (State.p_modSb ..).trans hout⟩

theorem State.fault_parityFault : ((s.parityFault pl e).mul pl e).fault = true := by
  have hend : ((s.parityEnded pl e).mul pl e).fault = ((s.parityNoted pl e).mul pl e).fault :=
    foldl_same _ _ (fun t => (State.mul t pl e).fault) (fun t c => t.fault_faultChan pl e c) (s.parityNoted pl e)
  rw [State.parityFault, State.mul_modSb, hend, State.parityNoted,
    (State.Records.occurP (C := fun _ => False) (W := fun _ => False) _ pl (386 + e) 1).mul, State.por, State.mul_pset, State.mul_noteSet,
    State.mul_modMul]

theorem State.badEngines_parityFault : e ∈ ((s.parityFault pl e).sb pl).badEngines := by
  rw [State.parityFault, State.sb_modSb]
  dsimp only
  split
  next h => exact List.contains_iff_mem.mp h
  next => exact List.mem_append_right _ (List.mem_singleton_self e)

/-- R229: what runs or stops ends in ERROR with POISON and cause 4; the other channels stay. -/
theorem State.parityFault_channels {c : Nat} (hc : c < 32) :
    (s.chanState pl e c = 1 ∨ s.chanState pl e c = 2 → (s.parityFault pl e).chanState pl e c = 5 ∧
      fld ((s.parityFault pl e).creg pl e c 0x44) 4 4 = stPoison ∧ fld ((s.parityFault pl e).creg pl e c 0x44) 12 3 = 4) ∧
    (s.chanState pl e c ≠ 1 → s.chanState pl e c ≠ 2 → (s.parityFault pl e).chanState pl e c = s.chanState pl e c) := by
  obtain ⟨u, hu, hout⟩ := s.creg_parityFault pl e hc
  have hus : u.chanState pl e c = s.chanState pl e c := State.chanState_of_creg _ pl e c hu
  have hend : (s.parityFault pl e).chanState pl e c = (u.faultChan pl e c).chanState pl e c := State.chanState_of_creg _ pl e c hout
  rw [hout, hend]
  refine ⟨fun h => ?_, fun h1 h2 => ?_⟩
  · rw [u.faultChan_running pl e c (by rw [hus]; exact h)]
    obtain ⟨hst, hcode, -, hcause⟩ := State.creg_endChan (u.modChan pl e c (fun x => { x with
      bursts := []
      listReads := []
      listing := false })) pl e c 5 stPoison 0 4
    exact ⟨hst, hcode, hcause⟩
  · rw [u.faultChan_idle pl e c (by rw [hus]; exact ⟨h1, h2⟩), hus]

end

/-- Settles O27: access by the two ways of `State.chanWrite`, START and STOP by the cases of R210 and R222, parity errors channel by
channel. -/
theorem channelRules : Obligations.ChannelRules := by
  unfold Obligations.ChannelRules
  refine ⟨fun s r e c off b he hc ho => ⟨fun h hm hst => State.chanWrite_window he hc ho h hm hst,
      fun h hst => State.chanWrite_windowRefused he hc ho h hst,
      fun h hm hst => ⟨State.chanWrite_window he hc (by decide) h hm hst, State.chanWrite_window he hc (by decide) h hm hst⟩,
      fun k u hv hpo => ⟨fun ht hst => State.chanWrite_aperture he hc ho hv hpo ht hst,
        fun ht hst => State.chanWrite_aperture he hc (by decide) hv hpo ht hst,
        fun ht hst => State.chanWrite_aperture he hc (by decide) hv hpo ht hst⟩⟩,
    fun s pl e c he hc => ?_, fun s pl e hr he => ⟨s.parityFault pl e, execMuleParityError_runs s pl e hr he, s.fault_parityFault pl e,
      s.badEngines_parityFault pl e, fun c hc => s.parityFault_channels pl e hc⟩⟩
  intro idle
  rw [s.chanCtrl_start pl e c, s.chanCtrl_stop pl e c]
  refine ⟨fun hi hk hl => ?_, fun code reason hi hk => ?_, fun hi => ?_, fun hst hb hl => s.mulStop_quiet pl e c hst hb hl,
    fun hi => s.mulStop_idle pl e c (of_decide_eq_true hi).1 1⟩
  · rw [s.startChan_runs pl e c (of_decide_eq_true hi) hk hl]
    obtain ⟨hstate, hdone, hchan⟩ := State.runChan_begins (s.modChan pl e c (fun x => {
      nextOk := x.nextOk
      listReads := []
      listing := false })) pl e c
    rw [State.chan_modChan] at hchan
    exact ⟨hstate, congrArg BitVec.toNat hdone, (congrArg Chan.pos hchan :), (congrArg Chan.bursts hchan :)⟩
  · obtain ⟨hcode, hreason⟩ := s.startCheck_lt pl e c hk
    rw [s.startChan_fails pl e c (of_decide_eq_true hi) hk]
    exact s.startFails_ends pl e c hc hcode hreason
  · have hrun : s.chanState pl e c = 1 ∨ s.chanState pl e c = 2 := by
      have := of_decide_eq_false hi
      omega
    rw [s.startChan_ignored pl e c hrun]
    exact s.setIgnored_notes pl e c

end Sys2Proof.Machine

namespace Sys2Proof.Machine

/-! ### Link retry (R253, R254)

A check failure takes flits out of a far end or changes one there, gives a credit word and notes the retry at the keeper: each
touches parts of the ends that the others leave alone.
-/

theorem State.router_modRouter_other (s : State) (pl : Pl) {b c : Bool} {i j : Nat} (h : ¬(c = b ∧ j = i)) (f : Router → Router) :
    (s.modRouter pl b i f).router pl c j = s.router pl c j := by
  by_cases hb : c = b
  · subst hb
    exact State.router_modRouter_ne s pl c (fun hj => h ⟨rfl, hj⟩) f
  · cases b <;> cases c <;> simp_all [State.router, State.modRouter]

/-- One part of each of the units at the ends of links, and the variant, are the same in plane `pl`. -/
structure State.KeepsEnds {α β γ δ ε : Type} (fr : Router → α) (fn : Ni → β) (fm : Mule → γ) (fb : Sb → δ) (fp : Port → ε) (pl : Pl)
    (s t : State) : Prop where
  variant : t.variant = s.variant
  routers : ∀ b i, fr (t.router pl b i) = fr (s.router pl b i)
  nis : ∀ p, fn (t.ni pl p) = fn (s.ni pl p)
  mules : ∀ e, fm (t.mul pl e) = fm (s.mul pl e)
  service : fb (t.sb pl) = fb (s.sb pl)
  ports : ∀ p, fp (t.port p) = fp (s.port p)

section

variable {α β γ δ ε : Type} {fr : Router → α} {fn : Ni → β} {fm : Mule → γ} {fb : Sb → δ} {fp : Port → ε} {pl : Pl} {r s t : State}

namespace State.KeepsEnds

theorem refl (s : State) : KeepsEnds fr fn fm fb fp pl s s := ⟨rfl, fun _ _ => rfl, fun _ => rfl, fun _ => rfl, rfl, fun _ => rfl⟩

theorem trans (h : KeepsEnds fr fn fm fb fp pl r s) (k : KeepsEnds fr fn fm fb fp pl s t) : KeepsEnds fr fn fm fb fp pl r t :=
  ⟨k.variant.trans h.variant, fun b i => (k.routers b i).trans (h.routers b i), fun p => (k.nis p).trans (h.nis p),
    fun e => (k.mules e).trans (h.mules e), k.service.trans h.service, fun p => (k.ports p).trans (h.ports p)⟩

theorem of_records {C W : Nat → Prop} (h : s.Records C W t) : KeepsEnds fr fn fm fb fp pl s t :=
  ⟨h.variant, fun b i => by rw [h.router], fun p => by rw [h.ni], fun e => by rw [h.mul], by rw [h.sb], fun p => by rw [h.port]⟩

theorem modRouter {f : Router → Router} (hf : ∀ x, fr (f x) = fr x) (b : Bool) (i : Nat) :
    KeepsEnds fr fn fm fb fp pl s (s.modRouter pl b i f) where
  variant := by simp [State.modRouter]
  routers c j := by
    by_cases h : c = b ∧ j = i
    · obtain ⟨rfl, rfl⟩ := h
      rw [State.router_modRouter, hf]
    · rw [State.router_modRouter_other s pl h]
  nis p := by simp
  mules e := by simp
  service := by simp
  ports p := by simp

theorem modNi {f : Ni → Ni} (hf : ∀ x, fn (f x) = fn x) (p : Nat) : KeepsEnds fr fn fm fb fp pl s (s.modNi pl p f) where
  variant := by simp
  routers c j := by simp
  nis q := by
    by_cases h : q = p
    · rw [h, State.ni_modNi, hf]
    · rw [State.ni_modNi_ne _ _ h]
  mules e := by simp
  service := by simp
  ports p := by simp

theorem modMul {f : Mule → Mule} (hf : ∀ x, fm (f x) = fm x) (e : Nat) : KeepsEnds fr fn fm fb fp pl s (s.modMul pl e f) where
  variant := by simp
  routers c j := by simp
  nis q := by simp
  mules q := by
    by_cases h : q = e
    · rw [h, State.mul_modMul, hf]
    · rw [State.mul_modMul_ne _ _ h]
  service := by simp
  ports p := by simp

theorem modSb {f : Sb → Sb} (hf : ∀ x, fb (f x) = fb x) : KeepsEnds fr fn fm fb fp pl s (s.modSb pl f) where
  variant := by simp
  routers c j := by simp
  nis q := by simp
  mules q := by simp
  service := by rw [State.sb_modSb, hf]
  ports p := by simp

theorem modPort {f : Port → Port} (hf : ∀ x, fp (f x) = fp x) (p : Nat) : KeepsEnds fr fn fm fb fp pl s (s.modPort p f) where
  variant := by simp
  routers c j := by simp
  nis q := by simp
  mules q := by simp
  service := by simp
  ports q := by
    by_cases h : q = p
    · rw [h, State.port_modPort, hf]
    · rw [State.port_modPort_ne _ h]

theorem ite {c : Prop} [Decidable c] {a b : State} (ha : KeepsEnds fr fn fm fb fp pl s a) (hb : KeepsEnds fr fn fm fb fp pl s b) :
    KeepsEnds fr fn fm fb fp pl s (if c then a else b) := by
  split
  · exact ha
  · exact hb

theorem foldl {ι : Type} {f : State → ι → State} (hf : ∀ t a, KeepsEnds fr fn fm fb fp pl t (f t a)) (l : List ι) (s : State) :
    KeepsEnds fr fn fm fb fp pl s (l.foldl f s) := by
  induction l generalizing s with
  | nil => exact .refl s
  | cons a l ih => exact (hf s a).trans (ih _)

/-- A credit that moves leaves what does not count credits. -/
theorem modCredit (hr : ∀ (x : Router) c, fr { x with cred := c } = fr x) (hn : ∀ (x : Ni) c, fn { x with txCred := c } = fn x)
    (hm : ∀ (x : Mule) c, fm { x with txCred := c } = fm x) (hb : ∀ (x : Sb) c, fb { x with txCred := c } = fb x) (o : OutPort)
    (vc : Nat) (g : Nat → Nat) : KeepsEnds fr fn fm fb fp pl s (s.modCredit pl o vc g) := by
  cases o with
  | niLink p => exact .modNi (fun x => hn x _) p
  | folio i k => exact .modRouter (fun x => hr x _) false i
  | quire i k => exact .modRouter (fun x => hr x _) true i
  | service q => exact .modSb (fun x => hb x _)
  | mule e => exact .modMul (fun x => hm x _) e

/-- The flits of a far end that change leave what does not hold them. -/
theorem modFar (hr : ∀ (x : Router) c, fr { x with buf := c } = fr x) (hn : ∀ (x : Ni) c d, fn { x with inbox := c, rx := d } = fn x)
    (hm : ∀ (x : Mule) c d, fm { x with inbox := c, rx := d } = fm x) (hb : ∀ (x : Sb) c d, fb { x with inbox := c, rx := d } = fb x)
    (e : FarEnd) (vc : Nat) (g : List Flit → List Flit) : KeepsEnds fr fn fm fb fp pl s (s.modFar pl e vc g) := by
  unfold State.modFar
  cases e with
  | router b i n => exact modRouter (fun x => hr x _) b i
  | ni p =>
    refine modNi (fun x => ?_) p
    split
    · exact hn x _ _
    · exact hn x _ _
  | mule m =>
    refine modMul (fun x => ?_) m
    split
    · exact hm x _ _
    · exact hm x _ _
  | service q =>
    refine modSb (fun x => ?_)
    split
    · exact hb x _ _
    · exact hb x _ _

end State.KeepsEnds

theorem State.KeepsEnds.pinc (off lo len n : Nat) : KeepsEnds fr fn fm fb fp pl s (s.pinc pl off lo len n) := by
  unfold State.pinc State.pfset
  exact ⟨by rw [State.pset_variant]; rfl, by simp, by simp, by simp, by simp, by simp⟩

theorem State.KeepsEnds.rtrEvent (b : Bool) (i c : Nat) : KeepsEnds fr fn fm fb fp pl s (s.rtrEvent pl b i c) :=
  .of_records (Records.rtrEvent (C := fun _ => True) (W := fun _ => True) s pl trivial c)

theorem State.KeepsEnds.countRtr (b : Bool) (i code qual : Nat) : KeepsEnds fr fn fm fb fp pl s (s.countRtr pl b i code qual) :=
  .of_records (s.countRtr_records pl b i code qual)

theorem State.KeepsEnds.reportLink (out : OutPort) (vc : Nat) : KeepsEnds fr fn fm fb fp pl s (s.reportLink pl out vc) :=
  ((State.KeepsEnds.pinc _ _ _ _).trans (.rtrEvent _ _ _)).trans (.countRtr _ _ _ _)

end

/-- The flits that wait at the far ends of links are the same. -/
def State.SameFar : Pl → State → State → Prop :=
  State.KeepsEnds Router.buf (fun n => (n.inbox, n.rx)) (fun m => (m.inbox, m.rx)) (fun b => (b.inbox, b.rx)) Port.gtRel

/-- The credits under way are the same. -/
def State.SameCred : Pl → State → State → Prop :=
  State.KeepsEnds Router.cred Ni.txCred Mule.txCred Sb.txCred (fun _ => ())

/-- The flits that wait to be resent are the same. -/
def State.SameRetry : Pl → State → State → Prop :=
  State.KeepsEnds Router.retryWait (fun _ => ()) (fun _ => ()) (fun _ => ()) (fun _ => ())

end Sys2Proof.Machine

namespace Sys2Proof.Machine

/-! #### The flits at a far end -/

section

variable (s : State) (pl : Pl) (out : OutPort) (got : LinkFlit) (f : Flit)

theorem State.farFlits_gt (hv : s.variant.paired = false) (p : Nat) :
    s.farFlits pl (.ni p) 0 = (s.port p).gtRel.flatMap (·.flits) := (if_neg (by simp [hv])).trans (if_pos rfl)

theorem State.farFlits_ni (hv : s.variant.paired = false) (p : Nat) {vc : Nat} (h : vc ≠ 0) :
    s.farFlits pl (.ni p) vc = if onArrival vc then (s.ni pl p).inbox.rd vc [] else (s.ni pl p).rx.rd vc [] :=
  (if_neg (by simp [hv])).trans (if_neg h)

variable {pl} in
theorem State.SameFar.farFlits {s t : State} (h : State.SameFar pl s t) (hv : s.variant.paired = false) (e : FarEnd) (vc : Nat) :
    t.farFlits pl e vc = s.farFlits pl e vc := by
  obtain ⟨hvar, hr, hn, hm, hb, hp⟩ := h
  have hvt : t.variant.paired = false := by rw [hvar, hv]
  cases e with
  | router b i n => unfold State.farFlits; dsimp only; rw [hr]
  | ni p =>
    by_cases h0 : vc = 0
    · subst h0
      rw [t.farFlits_gt pl hvt, s.farFlits_gt pl hv, hp]
    · obtain ⟨hin, hrx⟩ := Prod.mk.inj (hn p)
      rw [t.farFlits_ni pl hvt p h0, s.farFlits_ni pl hv p h0, hin, hrx]
  | mule m =>
    obtain ⟨hin, hrx⟩ := Prod.mk.inj (hm m)
    unfold State.farFlits
    dsimp only
    rw [hin, hrx]
  | service q =>
    obtain ⟨hin, hrx⟩ := Prod.mk.inj hb
    unfold State.farFlits
    dsimp only
    rw [hin, hrx]

/-- A change of the flits at a far end is what it says there, but of GT flits at an NI, which wait in the release buffer. -/
theorem State.farFlits_modFar (hv : s.variant.paired = false) {e : FarEnd} {vc : Nat} (h : vc ≠ 0 ∨ ∀ p, e ≠ .ni p)
    (g : List Flit → List Flit) : (s.modFar pl e vc g).farFlits pl e vc = g (s.farFlits pl e vc) := by
  cases e with
  | router b i n =>
    unfold State.farFlits State.modFar
    dsimp only
    rw [State.router_modRouter, Tab.rd_upd_same]
  | ni p =>
    have h0 : vc ≠ 0 := h.resolve_right fun x => x p rfl
    rw [State.farFlits_ni _ pl (by unfold State.modFar; simpa using hv) p h0, s.farFlits_ni pl hv p h0]
    unfold State.modFar
    dsimp only
    rw [State.ni_modNi]
    by_cases ha : onArrival vc = true
    · rw [if_pos ha, if_pos ha, if_pos ha, Tab.rd_upd_same]
    · rw [if_neg ha, if_neg ha, if_neg ha, Tab.rd_upd_same]
  | mule m =>
    unfold State.farFlits State.modFar
    dsimp only
    rw [State.mul_modMul]
    by_cases ha : onArrival vc = true
    · rw [if_pos ha, if_pos ha, if_pos ha, Tab.rd_upd_same]
    · rw [if_neg ha, if_neg ha, if_neg ha, Tab.rd_upd_same]
  | service q =>
    unfold State.farFlits State.modFar
    dsimp only
    rw [State.sb_modSb]
    by_cases ha : onArrival vc = true
    · rw [if_pos ha, if_pos ha, if_pos ha, Tab.rd_upd_same]
    · rw [if_neg ha, if_neg ha, if_neg ha, Tab.rd_upd_same]

/-- A far end holds GT flits in the release buffer, or its flits in a list of its own. -/
theorem farEnd_cases (e : FarEnd) (vc : Nat) : (∃ p, e = .ni p ∧ vc = 0) ∨ (vc ≠ 0 ∨ ∀ p, e ≠ .ni p) := by
  cases e with
  | ni p =>
    by_cases h : vc = 0
    · exact .inl ⟨p, rfl, h⟩
    · exact .inr (.inl h)
  | router b i n => exact .inr (.inr fun p h => FarEnd.noConfusion h)
  | mule m => exact .inr (.inr fun p h => FarEnd.noConfusion h)
  | service q => exact .inr (.inr fun p h => FarEnd.noConfusion h)

theorem State.cutFar_list {e : FarEnd} {vc : Nat} (h : vc ≠ 0 ∨ ∀ p, e ≠ .ni p) (n : Nat) : s.cutFar pl e vc n =
    s.modFar pl e vc (fun _ => (s.farFlits pl e vc).take ((s.farFlits pl e vc).length - n)) := by
  cases e with
  | ni p => exact if_neg (h.resolve_right fun x => x p rfl)
  | router b i n => rfl
  | mule m => rfl
  | service q => rfl

theorem State.changeFar_list (hv : s.variant.paired = false) {e : FarEnd} {vc : Nat} (h : vc ≠ 0 ∨ ∀ p, e ≠ .ni p) (g : Flit) :
    s.changeFar pl e vc f g = s.modFar pl e vc (·.map fun x => if x = f then g else x) := by
  cases e with
  | ni p => exact (if_neg (by simp [hv])).trans (if_neg (h.resolve_right fun x => x p rfl))
  | router b i n => rfl
  | mule m => rfl
  | service q => rfl

theorem State.resendFar_list {e : FarEnd} {vc : Nat} (h : vc ≠ 0 ∨ ∀ p, e ≠ .ni p) (fs : List Flit) : s.resendFar pl e vc fs =
    s.modFar pl e vc (· ++ fs.map fun f => { f with since := s.fc }) := by
  cases e with
  | ni p => exact if_neg (h.resolve_right fun x => x p rfl)
  | router b i n => rfl
  | mule m => rfl
  | service q => rfl

/-- Of the GT packets in a release buffer, what is among the flits that stay. -/
def keptGt (keep : List Flit) (l : List GtPkt) : List GtPkt :=
  (l.map (fun y => { y with flits := y.flits.filter keep.contains })).filter (fun y => !y.flits.isEmpty)

theorem mem_keptGt (keep : List Flit) (l : List GtPkt) (h : ∀ y ∈ keep, y ∈ l.flatMap (·.flits)) (x : Flit) :
    x ∈ (keptGt keep l).flatMap (·.flits) ↔ x ∈ keep := by
  unfold keptGt
  simp only [List.mem_flatMap, List.mem_filter, List.mem_map]
  constructor
  · rintro ⟨_, ⟨⟨y, -, rfl⟩, -⟩, hx⟩
    exact List.contains_iff_mem.1 (List.mem_filter.1 hx).2
  · intro hx
    obtain ⟨y, hy, hxy⟩ := List.mem_flatMap.1 (h x hx)
    have hmem : x ∈ y.flits.filter keep.contains := List.mem_filter.2 ⟨hxy, List.contains_iff_mem.2 hx⟩
    exact ⟨_, ⟨⟨y, hy, rfl⟩, by simpa using ⟨x, hxy, hx⟩⟩, hmem⟩

theorem State.cutFar_gt (p n : Nat) : s.cutFar pl (.ni p) 0 n = s.modPort p (fun y => { y with
    gtRel := keptGt ((s.farFlits pl (.ni p) 0).take ((s.farFlits pl (.ni p) 0).length - n)) y.gtRel }) := by
  unfold State.cutFar
  dsimp only
  rw [if_pos rfl]
  rfl

theorem State.resendFar_gt (p : Nat) (fs : List Flit) :
    s.resendFar pl (.ni p) 0 fs = (fs.map fun f => { f with since := s.fc }).foldl (fun t f => t.gtArrive p f) s := by
  unfold State.resendFar
  dsimp only
  rw [if_pos rfl]

theorem State.mem_farFlits_cutFar (hv : s.variant.paired = false) (e : FarEnd) (vc n : Nat) (x : Flit) :
    x ∈ (s.cutFar pl e vc n).farFlits pl e vc ↔ x ∈ (s.farFlits pl e vc).take ((s.farFlits pl e vc).length - n) := by
  rcases farEnd_cases e vc with ⟨p, rfl, rfl⟩ | h
  · have hl : ∀ y ∈ (s.farFlits pl (.ni p) 0).take ((s.farFlits pl (.ni p) 0).length - n), y ∈ (s.port p).gtRel.flatMap (·.flits) :=
      fun y hy => s.farFlits_gt pl hv p ▸ List.mem_of_mem_take hy
    rw [s.cutFar_gt pl p n]
    generalize (s.farFlits pl (.ni p) 0).take _ = keep at hl ⊢
    rw [State.farFlits_gt _ pl (by simpa using hv), State.port_modPort]
    exact mem_keptGt keep _ hl x
  · rw [s.cutFar_list pl h, s.farFlits_modFar pl hv h]

/-- The flits of the release buffer are changed one by one. -/
def changedGt (one : Flit → Flit) (x : Port) : Port := { x with gtRel := x.gtRel.map (fun y => { y with flits := y.flits.map one }) }

theorem State.farFlits_changeFar (hv : s.variant.paired = false) (e : FarEnd) (vc : Nat) (g : Flit) :
    (s.changeFar pl e vc f g).farFlits pl e vc = (s.farFlits pl e vc).map (fun x => if x = f then g else x) := by
  rcases farEnd_cases e vc with ⟨p, rfl, rfl⟩ | h
  · have hch : s.changeFar pl (.ni p) 0 f g = s.modPort p (changedGt fun x => if x = f then g else x) :=
      (if_neg (by simp [hv])).trans (if_pos rfl)
    rw [hch, State.farFlits_gt _ pl (by simpa using hv), State.port_modPort, s.farFlits_gt pl hv, changedGt, List.map_flatMap,
      List.flatMap_map]
  · rw [s.changeFar_list pl f hv h, s.farFlits_modFar pl hv h]

end

/-! #### What each step of a retry leaves alone -/

section

variable {s : State} {pl : Pl}

theorem State.gtArrive_keepsEnds {α β γ δ ε : Type} {fr : Router → α} {fn : Ni → β} {fm : Mule → γ} {fb : Sb → δ} {fp : Port → ε}
    (t : State) (p : Nat) (f : Flit) (h : ∀ (x : Port) c, fp { x with gtRel := c } = fp x) :
    State.KeepsEnds fr fn fm fb fp pl t (t.gtArrive p f) := by
  unfold State.gtArrive
  refine .modPort (fun x => ?_) p
  split
  · exact h x _
  · exact h x _

theorem State.cutFar_sameCred (e : FarEnd) (vc n : Nat) : State.SameCred pl s (s.cutFar pl e vc n) := by
  rcases farEnd_cases e vc with ⟨p, rfl, rfl⟩ | h
  · rw [s.cutFar_gt pl p n]
    refine State.KeepsEnds.modPort ?_ p
    exact fun _ => rfl
  · rw [s.cutFar_list pl h]
    exact .modFar (fun _ _ => rfl) (fun _ _ _ => rfl) (fun _ _ _ => rfl) (fun _ _ _ => rfl) e vc _

theorem State.resendFar_sameCred (e : FarEnd) (vc : Nat) (fs : List Flit) : State.SameCred pl s (s.resendFar pl e vc fs) := by
  rcases farEnd_cases e vc with ⟨p, rfl, rfl⟩ | h
  · rw [s.resendFar_gt pl p fs]
    exact .foldl (fun t f => t.gtArrive_keepsEnds p f (fun _ _ => rfl)) _ s
  · rw [s.resendFar_list pl h]
    exact .modFar (fun _ _ => rfl) (fun _ _ _ => rfl) (fun _ _ _ => rfl) (fun _ _ _ => rfl) e vc _

theorem State.resendFar_sameRetry (e : FarEnd) (vc : Nat) (fs : List Flit) : State.SameRetry pl s (s.resendFar pl e vc fs) := by
  rcases farEnd_cases e vc with ⟨p, rfl, rfl⟩ | h
  · rw [s.resendFar_gt pl p fs]
    exact .foldl (fun t f => t.gtArrive_keepsEnds p f (fun _ _ => rfl)) _ s
  · rw [s.resendFar_list pl h]
    exact .modFar (fun _ _ => rfl) (fun _ _ _ => rfl) (fun _ _ _ => rfl) (fun _ _ _ => rfl) e vc _

theorem State.SameCred.retryWords {t : State} (h : State.SameCred pl s t) (out : OutPort) : t.retryWords pl out = s.retryWords pl out := by
  obtain ⟨-, hr, hn, hm, hb, -⟩ := h
  cases out with
  | niLink p => exact congrArg (fun c : Tab Nat => c.rd 7 0) (hn p)
  | mule e => exact congrArg (fun c : Tab Nat => c.rd 7 0) (hm e)
  | service q => exact congrArg (fun c : Tab Nat => c.rd (q * 8 + 7) 0) hb
  | folio g o => exact congrArg (fun c : Tab Nat => c.rd (o * 8 + 7) 0) (hr false g)
  | quire q o => exact congrArg (fun c : Tab Nat => c.rd (o * 8 + 7) 0) (hr true q)

theorem State.retryWords_modCredit (s : State) (pl : Pl) (out : OutPort) (g : Nat → Nat) :
    (s.modCredit pl out 7 g).retryWords pl out = g (s.retryWords pl out) := by
  cases out with
  | niLink p => unfold State.retryWords State.modCredit; dsimp only; rw [State.ni_modNi, Tab.rd_upd_same]
  | mule e => unfold State.retryWords State.modCredit; dsimp only; rw [State.mul_modMul, Tab.rd_upd_same]
  | service q => unfold State.retryWords State.modCredit; dsimp only; rw [State.sb_modSb, Tab.rd_upd_same]
  | folio g o => unfold State.retryWords State.modCredit; dsimp only; rw [State.router_modRouter, Tab.rd_upd_same]
  | quire q o => unfold State.retryWords State.modCredit; dsimp only; rw [State.router_modRouter, Tab.rd_upd_same]

theorem State.modCredit_sameFar (out : OutPort) (vc : Nat) (g : Nat → Nat) : State.SameFar pl s (s.modCredit pl out vc g) :=
  .modCredit (fun _ _ => rfl) (fun _ _ => rfl) (fun _ _ => rfl) (fun _ _ => rfl) out vc g

theorem State.modCredit_sameRetry (out : OutPort) (vc : Nat) (g : Nat → Nat) : State.SameRetry pl s (s.modCredit pl out vc g) :=
  .modCredit (fun _ _ => rfl) (fun _ _ => rfl) (fun _ _ => rfl) (fun _ _ => rfl) out vc g

end

end Sys2Proof.Machine

namespace Sys2Proof.Machine

/-! #### A check failure (R243, R253, R254) -/

section

variable (k : Nat) (l : List Flit) (b : Bool) (r : Router)

/-- The link has asked for these flits again. -/
def Router.awaitRetry : Router :=
  { r with
    retried := r.retried.wr k 1 0,
    retryWait := r.retryWait.wr k l [] }

/-- The rest of the packet on the link is poisoned, or nothing of it is. -/
def Router.setPoisonRun : Router := { r with poisonRun := r.poisonRun.wr k b false }

/-- What was to be resent has been. -/
def Router.endRetry : Router := { r with retryWait := r.retryWait.wr k [] [] }

theorem Router.retryWait_awaitRetry : (r.awaitRetry k l).retryWait.rd k [] = l := Tab.rd_wr_same _ _ _ _

theorem Router.retried_awaitRetry : (r.awaitRetry k l).retried.rd k 0 = 1 := Tab.rd_wr_same r.retried k 1 0

theorem Router.poisonRun_setPoisonRun : (r.setPoisonRun k b).poisonRun.rd k false = b := Tab.rd_wr_same _ _ _ _

theorem Router.retryWait_endRetry : (r.endRetry k).retryWait.rd k [] = [] := Tab.rd_wr_same r.retryWait k [] []

end

section

variable (s : State) (pl : Pl) (out : OutPort) (got : LinkFlit) {f : Flit}

theorem State.planeFault_noted (hv : s.variant.paired = true) (hr : s.runs pl = true) (cause port : Nat) (owners : Option (BitVec 16))
    (hw : s.pair.window = false) (hf : s.pair.faulty = none) :
    (s.planeFault pl cause port owners).pair.faulty = some pl ∧ (s.planeFault pl cause port owners).pair.cause = cause := by
  have habort : s.abortJoin.pair.window = false ∧ s.abortJoin.pair.faulty = none ∧ s.abortJoin.runs pl = true := by
    unfold State.abortJoin
    split
    · exact ⟨hw, hf, hr⟩
    · exact ⟨hw, hf, hr⟩
  obtain ⟨hw', hf', hr'⟩ := habort
  unfold State.planeFault
  rw [if_neg (by rw [hv]; decide), if_neg (s.not_failed_of_runs pl hv hr)]
  dsimp only
  rw [if_neg (by rw [hr']; decide), if_neg (by rw [hw', hf']; decide)]
  exact ⟨rfl, rfl⟩

theorem State.changeFar_pair (e : FarEnd) (vc : Nat) (f g : Flit) : (s.changeFar pl e vc f g).variant = s.variant ∧
    (s.changeFar pl e vc f g).pair = { s.pair with cmp := (s.changeFar pl e vc f g).pair.cmp } := by
  have hfar (h : List Flit → List Flit) : (s.modFar pl e vc h).variant = s.variant ∧ (s.modFar pl e vc h).pair = s.pair := by
    unfold State.modFar
    cases e with
    | router b i n => exact ⟨by simp [State.modRouter], by simp [State.modRouter]⟩
    | ni p => exact ⟨by simp, by simp⟩
    | mule m => exact ⟨by simp, by simp⟩
    | service q => exact ⟨by simp, by simp⟩
  have hlist (h : List Flit → List Flit) : (s.modFar pl e vc h).variant = s.variant ∧
      (s.modFar pl e vc h).pair = { s.pair with cmp := (s.modFar pl e vc h).pair.cmp } :=
    ⟨(hfar h).1, by rw [(hfar h).2]⟩
  unfold State.changeFar
  cases e with
  | ni p =>
    dsimp only
    split
    · exact ⟨rfl, rfl⟩
    split
    · exact ⟨by simp, by simp⟩
    · exact hlist _
  | router b i n => exact hlist _
  | mule m => exact hlist _
  | service q => exact hlist _

theorem State.reportLink_pair (vc : Nat) : (s.reportLink pl out vc).variant = s.variant ∧ (s.reportLink pl out vc).pair = s.pair := by
  have hevent (t : State) (b : Bool) (i : Nat) : t.Records (fun _ => True) (fun _ => True) (t.rtrEvent pl b i 1) :=
    .rtrEvent t pl trivial 1
  unfold State.reportLink
  dsimp only
  rw [(State.countRtr_records _ _ _ _ _ _).variant, (State.countRtr_records _ _ _ _ _ _).pair, (hevent _ _ _).variant,
    (hevent _ _ _).pair]
  unfold State.pinc State.pfset
  rw [State.pset_variant, State.pset_pair]
  exact ⟨rfl, rfl⟩

theorem execLinkCheckFailure_runs (hr : s.runs pl = true) (hb : got.back < (s.farFlits pl (farOf out) got.vc).length)
    (hf : (s.farFlits pl (farOf out) got.vc)[(s.farFlits pl (farOf out) got.vc).length - 1 - got.back]? = some f) :
    execLinkCheckFailure pl out got s = .next (if linkCheck f.hdr got.data = got.word then s
      else if s.variant.paired then s.failPaired pl out got f
      else if (s.router pl (keeperOf out got.vc).1 (keeperOf out got.vc).2.1).retried.rd (keeperOf out got.vc).2.2 0 = 0 then
        s.failFirst pl out got
      else s.failSecond pl out got f) := by
  unfold execLinkCheckFailure
  rw [if_neg (by simp [hr]), if_neg (by simp [hr])]
  dsimp only
  split
  · next h => cases (hf.symm.trans h :)
  · next f' h =>
    cases Option.some.inj (hf.symm.trans h)
    by_cases hw : linkCheck f.hdr got.data = got.word
    · rw [if_pos (.inr hw), if_pos hw]
    · rw [if_neg fun h => h.elim (by omega) hw, if_neg hw]

theorem State.failPaired_fault (hv : s.variant.paired = true) (hr : s.runs pl = true) (hw : s.pair.window = false)
    (hf : s.pair.faulty = none) (f : Flit) : (s.failPaired pl out got f).pair.faulty = some pl ∧ (s.failPaired pl out got f).pair.cause = 3 := by
  have hchange := s.changeFar_pair pl (farOf out) got.vc f { f with data := got.data }
  unfold State.failPaired
  generalize s.changeFar pl (farOf out) got.vc f { f with data := got.data } = t at hchange ⊢
  obtain ⟨hvar, hpair⟩ := hchange
  obtain ⟨hvar', hpair'⟩ := t.reportLink_pair pl out got.vc
  refine State.planeFault_noted _ pl (by rw [hvar', hvar, hv]) ?_ _ _ _ (by rw [hpair', hpair]; exact hw) (by rw [hpair', hpair]; exact hf)
  rw [State.runs_congr hvar' hpair']
  exact hr ▸ by unfold State.runs State.plState; rw [hvar, hpair]

/-- The flits that are to come again: the last that the link sent on the VC, back to the one that failed. -/
def State.resent (s : State) (pl : Pl) (out : OutPort) (got : LinkFlit) : List Flit :=
  let k := keeperOf out got.vc
  let sent := ((s.router pl k.1 k.2.1).hist.rd (k.2.2 / 8) []).filter (fun f => decide (hVc f.hdr = got.vc))
  (sent.drop (sent.length - 1 - got.back)).map (fun f => { f with since := s.fc })

theorem State.failFirst_sent (h : got.back < (((s.router pl (keeperOf out got.vc).1 (keeperOf out got.vc).2.1).hist.rd
      ((keeperOf out got.vc).2.2 / 8) []).filter (fun f => decide (hVc f.hdr = got.vc))).length) :
    s.failFirst pl out got = (((s.cutFar pl (farOf out) got.vc (got.back + 1)).reportLink pl out got.vc).giveCredit pl out 7 1).modRouter pl
      (keeperOf out got.vc).1 (keeperOf out got.vc).2.1 (Router.awaitRetry (keeperOf out got.vc).2.2 (s.resent pl out got)) := by
  unfold State.failFirst
  exact if_neg (by omega)

/-- The first failure: the flits are gone from the far end, and a credit word of VC 7 asks for them. -/
theorem State.failFirst_retry (hv : s.variant.paired = false) (h : got.back < (((s.router pl (keeperOf out got.vc).1
      (keeperOf out got.vc).2.1).hist.rd ((keeperOf out got.vc).2.2 / 8) []).filter (fun f => decide (hVc f.hdr = got.vc))).length) :
    let k := keeperOf out got.vc
    let t := s.failFirst pl out got
    (∀ x, x ∈ t.farFlits pl (farOf out) got.vc ↔
      x ∈ (s.farFlits pl (farOf out) got.vc).take ((s.farFlits pl (farOf out) got.vc).length - (got.back + 1))) ∧
    (t.router pl k.1 k.2.1).retryWait.rd k.2.2 [] = s.resent pl out got ∧
    (t.router pl k.1 k.2.1).retried.rd k.2.2 0 = 1 ∧ t.retryWords pl out = s.retryWords pl out + 1 := by
  intro k t
  have ht : t = _ := s.failFirst_sent pl out got h
  have hvc : (s.cutFar pl (farOf out) got.vc (got.back + 1)).variant.paired = false :=
    (congrArg Variant.paired (s.cutFar_sameCred _ _ _).variant).trans hv
  have hfar : State.SameFar pl (s.cutFar pl (farOf out) got.vc (got.back + 1)) t := by
    rw [ht]
    refine ((State.KeepsEnds.reportLink out got.vc).trans (State.modCredit_sameFar out 7 (· + 1))).trans ?_
    exact .modRouter (f := Router.awaitRetry _ _) (fun _ => rfl) _ _
  have hwords : t.retryWords pl out = s.retryWords pl out + 1 := by
    have hlast : State.SameCred pl (((s.cutFar pl (farOf out) got.vc (got.back + 1)).reportLink pl out got.vc).giveCredit pl out 7 1) t := by
      rw [ht]
      exact .modRouter (f := Router.awaitRetry _ _) (fun _ => rfl) _ _
    have hfirst : State.SameCred pl s ((s.cutFar pl (farOf out) got.vc (got.back + 1)).reportLink pl out got.vc) :=
      (s.cutFar_sameCred _ _ _).trans (.reportLink out got.vc)
    rw [hlast.retryWords, State.giveCredit, State.retryWords_modCredit, hfirst.retryWords]
  refine ⟨fun x => ?_, ?_, ?_, hwords⟩
  · rw [hfar.farFlits hvc, s.mem_farFlits_cutFar pl hv]
  · rw [ht, State.router_modRouter, Router.retryWait_awaitRetry]
  · rw [ht, State.router_modRouter, Router.retried_awaitRetry]

/-- The second: the flit is poisoned, and the rest of its packet will be. -/
theorem State.failSecond_poison (hv : s.variant.paired = false) (f : Flit) :
    let k := keeperOf out got.vc
    let t := s.failSecond pl out got f
    t.farFlits pl (farOf out) got.vc =
      (s.farFlits pl (farOf out) got.vc).map (fun x => if x = f then { f with data := got.data, poison := true } else x) ∧
    (t.router pl k.1 k.2.1).poisonRun.rd k.2.2 false = decide (f.idx < hLen f.hdr) := by
  intro k t
  have hvc : (s.changeFar pl (farOf out) got.vc f { f with data := got.data, poison := true }).variant.paired = false :=
    (congrArg Variant.paired (s.changeFar_pair pl _ _ _ _).1).trans hv
  have hfar : State.SameFar pl (s.changeFar pl (farOf out) got.vc f { f with data := got.data, poison := true }) t :=
    ((((State.KeepsEnds.pinc _ _ _ _).trans (.rtrEvent _ _ _)).trans (.rtrEvent _ _ _)).trans (.countRtr _ _ _ _)).trans
      (.modRouter (f := Router.setPoisonRun k.2.2 (decide (f.idx < hLen f.hdr))) (fun _ => rfl) _ _)
  refine ⟨?_, ?_⟩
  · rw [hfar.farFlits hvc, s.farFlits_changeFar pl f hv]
  · exact (congrArg (fun r : Router => r.poisonRun.rd k.2.2 false) (State.router_modRouter _ _ _ _ _)).trans (Router.poisonRun_setPoisonRun k.2.2 _ _)

end

/-! #### The retry (R253) -/

section

variable (s : State) (pl : Pl) (out : OutPort) (vc : Nat) {f : Flit} {rest : List Flit}

theorem execLinkRetryRequest_due (hr : s.runs pl = true)
    (hw : (s.router pl (keeperOf out vc).1 (keeperOf out vc).2.1).retryWait.rd (keeperOf out vc).2.2 [] = f :: rest)
    (hd : f.since + retryFc out ≤ s.fc) (h0 : 0 < s.retryWords pl out) : execLinkRetryRequest pl out vc s =
      .next (((s.modRouter pl (keeperOf out vc).1 (keeperOf out vc).2.1 (Router.endRetry (keeperOf out vc).2.2)).modCredit pl out 7 (· - 1)).resendFar pl (farOf out) vc (f :: rest)) := by
  unfold execLinkRetryRequest
  rw [inPlane_runs hr]
  dsimp only
  split
  · next h => cases (hw.symm.trans h :)
  · next f' rest' h =>
    obtain ⟨rfl, rfl⟩ := List.cons.inj (hw.symm.trans h)
    rw [if_neg (by omega)]
    rfl

theorem State.modCredit_fc (g : Nat → Nat) : (s.modCredit pl out vc g).fc = s.fc := by
  cases out with
  | niLink p => exact State.modNi_fc ..
  | folio i k => simp [State.modCredit, State.modRouter]
  | quire i k => simp [State.modCredit, State.modRouter]
  | service q => exact State.modSb_fc ..
  | mule e => exact State.modMul_fc ..

theorem State.linkRetry_effect (hv : s.variant.paired = false) (fs : List Flit) :
    let k := keeperOf out vc
    let t := ((s.modRouter pl k.1 k.2.1 (Router.endRetry k.2.2)).modCredit pl out 7 (· - 1)).resendFar pl (farOf out) vc fs
    (vc ≠ 0 ∨ (∀ p, farOf out ≠ .ni p) →
      t.farFlits pl (farOf out) vc = s.farFlits pl (farOf out) vc ++ fs.map (fun x => { x with since := s.fc })) ∧
    (t.router pl k.1 k.2.1).retryWait.rd k.2.2 [] = [] ∧ t.retryWords pl out = s.retryWords pl out - 1 := by
  intro k t
  have hcleared : State.SameFar pl s (s.modRouter pl k.1 k.2.1 (Router.endRetry k.2.2)) :=
    .modRouter (f := Router.endRetry k.2.2) (fun _ => rfl) _ _
  have hcred : State.SameCred pl s (s.modRouter pl k.1 k.2.1 (Router.endRetry k.2.2)) :=
    .modRouter (f := Router.endRetry k.2.2) (fun _ => rfl) _ _
  refine ⟨fun h => ?_, ?_, ?_⟩
  · have hfar : State.SameFar pl s _ := hcleared.trans (State.modCredit_sameFar out 7 (· - 1))
    have hfc : ((s.modRouter pl k.1 k.2.1 (Router.endRetry k.2.2)).modCredit pl out 7 (· - 1)).fc
        = s.fc := by
      rw [State.modCredit_fc]
      simp [State.modRouter]
    rw [← hfar.farFlits hv, ← hfc]
    exact (congrArg (State.farFlits · pl (farOf out) vc) (State.resendFar_list _ pl h fs)).trans
      (State.farFlits_modFar _ pl ((congrArg Variant.paired hfar.variant).trans hv) h _)
  · have hkept := (State.modCredit_sameRetry (s := s.modRouter pl k.1 k.2.1 (Router.endRetry k.2.2)) (pl := pl) out 7 (· - 1)).trans (State.resendFar_sameRetry (farOf out) vc fs)
    refine (congrArg (fun w : Tab (List Flit) => w.rd k.2.2 []) (hkept.routers k.1 k.2.1)).trans ?_
    rw [State.router_modRouter, Router.retryWait_endRetry]
  · refine ((State.resendFar_sameCred (farOf out) vc fs).retryWords out).trans ?_
    rw [State.retryWords_modCredit, hcred.retryWords]

end

end Sys2Proof.Machine

namespace Sys2Proof.Machine

/-! ### Flits on their way (R64, R69, R70, R83, R376) -/

/-! #### The senders of an fc (R64) -/

section

variable (s : State) (pl : Pl) {p g q e vc : Nat} (hr : s.runs pl = true)

include hr

theorem execOutputArbitration_niLink (hp : s.isPort p = true) (hq : s.quireRuns (p / 24) = true) (hl : (s.port p).live = true) :
    execOutputArbitration pl (.niLink p) s = .next (s.niLinkStep pl p) := by
  unfold execOutputArbitration
  rw [inPlane_runs hr]
  dsimp only
  rw [if_pos (by rw [hp, hq, hl]; rfl)]

theorem execOutputArbitration_folio (hg : g < s.variant.folios) (hq : s.quireRuns (g / 4) = true) :
    execOutputArbitration pl (.folio g) s = .next (s.arbitrate pl false g) := by
  unfold execOutputArbitration
  rw [inPlane_runs hr]
  dsimp only
  rw [if_pos (by rw [hq, decide_eq_true hg]; rfl)]

theorem execOutputArbitration_quire (hg : q < s.variant.quires) (hq : s.quireRuns q = true) :
    execOutputArbitration pl (.quire q) s = .next (s.arbitrate pl true q) := by
  unfold execOutputArbitration
  rw [inPlane_runs hr]
  dsimp only
  rw [if_pos (by rw [hq, decide_eq_true hg]; rfl)]

theorem execOutputArbitration_service (hg : q < s.variant.quires) (hvc : vc < 7) (h4 : (s.qp 4).state = .run)
    (hq : s.quireRuns q = true) : execOutputArbitration pl (.service q vc) s = .next (s.sbLinkStep pl q vc) := by
  unfold execOutputArbitration
  rw [inPlane_runs hr]
  dsimp only
  rw [if_neg (by rw [h4]; simp; omega), if_pos hq]

theorem execOutputArbitration_mule (he : e < s.variant.mules) (hvc : vc < 7) (hq : s.quireRuns (e / 2) = true) :
    execOutputArbitration pl (.mule e vc) s = .next (s.muleLinkStep pl e vc) := by
  unfold execOutputArbitration
  rw [inPlane_runs hr]
  dsimp only
  rw [if_pos (by rw [hq, decide_eq_true ⟨he, hvc⟩]; rfl)]

end

/-! #### An NI's link (R376) -/

/-- The records of R254 start again for the link's VC. -/
def Router.startPacket (k : Nat) (r : Router) : Router :=
  { r with
    retried := r.retried.wr k 0 0
    poisonRun := r.poisonRun.wr k false false }

/-- The NI has sent the flit at the head of VC 0. -/
def Ni.sent0 (rest : List Flit) (n : Ni) : Ni :=
  { n with
    tx := n.tx.wr 0 rest []
    txUsed := n.txUsed.upd 0 0 (· + 1) }

section

variable (s : State) (pl : Pl) (p : Nat) {f : Flit} {rest : List Flit}

/-- A link's flit changes nothing of an NI, and nothing in the buffers of a router. -/
theorem State.ontoLink_keeps (o : OutPort) (vc : Nat) (f : Flit) : (∀ p, (s.ontoLink pl o vc f).1.ni pl p = s.ni pl p) ∧
    (∀ b i, ((s.ontoLink pl o vc f).1.router pl b i).buf = (s.router pl b i).buf) ∧ (s.ontoLink pl o vc f).2.hdr = f.hdr ∧
    (s.ontoLink pl o vc f).2.data = f.data ∧ (s.ontoLink pl o vc f).2.idx = f.idx := by
  have hsent (t : State) (b : Bool) (i k : Nat) (f : Flit) : State.KeepsEnds Router.buf id id id id pl t (t.keepSent pl b i k f) := by
    unfold State.keepSent
    refine .ite (.refl t) (.modRouter ?_ b i)
    exact fun _ => rfl
  unfold State.ontoLink
  dsimp only
  split
  · have h (k : Nat) := ((.modRouter (f := Router.startPacket (keeperOf o vc).2.2) (fun _ => rfl) (keeperOf o vc).1 (keeperOf o vc).2.1 :
      State.KeepsEnds Router.buf id id id id pl s _)).trans (hsent _ (keeperOf o vc).1 (keeperOf o vc).2.1 k f)
    exact ⟨(h _).nis, (h _).routers, rfl, rfl, rfl⟩
  · exact ⟨(hsent _ _ _ _ _).nis, (hsent _ _ _ _ _).routers, rfl, rfl, rfl⟩

theorem State.arriveRouter_folio (i n : Nat) (f : Flit) : s.arriveRouter pl false i n f = (s.modRouter pl false i (fun r => { r with
    buf := pushAt r.buf (n * 8 + hVc f.hdr) [{ f with since := s.fc }] })).seeFlit (i / 4) := by
  unfold State.arriveRouter
  dsimp only
  rw [if_neg (fun h => Bool.false_ne_true h.1)]
  rfl

theorem State.niLinkStep_vc0 (hf : (s.ni pl p).tx.rd 0 [] = f :: rest) (hu : (s.ni pl p).txUsed.rd 0 0 < 8)
    (hre : s.resending pl (.niLink p) 0 = false) :
    s.niLinkStep pl p = let a := (s.modNi pl p (Ni.sent0 rest)).ontoLink pl (.niLink p) 0 f
      (a.1.countNi pl p 0x04 (vcClass 0) (ownerIf (hPriv a.2.hdr) (hOwner a.2.hdr))).arriveRouter pl false (p / 6) (p % 6) a.2 := by
  unfold State.niLinkStep
  extract_lets n ok t1 t2 burst hold1 pick
  have hok : ok 0 = true := by
    have hn : (!(n.tx.rd 0 []).isEmpty) = true := by rw [hf]; rfl
    have hd : decide (n.txUsed.rd 0 0 < vcDepth 0) = true := decide_eq_true hu
    show (!(n.tx.rd 0 []).isEmpty && decide (n.txUsed.rd 0 0 < vcDepth 0) && !s.resending pl (.niLink p) 0) = true
    rw [hn, hd, hre]
    rfl
  have hpick : pick = some (0, 0) := if_pos hok
  rw [hpick]
  dsimp only
  split
  · next h => cases (hf.symm.trans h :)
  · next f' rest' h =>
    obtain ⟨rfl, rfl⟩ := List.cons.inj (hf.symm.trans h)
    rfl

/-- A flit of VC 0 that an NI sends is in the buffer of the folio router's input, and one more credit is used. -/
theorem State.niLinkStep_sends (hf : (s.ni pl p).tx.rd 0 [] = f :: rest) (hu : (s.ni pl p).txUsed.rd 0 0 < 8)
    (hre : s.resending pl (.niLink p) 0 = false) (hvc : hVc f.hdr = 0) :
    let t := s.niLinkStep pl p
    (t.ni pl p).tx.rd 0 [] = rest ∧ (t.ni pl p).txUsed.rd 0 0 = (s.ni pl p).txUsed.rd 0 0 + 1 ∧
    ∃ x, (t.router pl false (p / 6)).buf.rd (p % 6 * 8) [] = (s.router pl false (p / 6)).buf.rd (p % 6 * 8) [] ++ [x] ∧
      x.hdr = f.hdr ∧ x.data = f.data ∧ x.idx = f.idx := by
  have hlink := (s.modNi pl p (Ni.sent0 rest)).ontoLink_keeps pl (.niLink p) 0 f
  rw [s.niLinkStep_vc0 pl p hf hu hre]
  generalize (s.modNi pl p (Ni.sent0 rest)).ontoLink pl (.niLink p) 0 f = a at hlink ⊢
  obtain ⟨hni, hbuf, hhdr, hdata, hidx⟩ := hlink
  have hcount := a.1.countNi_records pl p 0x04 (vcClass 0) (ownerIf (hPriv a.2.hdr) (hOwner a.2.hdr))
  dsimp only
  generalize a.1.countNi pl p 0x04 (vcClass 0) (ownerIf (hPriv a.2.hdr) (hOwner a.2.hdr)) = u at hcount ⊢
  rw [u.arriveRouter_folio]
  have hn : ((u.modRouter pl false (p / 6) (fun r => { r with
      buf := pushAt r.buf (p % 6 * 8 + hVc a.2.hdr) [{ a.2 with since := u.fc }] })).seeFlit (p / 6 / 4)).ni pl p =
      (s.ni pl p).sent0 rest := by
    rw [State.seeFlit, State.ni_modQp, State.ni_modRouter, hcount.ni, hni, State.ni_modNi]
  have hkey : p % 6 * 8 + hVc a.2.hdr = p % 6 * 8 := by rw [hhdr, hvc]; rfl
  rw [hn, State.seeFlit, State.router_modQp, State.router_modRouter, hkey]
  refine ⟨Tab.rd_wr_same _ _ _ _, Tab.rd_upd_same (s.ni pl p).txUsed 0 0 (· + 1), { a.2 with since := u.fc }, ?_, hhdr, hdata, hidx⟩
  rw [pushAt, Tab.rd_upd_same, hcount.router, hbuf, State.router_modNi]

end

/-! #### A grant (R69, R70, R83) -/

section

variable {s : State} {pl : Pl} {quire : Bool} {i : Nat}

theorem State.checked_congr {t u : State} (hv : u.variant = t.variant) (fs : List Flit) : u.checked pl fs = t.checked pl fs := by
  unfold State.checked
  rw [hv]

/-- The flit's answer, where the packet is one flit of a request that a draining output discards. -/
theorem State.gen_grantDrop (vc o : Nat) {f : Flit} (hidx : f.idx = 0) (hlen : hLen f.hdr = 0) (hkind : hKind f.hdr ≤ kQop) :
    ((s.grantDrop pl quire i vc o f).router pl quire i).gen.rd (rspVc vc) [] =
      (s.router pl quire i).gen.rd (rspVc vc) [] ++ [s.checked pl (drainAnswer f.hdr f.data s.now)] := by
  have hkept (t : State) (off : Nat) : (t.pinc pl off 0 32 1).router pl quire i = t.router pl quire i ∧
      (t.pinc pl off 0 32 1).variant = t.variant ∧ (t.pinc pl off 0 32 1).now = t.now := by
    unfold State.pinc State.pfset State.now
    rw [State.router_pset, State.pset_variant, State.pset_slot]
    exact ⟨by simp, rfl, rfl⟩
  unfold State.grantDrop
  rw [if_pos (by simp [hidx, hlen])]
  dsimp only
  have hans : answered (hKind f.hdr) = true := decide_eq_true hkind
  rw [if_pos hans, State.router_modRouter, Tab.rd_upd_same, (hkept _ _).1, (hkept _ _).2.2,
    State.checked_congr (hkept _ _).2.1, State.router_modRouter, decide_eq_true hidx, if_pos rfl, Tab.rd_wr_same]
  have hnow (g : Router → Router) : (s.modRouter pl quire i g).now = s.now := by simp [State.now, State.modRouter]
  have hvar (g : Router → Router) : (s.modRouter pl quire i g).variant = s.variant := by simp [State.modRouter]
  rw [hnow, State.checked_congr (hvar _)]
  rfl

theorem State.grantCounts_steady {r : State} (h : r.Steady s) (n vc o : Nat) (held late : Bool) :
    r.Steady ((s.grantCredit pl quire i n vc).grantCounts pl quire i vc o held late) := by
  have hcredit : r.Steady (s.grantCredit pl quire i n vc) := by
    unfold State.grantCredit
    split
    · split
      · exact State.giveCredit_steady h _ _ _ _
      · exact h
    · exact h
  have hcount := State.countRtr_steady (State.countRtr_steady hcredit pl quire i 0x02 o) pl quire i 0x03 vc
  unfold State.grantCounts
  extract_lets u v
  have hv : r.Steady v := by
    show r.Steady (if held then _ else _)
    split
    · refine State.countRtr_steady ?_ pl quire i 0x0A o
      split
      · exact State.pinc_steady hcount _ _ _ _ _
      · exact hcount
    · exact hcount
  split
  · exact State.rtrEvent_steady (State.countRtr_steady hv pl quire i 0x06 o) pl quire i 0
  · exact hv

theorem State.gen_grantHead (n vc o : Nat) {f : Flit} (rest : List Flit) (hd : s.draining pl quire i o = true)
    (hidx : f.idx = 0) (hlen : hLen f.hdr = 0) (hkind : hKind f.hdr ≤ kQop) :
    ((s.grantHead pl quire i n vc o f rest).router pl quire i).gen.rd (rspVc vc) [] =
      (s.router pl quire i).gen.rd (rspVc vc) [] ++ [s.checked pl (drainAnswer f.hdr f.data s.now)] := by
  unfold State.grantHead
  extract_lets drain t u
  have hkept : State.KeepsRouter pl quire i t u := State.grantCredit_keepsRouter n vc |>.trans (State.grantCounts_keepsRouter _ _ _ _)
  have hsteady : s.Steady u := State.grantCounts_steady (State.modRouter_steady (.refl s) _ _ _ _) _ _ _ _ _
  have hgen : (u.router pl quire i).gen = (s.router pl quire i).gen := by
    rw [hkept.router]
    exact (congrArg Router.gen (State.router_modRouter _ _ _ _ _)).trans (Router.take_gen ..)
  have hdrain : drain = true := hd
  rw [hdrain, if_pos rfl, State.gen_grantDrop vc o hidx hlen hkind, hgen, State.checked_congr hsteady.variant]
  unfold State.now
  rw [hsteady.slot]

end

/-! #### The response generator (R83) -/

/-- The response generator moves its oldest answer on `vc` to the local input `n`. -/
def Router.genMove (n vc fc : Nat) (r : Router) (a : List Flit) (rest : List (List Flit)) : Router :=
  let room := vcDepth vc - (r.buf.rd (n * 8 + vc) []).length
  { r with
    buf := pushAt r.buf (n * 8 + vc) ((a.take room).map (fun f => { f with since := fc }))
    gen := r.gen.wr vc (if a.length ≤ room then rest else a.drop room :: rest) [] }

section

variable (s : State) (pl : Pl) (vc i : Nat) (quire : Bool)

theorem execDrainAnswer_moves (hr : s.runs pl = true) {a : List Flit} {rest : List (List Flit)}
    (hg : (s.router pl quire i).gen.rd vc [] = a :: rest) (hi : if quire then i < s.variant.quires else i < s.variant.folios) :
    ∃ t : State, execDrainAnswer pl (if quire then .quire i else .folio i) vc s = .next t ∧
      t.router pl quire i = (s.router pl quire i).genMove (nOut quire) vc s.fc a rest := by
  have hnode : nodeRouter (if quire then .quire i else .folio i) s.variant = some (quire, i) := by
    cases quire
    · exact if_pos hi
    · exact if_pos hi
  unfold execDrainAnswer
  rw [inPlane_runs hr]
  dsimp only
  rw [hnode]
  refine ⟨_, rfl, ?_⟩
  rw [State.router_modRouter]
  split
  · next h => cases (hg.symm.trans h :)
  · next a' rest' h =>
    obtain ⟨rfl, rfl⟩ := List.cons.inj (hg.symm.trans h)
    rfl

end

theorem Router.genMove_whole {n vc fc : Nat} {r : Router} {a : List Flit} {rest : List (List Flit)}
    (h : a.length + (r.buf.rd (n * 8 + vc) []).length ≤ vcDepth vc) : (r.genMove n vc fc a rest).gen.rd vc [] = rest ∧
    ((r.genMove n vc fc a rest).buf.rd (n * 8 + vc) []).length = (r.buf.rd (n * 8 + vc) []).length + a.length := by
  have hroom : a.length ≤ vcDepth vc - (r.buf.rd (n * 8 + vc) []).length := by omega
  unfold Router.genMove
  dsimp only
  refine ⟨?_, ?_⟩
  · rw [if_pos hroom]
    exact Tab.rd_wr_same _ _ _ _
  · rw [pushAt, Tab.rd_upd_same, List.length_append, List.length_map, List.length_take, Nat.min_eq_right hroom]

end Sys2Proof.Machine

namespace Sys2Proof.Machine

/-! #### Credits that return (R69) -/

theorem takeCredit_pos {cred used : Tab Nat} {k : Nat} (h : 0 < cred.rd k 0) :
    takeCredit cred used k = some (cred.upd k 0 (· - 1), used.upd k 0 (· - 1)) := if_pos h

theorem takeCredit_zero {cred used : Tab Nat} {k : Nat} (h : cred.rd k 0 = 0) : takeCredit cred used k = none := if_neg (by omega)

theorem Router.creditSent_credits (r : Router) (o vc : Nat) : (r.creditSent o vc).cred = r.cred ∧ (r.creditSent o vc).used = r.used := by
  unfold Router.creditSent
  split
  · exact ⟨rfl, rfl⟩
  · split
    · exact ⟨rfl, rfl⟩
    · exact ⟨rfl, rfl⟩

section

variable (s : State) (pl : Pl) {vc : Nat} (hr : s.runs pl = true) (hvc : vc < 7)

include hr hvc

theorem execCreditReturn_niLink (p : Nat) (h : 0 < (s.ni pl p).txCred.rd vc 0) :
    ∃ t : State, execCreditReturn pl (.niLink p) vc s = .next t ∧
      (t.ni pl p).txCred.rd vc 0 = (s.ni pl p).txCred.rd vc 0 - 1 ∧ (t.ni pl p).txUsed.rd vc 0 = (s.ni pl p).txUsed.rd vc 0 - 1 := by
  unfold execCreditReturn
  rw [inPlane_runs hr, if_neg (by omega)]
  refine ⟨_, rfl, ?_⟩
  rw [State.ni_modNi, takeCredit_pos h]
  exact ⟨Tab.rd_upd_same _ _ _ (· - 1), Tab.rd_upd_same _ _ _ (· - 1)⟩

theorem execCreditReturn_mule (e : Nat) (h : 0 < (s.mul pl e).txCred.rd vc 0) :
    ∃ t : State, execCreditReturn pl (.mule e) vc s = .next t ∧
      (t.mul pl e).txCred.rd vc 0 = (s.mul pl e).txCred.rd vc 0 - 1 ∧ (t.mul pl e).txUsed.rd vc 0 = (s.mul pl e).txUsed.rd vc 0 - 1 := by
  unfold execCreditReturn
  rw [inPlane_runs hr, if_neg (by omega)]
  refine ⟨_, rfl, ?_⟩
  rw [State.mul_modMul, takeCredit_pos h]
  exact ⟨Tab.rd_upd_same _ _ _ (· - 1), Tab.rd_upd_same _ _ _ (· - 1)⟩

theorem execCreditReturn_service (q : Nat) (h : 0 < (s.sb pl).txCred.rd (q * 8 + vc) 0) :
    ∃ t : State, execCreditReturn pl (.service q) vc s = .next t ∧
      (t.sb pl).txCred.rd (q * 8 + vc) 0 = (s.sb pl).txCred.rd (q * 8 + vc) 0 - 1 ∧
      (t.sb pl).txUsed.rd (q * 8 + vc) 0 = (s.sb pl).txUsed.rd (q * 8 + vc) 0 - 1 := by
  unfold execCreditReturn
  rw [inPlane_runs hr, if_neg (by omega)]
  refine ⟨_, rfl, ?_⟩
  rw [State.sb_modSb, takeCredit_pos h]
  exact ⟨Tab.rd_upd_same _ _ _ (· - 1), Tab.rd_upd_same _ _ _ (· - 1)⟩

theorem execCreditReturn_router (quire : Bool) (i o : Nat) (h : 0 < (s.router pl quire i).cred.rd (o * 8 + vc) 0) :
    ∃ t : State, execCreditReturn pl (if quire then .quire i o else .folio i o) vc s = .next t ∧
      (t.router pl quire i).cred.rd (o * 8 + vc) 0 = (s.router pl quire i).cred.rd (o * 8 + vc) 0 - 1 ∧
      (t.router pl quire i).used.rd (o * 8 + vc) 0 = (s.router pl quire i).used.rd (o * 8 + vc) 0 - 1 := by
  unfold execCreditReturn
  rw [inPlane_runs hr, if_neg (by omega)]
  refine ⟨_, rfl, ?_⟩
  cases quire with
  | false =>
    rw [if_neg Bool.false_ne_true]
    dsimp only
    rw [State.router_modRouter, takeCredit_pos h]
    exact ⟨Tab.rd_upd_same _ _ _ (· - 1), Tab.rd_upd_same _ _ _ (· - 1)⟩
  | true =>
    rw [if_pos rfl]
    dsimp only
    rw [State.router_modRouter, takeCredit_pos h]
    dsimp only
    rw [(Router.creditSent_credits _ _ _).1, (Router.creditSent_credits _ _ _).2]
    exact ⟨Tab.rd_upd_same _ _ _ (· - 1), Tab.rd_upd_same _ _ _ (· - 1)⟩

theorem execCreditReturn_none (p : Nat) (h : (s.ni pl p).txCred.rd vc 0 = 0) {t : State}
    (ht : execCreditReturn pl (.niLink p) vc s = .next t) : t.ni pl p = s.ni pl p := by
  unfold execCreditReturn at ht
  rw [inPlane_runs hr, if_neg (by omega)] at ht
  obtain rfl := Host.Outcome.next.inj ht
  rw [State.ni_modNi, takeCredit_zero h]

end

/-! #### The clauses together -/

section

variable (s : State) (pl : Pl)

theorem outputArbitration_runs (hr : s.runs pl = true) :
    (∀ p, s.isPort p = true → s.quireRuns (p / 24) = true → (s.port p).live = true →
      exec (.outputArbitration pl (.niLink p)) s = .next (s.niLinkStep pl p) ∧
      ∀ f rest, (s.ni pl p).tx.rd 0 [] = f :: rest → (s.ni pl p).txUsed.rd 0 0 < 8 → s.resending pl (.niLink p) 0 = false →
        hVc f.hdr = 0 →
        let t := s.niLinkStep pl p
        (t.ni pl p).tx.rd 0 [] = rest ∧ (t.ni pl p).txUsed.rd 0 0 = (s.ni pl p).txUsed.rd 0 0 + 1 ∧
        ∃ x, (t.router pl false (p / 6)).buf.rd (p % 6 * 8) [] = (s.router pl false (p / 6)).buf.rd (p % 6 * 8) [] ++ [x] ∧
          x.hdr = f.hdr ∧ x.data = f.data ∧ x.idx = f.idx) ∧
    (∀ g, g < s.variant.folios → s.quireRuns (g / 4) = true →
      exec (.outputArbitration pl (.folio g)) s = .next (s.arbitrate pl false g)) ∧
    (∀ q, q < s.variant.quires → s.quireRuns q = true →
      exec (.outputArbitration pl (.quire q)) s = .next (s.arbitrate pl true q)) ∧
    (∀ q vc, q < s.variant.quires → vc < 7 → (s.qp 4).state = .run → s.quireRuns q = true →
      exec (.outputArbitration pl (.service q vc)) s = .next (s.sbLinkStep pl q vc)) ∧
    (∀ e vc, e < s.variant.mules → vc < 7 → s.quireRuns (e / 2) = true →
      exec (.outputArbitration pl (.mule e vc)) s = .next (s.muleLinkStep pl e vc)) :=
  ⟨fun p hp hq hl => ⟨execOutputArbitration_niLink s pl hr hp hq hl, fun _ _ hf hu hre hvc => s.niLinkStep_sends pl p hf hu hre hvc⟩,
    fun _ hg hq => execOutputArbitration_folio s pl hr hg hq, fun _ hg hq => execOutputArbitration_quire s pl hr hg hq,
    fun _ _ hg hvc h4 hq => execOutputArbitration_service s pl hr hg hvc h4 hq,
    fun _ _ he hvc hq => execOutputArbitration_mule s pl hr he hvc hq⟩

/-- What a grant leaves of the router: the buffer, the VC's packet, the credits, and the answer of a flit that is discarded. -/
theorem State.grantFlit_effect (hr : s.runs pl = true) (quire : Bool) (i n vc o : Nat) {f : Flit} {rest : List Flit}
    (hbuf : (s.router pl quire i).buf.rd (n * 8 + vc) [] = f :: rest) :
    let t := s.grantFlit pl quire i n vc o
    let r := s.router pl quire i
    let x := t.router pl quire i
    x.buf.rd (n * 8 + vc) [] = rest ∧ x.alloc.rd (o * 8 + vc) 0 = (if f.idx = hLen f.hdr then 0 else n + 1) ∧
    (s.draining pl quire i o = false → x.used.rd (o * 8 + vc) 0 = r.used.rd (o * 8 + vc) 0 + 1) ∧
    (s.draining pl quire i o = true → x.used.rd (o * 8 + vc) 0 = r.used.rd (o * 8 + vc) 0 ∧
      (f.idx = 0 → hLen f.hdr = 0 → hKind f.hdr ≤ kQop →
        x.gen.rd (rspVc vc) [] = r.gen.rd (rspVc vc) [] ++ [s.checked pl (drainAnswer f.hdr f.data s.now)])) := by
  intro t r x
  have ht : x = (s.grantHead pl quire i n vc o f rest).router pl quire i := congrArg (State.router · pl quire i) (State.grantFlit_cons o hbuf)
  obtain ⟨-, hxbuf, hxused, hxalloc⟩ := State.grantHead_router hr n vc o f rest (quire := quire) (i := i)
  rw [ht, hxbuf, hxused, hxalloc]
  refine ⟨Tab.rd_wr_same _ _ _ _, Tab.rd_wr_same _ _ _ _, fun hd => ?_, fun hd => ⟨?_, fun hidx hlen hkind => ?_⟩⟩
  · rw [hd, if_neg Bool.false_ne_true]
    exact Tab.rd_upd_same _ _ _ (· + 1)
  · rw [hd, if_pos rfl]
  · exact State.gen_grantHead n vc o rest hd hidx hlen hkind

theorem drainAnswer_whole (hr : s.runs pl = true) (vc i : Nat) (quire : Bool) {a : List Flit} {rest : List (List Flit)}
    (hg : (s.router pl quire i).gen.rd vc [] = a :: rest)
    (hroom : a.length + ((s.router pl quire i).buf.rd (nOut quire * 8 + vc) []).length ≤ vcDepth vc)
    (hi : if quire then i < s.variant.quires else i < s.variant.folios) :
    ∃ t : State, exec (.drainAnswer pl (if quire then .quire i else .folio i) vc) s = .next t ∧
      (t.router pl quire i).gen.rd vc [] = rest ∧
      ((t.router pl quire i).buf.rd (nOut quire * 8 + vc) []).length =
        ((s.router pl quire i).buf.rd (nOut quire * 8 + vc) []).length + a.length := by
  obtain ⟨t, ht, hrt⟩ := execDrainAnswer_moves s pl vc i quire hr hg hi
  refine ⟨t, ht, ?_⟩
  rw [hrt]
  exact Router.genMove_whole hroom

end

section

variable (s : State) (pl : Pl) (out : OutPort) (got : LinkFlit) {f : Flit} (hr : s.runs pl = true)
  (hb : got.back < (s.farFlits pl (farOf out) got.vc).length)
  (hf : (s.farFlits pl (farOf out) got.vc)[(s.farFlits pl (farOf out) got.vc).length - 1 - got.back]? = some f)

include hr hb hf

/-- A check failure, by the part and by what has failed on the link before. -/
theorem linkCheckFailure_effect :
    let k := keeperOf out got.vc
    let l := s.farFlits pl (farOf out) got.vc
    let sent := ((s.router pl k.1 k.2.1).hist.rd (k.2.2 / 8) []).filter (fun f => decide (hVc f.hdr = got.vc))
    (linkCheck f.hdr got.data = got.word → exec (.linkCheckFailure pl out got) s = .next s) ∧
    (linkCheck f.hdr got.data ≠ got.word → s.variant.paired = false → (s.router pl k.1 k.2.1).retried.rd k.2.2 0 = 0 →
      got.back < sent.length → ∃ t : State, exec (.linkCheckFailure pl out got) s = .next t ∧
        (∀ x, x ∈ t.farFlits pl (farOf out) got.vc ↔ x ∈ l.take (l.length - (got.back + 1))) ∧
        (t.router pl k.1 k.2.1).retryWait.rd k.2.2 [] =
          (sent.drop (sent.length - 1 - got.back)).map (fun f => { f with since := s.fc }) ∧
        (t.router pl k.1 k.2.1).retried.rd k.2.2 0 = 1 ∧ t.retryWords pl out = s.retryWords pl out + 1) ∧
    (linkCheck f.hdr got.data ≠ got.word → s.variant.paired = false → (s.router pl k.1 k.2.1).retried.rd k.2.2 0 ≠ 0 →
      ∃ t : State, exec (.linkCheckFailure pl out got) s = .next t ∧
        t.farFlits pl (farOf out) got.vc = l.map (fun x => if x = f then { f with data := got.data, poison := true } else x) ∧
        (t.router pl k.1 k.2.1).poisonRun.rd k.2.2 false = decide (f.idx < hLen f.hdr)) ∧
    (linkCheck f.hdr got.data ≠ got.word → s.variant.paired = true → s.pair.window = false → s.pair.faulty = none →
      ∃ t : State, exec (.linkCheckFailure pl out got) s = .next t ∧ t.pair.faulty = some pl ∧ t.pair.cause = 3) := by
  intro k l sent
  have hexec := execLinkCheckFailure_runs s pl out got hr hb hf
  refine ⟨fun hw => ?_, fun hw hv h0 hsent => ⟨_, ?_, s.failFirst_retry pl out got hv hsent⟩,
    fun hw hv h0 => ⟨_, ?_, s.failSecond_poison pl out got hv f⟩, fun hw hv hwin hfault => ⟨_, ?_, s.failPaired_fault pl out got hv hr hwin hfault f⟩⟩
  · exact hexec.trans (by rw [if_pos hw])
  · exact hexec.trans (by rw [if_neg hw, if_neg (by rw [hv]; decide), if_pos h0])
  · exact hexec.trans (by rw [if_neg hw, if_neg (by rw [hv]; decide), if_neg h0])
  · exact hexec.trans (by rw [if_neg hw, if_pos hv])

end

/-- Settles O22: each sender's step by its node; a grant by `grantFlit_effect`, whose stages leave the rest of the router; a link
failure by the part and by what has failed before. -/
theorem fabricMovesFlits : Obligations.FabricMovesFlits := by
  unfold Obligations.FabricMovesFlits
  refine ⟨fun s pl hr => outputArbitration_runs s pl hr, fun s pl g n vc o f rest hr _ _ _ _ hbuf _ => s.grantFlit_effect pl hr false g n vc o hbuf,
    fun s pl vc i quire a rest hr hg hroom hi => drainAnswer_whole s pl hr vc i quire hg hroom hi, fun s pl vc hr hvc => ?_,
    fun s pl out got f hr _ => ?_, fun s pl out vc f rest hr _ hv => ?_⟩
  · exact ⟨fun p h => execCreditReturn_niLink s pl hr hvc p h, fun e h => execCreditReturn_mule s pl hr hvc e h,
      fun q h => execCreditReturn_service s pl hr hvc q h, fun quire i o h => execCreditReturn_router s pl hr hvc quire i o h,
      fun p h t ht => execCreditReturn_none s pl hr hvc p h ht⟩
  · intro k l sent hb hf
    exact linkCheckFailure_effect s pl out got hr hb hf
  · intro k hw hd h0
    exact ⟨_, execLinkRetryRequest_due s pl out vc hr hw hd h0, s.linkRetry_effect pl out vc hv (f :: rest)⟩

end Sys2Proof.Machine

namespace Sys2Proof.Machine

/-! ### The comparators (R237, R238, R240, R241, R244) -/

/-- The comparator once the flits of this fc are taken; `a`: half A's flit leaves the delay register. -/
def Cmp.withoutHeads (a : Bool) (c : Cmp) : Cmp :=
  { c with
    delay := if a then c.delay.drop 1 else c.delay
    inB := c.inB.drop 1 }

section

variable (s : State) (p : Nat) (fa fb : Option HalfFault)

/-! #### The flits of an fc -/

theorem execComparatorDecision_decides (hv : s.variant.paired = true) (hp : s.isPort p = true) (ht : (s.cmpOf p).testAt ≠ some s.fc)
    (hd : (s.cmpOf p).diverged = none) : execComparatorDecision p fa fb s = .next (s.cmpFlits p fa fb) := by
  have hwake : s.wakeComparator p = s := by
    unfold State.wakeComparator
    rw [hd]
    split
    · next h => cases h
    · rfl
  unfold execComparatorDecision
  rw [hwake, if_neg (by simp [hv, hp, ht])]

theorem State.cmpQueue_stalled (h : (s.cmpOf p).stalled = true) : s.cmpQueue p = s := if_pos h

theorem State.cmpFlits_joins (h : (s.cmpOf p).stalled = true) (hq : (s.cmpOf p).queue.length < 8)
    (hab : seenOf (s.headA p) fa s.fc ≠ none ∨ seenOf (s.headB p) fb s.fc ≠ none) : s.cmpFlits p fa fb =
      (s.takeHeads p).modCmp p (fun c => { c with queue := c.queue ++ [(s.fc, seenOf (s.headA p) fa s.fc, seenOf (s.headB p) fb s.fc)] }) := by
  unfold State.cmpFlits
  dsimp only
  rw [if_pos (by rw [h, Bool.true_or]), if_pos ⟨hq, hab.imp Option.isSome_iff_ne_none.2 Option.isSome_iff_ne_none.2⟩, State.cmpQueue_stalled]
  have hcmp (f g : Cmp → Cmp) : ((s.modCmp p f).modCmp p g).cmpOf p = g (f (s.cmpOf p)) :=
    (Tab.rd_upd_same _ _ _ _).trans (congrArg g (Tab.rd_upd_same _ _ _ _))
  rw [State.takeHeads, hcmp]
  exact h

theorem State.cmpFlits_full (h : (s.cmpOf p).stalled = true) (hq : 8 ≤ (s.cmpOf p).queue.length) : s.cmpFlits p fa fb = s := by
  unfold State.cmpFlits
  dsimp only
  rw [if_pos (by rw [h, Bool.true_or]), if_neg (by omega), State.cmpQueue_stalled s p h]

theorem State.cmpSingle_takeHeads : (s.takeHeads p).cmpSingle p = s.cmpSingle p := by
  have hruns (pl : Pl) : (s.takeHeads p).runs pl = s.runs pl := by cases pl <;> rfl
  have hcmp : (s.takeHeads p).cmpOf p = (s.cmpOf p).withoutHeads (s.headA p).isSome :=
    Tab.rd_upd_same s.pair.cmp p {} (Cmp.withoutHeads (s.headA p).isSome)
  unfold State.cmpSingle
  rw [hruns, hruns, hcmp]
  rfl

theorem State.cmpFlits_open (h : (s.cmpOf p).stalled = false) (hq : (s.cmpOf p).queue = []) : s.cmpFlits p fa fb =
    (s.takeHeads p).decideAt p (seenOf (s.headA p) fa s.fc) (seenOf (s.headB p) fb s.fc) := by
  unfold State.cmpFlits
  dsimp only
  rw [if_neg]
  rw [h, hq]
  decide

theorem State.cmpFlits_leaves {t : Nat} {qa qb : Option Seen} {rest : List (Nat × Option Seen × Option Seen)}
    (h : (s.cmpOf p).stalled = false) (hq : (s.cmpOf p).queue = (t, qa, qb) :: rest)
    (ha : seenOf (s.headA p) fa s.fc = none) (hb : seenOf (s.headB p) fb s.fc = none) (hd : t + s.img.skew + 1 ≤ s.fc) :
    s.cmpFlits p fa fb = (s.modCmp p (fun c => { c with queue := rest })).decideAt p qa qb := by
  unfold State.cmpFlits
  dsimp only
  rw [if_pos (by rw [h, hq]; rfl), ha, hb, if_neg (by simp)]
  unfold State.cmpQueue
  dsimp only
  rw [if_neg (by rw [h]; decide)]
  split
  · next he => cases (hq.symm.trans he :)
  · next t' qa' qb' rest' he =>
    obtain ⟨he1, rfl⟩ := List.cons.inj (hq.symm.trans he)
    obtain ⟨rfl, he2⟩ := Prod.mk.inj he1
    obtain ⟨rfl, rfl⟩ := Prod.mk.inj he2
    rw [if_pos hd]

theorem State.decideAt_none (h : s.cmpSingle p = none) (a b : Option Seen) : s.decideAt p a b = s.decidePair p a b := by
  unfold State.decideAt
  rw [h]

theorem State.decideAt_a (h : s.cmpSingle p = some .a) (a b : Option Seen) : s.decideAt p a b = s.decideA p a := by
  unfold State.decideAt
  rw [h]

theorem State.decideAt_b (h : s.cmpSingle p = some .b) (a b : Option Seen) : s.decideAt p a b = s.decideB p b := by
  unfold State.decideAt
  rw [h]

end

/-! #### The decision on a pair (R238, R241) -/

section

variable (s : State) (p : Nat) (fa fb : Option Seen) (x y : Seen)

theorem State.decideA_same (hx : checkPass .a x.copy = true) (h : sameFlit x.flit x.copy = true) :
    s.decideA p (some x) = s.deliver p x.flit false := by
  unfold State.decideA
  dsimp only
  rw [if_pos (by rw [hx, h]; rfl)]

theorem State.decideA_differs (hx : checkPass .a x.copy = true) (h : sameFlit x.flit x.copy = false) : s.decideA p (some x) =
    (if (s.suspectPort p).runs .b then s.suspectPort p
      else (s.suspectPort p).planeFault .a 1 p (some (ownerBits x.copy.hdr))).deliver p x.flit true := by
  unfold State.decideA
  dsimp only
  rw [if_neg (by rw [hx, h]; decide), hx, if_pos rfl, Bool.true_and]

theorem State.decideB_passes (hy : checkPass .b y.copy = true) : s.decideB p (some y) = s.deliver p y.flit false := if_pos hy

theorem State.decideB_fails (hy : checkPass .b y.copy = false) :
    s.decideB p (some y) = (s.planeFault .b 1 p (some (ownerBits y.copy.hdr))).deliver p y.flit true :=
  if_neg (by rw [hy]; decide)

theorem verdict_equal (hx : seenOk .a (some x) = true) (hy : seenOk .b (some y) = true) (h : sameFlit x.flit y.flit = true) :
    verdict (some x) (some y) = .equal x.flit := by
  unfold verdict
  rw [hx, hy]
  exact if_pos h

theorem verdict_replay (hx : seenOk .a (some x) = true) (hy : seenOk .b (some y) = true) (h : sameFlit x.flit y.flit = false) :
    verdict (some x) (some y) = .replay x y := by
  unfold verdict
  rw [hx, hy]
  exact if_neg (by rw [h]; decide)

theorem verdict_onlyB (hx : seenOk .a fa = false) (hy : seenOk .b (some y) = true) : verdict fa (some y) = .only .b y := by
  unfold verdict
  rw [hx, hy]
  cases fa <;> rfl

theorem verdict_onlyA (hx : seenOk .a (some x) = true) (hy : seenOk .b fb = false) : verdict (some x) fb = .only .a x := by
  unfold verdict
  rw [hx, hy]
  cases fb <;> rfl

theorem verdict_both (hx : seenOk .a (some x) = false) (hy : seenOk .b fb = false) : verdict (some x) fb = .both x.flit := by
  unfold verdict
  rw [hx, hy]
  cases fb <;> rfl

theorem verdict_bothB (hy : seenOk .b (some y) = false) : verdict none (some y) = .both y.flit := by
  unfold verdict
  rw [hy]
  rfl

theorem State.decidePair_equal {f : Flit} (h : verdict fa fb = .equal f) : s.decidePair p fa fb = s.deliver p f false := by
  unfold State.decidePair; rw [h]

theorem State.decidePair_replay (h : verdict fa fb = .replay x y) : s.decidePair p fa fb =
    s.modCmp p (fun c => { c with copyA := some x.copy, copyB := some y.copy, waitAt := some s.fc }) := by
  unfold State.decidePair; rw [h]

theorem State.decidePair_both {f : Flit} (h : verdict fa fb = .both f) : s.decidePair p fa fb =
    ((s.affectOwners (ownerBits f.hdr)).occurInfo 381 p).deliver p f true := by
  unfold State.decidePair; rw [h]

theorem State.decidePair_onlyA (h : verdict fa fb = .only .a x) : s.decidePair p fa fb = (s.cmpFault p .b x.copy).decideA p (some x) := by
  unfold State.decidePair; rw [h]

theorem State.decidePair_onlyB (h : verdict fa fb = .only .b y) : s.decidePair p fa fb = (s.cmpFault p .a y.copy).decideB p (some y) := by
  unfold State.decidePair; rw [h]

end

/-! #### The flit enters the port (R237, R242) -/

section

variable {s t : State} {pl : Pl}

theorem State.ni_enterNi_other {q : Pl} (h : pl ≠ q) (p : Nat) (f : Flit) : (t.enterNi q p f).ni pl p = t.ni pl p := by
  have hcount (code qual : Nat) (owner : Option Nat) : (t.countNi q p code qual owner).ni pl p = t.ni pl p :=
    (t.countNi_records q p code qual owner).ni pl p
  have hcredit (u : State) (vc n : Nat) : (u.giveCredit q (outToPort p) vc n).ni pl p = u.ni pl p := State.ni_modRouter ..
  unfold State.enterNi
  dsimp only
  split
  · split
    · exact hcount _ _ _
    · rw [hcredit, hcount]
  split
  · rw [hcredit, State.ni_modNi_other _ h, hcount]
  · split
    · rw [State.ni_modNi_other _ h, hcount]
    · rw [hcredit, State.ni_modNi_other _ h, hcount]

theorem State.rx_enterNi (p : Nat) {f : Flit} (h0 : hVc f.hdr ≠ 0) (ha : onArrival (hVc f.hdr) = false) :
    ((t.enterNi pl p f).ni pl p).rx.rd (hVc f.hdr) [] = (t.ni pl p).rx.rd (hVc f.hdr) [] ++ [{ f with since := t.fc }] := by
  have hcount (code qual : Nat) (owner : Option Nat) : (t.countNi pl p code qual owner).ni pl p = t.ni pl p :=
    (t.countNi_records pl p code qual owner).ni pl p
  have hcredit (u : State) (vc n : Nat) : (u.giveCredit pl (outToPort p) vc n).ni pl p = u.ni pl p := State.ni_modRouter ..
  unfold State.enterNi
  dsimp only
  rw [if_neg h0, if_neg (by rw [ha]; decide)]
  split
  · rw [State.ni_modNi, hcount, pushAt, Tab.rd_upd_same]
  · rw [hcredit, State.ni_modNi, hcount, pushAt, Tab.rd_upd_same]

/-- A flit that a comparator delivers on a VC whose packets wait in the receive buffer is at its end, in each plane. -/
theorem State.rx_deliver (hr : s.runs pl = true) (p : Nat) {f : Flit} (h0 : hVc f.hdr ≠ 0) (ha : onArrival (hVc f.hdr) = false) :
    ((s.deliver p f false).ni pl p).rx.rd (hVc f.hdr) [] = (s.ni pl p).rx.rd (hVc f.hdr) [] ++ [{ f with since := s.fc }] := by
  have hgt : s.edgeGt p f = s := if_neg h0
  obtain ⟨u, hfc, hu, hobs⟩ := State.eachPlane_read hr (fun q t => t.enterNi q p f) (fun t => t.fc = s.fc)
    (fun t => t.ni pl p) rfl (fun q t _ h => (State.enterNi_steady (.refl t) q p f).fc.trans h) (fun q t hq => State.ni_enterNi_other hq.symm p f)
  rw [State.deliver, if_neg Bool.false_ne_true, State.edgeEnter, hgt, hobs, State.rx_enterNi p h0 ha, hu, hfc]

end

end Sys2Proof.Machine

namespace Sys2Proof.Machine

/-! #### Replays and divergences (R240) -/

section

variable (s : State) (p : Nat)

theorem State.pair_poisonOwner (owner priv : Nat) : (s.poisonOwner owner priv).pair = s.pair := by
  unfold State.poisonOwner
  split
  · rfl
  · rfl

theorem State.cmpOf_deliver (f : Flit) (b : Bool) (i : Nat) : (s.deliver p f b).cmpOf i = s.cmpOf i := by
  have hedge (t : State) (g : Flit) : (t.edgeEnter p g).pair.cmp = t.pair.cmp := State.cmp_of_shell (t.shell_edgeEnter p g)
  unfold State.deliver State.cmpOf
  split
  · rw [hedge, State.pair_poisonOwner, State.pair_ginc]
  · rw [hedge]

theorem State.endWait_b {y : Flit} (h : (s.cmpOf p).copyB = some y) (b : Bool) : s.endWait p .b b = (s.modCmp p (fun c => { c with
    waitAt := none, diverged := none, copyA := none, copyB := none })).deliver p y b := by
  unfold State.endWait
  dsimp only
  split
  · next f hf =>
    obtain rfl := Option.some.inj (h.symm.trans hf)
    rfl
  · next hf => cases (h.symm.trans hf :)

theorem State.stalled_endWait_b {y : Flit} (h : (s.cmpOf p).copyB = some y) (b : Bool) : ((s.endWait p .b b).cmpOf p).stalled = false := by
  have hcmp : (s.modCmp p Cmp.released).cmpOf p = (s.cmpOf p).released := Tab.rd_upd_same s.pair.cmp p {} Cmp.released
  rw [s.endWait_b p h, State.cmpOf_deliver]
  exact (congrArg Cmp.stalled hcmp).trans rfl

theorem execComparatorReplay_waits {t : Nat} {x y : Flit} (d : CmpFlit) (ht : (s.cmpOf p).waitAt = some t)
    (hx : (s.cmpOf p).copyA = some x) (hy : (s.cmpOf p).copyB = some y) : execComparatorReplay p d s = .next (
      if s.fc < t + s.img.skew + 1 then s
      else if sameFlit (faultFlit d (some x) s.fc) y then (s.transient p).endWait p .b false
      else if !sameFlit (faultFlit d (some x) s.fc) x then (s.suspectPort p).endWait p .b false
      else s.modCmp p (fun c => { c with waitAt := none, diverged := some s.fc })) := by
  unfold execComparatorReplay
  dsimp only
  rw [ht, hx, hy]

theorem execDivergeTimeout_late {t : Nat} (ht : (s.cmpOf p).diverged = some t) (hd : t + 64 ≤ s.fc) : execDivergeTimeout p s =
    .next ((((s.ginc rPairDiverge 0 32 1).planeFault .b 4 p ((s.cmpOf p).copyA.map (fun f => ownerBits f.hdr))).modCmp p
      (fun c => { c with faultSeen := some .b })).endWait p .a true).timedCheckAll := by
  unfold execDivergeTimeout
  rw [ht]
  dsimp only
  rw [if_pos hd]
  cases (s.cmpOf p).copyA <;> rfl

end

/-! #### CLEAR_SUSPECT (R240, R259) -/

/-- A change that is the same when it is made twice, made at every row, has been made at each. -/
theorem Tab.rd_foldl_upd_rows {α : Type} [DecidableEq α] (d : α) (f : α → α) (hf : ∀ x, f (f x) = f x) (rows t : Tab α) (k : Nat)
    (hk : k ∈ rows.map (·.1)) : Tab.rd (rows.foldl (fun u x => Tab.upd u x.1 d f) t) k d = f (Tab.rd t k d) := by
  have hstep (u : Tab α) (i : Nat) : Tab.rd (Tab.upd u i d f) k d = if k = i then f (Tab.rd u k d) else Tab.rd u k d := by
    split
    · next h => rw [h]; exact Tab.rd_upd_same _ _ _ _
    · next h => exact Tab.rd_upd_ne _ _ _ _ h
  have hall (rows t : Tab α) : Tab.rd (rows.foldl (fun u x => Tab.upd u x.1 d f) t) k d =
      if k ∈ rows.map (·.1) then f (Tab.rd t k d) else Tab.rd t k d := by
    induction rows generalizing t with
    | nil => rfl
    | cons x rows ih =>
      rw [List.foldl_cons, ih, hstep]
      by_cases hx : k = x.1
      · have hmem : k ∈ (x :: rows).map (·.1) := List.mem_cons.2 (.inl hx)
        rw [if_pos hx, if_pos hmem, hf, ite_self]
      · simp only [hx, if_false, List.map_cons, List.mem_cons, false_or]
  rw [hall, if_pos hk]

theorem Cmp.clearSuspect_idem (c : Cmp) : c.clearSuspect.clearSuspect = c.clearSuspect := by
  unfold Cmp.clearSuspect
  split
  · rfl
  · rfl

theorem State.cmpOf_clearSuspects (s : State) (p : Nat) (h : (s.cmpOf p).suspect = true) :
    s.clearSuspects.cmpOf p = (s.cmpOf p).clearSuspect := by
  have hne : s.pair.cmp.rd p {} ≠ {} := fun e => by
    have h' : (s.pair.cmp.rd p {}).suspect = true := h
    rw [e] at h'
    cases h'
  exact Tab.rd_foldl_upd_rows {} Cmp.clearSuspect Cmp.clearSuspect_idem _ _ p
    (List.mem_map.2 ⟨_, Tab.mem_of_rd_ne hne, rfl⟩)

theorem Cmp.clearSuspect_suspect {c : Cmp} (h : c.suspect = true) : c.clearSuspect.suspect = false ∧ c.clearSuspect.single = c.latent ∧
    c.clearSuspect.fromB = false := by
  unfold Cmp.clearSuspect
  rw [if_pos h]
  exact ⟨rfl, rfl, rfl⟩

/-! #### Proof tests (R244) -/

/-- The test flit of the due slot has run. -/
def Cmp.tested (due fc : Nat) (c : Cmp) : Cmp :=
  { c with
    pattern := (c.pattern + 1) % 4
    tests := due
    testAt := some fc }

/-- A comparator that has failed its test. -/
def Cmp.failsTest (c : Cmp) : Cmp :=
  { c with
    latent := true
    single := true
    fromB := false }

section

variable (s : State) (p : Nat)

theorem State.cmpOf_modCmp (f : Cmp → Cmp) : (s.modCmp p f).cmpOf p = f (s.cmpOf p) := Tab.rd_upd_same _ _ _ _

theorem State.pair_occurInfo {src : Nat} (h : 372 ≤ src ∧ src ≤ 404) (info : Nat) : (s.occurInfo src info).pair = s.pair :=
  (State.Records.occurInfo (C := fun _ => False) (W := fun _ => False) s h info).pair

variable (hv : s.variant.paired = true) (hp : s.isPort p = true) (hd : (s.cmpOf p).tests < s.testDue) (ht : s.testSlot p = true)

include hv hp hd ht

theorem execProofTest_due (railsOk : Bool) : execProofTest p railsOk s = .next (
    let t := s.modCmp p (Cmp.tested s.testDue s.fc)
    if railsOk && (s.cmpOf p).testRight then t.ginc rPairProof 0 32 1
    else ((t.modCmp p Cmp.failsTest).occurInfo 383 p).timedCheckAll) := by
  unfold execProofTest
  rw [if_neg (by simp [hv, hp, ht, hd])]
  rfl

/-- A test that gives the expected decision is counted. -/
theorem execProofTest_passes (hright : (s.cmpOf p).testRight = true) : ∃ t : State, execProofTest p true s = .next t ∧
    t.gf rPairProof 0 32 = satAdd 32 (s.gf rPairProof 0 32) 1 ∧ (t.cmpOf p).pattern = ((s.cmpOf p).pattern + 1) % 4 ∧
    (t.cmpOf p).tests = s.testDue ∧ (t.cmpOf p).testAt = some s.fc := by
  have hcmp : ((s.modCmp p (Cmp.tested s.testDue s.fc)).ginc rPairProof 0 32 1).cmpOf p = (s.cmpOf p).tested s.testDue s.fc := by
    rw [State.cmpOf, State.pair_ginc]
    exact s.cmpOf_modCmp p _
  refine ⟨(s.modCmp p (Cmp.tested s.testDue s.fc)).ginc rPairProof 0 32 1, ?_, ?_⟩
  · rw [execProofTest_due s p hv hp hd ht true, hright]
    rfl
  rw [hcmp, State.gf_ginc _ _ _ (by decide)]
  exact ⟨rfl, rfl, rfl, rfl⟩

/-- One that does not leaves the port on plane A. -/
theorem execProofTest_fails : ∃ t : State, execProofTest p false s = .next t.timedCheckAll ∧ (t.cmpOf p).latent = true ∧
    (t.cmpOf p).single = true ∧ (t.cmpOf p).fromB = false ∧ (t.cmpOf p).pattern = ((s.cmpOf p).pattern + 1) % 4 ∧
    t.evt.count.rd 383 0 = satAdd 8 (s.evt.count.rd 383 0) 1 := by
  have hcmp : (((s.modCmp p (Cmp.tested s.testDue s.fc)).modCmp p Cmp.failsTest).occurInfo 383 p).cmpOf p =
      ((s.cmpOf p).tested s.testDue s.fc).failsTest := by
    rw [State.cmpOf, State.pair_occurInfo _ (by decide), ← State.cmpOf, State.cmpOf_modCmp, State.cmpOf_modCmp]
  refine ⟨((s.modCmp p (Cmp.tested s.testDue s.fc)).modCmp p Cmp.failsTest).occurInfo 383 p, execProofTest_due s p hv hp hd ht false, ?_⟩
  rw [hcmp, State.occurInfo, State.count_occur, Tab.rd_upd_same]
  exact ⟨rfl, rfl, rfl, rfl, rfl⟩

end

theorem execPairRejoin_allowed (s : State) (r : CwReq) (h : s.writeAllowed r rPairCtrl) : execPairRejoin r s =
    .next (({ s.touch rPairCtrl with pair := { (s.touch rPairCtrl).pair with rejoin := true } } : State).answer r stOk none) :=
  State.cwWrite_allowed h (fun t : State => { t with pair := { t.pair with rejoin := true } })

/-! #### The clauses together -/

/-- Settles O34: each decision by the verdict of R238, each command by its case. -/
theorem comparatorRules : Obligations.ComparatorRules := by
  unfold Obligations.ComparatorRules
  refine ⟨fun s p fa fb hv hp hta hdv => ?_, fun s p fa fb x y => ?_, fun s pl p f hr hvc => ?_, fun s p t x y d => ⟨?_, ?_, ?_⟩,
    fun s r => ⟨fun h => ?_, fun p h => ?_, fun p hv hp hd ht => ?_⟩⟩
  · have hexec := execComparatorDecision_decides s p fa fb hv hp hta hdv
    intro c a b
    refine ⟨fun hs hq hab => ?_, fun hs hq => ?_, fun hs hq h1 => ?_, fun hs hq h1 => ?_, fun hs hq h1 => ?_,
      fun t qa qb rest hs hq ha hb hd => ?_⟩
    · exact hexec.trans (by rw [s.cmpFlits_joins p fa fb hs hq hab])
    · exact hexec.trans (by rw [s.cmpFlits_full p fa fb hs hq])
    · exact hexec.trans (by rw [s.cmpFlits_open p fa fb hs hq, State.decideAt_none _ p ((s.cmpSingle_takeHeads p).trans h1)])
    · exact hexec.trans (by rw [s.cmpFlits_open p fa fb hs hq, State.decideAt_a _ p ((s.cmpSingle_takeHeads p).trans h1)])
    · exact hexec.trans (by rw [s.cmpFlits_open p fa fb hs hq, State.decideAt_b _ p ((s.cmpSingle_takeHeads p).trans h1)])
    · exact hexec.trans (by rw [s.cmpFlits_leaves p fa fb hs hq ha hb hd])
  · refine ⟨fun hx hy => ⟨fun h => ?_, fun h => ?_⟩, fun hx hy => ?_, fun hx hsame hy => ?_, fun hx hy => ?_, fun hy => ?_,
      s.decideA_same p x, s.decideA_differs p x, s.decideB_passes p y, s.decideB_fails p y⟩
    · exact s.decidePair_equal p _ _ (verdict_equal x y hx hy h)
    · exact s.decidePair_replay p _ _ x y (verdict_replay x y hx hy h)
    · exact (s.decidePair_onlyB p _ _ y (verdict_onlyB fa y hx hy)).trans (State.decideB_passes _ p y hy)
    · exact (s.decidePair_onlyA p _ _ x (verdict_onlyA fb x hx hy)).trans (State.decideA_same _ p x hx hsame)
    · exact s.decidePair_both p _ _ (verdict_both fb x hx hy)
    · exact s.decidePair_both p _ _ (verdict_bothB y hy)
  · refine State.rx_deliver hr p (by omega) ?_
    exact decide_eq_false (by omega)
  · intro ht hx hy f
    have hexec := execComparatorReplay_waits s p d ht hx hy
    refine ⟨fun h => ?_, fun h h1 => ?_, fun h h1 h2 => ?_, fun h h1 h2 => ?_⟩
    · exact hexec.trans (by rw [if_pos h])
    · exact hexec.trans (by rw [if_neg (by omega), if_pos h1])
    · exact hexec.trans (by rw [if_neg (by omega), if_neg (by rw [h1]; decide), if_pos (by rw [h2]; rfl)])
    · exact hexec.trans (by rw [if_neg (by omega), if_neg (by rw [h1]; decide), if_neg (by rw [h2]; decide)])
  · exact fun ht hd => execDivergeTimeout_late s p ht hd
  · exact fun hy b => ⟨s.endWait_b p hy b, s.stalled_endWait_b p hy b⟩
  · exact ⟨execPairRejoin_allowed s r h, State.cwWrite_allowed h _⟩
  · rw [s.cmpOf_clearSuspects p h]
    exact Cmp.clearSuspect_suspect h
  · exact ⟨execProofTest_passes s p hv hp hd ht, execProofTest_fails s p hv hp hd ht⟩

end Sys2Proof.Machine

namespace Sys2Proof.Machine

/-! ### Start-up and a return from Deep sleep (R285, R301)

While `slept` is set the start-up registers read as after start-up, so that no step of the sequencer is seen in the phase.
-/

/-- The phase reads 8 after a return from Deep sleep. -/
theorem State.phase_slept (s : State) (h : s.boot.slept = true) : s.phase = 8 := if_pos h

/-- A device that has returned from Deep sleep, with two candidate copies and the first of them tried. -/
def sleptWithCandidates : State := { State.resetOf .t24 with boot := { slept := true, candidates := [0, 1] } }

theorem sleptWithCandidates_nextCopy : sleptWithCandidates.nextCopy.phase = 8 := State.phase_slept _ rfl

/-- Refutes O38: with `slept` set, as a return from Deep sleep leaves it, the next candidate is taken up without the phase reading 3
(or 9, where there is none), and the clause on `nextCopy` bars no such state. -/
theorem not_startupPhases : ¬ Obligations.StartupPhases := by
  unfold Obligations.StartupPhases
  intro h
  obtain ⟨-, hsteps, -⟩ := h
  obtain ⟨-, -, -, -, -, hnext, -⟩ := hsteps sleptWithCandidates
  obtain ⟨hphase, -⟩ := hnext (by decide)
  exact absurd (sleptWithCandidates_nextCopy.symm.trans hphase) (by decide)

end Sys2Proof.Machine

namespace Sys2Proof.Machine

/-! ### Issue, answers and records at the initiator (R42 to R50, R85 to R87, R192, R193) -/

section

variable (s : State) (pl : Pl) (p : Nat)

/-- What an NI sends waits at its link, and changes nothing else of it. -/
theorem State.ni_niSend (hdr : BitVec 64) (lines : List Line) : (s.niSend pl p hdr lines).ni pl p =
    { s.ni pl p with tx := ((s.niSend pl p hdr lines).ni pl p).tx } := by
  unfold State.niSend State.niPass
  dsimp only
  split
  · rw [State.ni_modPort]
  · rw [State.ni_modNi]

theorem lowestFree_spec {n i : Nat} {used : List Nat} (h : lowestFree n used = some i) : i < n ∧ i ∉ used ∧ ∀ j < i, j ∈ used := by
  obtain ⟨hi, hmem, hbefore⟩ := List.find?_range_eq_some.1 h
  exact ⟨List.mem_range.1 hmem, by simpa using hi, fun j hj => by simpa using hbefore j hj⟩

end

end Sys2Proof.Machine

namespace Sys2Proof.Machine

/-! #### Issue (R43, R114) -/

/-- The piece leaves the Stitch channel with tag `t`. -/
def Ni.issue (n : Ni) (q : Piece) (t : Nat) : Ni :=
  { n with
    wait := n.wait.filter (fun x => decide (¬(x.ord = q.ord ∧ x.pidx = q.pidx)))
    out := n.out ++ [{ q with tag := some t, sent := true }]
    beTurn := if q.cls = 2 then false else if q.cls = 3 then true else n.beTurn }

/-- An LL piece goes before any other. -/
theorem Ni.pickIssue_cls {n : Ni} {q : Piece} (h : n.pickIssue = some q) : q.cls = 1 ∨ ∀ x ∈ n.entered, x.cls = 1 → n.free x = false := by
  unfold Ni.pickIssue at h
  dsimp only at h
  split at h
  · next q' hq =>
    obtain rfl := Option.some.inj h
    have hfound := List.find?_some hq
    exact .inl (of_decide_eq_true (Bool.and_eq_true_iff.1 hfound).1)
  · next hnone =>
    refine .inr fun x hx hcls => ?_
    have hno := List.find?_eq_none.1 hnone x hx
    rw [decide_eq_true hcls, Bool.true_and] at hno
    exact Bool.eq_false_iff.2 hno

section

variable (s : State) (pl : Pl) (p : Nat)

theorem execPieceIssue_picks (hr : s.runs pl = true) (hp : s.isPort p = true) (hl : (s.port p).live = true) (hj : s.pair.joining = none)
    {q : Piece} {tag : Nat} (hq : ((s.niSettle pl p).ni pl p).pickIssue = some q) (ht : ((s.niSettle pl p).ni pl p).freeTag = some tag) :
    execPieceIssue pl p s = .next (
      let t := (s.niSettle pl p).modNi pl p (fun n => n.issue q tag)
      (if q.kind = kFence then t else t.countNi pl p 0x02 q.cls (ownerIf q.priv q.owner)).sendPiece pl p { q with tag := some tag, sent := true }) := by
  unfold execPieceIssue
  rw [inPlane_runs hr]
  rw [if_neg (by simp [hp, hl, hj])]
  dsimp only
  rw [hq, ht]
  rfl

theorem State.ni_sendPiece (q : Piece) : (s.sendPiece pl p q).ni pl p = { s.ni pl p with tx := ((s.sendPiece pl p q).ni pl p).tx } :=
  s.ni_niSend pl p _ _

/-- The piece that goes takes the lowest free tag and is outstanding. -/
theorem pieceIssue_effect (hr : s.runs pl = true) (hp : s.isPort p = true) (hl : (s.port p).live = true) (hj : s.pair.joining = none) :
    let n := (s.niSettle pl p).ni pl p
    ∀ q tag, n.pickIssue = some q → n.freeTag = some tag →
      ∃ t : State, exec (.pieceIssue pl p) s = .next t ∧
        (t.ni pl p).out = n.out ++ [{ q with tag := some tag, sent := true }] ∧
        (t.ni pl p).wait = n.wait.filter (fun x => decide (¬(x.ord = q.ord ∧ x.pidx = q.pidx))) ∧
        (tag < 64 ∧ tag ∉ n.tags ∧ ∀ i < tag, i ∈ n.tags) ∧
        (q.cls = 1 ∨ ∀ x ∈ n.entered, x.cls = 1 → n.free x = false) := by
  intro n q tag hq ht
  refine ⟨_, execPieceIssue_picks s pl p hr hp hl hj hq ht, ?_⟩
  have hcount (t : State) (code qual : Nat) (o : Option Nat) : (t.countNi pl p code qual o).ni pl p = t.ni pl p :=
    (t.countNi_records pl p code qual o).ni pl p
  have hni : (if q.kind = kFence then (s.niSettle pl p).modNi pl p (fun n => n.issue q tag)
      else ((s.niSettle pl p).modNi pl p (fun n => n.issue q tag)).countNi pl p 0x02 q.cls (ownerIf q.priv q.owner)).ni pl p =
      n.issue q tag := by
    split
    · exact State.ni_modNi _ _ _ _
    · rw [hcount]
      exact State.ni_modNi _ _ _ _
  rw [State.ni_sendPiece, hni]
  exact ⟨rfl, rfl, lowestFree_spec ht, Ni.pickIssue_cls hq⟩

/-! #### RETRY (R85, R86) -/

/-- An outstanding piece has been refused for the `loss`-th time, and is sent again at slot `at?`; `thaw`: it is resolved again. -/
def Piece.lose (loss at? : Nat) (thaw : Bool) (x : Piece) : Piece :=
  { x with
    loss := loss
    retryAt := some at?
    resolved := x.resolved && !thaw }

variable {s u : State} {pl : Pl} {p vc : Nat} {k : Packet} {q : Piece}

theorem execRetryReceived_retries (hr : s.runs pl = true) (hk : s.popNiIn pl p vc = some (k, u)) (hst : hStatus k.hdr = stRetry)
    (hkind : hKind k.hdr = kRack ∨ hKind k.hdr = kRdata) (hq : u.answeredPiece pl p (hTag k.hdr) = some q) :
    execRetryReceived pl p vc s = .next (
      let t := u.countNi pl p 0x08 0 (ownerIf q.priv q.owner)
      if 12 ≤ q.loss + 1 then (t.countNi pl p 0x09 0 (ownerIf q.priv q.owner)).pieceAnswered pl p q stBusy 0
      else t.modNi pl p (fun n => { n with out := n.out.map (fun x =>
        if x.tag = q.tag then x.lose (q.loss + 1) (t.retrySlot (q.loss + 1)) (x.placed && t.pieceFrozen pl p x) else x) })) := by
  unfold execRetryReceived
  rw [inPlane_runs hr]
  dsimp only
  rw [hk]
  dsimp only
  rw [if_neg (fun hno => hno.elim (· hst) fun hne => hkind.elim hne.1 hne.2), hq]
  rfl

theorem State.popNiIn_time (hk : s.popNiIn pl p vc = some (k, u)) : u.fcInSlot = s.fcInSlot ∧ u.slot = s.slot := by
  unfold State.popNiIn at hk
  split at hk
  · obtain ⟨-, rfl⟩ := Prod.mk.inj (Option.some.inj hk)
    exact ⟨State.modNi_fcInSlot .., State.modNi_slot ..⟩
  · cases hk

theorem State.retrySlot_congr {t : State} (hf : t.fcInSlot = s.fcInSlot) (hs : t.slot = s.slot) (n : Nat) : t.retrySlot n = s.retrySlot n := by
  unfold State.retrySlot State.now
  rw [hf, hs]

/-- A RETRY is followed by a reissue of the piece, with its tag. -/
theorem retryReceived_reissue (hr : s.runs pl = true) (hk : s.popNiIn pl p vc = some (k, u)) (hst : hStatus k.hdr = stRetry)
    (hkind : hKind k.hdr = kRack ∨ hKind k.hdr = kRdata) (hq : u.answeredPiece pl p (hTag k.hdr) = some q) (hl : q.loss < 11) :
    ∃ t : State, exec (.retryReceived pl p vc) s = .next t ∧
      ∃ x ∈ (t.ni pl p).out, x.tag = q.tag ∧ x.loss = q.loss + 1 ∧
        x.retryAt = some ((if s.fcInSlot = 0 then s.now else s.now + 1) + 2 ^ (min (q.loss + 1) 10)) := by
  have hcount := u.countNi_records pl p 0x08 0 (ownerIf q.priv q.owner)
  have hexec := execRetryReceived_retries hr hk hst hkind hq
  dsimp only at hexec
  generalize u.countNi pl p 0x08 0 (ownerIf q.priv q.owner) = t at hcount hexec
  obtain ⟨hfc, hslot⟩ := State.popNiIn_time hk
  have hretry : t.retrySlot (q.loss + 1) = s.retrySlot (q.loss + 1) :=
    State.retrySlot_congr (hcount.fcInSlot.trans hfc) (hcount.slot.trans hslot) _
  rw [if_neg (by omega)] at hexec
  refine ⟨_, hexec, q.lose (q.loss + 1) (t.retrySlot (q.loss + 1)) (q.placed && t.pieceFrozen pl p q), ?_, rfl, rfl, ?_⟩
  · rw [State.ni_modNi]
    refine List.mem_map.2 ⟨q, ?_, if_pos rfl⟩
    rw [hcount.ni]
    exact List.mem_of_find?_eq_some hq
  · exact congrArg some hretry

theorem retryReceived_busy (hr : s.runs pl = true) (hk : s.popNiIn pl p vc = some (k, u)) (hst : hStatus k.hdr = stRetry)
    (hkind : hKind k.hdr = kRack ∨ hKind k.hdr = kRdata) (hq : u.answeredPiece pl p (hTag k.hdr) = some q) (hl : 11 ≤ q.loss) :
    exec (.retryReceived pl p vc) s = .next (((u.countNi pl p 0x08 0 (ownerIf q.priv q.owner)).countNi pl p 0x09 0
      (ownerIf q.priv q.owner)).pieceAnswered pl p q stBusy 0) :=
  (execRetryReceived_retries hr hk hst hkind hq).trans (congrArg Host.Outcome.next (if_pos (by omega)))

/-! #### Reissue (R85, R87) -/

theorem execReissue_due {tag at? : Nat} (hr : s.runs pl = true) (hj : s.pair.joining = none) (hl : (s.port p).live = true)
    (hq : (s.resolveAll pl p).answeredPiece pl p tag = some q) (hat : q.retryAt = some at?) (hdue : at? ≤ s.now)
    (hres : q.resolved = true) (hgate : ((s.resolveAll pl p).ni pl p).gateHeld q = false) : execReissue pl p tag s =
      .next (((s.resolveAll pl p).modNi pl p (fun n => { n with
        out := n.out.map (fun x => if x.tag = some tag then { x with retryAt := none } else x) })).sendPiece pl p q) := by
  have hnow : (s.resolveAll pl p).now = s.now := congrArg BitVec.toNat (State.resolveAll_steady (.refl s) pl p).slot
  unfold execReissue
  rw [inPlane_runs hr]
  rw [if_neg (by simp [hj, hl])]
  dsimp only
  rw [hq]
  dsimp only
  rw [hat]
  dsimp only
  rw [if_pos ⟨by rw [hnow]; exact hdue, hres, by rw [hgate]; rfl⟩]

end

/-- Settles O3: the picked piece, the refused one and the reissued one by the branches of their commands. -/
theorem issueAndRetry : Obligations.IssueAndRetry := by
  unfold Obligations.IssueAndRetry
  refine ⟨fun s pl p hr hp hl hj => pieceIssue_effect s pl p hr hp hl hj, fun s u pl p vc k q hr => ⟨fun hk hst hkind hq _ => ⟨?_, ?_⟩, ?_⟩⟩
  · exact retryReceived_reissue hr hk hst hkind hq
  · exact retryReceived_busy hr hk hst hkind hq
  · exact fun tag at? hj hl hq hat hdue hres hgate => execReissue_due hr hj hl hq hat hdue hres hgate

end Sys2Proof.Machine

namespace Sys2Proof.Machine

/-! #### The words of an NI and its counters (R322) -/

/-- An NI's counters have their registers behind those of the rest of the NI. -/
theorem not_countWord_ni {p o : Nat} (hp : p < 96) (ho : o < 0x800) : ¬ countWord (8 * p) 8 (bNi p + o) := by
  rintro ⟨i, hi, j, hj, hoff⟩
  have hhost : 8 * p ≤ j ∧ j < 8 * p + 8 := by
    have hi' : hostOf (8 * p + i) = (8 * p, 8) := by
      unfold hostOf
      rw [if_pos (by omega), Prod.mk.injEq]
      omega
    rw [hi'] at hj
    unfold hostOf at hj
    split at hj
    · rw [Prod.mk.injEq] at hj; omega
    split at hj
    · rw [Prod.mk.injEq] at hj; omega
    split at hj
    · rw [Prod.mk.injEq] at hj; omega
    · rw [Prod.mk.injEq] at hj; omega
  rcases hoff with hoff | hoff
  · unfold ctrBase at hoff
    rw [if_pos (by omega)] at hoff
    unfold bNi at hoff
    omega
  · unfold wrapWord at hoff
    rw [if_pos (by omega)] at hoff
    have h := Option.some.inj hoff
    unfold bNi at h
    omega

theorem State.p_countNi {p o : Nat} (s : State) (pl : Pl) (hp : p < 96) (ho : o < 0x800) (code qual : Nat) (owner : Option Nat) :
    (s.countNi pl p code qual owner).p pl (bNi p + o) = s.p pl (bNi p + o) :=
  (s.countNi_records pl p code qual owner).words pl _ (not_countWord_ni hp ho)

end Sys2Proof.Machine

namespace Sys2Proof.Machine

/-! #### Answers and fences (R42, R44, R50) -/

section

variable {s u : State} {pl : Pl} {p vc : Nat} {k : Packet} {st : Nat} {q : Piece}

theorem State.takeResponse_answers (kind : Nat) (hk : s.headResponse pl p vc = some (k, st, u)) (hst : hStatus k.hdr ≠ stRetry)
    (hpoison : k.poison = false) (hq : s.answeredPiece pl p (hTag k.hdr) = some q) (hrec : q.recWrite = false)
    (hkind : hKind k.hdr = kind) : s.takeResponse pl p vc kind = u.pieceAnswered pl p q st ((k.flits.head?).getD 0) := by
  unfold State.takeResponse
  rw [hk]
  dsimp only
  rw [if_neg (fun hno => hno.elim (· hkind) hst), hq]
  dsimp only
  rw [if_neg (by rw [hrec]; decide), if_neg (by rw [hpoison]; decide)]

theorem execRackReceived_answers (hr : s.runs pl = true) (hp : s.isPort p = true) :
    execRackReceived pl p vc s = .next (s.takeResponse pl p vc kRack) := by
  unfold execRackReceived
  rw [inPlane_runs hr, if_pos hp]

theorem execRdataReceived_answers (hr : s.runs pl = true) (hp : s.isPort p = true) :
    execRdataReceived pl p vc s = .next (s.takeResponse pl p vc kRdata) := by
  unfold execRdataReceived
  rw [inPlane_runs hr, if_pos hp]

/-- The NI without a fence that has completed. -/
def Ni.endFence (f : Fence) (n : Ni) : Ni :=
  { n with
    fences := n.fences.erase f
    kept := []
    irsp := n.irsp ++ [{ ord := f.ord, kind := kFence, status := stFirstOf n.kept, beats := [] }] }

theorem execFenceComplete_found (hr : s.runs pl = true) {f : Fence}
    (hf : (s.ni pl p).fences.find? (fun f => !(s.ni pl p).fenceWaits f) = some f) :
    execFenceComplete pl p s = .next ((s.modNi pl p (Ni.endFence f)).niSettle pl p) := by
  unfold execFenceComplete
  rw [inPlane_runs hr, hf]
  rfl

end

/-! #### The posted-write error registers (R47, R354) -/

section

variable (s : State) (pl : Pl) (p : Nat)

/-- The record of the first error: its status, owner and tag, and that it is there. -/
def postedWord (q : Piece) (st : Nat) : W32 := BitVec.ofNat 32 (st * 16 + q.owner * 256 + (q.tag.getD 0) * 65536) ||| 1

theorem fld_postedWord (q : Piece) {st : Nat} (h : st < 16) : fld (postedWord q st) 4 4 = st ∧ fld (postedWord q st) 0 1 = 1 := by
  have hbit (x : W32) (i : Nat) : bit (x ||| 1) i = (bit x i || decide (i = 0)) := by
    have hone : (1#32).getLsbD i = decide (i = 0) := by rw [BitVec.getLsbD_one]; simp
    exact (BitVec.getLsbD_or ..).trans (congrArg (bit x i || ·) hone)
  unfold postedWord
  refine ⟨?_, ?_⟩
  · have hlow (x : W32) : fld (x ||| 1) 4 4 = fld x 4 4 := fld_congr fun i hi => by rw [hbit, decide_eq_false (by omega), Bool.or_false]
    rw [hlow]
    unfold fld
    rw [BitVec.toNat_ofNat]
    omega
  · rw [fld_one, hbit, decide_eq_true rfl, Bool.or_true]
    rfl

/-- The status waits for the next fence. -/
def Ni.keep (st : Nat) (n : Ni) : Ni := { n with kept := n.kept ++ [st] }

/-- The latch of the record, if it is empty. -/
def State.latchPosted (s : State) (pl : Pl) (p : Nat) (q : Piece) (status : Nat) : State :=
  if bit (s.p pl (bNi p + 0x708)) 0 then s
  else (((s.pset pl (bNi p + 0x700) (BitVec.ofNat 32 q.paddr)).pset pl (bNi p + 0x704) (BitVec.ofNat 32 (q.paddr / 2 ^ 32))).pset pl
    (bNi p + 0x708) (BitVec.ofNat 32 (status * 16 + q.owner * 256 + (q.tag.getD 0) * 65536))).por pl (bNi p + 0x708) 1

theorem State.postedError_eq (q : Piece) (st : Nat) : s.postedError pl p q st =
    (((s.pinc pl (bNi p + 0x70C) 0 32 1).latchPosted pl p q st).modNi pl p (fun n => { n with kept := n.kept ++ [st] })).niEvent pl p 0 := rfl

theorem State.p_niEvent {o : Nat} (ho : o ≠ bNi p + 0x900) (c : Nat) : (s.niEvent pl p c).p pl o = s.p pl o := by
  unfold State.niEvent
  rw [State.p_occurP, State.p_por_ne _ _ ho]

theorem State.p_latchPosted {o : Nat} (h0 : o ≠ bNi p + 0x700) (h1 : o ≠ bNi p + 0x704) (h2 : o ≠ bNi p + 0x708) (q : Piece) (st : Nat) :
    (s.latchPosted pl p q st).p pl o = s.p pl o := by
  unfold State.latchPosted
  split
  · rfl
  · rw [State.p_por_ne _ _ h2, State.p_pset_ne _ _ h2, State.p_pset_ne _ _ h1, State.p_pset_ne _ _ h0]

theorem State.latchPosted_empty (h : bit (s.p pl (bNi p + 0x708)) 0 = false) (q : Piece) (st : Nat) :
    (s.latchPosted pl p q st).p pl (bNi p + 0x700) = BitVec.ofNat 32 q.paddr ∧
    (s.latchPosted pl p q st).p pl (bNi p + 0x708) = postedWord q st := by
  unfold State.latchPosted
  rw [if_neg (by rw [h]; decide)]
  refine ⟨?_, ?_⟩
  · rw [State.p_por_ne _ _ (by omega), State.p_pset_ne _ _ (by omega), State.p_pset_ne _ _ (by omega), State.p_pset]
  · unfold State.por
    rw [State.p_pset, State.p_pset]
    rfl

theorem State.ni_latchPosted (q : Piece) (st : Nat) : (s.latchPosted pl p q st).ni pl p = s.ni pl p := by
  unfold State.latchPosted State.por
  split
  · rfl
  · simp

theorem State.postedError_effect (q : Piece) {st : Nat} (hst : st < 16) :
    let t := s.postedError pl p q st
    (t.ni pl p).kept = (s.ni pl p).kept ++ [st] ∧ (t.ni pl p).irsp = (s.ni pl p).irsp ∧
    t.pf pl (bNi p + 0x70C) 0 32 = min (s.pf pl (bNi p + 0x70C) 0 32 + 1) (2 ^ 32 - 1) ∧
    (bit (s.p pl (bNi p + 0x708)) 0 = false →
      t.p pl (bNi p + 0x700) = BitVec.ofNat 32 q.paddr ∧ t.pf pl (bNi p + 0x708) 4 4 = st ∧
      t.pf pl (bNi p + 0x708) 0 1 = 1) ∧
    (bit (s.p pl (bNi p + 0x708)) 0 = true → t.p pl (bNi p + 0x708) = s.p pl (bNi p + 0x708)) := by
  have hword {o : Nat} (ho : o < 0x900) : (s.postedError pl p q st).p pl (bNi p + o) =
      ((s.pinc pl (bNi p + 0x70C) 0 32 1).latchPosted pl p q st).p pl (bNi p + o) := by
    rw [State.postedError_eq, State.p_niEvent _ _ _ (by omega), State.p_modNi]
  have h708 : (s.pinc pl (bNi p + 0x70C) 0 32 1).p pl (bNi p + 0x708) = s.p pl (bNi p + 0x708) := State.p_pinc_ne _ _ (by omega) _ _ _
  have hni : (s.postedError pl p q st).ni pl p = (s.ni pl p).keep st := by
    rw [State.postedError_eq, State.ni_niEvent, State.ni_modNi, State.ni_latchPosted, State.ni_pinc]
    rfl
  intro t
  refine ⟨(congrArg Ni.kept hni :), (congrArg Ni.irsp hni :), ?_, fun h => ?_, fun h => ?_⟩
  · have h70C : t.p pl (bNi p + 0x70C) = (s.pinc pl (bNi p + 0x70C) 0 32 1).p pl (bNi p + 0x70C) := by
      rw [hword (by decide), State.p_latchPosted _ _ _ (by omega) (by omega) (by omega)]
    rw [State.pf, h70C, ← State.pf, State.pf_pinc _ _ _ _ (by decide)]
  · obtain ⟨h700, hstatus⟩ := State.latchPosted_empty _ pl p (h708.symm ▸ h : bit ((s.pinc pl (bNi p + 0x70C) 0 32 1).p pl (bNi p + 0x708)) 0 = false) q st
    obtain ⟨hcode, hvalid⟩ := fld_postedWord q hst
    have hlatch : t.p pl (bNi p + 0x708) = postedWord q st := (hword (by decide)).trans hstatus
    refine ⟨(hword (by decide)).trans h700, ?_, ?_⟩
    · rw [State.pf, hlatch, hcode]
    · rw [State.pf, hlatch, hvalid]
  · rw [hword (by decide), State.latchPosted, if_pos (by rw [h708]; exact h), h708]

end

end Sys2Proof.Machine

namespace Sys2Proof.Machine

/-! #### Record writes (R192, R193) -/

/-- The address of the ring's slot at HEAD. -/
def State.recordAddr (s : State) (pl : Pl) (p : Nat) : Nat :=
  s.pf pl (bNi p + 0x10) 6 26 * 64 + s.pf pl (bNi p + 0x14) 0 16 * 2 ^ 32
    + 64 * ((s.p pl (bNi p + 0x1C)).toNat % 2 ^ (s.pf pl (bNi p + 0x18) 0 5))

/-- The piece that writes record `d` at address `a`. -/
def recordPiece (ord a dst : Nat) (placed : Bool) (d : Line) : Piece :=
  { ord := ord, pidx := 0, kind := kWrite, cls := 2, owner := 0, priv := 3, paddr := a, taddr := a, dest := dst, placed := placed,
    resolved := !placed, pepoch := 0, ben := benAll, data := d, subop := 0, asize := 0, gts := 0, hdrHi := 0, msg := [], tag := none,
    sent := false, loss := 0, retryAt := none, posted := false, inBuf := false, recWrite := true, heldCounted := false,
    waitLookup := false, sampled := false }

/-- The NI with its record's write on the way. -/
def Ni.writeRecord (q : Piece) (n : Ni) : Ni :=
  { n with
    nextOrd := n.nextOrd + 1
    recOut := true
    wait := n.wait ++ [q] }

section

variable {s u : State} {pl : Pl} {p : Nat}

theorem execRecordWrite_goes (hr : s.runs pl = true) {d : Line} {rest : List Line} {dst : Nat} (hq : (s.ni pl p).recQ = d :: rest)
    (ho : (s.ni pl p).recOut = false) (hs : bit (s.p pl (bNi p + 4)) 2 = false) (hj : s.pair.joining = none)
    (hl : (s.port p).live = true) (hf : s.ringFull pl p = false) (ht : s.target (s.recordAddr pl p) = .port dst) :
    execRecordWrite pl p s = .next (s.modNi pl p (Ni.writeRecord
      (recordPiece (s.ni pl p).nextOrd (s.recordAddr pl p) dst (s.pageOf pl (s.recordAddr pl p)).isSome d))) := by
  have hnone (x : Option Nat) : x.isNone = !x.isSome := by cases x <;> rfl
  unfold execRecordWrite
  rw [inPlane_runs hr]
  dsimp only
  split
  · next h => cases (hq.symm.trans h :)
  · next d' rest' h =>
    obtain ⟨rfl, rfl⟩ := List.cons.inj (hq.symm.trans h)
    rw [if_neg (by simp [ho, hs, hj, hl]), if_neg (by rw [hf]; decide)]
    split
    · next dst' h' =>
      cases (ht.symm.trans h' :)
      rw [hnone]
      rfl
    · next h' => exact absurd ht (h' dst)

theorem recordWrite_effect (hr : s.runs pl = true) {d : Line} {rest : List Line} {dst : Nat} (hq : (s.ni pl p).recQ = d :: rest)
    (ho : (s.ni pl p).recOut = false) (hs : bit (s.p pl (bNi p + 4)) 2 = false) (hj : s.pair.joining = none)
    (hl : (s.port p).live = true) (hf : s.ringFull pl p = false) (ht : s.target (s.recordAddr pl p) = .port dst) :
    ∃ t : State, ∃ q, exec (.recordWrite pl p) s = .next t ∧ (t.ni pl p).wait = (s.ni pl p).wait ++ [q] ∧ q.kind = kWrite ∧
      q.cls = 2 ∧ q.priv = 3 ∧ q.paddr = s.recordAddr pl p ∧ q.ben = benAll ∧ q.data = d ∧ q.dest = dst ∧ (t.ni pl p).recOut = true := by
  refine ⟨_, recordPiece (s.ni pl p).nextOrd (s.recordAddr pl p) dst (s.pageOf pl (s.recordAddr pl p)).isSome d,
    execRecordWrite_goes hr hq ho hs hj hl hf ht, ?_⟩
  rw [State.ni_modNi]
  exact ⟨rfl, rfl, rfl, rfl, rfl, rfl, rfl, rfl, rfl⟩

/-- The NI once its record's write has been answered. -/
def Ni.recordWritten (q : Piece) (n : Ni) : Ni :=
  { n with
    out := n.out.filter (fun x => decide (x.tag ≠ q.tag))
    recOut := false
    recQ := n.recQ.drop 1 }

theorem execRecordWriteRack_ok (hr : s.runs pl = true) {vc : Nat} {k : Packet} {q : Piece}
    (hk : s.headResponse pl p vc = some (k, stOk, u)) (hq : s.answeredPiece pl p (hTag k.hdr) = some q) (hrec : q.recWrite = true) :
    execRecordWriteRack pl p vc s = .next (
      let t := (u.countNi pl p 0x03 q.cls (ownerIf q.priv q.owner)).modNi pl p (Ni.recordWritten q)
      (t.pset pl (bNi p + 0x1C) (t.p pl (bNi p + 0x1C) + 1)).niSettle pl p) := by
  unfold execRecordWriteRack
  rw [inPlane_runs hr, hk]
  dsimp only
  rw [hq]
  dsimp only
  rw [if_neg (by rw [hrec]; decide), if_pos rfl]
  rfl

theorem recordWriteRack_effect (hr : s.runs pl = true) (hp : p < 96) {vc : Nat} {k : Packet} {q : Piece}
    (hk : s.headResponse pl p vc = some (k, stOk, u)) (hq : s.answeredPiece pl p (hTag k.hdr) = some q) (hrec : q.recWrite = true) :
    ∃ t : State, exec (.recordWriteRack pl p vc) s = .next (t.niSettle pl p) ∧ (t.ni pl p).recQ = (u.ni pl p).recQ.drop 1 ∧
      (t.ni pl p).recOut = false ∧ t.p pl (bNi p + 0x1C) = u.p pl (bNi p + 0x1C) + 1 := by
  have hcount := (u.countNi_records pl p 0x03 q.cls (ownerIf q.priv q.owner)).ni pl p
  refine ⟨_, execRecordWriteRack_ok hr hk hq hrec, ?_⟩
  rw [State.ni_pset, State.ni_modNi, hcount, State.p_pset, State.p_modNi, State.p_countNi _ _ hp (by decide)]
  exact ⟨rfl, rfl, rfl⟩

theorem execRecTailWrite_allowed {r : CwReq} {v : W32} (h : s.writeAllowed r (bNi p + 0x20)) : execRecTailWrite r p v s =
    .next (((s.touch (bNi p + 0x20)).eachPlane (fun pl t => t.recTail p v pl)).answer r stOk none) :=
  State.cwWrite_allowed h (fun t => t.eachPlane (fun pl t => t.recTail p v pl))

/-- TAIL takes a value that leaves at most the ring's size. -/
theorem State.recTail_effect (s : State) (p : Nat) (v : W32) (pl : Pl) :
    let d := (s.p pl (bNi p + 0x1C) - v).toNat
    let t := s.recTail p v pl
    let size := 2 ^ (s.pf pl (bNi p + 0x18) 0 5)
    (size < d → t = s) ∧ (d ≤ size → t.p pl (bNi p + 0x20) = v ∧ (d < size → t.pf pl (bNi p + 4) 1 1 = 0)) := by
  intro d t size
  refine ⟨fun h => if_pos h, fun h => ?_⟩
  have ht : t = if d < size then (s.pset pl (bNi p + 0x20) v).pfset pl (bNi p + 4) 1 1 0 else s.pset pl (bNi p + 0x20) v :=
    if_neg (Nat.not_lt.2 h)
  rw [ht]
  by_cases hd : d < size
  · rw [if_pos hd]
    exact ⟨by rw [State.p_pfset_ne _ _ (by omega), State.p_pset], fun _ => State.pf_pfset _ _ _ _ (by decide)⟩
  · rw [if_neg hd]
    exact ⟨State.p_pset .., fun x => absurd x hd⟩

end

/-- Settles O4: the response, the fence, the latch of a posted error and the record by the branches of their commands. -/
theorem answersFencesAndRecords : Obligations.AnswersFencesAndRecords := by
  unfold Obligations.AnswersFencesAndRecords
  refine ⟨fun s u pl p hr hp => ⟨fun vc k st q hk hst hpoison hq hrec => ⟨fun hkind => ?_, fun hkind => ?_⟩, fun f hf => ?_⟩,
    fun s pl p q st hst _ => s.postedError_effect pl p q hst, fun s u pl p hr hp => ⟨fun d rest dst hq ho hs hj hl hf => ?_, ?_, ?_⟩⟩
  · exact (execRackReceived_answers hr hp).trans (by rw [State.takeResponse_answers kRack hk hst hpoison hq hrec hkind])
  · exact (execRdataReceived_answers hr hp).trans (by rw [State.takeResponse_answers kRdata hk hst hpoison hq hrec hkind])
  · refine ⟨_, execFenceComplete_found hr hf, ?_⟩
    rw [State.ni_modNi]
    exact ⟨rfl, rfl, rfl⟩
  · exact fun ht => recordWrite_effect hr hq ho hs hj hl hf ht
  · exact fun vc k q hk hq hrec => recordWriteRack_effect hr hp hk hq hrec
  · exact fun r v h => ⟨execRecTailWrite_allowed h, fun pl => s.recTail_effect p v pl⟩

end Sys2Proof.Machine

namespace Sys2Proof.Machine

/-! ### Requests at the target NI (R51, R54, R374) -/

section

variable {s : State} {pl : Pl} {p vc : Nat} {x : Req}

/-! #### The buffers -/

theorem State.ni_freeFlits (t : State) (vc n i : Nat) : (t.freeFlits pl p vc n).ni pl i = t.ni pl i := by
  unfold State.freeFlits
  split
  · rfl
  · exact State.ni_modRouter ..

theorem State.popNiIn_ni {k : Packet} {t : State} (h : s.popNiIn pl p vc = some (k, t)) :
    t.ni pl p = { s.ni pl p with inbox := (t.ni pl p).inbox } := by
  unfold State.popNiIn at h
  split at h
  · obtain ⟨-, rfl⟩ := Prod.mk.inj (Option.some.inj h)
    rw [State.ni_modNi]
  · cases h

/-- A request that leaves its buffer changes nothing else of the NI. -/
theorem State.popReq_ni (h : s.popReq pl p vc = some x) : x.rest.ni pl p =
    { s.ni pl p with inbox := (x.rest.ni pl p).inbox, rx := (x.rest.ni pl p).rx } := by
  unfold State.popReq at h
  split at h
  · split at h
    · next hk =>
      obtain rfl := Option.some.inj h
      rw [State.popNiIn_ni hk]
    · obtain ⟨⟨k, t⟩, hk, rfl⟩ := Option.map_eq_some_iff.1 h
      rw [State.popNiIn_ni hk]
  split at h
  · obtain ⟨⟨k, t⟩, hk, rfl⟩ := Option.map_eq_some_iff.1 h
    rw [State.popNiIn_ni hk]
  · obtain ⟨⟨k, rest, own, next⟩, -, rfl⟩ := Option.map_eq_some_iff.1 h
    dsimp only
    rw [State.ni_freeFlits, State.ni_modNi]

/-! #### A request is taken up (R54, R374) -/

theorem execTargetRequest_takes (hr : s.runs pl = true) (hp : s.isPort p = true) (hvc : vc = 0 ∨ vc = 1 ∨ vc = 3)
    (hx : s.popReq pl p vc = some x) : execTargetRequest pl p vc s = .next (s.takeRequest pl p x) := by
  unfold execTargetRequest
  rw [inPlane_runs hr]
  rw [if_neg (by rw [hp]; simp [hvc]), hx]

/-- The NI with a request taken up. -/
def Ni.takeUp (k : Packet) (late rmw : Bool) (held : Nat) (n : Ni) : Ni :=
  { n with
    nextJob := n.nextJob + 1
    jobs := n.jobs ++ [jobOf n.nextJob k late rmw held] }

theorem jobOf_phase (id : Nat) (k : Packet) (late rmw : Bool) (held : Nat) : (jobOf id k late rmw held).phase = .rmwRead ↔ rmw = true := by
  cases rmw
  · exact ⟨fun h => (nomatch h), fun h => (nomatch h)⟩
  · exact ⟨fun _ => rfl, fun _ => rfl⟩

/-- The address fields of the request's command flit. -/
def Packet.cmd (k : Packet) : Line := (k.flits.head?).getD 0

variable (hkind : hKind x.pkt.hdr ≤ kAtomic) (hpoison : x.pkt.poison = false) (hclosed : s.closedFor x.pkt.hdr = false)
  (htomb : s.tombstoned pl p x.pkt.hdr (cPaddr x.pkt.cmd) = none) (hport : (s.port p).poisoning = false)
  (hheld : (s.ni pl p).granuleHeld (cTaddr x.pkt.cmd) (cSpan x.pkt.cmd) = false)

include hkind hpoison hclosed htomb hport hheld

theorem State.takeRequest_open : s.takeRequest pl p x =
    (let rmw := s.isRmw p (hKind x.pkt.hdr) (cBen x.pkt.cmd)
    if hKind x.pkt.hdr = kAtomic ∧ 8 ≤ (s.ni pl p).atomics then
      (x.rest.freeFlits pl p (hVc x.pkt.hdr) x.held).answerUnpresented pl p x.pkt x.late stRetry
    else if 64 < (s.ni pl p).treqLoad + (if rmw then 1 else cSpan x.pkt.cmd) ∧ (s.ni pl p).treqLoad ≠ 0 then s
    else x.rest.modNi pl p (Ni.takeUp x.pkt x.late rmw x.held)) := by
  have hreq : ¬(hKind x.pkt.hdr = kFence ∨ kRdata ≤ hKind x.pkt.hdr ∨ hKind x.pkt.hdr = kMgmt) := by
    unfold kAtomic at hkind
    unfold kFence kRdata kMgmt
    omega
  unfold State.takeRequest
  extract_lets k late t cmd n kind rmw
  rw [if_neg hreq, if_neg (by rw [hclosed]; decide)]
  split
  · next h => cases (htomb.symm.trans h :)
  · rw [if_neg (by rw [hpoison]; decide), if_neg (by rw [hport]; decide), if_neg (by rw [show n.granuleHeld (cTaddr cmd) (cSpan cmd) = false from hheld]; decide)]
    rfl

/-- A ninth ATOMIC is answered with RETRY. -/
theorem State.takeRequest_ninth (hk : hKind x.pkt.hdr = kAtomic) (hn : 8 ≤ (s.ni pl p).atomics) : s.takeRequest pl p x =
    (x.rest.freeFlits pl p (hVc x.pkt.hdr) x.held).answerUnpresented pl p x.pkt x.late stRetry := by
  rw [State.takeRequest_open hkind hpoison hclosed htomb hport hheld]
  exact if_pos ⟨hk, hn⟩

theorem State.takeRequest_job (hn : hKind x.pkt.hdr ≠ kAtomic ∨ (s.ni pl p).atomics < 8)
    (hload : (s.ni pl p).treqLoad + (if s.isRmw p (hKind x.pkt.hdr) (cBen x.pkt.cmd) then 1 else cSpan x.pkt.cmd) ≤ 64) :
    s.takeRequest pl p x = x.rest.modNi pl p (Ni.takeUp x.pkt x.late (s.isRmw p (hKind x.pkt.hdr) (cBen x.pkt.cmd)) x.held) := by
  rw [State.takeRequest_open hkind hpoison hclosed htomb hport hheld]
  dsimp only
  rw [if_neg (by omega), if_neg (by omega)]

end

/-! #### Path fences (R51) -/

section

variable {s : State} {pl : Pl} {p vc : Nat} {x : Req}

/-- A change of an NI depends on what it makes of that NI alone. -/
theorem State.modNi_congr (s : State) {f g : Ni → Ni} (h : f (s.ni pl p) = g (s.ni pl p)) : s.modNi pl p f = s.modNi pl p g :=
  (congrArg (fun n => s.modPln pl (fun x => { x with ni := x.ni.wr p n {} })) h :)

/-- The fence and the requests it waits for. -/
def pathFenceOf (n : Ni) (x : Req) (vc : Nat) : PFence :=
  { src := hSrc x.pkt.hdr, tag := hTag x.pkt.hdr, vc := vc,
    waits := (n.jobs.filter (fun j => decide (j.src = hSrc x.pkt.hdr ∧ j.vc = vc))).map (·.id), poison := x.pkt.poison }

/-- The NI with a path fence that waits. -/
def Ni.addFence (f : PFence) (n : Ni) : Ni := { n with pfences := n.pfences ++ [f] }

theorem execPathFence_noted (hr : s.runs pl = true) (hp : s.isPort p = true) (hx : s.popReq pl p vc = some x)
    (hk : hKind x.pkt.hdr = kFence) : execPathFence pl p vc s =
      .next ((x.rest.freeFlits pl p vc x.held).modNi pl p (Ni.addFence (pathFenceOf (s.ni pl p) x vc))) := by
  unfold execPathFence
  rw [inPlane_runs hr]
  rw [if_neg (by rw [hp]; decide), hx]
  dsimp only
  rw [if_neg (fun h => h hk)]
  rfl

theorem mem_pathFenceOf (n : Ni) (x : Req) (vc i : Nat) :
    i ∈ (pathFenceOf n x vc).waits ↔ ∃ j ∈ n.jobs, j.src = hSrc x.pkt.hdr ∧ j.vc = vc ∧ j.id = i := by
  unfold pathFenceOf
  simp only [List.mem_map, List.mem_filter, decide_eq_true_eq, and_assoc]

theorem execPathFenceAck_first (hr : s.runs pl = true) {f : PFence} {rest : List PFence} (hf : (s.ni pl p).pfences = f :: rest)
    (hw : ∀ w ∈ f.waits, ∀ j ∈ (s.ni pl p).jobs, j.id ≠ w) : execPathFenceAck pl p s =
      .next ((s.modNi pl p (fun n => { n with pfences := rest })).respond pl p f.src f.vc f.tag 3 0 0
        (if f.poison then stPoison else stOk) []) := by
  have hnone : (f.waits.all fun w => !(s.ni pl p).jobs.any fun j => decide (j.id = w)) = true := by
    simpa using hw
  have hfind : (s.ni pl p).pfences.find? (fun f => f.waits.all fun w => !(s.ni pl p).jobs.any fun j => decide (j.id = w)) = some f := by
    rw [hf]
    exact List.find?_cons_of_pos hnone
  have herase : s.modNi pl p (fun n => { n with pfences := n.pfences.erase f }) = s.modNi pl p (fun n => { n with pfences := rest }) := by
    refine s.modNi_congr ?_
    rw [hf, List.erase_cons_head]
  unfold execPathFenceAck
  rw [inPlane_runs hr, ← herase]
  dsimp only
  rw [hfind]

end

/-- Settles O5: the request by `takeRequest_open`, the fence by what it notes and by the first that waits for nothing. -/
theorem targetRequests : Obligations.TargetRequests := by
  unfold Obligations.TargetRequests
  refine ⟨fun s pl p vc x hr hp hvc hx hkind hpoison => ?_, fun s pl p hr hp => ⟨fun vc x hx hk => ?_, fun f rest hf hw => ?_⟩⟩
  · intro k cmd n rmw hclosed htomb hport hheld
    have hexec := execTargetRequest_takes hr hp hvc hx
    refine ⟨fun ha hn => ?_, fun hn hload => ?_⟩
    · exact hexec.trans (by rw [State.takeRequest_ninth hkind hpoison hclosed htomb hport hheld ha hn])
    · have hjob := State.takeRequest_job hkind hpoison hclosed htomb hport hheld hn hload
      refine ⟨_, jobOf (s.ni pl p).nextJob x.pkt x.late rmw x.held, hexec.trans (by rw [hjob]), ?_⟩
      rw [State.ni_modNi, State.popReq_ni hx]
      refine ⟨rfl, rfl, rfl, rfl, rfl, rfl, rfl, rfl, rfl, rfl, rfl, ?_⟩
      exact jobOf_phase _ _ _ rmw _
  · refine ⟨_, _, execPathFence_noted hr hp hx hk, ?_, rfl, rfl, rfl, rfl, mem_pathFenceOf _ x vc⟩
    rw [State.ni_modNi, State.ni_freeFlits, State.popReq_ni hx]
    rfl
  · exact execPathFenceAck_first hr hf hw

end Sys2Proof.Machine

namespace Sys2Proof.Machine

/-! ### Presentations and unit answers at the target NI (R43, R52, R194, R195, R360, R361) -/

/-! #### A presentation -/

/-- The presentation of granule `i` of a job with TREQ tag `tag`. -/
def State.presOf (s : State) (p : Nat) (j : Job) (i : Nat) (write : Bool) (data : Line) (tag : Nat) : TPres :=
  { ttag := tag, job := j.id, gran := i, write := write, addr := s.treqAddr p j i (decide (j.phase ≠ .plain)),
    data := if write then s.xts false p j.owner j.priv (s.treqAddr p j i (decide (j.phase ≠ .plain))) data else 0,
    ben := if s.encrypts p || decide (j.phase ≠ .plain) || decide (0 < i) then benAll else j.ben, owner := j.owner, priv := j.priv,
    status := if j.late then stLate else stOk }

/-- The NI with granule `i` of job `j` presented as `x`. -/
def Ni.presented (x : TPres) (j : Job) (i : Nat) (n : Ni) : Ni :=
  { n with
    pres := n.pres ++ [x]
    jobs := n.jobs.map (fun y => if y.id = j.id then { y with nextGran := i + 1, held := y.held - j.leaving i } else y) }

/-- The NI while the write-back of job `j` is under way. -/
def Ni.writesBack (j : Job) (n : Ni) : Ni :=
  { n with jobs := n.jobs.map (fun y => if y.id = j.id then { y with phase := .rmwWrite } else y) }

section

variable (s : State) (pl : Pl) (p : Nat) (j : Job)

theorem State.ni_markDirty (gran : Nat) : (s.markDirty pl p j gran).ni pl p =
    { s.ni pl p with watch := ((s.markDirty pl p j gran).ni pl p).watch } := by
  unfold State.markDirty
  split
  · rfl
  split
  · dsimp only
    rw [State.ni_modNi]
  · rfl

/-- A granule due is presented with the lowest free tag. -/
theorem State.ni_present (i : Nat) (write : Bool) (data : Line) {tag : Nat}
    (ht : lowestFree 64 ((s.ni pl p).pres.map (·.ttag)) = some tag) : (s.present pl p j i write data).ni pl p =
      { (s.ni pl p).presented (s.presOf p j i write data tag) j i with watch := ((s.present pl p j i write data).ni pl p).watch } := by
  have hdirty : (if write then s.markDirty pl p j i else s).ni pl p =
      { s.ni pl p with watch := ((if write then s.markDirty pl p j i else s).ni pl p).watch } := by
    cases write
    · rfl
    · exact s.ni_markDirty pl p j i
  have hpresent : s.present pl p j i write data =
      ((if write then s.markDirty pl p j i else s).modNi pl p (Ni.presented (s.presOf p j i write data tag) j i)).freeFlits pl p j.vc
        (j.leaving i) := by
    unfold State.present
    rw [ht]
    rfl
  rw [hpresent, State.ni_freeFlits, State.ni_modNi, hdirty]
  rfl

theorem execTreqPresent_due (hr : s.runs pl = true) (hj : (s.ni pl p).nextDue = some j) : execTreqPresent pl p s =
    .next (s.present pl p j j.nextGran (decide (j.kind = kWrite ∧ j.phase = .plain)) (j.wdata.getD j.nextGran 0)) := by
  unfold execTreqPresent
  rw [inPlane_runs hr, hj]

theorem Ni.mem_presented {n : Ni} {x : TPres} {i : Nat} {y : Job} (hy : y ∈ (n.presented x j i).jobs) (hid : y.id = j.id) :
    y.nextGran = i + 1 := by
  obtain ⟨z, -, rfl⟩ := List.mem_map.1 hy
  split at hid
  · next h => rw [if_pos h]
  · next h => exact absurd hid h

theorem treqPresent_effect (hr : s.runs pl = true) (hj : (s.ni pl p).nextDue = some j) {tag : Nat}
    (ht : lowestFree 64 ((s.ni pl p).pres.map (·.ttag)) = some tag) :
    ∃ t : State, ∃ x, exec (.treqPresent pl p) s = .next t ∧ (t.ni pl p).pres = (s.ni pl p).pres ++ [x] ∧ x.ttag = tag ∧ tag < 64 ∧
      (∀ i < tag, i ∈ (s.ni pl p).pres.map (·.ttag)) ∧ x.job = j.id ∧ x.gran = j.nextGran ∧ x.owner = j.owner ∧ x.priv = j.priv ∧
      x.write = decide (j.kind = kWrite ∧ j.phase = .plain) ∧
      (x.write = true → x.data = s.xts false p j.owner j.priv x.addr (j.wdata.getD j.nextGran 0)) ∧
      (x.write = false → x.data = 0) ∧ (s.encrypts p = true → x.ben = benAll) ∧
      (∀ y ∈ (t.ni pl p).jobs, y.id = j.id → y.nextGran = j.nextGran + 1) := by
  obtain ⟨htag, -, hlow⟩ := lowestFree_spec ht
  refine ⟨_, s.presOf p j j.nextGran (decide (j.kind = kWrite ∧ j.phase = .plain)) (j.wdata.getD j.nextGran 0) tag,
    execTreqPresent_due s pl p j hr hj, ?_⟩
  rw [s.ni_present pl p j _ _ _ ht]
  refine ⟨rfl, rfl, htag, hlow, rfl, rfl, rfl, rfl, rfl, fun h => if_pos h, fun h => if_neg (fun h' => ?_), fun h => if_pos ?_,
    fun y hy hid => Ni.mem_presented (x := s.presOf p j j.nextGran (decide (j.kind = kWrite ∧ j.phase = .plain))
      (j.wdata.getD j.nextGran 0) tag) j hy hid⟩
  · exact Bool.false_ne_true (h.symm.trans h')
  · rw [h]
    rfl

/-! #### Write-backs (R52, R195) -/

theorem State.ni_writeBack (d : Line) {tag : Nat} (ht : lowestFree 64 ((s.ni pl p).pres.map (·.ttag)) = some tag)
    (hl : (s.ni pl p).pres.length < 64) : (s.writeBack pl p j d).ni pl p =
      { ((s.ni pl p).presented (s.presOf p j 0 true d tag) j 0).writesBack j with
        watch := ((s.writeBack pl p j d).ni pl p).watch } := by
  have h : s.writeBack pl p j d = (s.present pl p j 0 true d).modNi pl p (Ni.writesBack j) := if_neg (by omega)
  rw [h, State.ni_modNi, s.ni_present pl p j 0 true d ht]
  rfl

theorem Ni.mem_writesBack {n : Ni} {y : Job} (hy : y ∈ (n.writesBack j).jobs) (hid : y.id = j.id) : y.phase = .rmwWrite := by
  obtain ⟨z, -, rfl⟩ := List.mem_map.1 hy
  split at hid
  · next h => rw [if_pos h]
  · next h => exact absurd hid h

/-- A write-back presents the whole granule. -/
theorem State.writeBack_effect (hready : j.phase = .rmwReady) (d : Line) {tag : Nat}
    (ht : lowestFree 64 ((s.ni pl p).pres.map (·.ttag)) = some tag) (hl : (s.ni pl p).pres.length < 64) :
    let t := s.writeBack pl p j d
    ∃ x, (t.ni pl p).pres = (s.ni pl p).pres ++ [x] ∧ x.write = true ∧ x.ttag = tag ∧ x.addr = j.taddr / 64 * 64 ∧ x.ben = benAll ∧
      x.data = s.xts false p j.owner j.priv x.addr d ∧ ∀ y ∈ (t.ni pl p).jobs, y.id = j.id → y.phase = .rmwWrite := by
  have hrmw : decide (j.phase ≠ .plain) = true := by rw [hready]; rfl
  intro t
  refine ⟨s.presOf p j 0 true d tag, ?_⟩
  rw [s.ni_writeBack pl p j d ht hl]
  refine ⟨rfl, rfl, rfl, ?_, if_pos ?_, rfl,
    fun y hy hid => Ni.mem_writesBack (n := (s.ni pl p).presented (s.presOf p j 0 true d tag) j 0) j hy hid⟩
  · unfold State.presOf State.treqAddr
    dsimp only
    rw [if_neg (by rw [hrmw]; simp), Nat.add_zero]
  · rw [hrmw, Bool.or_true, Bool.true_or]

variable {s pl p} {job : Nat} {j : Job}

theorem execAtomicWriteBack_found (hr : s.runs pl = true)
    (hj : (s.ni pl p).jobs.find? (fun y => decide (y.id = job ∧ y.phase = .rmwReady ∧ y.kind = kAtomic)) = some j) :
    execAtomicWriteBack pl p job s = .next (s.writeBack pl p j (j.atomicLine j.old)) := by
  unfold execAtomicWriteBack
  rw [inPlane_runs hr, hj]

theorem execWriteMerge_found (hr : s.runs pl = true)
    (hj : (s.ni pl p).jobs.find? (fun y => decide (y.id = job ∧ y.phase = .rmwReady ∧ y.kind = kWrite)) = some j) :
    execWriteMerge pl p job s = .next (s.writeBack pl p j (mergeLine j.old (j.wdata.getD 0 0) j.ben)) := by
  unfold execWriteMerge
  rw [inPlane_runs hr, hj]

end

/-! #### A unit's answer (R52, R195, R361) -/

theorem stOfUnit_ne {status : Nat} (h : status ≠ stOk) : stOfUnit status ≠ stOk := by
  unfold stOfUnit
  rw [if_neg h]
  split
  · decide
  · decide

/-- The NI without a presentation that has been answered. -/
def Ni.answered (ttag : Nat) (n : Ni) : Ni := { n with pres := n.pres.filter (fun y => decide (y.ttag ≠ ttag)) }

/-- The NI without a job that has been answered. -/
def Ni.withoutJob (j : Job) (n : Ni) : Ni := { n with jobs := n.jobs.filter (fun x => decide (x.id ≠ j.id)) }

/-- The NI with job `j` in the place of the one with its number. -/
def Ni.setJob (id : Nat) (j : Job) (n : Ni) : Ni := { n with jobs := n.jobs.map (fun y => if y.id = id then j else y) }

section

variable {s : State} {pl : Pl} {p ttag : Nat} (status : Nat) (data : Line) {x : TPres} {j : Job}
  (hx : (s.ni pl p).pres.find? (fun y => decide (y.ttag = ttag)) = some x)
  (hj : (s.ni pl p).jobs.find? (fun y => decide (y.id = x.job)) = some j)

include hx hj

theorem State.unitResponse_found : s.unitResponse pl p ttag status data =
    (s.modNi pl p (Ni.answered ttag)).unitAnswer pl p x j status data := by
  have hjobs : ((s.modNi pl p (Ni.answered ttag)).ni pl p).jobs.find? (fun y => decide (y.id = x.job)) = some j := by
    rw [State.ni_modNi]
    exact hj
  unfold State.unitResponse
  rw [hx]
  dsimp only
  split
  · next h => cases (hjobs.symm.trans h :)
  · next j' h =>
    cases (hjobs.symm.trans h :)
    rfl

end

end Sys2Proof.Machine

namespace Sys2Proof.Machine

/-- Granule `gran` of a job has been answered. -/
def Job.answer (j : Job) (gran status : Nat) (d : Line) : Job := { j with got := j.got ++ [{ pidx := gran, status := status, data := d }] }

theorem Job.status_answer (j : Job) (gran status : Nat) (d : Line) : (j.answer gran status d).status = stFirst j.status status := by
  unfold Job.status stFirstOf Job.answer
  dsimp only
  rw [List.map_append, List.foldl_append]
  rfl

section

variable {s : State} {pl : Pl} {p : Nat} (ttag status : Nat) (data : Line) {x : TPres} {j : Job}

theorem State.xts_modNi (f : Ni → Ni) (dec : Bool) (owner priv addr : Nat) (d : Line) :
    (s.modNi pl p f).xts dec p owner priv addr d = s.xts dec p owner priv addr d := by
  unfold State.xts State.encrypts
  rw [State.modNi_variant, State.modNi_keys]

theorem State.finishJob_eq (t : State) (j : Job) (status : Nat) (lines : List Line) : t.finishJob pl p j status lines =
    (t.modNi pl p (Ni.withoutJob j)).respond pl p j.src j.vc j.rtag j.priv j.owner j.gts
      (if j.late then stFirst status stLate else status) lines := rfl

theorem State.mem_withoutJob (t : State) (j : Job) : ∀ y ∈ ((t.modNi pl p (Ni.withoutJob j)).ni pl p).jobs, y.id ≠ j.id := by
  rw [State.ni_modNi]
  exact fun y hy => of_decide_eq_true (List.mem_filter.1 hy).2

theorem State.unitAnswer_read (h : j.phase = .rmwRead) : s.unitAnswer pl p x j stOk data =
    s.modNi pl p (Ni.setJob j.id { j with phase := .rmwReady, old := s.xts true p j.owner j.priv x.addr data }) := by
  unfold State.unitAnswer
  dsimp only
  rw [h]
  exact if_pos rfl

theorem State.unitAnswer_readFails (h : j.phase = .rmwRead) (hst : status ≠ stOk) : s.unitAnswer pl p x j status data =
    s.finishJob pl p j (stOfUnit status) (if j.kind = kAtomic then [0] else []) := by
  unfold State.unitAnswer
  dsimp only
  rw [h]
  exact if_neg (stOfUnit_ne hst)

/-- The answer to an ATOMIC's write-back brings the operand that was there. -/
theorem State.unitAnswer_write (h : j.phase = .rmwWrite) : ∃ t : State, ∃ d : Line, s.unitAnswer pl p x j status data =
    t.finishJob pl p j (stOfUnit status) (if j.kind = kAtomic then [if stOfUnit status = stOk then d else 0] else []) ∧
    fld d 0 128 = j.operand j.old % 2 ^ 128 := by
  unfold State.unitAnswer
  dsimp only
  rw [h]
  dsimp only
  by_cases hk : j.kind = kAtomic ∧ stOfUnit status = stOk
  · obtain ⟨hk, hst⟩ := hk
    refine ⟨(s.stated pl 16 (BitVec.ofNat 512 (j.operand j.old))).2, (s.stated pl 16 (BitVec.ofNat 512 (j.operand j.old))).1, ?_, ?_⟩
    · rw [if_pos ⟨hk, hst⟩, if_pos hk, if_pos hst]
    · rw [(s.stated_low pl _).2.2, fld_ofNat_low _ (by decide)]
  · refine ⟨s, BitVec.ofNat 512 (j.operand j.old), ?_, fld_ofNat_low _ (by decide)⟩
    rw [if_neg hk]
    by_cases hkind : j.kind = kAtomic
    · rw [if_pos hkind, if_pos hkind, if_neg fun hst => hk ⟨hkind, hst⟩]
    · rw [if_neg hkind, if_neg hkind]

theorem State.unitAnswer_last (h : j.phase = .plain) (hl : j.got.length + 1 = j.span) : s.unitAnswer pl p x j status data =
    s.finishJob pl p j (stFirst j.status (stOfUnit status))
      (j.answer x.gran (stOfUnit status) (if x.write then 0 else s.xts true p j.owner j.priv x.addr data)).lines := by
  rw [← Job.status_answer j x.gran (stOfUnit status) (if x.write then 0 else s.xts true p j.owner j.priv x.addr data)]
  unfold State.unitAnswer
  dsimp only
  rw [h]
  exact if_pos (by rw [List.length_append]; exact hl)

end

/-- A unit's answer to a presentation, by the phase of its job. -/
theorem unitResponse_effect (s : State) (pl : Pl) (p ttag status : Nat) (data : Line) (x : TPres) (j : Job)
    (hx : (s.ni pl p).pres.find? (fun y => decide (y.ttag = ttag)) = some x)
    (hj : (s.ni pl p).jobs.find? (fun y => decide (y.id = x.job)) = some j) :
    (j.phase = .rmwRead → status = stOk → let t := s.unitResponse pl p ttag status data
      (∀ y ∈ (t.ni pl p).pres, y.ttag ≠ ttag) ∧
      { j with phase := .rmwReady, old := s.xts true p j.owner j.priv x.addr data } ∈ (t.ni pl p).jobs) ∧
    (j.phase = .rmwRead → status ≠ stOk → ∃ t : State, s.unitResponse pl p ttag status data =
      t.respond pl p j.src j.vc j.rtag j.priv j.owner j.gts
        (if j.late then stFirst (stOfUnit status) stLate else stOfUnit status) (if j.kind = kAtomic then [0] else []) ∧
      (∀ y ∈ (t.ni pl p).jobs, y.id ≠ j.id)) ∧
    (j.phase = .rmwWrite → ∃ t : State, ∃ d : Line, s.unitResponse pl p ttag status data =
      t.respond pl p j.src j.vc j.rtag j.priv j.owner j.gts
        (if j.late then stFirst (stOfUnit status) stLate else stOfUnit status)
        (if j.kind = kAtomic then [if stOfUnit status = stOk then d else 0] else []) ∧
      fld d 0 128 = j.operand j.old % 2 ^ 128 ∧
      (∀ y ∈ (t.ni pl p).jobs, y.id ≠ j.id)) ∧
    (j.phase = .plain → j.got.length + 1 = j.span → ∃ t : State, s.unitResponse pl p ttag status data =
      let d := if x.write then 0 else s.xts true p j.owner j.priv x.addr data
      t.finishJob pl p j (stFirst j.status (stOfUnit status))
        ({ j with got := j.got ++ [{ pidx := x.gran, status := stOfUnit status, data := d }] } : Job).lines) := by
  have hfound := State.unitResponse_found status data hx hj
  refine ⟨fun h hst => ?_, fun h hst => ⟨_, ?_, State.mem_withoutJob (s.modNi pl p (Ni.answered ttag)) j⟩, fun h => ?_, fun h hl => ?_⟩
  · subst hst
    intro t
    have ht : t = _ := hfound.trans (State.unitAnswer_read data h)
    rw [ht, State.ni_modNi, State.ni_modNi, State.xts_modNi]
    refine ⟨fun y hy => of_decide_eq_true (List.mem_filter.1 hy).2, ?_⟩
    exact List.mem_map.2 ⟨j, List.mem_of_find?_eq_some hj, if_pos rfl⟩
  · rw [hfound, State.unitAnswer_readFails status data h hst, State.finishJob_eq]
  · obtain ⟨t, d, hanswer, hd⟩ := State.unitAnswer_write (s := s.modNi pl p (Ni.answered ttag)) (pl := pl) (p := p) (x := x) status data h
    exact ⟨_, d, hfound.trans hanswer, hd, State.mem_withoutJob t j⟩
  · refine ⟨s.modNi pl p (Ni.answered ttag), ?_⟩
    rw [hfound, State.unitAnswer_last status data h hl, State.xts_modNi]
    rfl

/-- Settles O6: a presentation by `ni_present`, a unit's answer by the phase of its job, a write-back by `writeBack_effect`. -/
theorem targetPresentsAndMerges : Obligations.TargetPresentsAndMerges := by
  unfold Obligations.TargetPresentsAndMerges
  refine ⟨fun s pl p tag j hr hj ht => treqPresent_effect s pl p j hr hj ht, unitResponse_effect, fun s pl p ttag status data hr => ?_,
    fun s pl p job tag j hr ht hl hready => ⟨fun hj => ?_, fun hj => ?_⟩⟩
  · exact atUnit_runs hr _
  · obtain ⟨x, hx⟩ := s.writeBack_effect pl p j hready (j.atomicLine j.old) ht hl
    exact ⟨_, x, execAtomicWriteBack_found hr hj, hx⟩
  · obtain ⟨x, hx⟩ := s.writeBack_effect pl p j hready (mergeLine j.old (j.wdata.getD 0 0) j.ben) ht hl
    exact ⟨_, x, execWriteMerge_found hr hj, hx⟩

end Sys2Proof.Machine

namespace Sys2Proof.Machine

/-! ### The initiators' side of placement (R130 to R134, R141, R142) -/

section

variable {s u : State} {pl : Pl} {agent p : Nat} {k : Packet}

/-! #### What an agent keeps of placement -/

/-- The lookaside, lookups and freeze list of an agent. -/
def State.placementOf (s : State) (pl : Pl) (agent : Nat) : List Look × List (Nat × Nat) × List Frozen :=
  match muleOf agent with
  | some e => ((s.mul pl e).look, (s.mul pl e).lookups, (s.mul pl e).frozen)
  | none => ((s.ni pl agent).look, (s.ni pl agent).lookups, (s.ni pl agent).frozen)

theorem State.frozenOf_eq (s : State) (pl : Pl) (agent : Nat) : s.frozenOf pl agent = (s.placementOf pl agent).2.2 := by
  unfold State.frozenOf State.placementOf
  cases muleOf agent <;> rfl

theorem State.placementOf_modPlacement (s : State) (pl : Pl) (agent : Nat)
    (f : List Look × List (Nat × Nat) × List Frozen → List Look × List (Nat × Nat) × List Frozen) :
    (s.modPlacement pl agent f).placementOf pl agent = f (s.placementOf pl agent) := by
  unfold State.modPlacement State.placementOf
  cases muleOf agent with
  | none =>
    dsimp only
    rw [State.ni_modNi]
  | some e =>
    dsimp only
    rw [State.mul_modMul]

theorem State.settleAgent_ni (hm : muleOf agent = none) (t : State) : t.settleAgent pl agent = t.niSettle pl agent := by
  unfold State.settleAgent
  rw [hm]

theorem State.settleAgent_mule {e : Nat} (hm : muleOf agent = some e) (t : State) : t.settleAgent pl agent = t := by
  unfold State.settleAgent
  rw [hm]

/-! #### Replies and invalidates (R132, R133) -/

/-- The lookup that a reply answers is taken off the list. -/
def State.answerLookup (u : State) (pl : Pl) (agent : Nat) (k : Packet) : State :=
  u.modPlacement pl agent (fun (l, u, f) => (l, u.filter (fun x => decide (x ≠ (mgPage k.hdr, hTag k.hdr))), f))

section

variable (hr : s.runs pl = true) (hk : s.takeMgmt pl agent 2 none = some (k, u))

include hr hk

theorem execLookupReply_badNi (h : bit (BitVec.ofNat 20 (hMarg k.hdr)) 19 = true) (hm : muleOf agent = none) :
    execLookupReply pl agent s = .next (((u.answerLookup pl agent k).poisonWaiting pl agent (mgPage k.hdr)).niSettle pl agent) := by
  unfold execLookupReply
  rw [inPlane_runs hr, hk]
  dsimp only
  rw [if_pos h, State.settleAgent_ni hm]
  split
  · next h' => cases (hm.symm.trans h' :)
  · rfl

theorem execLookupReply_badMule {e : Nat} (h : bit (BitVec.ofNat 20 (hMarg k.hdr)) 19 = true) (hm : muleOf agent = some e) :
    execLookupReply pl agent s = .next ((u.answerLookup pl agent k).mulPoisoned pl e (mgPage k.hdr)) := by
  unfold execLookupReply
  rw [inPlane_runs hr, hk]
  dsimp only
  rw [if_pos h, State.settleAgent_mule hm]
  split
  · next h' =>
    cases (hm.symm.trans h' :)
    rfl
  · next h' => cases (hm.symm.trans h' :)

theorem execLookupReply_fills (h : bit (BitVec.ofNat 20 (hMarg k.hdr)) 19 = false)
    (hfree : holdsPage ((u.answerLookup pl agent k).frozenOf pl agent) (mgPage k.hdr) = false)
    (hheld : bit (BitVec.ofNat 20 (hMarg k.hdr)) 18 = false) : execLookupReply pl agent s =
      .next (((u.answerLookup pl agent k).modPlacement pl agent (fun (l, u, f) =>
        (lookInsert (lookSets agent) l (lookOf (mgPage k.hdr) (lineWord k.line0 0)), u, f))).settleAgent pl agent) := by
  unfold execLookupReply
  rw [inPlane_runs hr, hk]
  dsimp only
  rw [if_neg (by rw [h]; decide)]
  exact congrArg Host.Outcome.next ((if_neg fun h' => Bool.false_ne_true (hfree.symm.trans h')).trans
    (if_neg fun h' => Bool.false_ne_true (hheld.symm.trans h')))

end

theorem execLookasideInvalidate_takes (hr : s.runs pl = true) (hk : s.takeMgmt pl agent 3 (some 0) = some (k, u)) :
    execLookasideInvalidate pl agent s = .next ((u.modPlacement pl agent (fun (l, u, f) =>
      (if bit k.line0 64 then [] else l.filter (fun x => decide (x.page ≠ mgPage k.hdr)), u, f))).ackMgmt pl agent k.hdr [0]) := by
  unfold execLookasideInvalidate
  rw [inPlane_runs hr, hk]

end

end Sys2Proof.Machine

namespace Sys2Proof.Machine

/-! ### The Bellwether's lookups and table errors (R129, R132) -/

section

variable {s u : State} {pl : Pl} {k : Packet}

/-- A lookup that its page's owner makes counts for the page. -/
def Sb.sampleLookup (b : Sb) (k : Packet) : Sb :=
  { b with hot := hotSample b.hot (mgPage k.hdr) (hOwner k.hdr) (quireOfEp (hSrc k.hdr)) (bit (BitVec.ofNat 20 (hMarg k.hdr)) 19) }

/-- What a lookup counts and samples before it is answered (R137): its events, and the page's counts when it comes with one. -/
def State.lookupSampled (u : State) (pl : Pl) (k : Packet) : State :=
  let sampled := bit (BitVec.ofNat 20 (hMarg k.hdr)) 18
  let t := u.countPlc pl 0x02
  let t := if sampled then t.countPlc pl 0x03 else t
  if sampled && decide (hOwner k.hdr = eOwner (u.entry pl (mgPage k.hdr))) then t.modSb pl (fun b => b.sampleLookup k) else t

/-- The requester's release of the page is still to be sent. -/
def Sb.heldFor (b : Sb) (k : Packet) : Bool :=
  b.migs.any (fun m => decide (m.page = mgPage k.hdr ∧ m.step = 7) && m.toFreeze.contains (hSrc k.hdr))

/-- What reads the table alike: the accepted image, and of the service block the table, the bad pages and the migrations. -/
structure State.SameTable (s : State) (pl : Pl) (t : State) : Prop where
  img : t.img = s.img
  ctab : (t.sb pl).ctab = (s.sb pl).ctab
  bad : (t.sb pl).badPages = (s.sb pl).badPages
  migs : (t.sb pl).migs = (s.sb pl).migs

theorem State.SameTable.trans {r t : State} (h : r.SameTable pl s) (g : s.SameTable pl t) : r.SameTable pl t where
  img := g.img.trans h.img
  ctab := g.ctab.trans h.ctab
  bad := g.bad.trans h.bad
  migs := g.migs.trans h.migs

theorem State.SameTable.ite {c : Prop} [Decidable c] {t : State} (h : s.SameTable pl t) : s.SameTable pl (if c then t else s) := by
  split
  · exact h
  · exact ⟨rfl, rfl, rfl, rfl⟩

theorem State.sameTable_countPlc (code : Nat) : s.SameTable pl (s.countPlc pl code) :=
  have h : s.Records _ _ (s.countPlc pl code) := s.countN_records pl 960 16 code 0 none 1
  ⟨h.img, congrArg Sb.ctab (h.sb pl), congrArg Sb.badPages (h.sb pl), congrArg Sb.migs (h.sb pl)⟩

theorem State.SameTable.entry {t : State} (h : s.SameTable pl t) (page : Nat) : t.entry pl page = s.entry pl page := by
  unfold State.entry
  rw [h.ctab, h.img]

theorem State.SameTable.heldFor {t : State} (h : s.SameTable pl t) (k : Packet) : (t.sb pl).heldFor k = (s.sb pl).heldFor k := by
  unfold Sb.heldFor
  rw [h.migs]

theorem State.sameTable_sampleLookup (k : Packet) : s.SameTable pl (s.modSb pl (fun b => b.sampleLookup k)) where
  img := by cases pl <;> rfl
  ctab := by rw [State.sb_modSb, Sb.sampleLookup]
  bad := by rw [State.sb_modSb, Sb.sampleLookup]
  migs := by rw [State.sb_modSb, Sb.sampleLookup]

theorem State.sameTable_lookupSampled (k : Packet) : u.SameTable pl (u.lookupSampled pl k) := by
  unfold State.lookupSampled
  exact ((State.sameTable_countPlc 0x02).trans (.ite (State.sameTable_countPlc 0x03))).trans (.ite (State.sameTable_sampleLookup k))

/-- A lookup whose page is held by a migration is counted as such. -/
def State.heldCounted (t : State) (pl : Pl) (k : Packet) : State :=
  if !(t.sb pl).badPages.contains (mgPage k.hdr) && (t.sb pl).heldFor k then t.countPlc pl 0x09 else t

/-- A lookup's answer: the entry, and whether the page is held or bad. -/
def State.answerEntry (t : State) (pl : Pl) (k : Packet) (e : W32) (bad held : Bool) : State :=
  t.sbMgmt pl (hSrc k.hdr) 2 (mgPage k.hdr + b2n (held && !bad) * 2 ^ 18 + b2n bad * 2 ^ 19) (hTag k.hdr) [BitVec.ofNat 512 e.toNat]

theorem State.sameTable_heldCounted (k : Packet) : u.SameTable pl ((u.lookupSampled pl k).heldCounted pl k) := by
  unfold State.heldCounted
  exact (State.sameTable_lookupSampled k).trans (.ite (State.sameTable_countPlc 0x09))

theorem execPlacementLookup_eq {q : Nat} (hr : s.runs pl = true) (hk : s.popSbIn pl q 6 = some (k, u))
    (hkind : hKind k.hdr = kMgmt) (hmop : hMop k.hdr = 1) : execPlacementLookup pl q s =
      let t := u.lookupSampled pl k
      let bad := (t.sb pl).badPages.contains (mgPage k.hdr)
      .next ((t.heldCounted pl k).sbMgmt pl (hSrc k.hdr) 2
        (mgPage k.hdr + b2n (!bad && (t.sb pl).heldFor k) * 2 ^ 18 + b2n bad * 2 ^ 19) (hTag k.hdr)
        [BitVec.ofNat 512 (u.entry pl (mgPage k.hdr)).toNat]) := by
  unfold execPlacementLookup
  rw [inPlane_runs hr, hk]
  dsimp only
  rw [if_neg (by rw [hkind, hmop]; decide)]
  rfl

theorem execPlacementLookup_answers {q : Nat} (hr : s.runs pl = true) (hk : s.popSbIn pl q 6 = some (k, u))
    (hkind : hKind k.hdr = kMgmt) (hmop : hMop k.hdr = 1) : execPlacementLookup pl q s =
      .next (((u.lookupSampled pl k).heldCounted pl k).answerEntry pl k (u.entry pl (mgPage k.hdr))
        ((u.sb pl).badPages.contains (mgPage k.hdr)) ((u.sb pl).heldFor k)) := by
  have hs : u.SameTable pl (u.lookupSampled pl k) := State.sameTable_lookupSampled k
  rw [execPlacementLookup_eq hr hk hkind hmop]
  dsimp only
  rw [hs.bad, hs.heldFor k, Bool.and_comm (!_)]
  rfl

/-! #### An uncorrectable error (R129, R150) -/

/-- The page of a table error is bad from now on, and the table is a cause of timed mode. -/
def Sb.markBad (b : Sb) (page : Nat) : Sb :=
  { b with badPages := if b.badPages.contains page then b.badPages else b.badPages ++ [page], causeTable := true }

/-- An uncorrectable error is marked, counted and reported. -/
def State.tableBroken (s : State) (pl : Pl) (page : Nat) : State :=
  ((s.modSb pl (fun b => b.markBad page)).pinc pl rTableErr 16 16 1).placeFault pl page 1

theorem State.sb_tableBroken (s : State) (pl : Pl) (page : Nat) : (s.tableBroken pl page).sb pl = (s.sb pl).markBad page := by
  have ho : ∀ t : State, t.Records (fun _ => True) (fun _ => True) (t.placeFault pl page 1) := fun t => State.Records.occurP t pl _ _
  unfold State.tableBroken State.pinc State.pfset
  rw [(ho _).sb, State.sb_pset, State.sb_noteInc, State.sb_modSb]

theorem Sb.mem_markBad (b : Sb) (page : Nat) : page ∈ (b.markBad page).badPages := by
  unfold Sb.markBad
  dsimp only
  split
  · next h => exact List.contains_iff_mem.1 h
  · exact List.mem_append_right _ (List.mem_singleton.2 rfl)

theorem State.timedCause_table {t : State} (h : (t.sb pl).causeTable = true) : t.timedCause pl ≠ 0 := by
  unfold State.timedCause
  rw [h]
  unfold b2n
  rw [if_pos rfl]
  omega

end

/-! ### Freezes, acknowledgements and releases (R141) -/

section

variable {s u : State} {pl : Pl} {agent p : Nat} {k : Packet}

/-- A piece that waits at an NI for the placement of the page a freeze names. -/
def State.freezeHits (u : State) (pl : Pl) (page : Nat) (q : Piece) : Bool :=
  q.placed && q.resolved && decide (u.pageOf pl q.paddr = some page)

/-- The freeze an NI puts on its list, with the GT tags under way to the page's old home. -/
def Ni.freezeOf (n : Ni) (page home : Nat) : Frozen :=
  { page := page, home := home, fence1 := false, fence3 := false, gtTags := n.gtTagsTo home, acked := false }

/-- An NI takes a page out of its lookaside, and asks the old home for both path fences. -/
def Ni.frozenFor (n : Ni) (hit : Piece → Bool) (page home addr : Nat) : Ni :=
  let n := n.freezePieces hit
  { n with
    look := n.look.filter (fun x => decide (x.page ≠ page)),
    frozen := n.frozen ++ [n.freezeOf page home],
    wait := [fencePiece page home addr 1, fencePiece page home addr 2] ++ n.wait }

/-- A piece that waits for its reissue is looked up again. -/
def Piece.unresolvedIf (hit : Piece → Bool) (q : Piece) : Piece :=
  if hit q && q.retryAt.isSome then { q with resolved := false } else q

theorem Piece.unresolvedIf_ends (hit : Piece → Bool) (q : Piece) :
    (q.unresolvedIf hit).cls = q.cls ∧ (q.unresolvedIf hit).dest = q.dest ∧ (q.unresolvedIf hit).tag = q.tag := by
  unfold Piece.unresolvedIf
  split <;> exact ⟨rfl, rfl, rfl⟩

theorem Ni.gtTagsTo_freezePieces (n : Ni) (hit : Piece → Bool) (home : Nat) : (n.freezePieces hit).gtTagsTo home = n.gtTagsTo home := by
  have hends : (fun q : Piece => decide (q.cls = 0 ∧ q.dest = home)) ∘ Piece.unresolvedIf hit =
      fun q => decide (q.cls = 0 ∧ q.dest = home) := funext fun q => by
    obtain ⟨hcls, hdest, -⟩ := q.unresolvedIf_ends hit
    simp only [Function.comp, hcls, hdest]
  have htag : (fun q : Piece => q.tag) ∘ Piece.unresolvedIf hit = fun q => q.tag := funext fun q => (q.unresolvedIf_ends hit).2.2
  have hout : (n.freezePieces hit).out = n.out.map (Piece.unresolvedIf hit) := rfl
  unfold Ni.gtTagsTo
  rw [hout, List.filter_append, List.filter_append, List.filterMap_append, List.filterMap_append, List.filter_map, hends,
    List.filterMap_map, htag]
  rfl

theorem execLookasideFreeze_freezes (hr : s.runs pl = true) (hk : s.takeMgmt pl agent 3 (some 1) = some (k, u))
    (hm : muleOf agent = none) :
    let page := mgPage k.hdr
    let home := u.homePort pl page (eInframe (lineWord k.line0 0)) (eFrame (lineWord k.line0 0))
    execLookasideFreeze pl agent s = .next ((u.modNi pl agent (fun n =>
      n.frozenFor (u.freezeHits pl page) page home (u.pageAddr pl page))).resolveAll pl agent) := by
  unfold execLookasideFreeze
  rw [inPlane_runs hr, hk]
  dsimp only
  split
  · next h => cases (hm.symm.trans h :)
  · rfl

/-- The freezes of a page that are not released are acknowledged; released ones leave the list. -/
def ackFrozen (l : List Frozen) (page : Nat) : List Frozen :=
  (l.filter (fun x => decide (¬(x.page = page ∧ x.released)))).map (fun x => if x.page = page then { x with acked := true } else x)

theorem ackFrozen_page {l : List Frozen} {page : Nat} {x : Frozen} (hx : x ∈ ackFrozen l page) (hp : x.page = page) :
    x.acked = true ∧ x.released = false := by
  obtain ⟨y, hy, rfl⟩ := List.mem_map.1 hx
  have hkeep : ¬(y.page = page ∧ y.released = true) := of_decide_eq_true (List.mem_filter.1 hy).2
  by_cases h : y.page = page
  · rw [if_pos h]
    exact ⟨rfl, Bool.eq_false_iff.2 fun hr => hkeep ⟨h, hr⟩⟩
  · rw [if_neg h] at hp
    exact absurd hp h

theorem mem_ackFrozen_other {l : List Frozen} {page : Nat} {x : Frozen} (hp : x.page ≠ page) : x ∈ ackFrozen l page ↔ x ∈ l := by
  constructor
  · intro hx
    obtain ⟨y, hy, hyx⟩ := List.mem_map.1 hx
    split at hyx
    · next h => exact absurd (hyx ▸ h) hp
    · exact hyx ▸ (List.mem_filter.1 hy).1
  · intro hx
    exact List.mem_map.2 ⟨x, List.mem_filter.2 ⟨hx, decide_eq_true fun h => hp h.1⟩, if_neg hp⟩

theorem mem_ackFrozen_acked {l : List Frozen} {page : Nat} {x : Frozen} (hx : x ∈ l) (hp : x.page = page) (hr : x.released = false) :
    { x with acked := true } ∈ ackFrozen l page :=
  List.mem_map.2 ⟨x, List.mem_filter.2 ⟨hx, decide_eq_true fun h => Bool.false_ne_true (hr.symm.trans h.2)⟩, if_pos hp⟩

theorem holdsPage_releasePage (l : List Frozen) (page : Nat) : holdsPage (releasePage l page) page = false := by
  refine List.any_eq_false.2 fun x hx hheld => ?_
  obtain ⟨hp, hr⟩ := of_decide_eq_true hheld
  obtain ⟨y, -, rfl⟩ := List.mem_map.1 hx
  by_cases h : y.page = page
  · rw [if_pos h] at hr
    cases hr
  · rw [if_neg h] at hp
    exact h hp

theorem mem_releasePage_other {l : List Frozen} {page : Nat} {x : Frozen} (hp : x.page ≠ page) : x ∈ releasePage l page ↔ x ∈ l := by
  constructor
  · intro hx
    obtain ⟨y, hy, hyx⟩ := List.mem_map.1 hx
    split at hyx
    · next h => exact absurd (hyx ▸ h) hp
    · exact hyx ▸ (List.mem_filter.1 hy).1
  · intro hx
    exact List.mem_map.2 ⟨x, List.mem_filter.2 ⟨hx, decide_eq_true fun h => hp h.1⟩, if_neg hp⟩

theorem mem_releasePage_released {l : List Frozen} {page : Nat} {x : Frozen} (hx : x ∈ l) (hp : x.page = page) (ha : x.acked = false) :
    { x with released := true } ∈ releasePage l page :=
  List.mem_map.2 ⟨x, List.mem_filter.2 ⟨hx, decide_eq_true fun h => Bool.false_ne_true (ha.symm.trans h.2)⟩, if_pos hp⟩

/-- An agent acknowledges its freezes of a page. -/
def State.ackPage (s : State) (pl : Pl) (agent page : Nat) : State := s.modPlacement pl agent (fun (l, u, f) => (l, u, ackFrozen f page))

theorem State.frozenOf_ackPage (s : State) (pl : Pl) (agent page : Nat) :
    (s.ackPage pl agent page).frozenOf pl agent = ackFrozen (s.frozenOf pl agent) page := by
  rw [State.frozenOf_eq, State.frozenOf_eq, State.ackPage, State.placementOf_modPlacement]

theorem execFreezeAcknowledge_acks {page : Nat} (hr : s.runs pl = true)
    (h : (s.frozenOf pl agent).any (fun f => decide (f.page = page ∧ f.fence1 ∧ f.fence3 ∧ f.gtTags = [] ∧ ¬f.acked)) = true) :
    execFreezeAcknowledge pl agent page s = .next ((s.ackPage pl agent page).epSend pl agent
      (mkHdr epService agent 6 kMgmt 3 0 0 0 ||| mgmtHi 4 (page + 2 ^ 18)) [0]) := by
  unfold execFreezeAcknowledge
  rw [inPlane_runs hr, if_pos h]
  rfl

/-- An agent releases a page: its freezes end, and an NI's watch of it as well. -/
def State.releasedPage (u : State) (pl : Pl) (agent : Nat) (k : Packet) : State :=
  let t := u.modPlacement pl agent (fun (l, u, f) => (l, u, releasePage f (mgPage k.hdr)))
  match muleOf agent with
  | some _ => t
  | none => t.modNi pl agent (fun n => n.releaseWatch (mgPage k.hdr) (eEpoch (lineWord k.line0 0)) (byteAt k.line0 4))

theorem Ni.frozen_releaseWatch (n : Ni) (page epoch old : Nat) : (n.releaseWatch page epoch old).frozen = n.frozen := by
  unfold Ni.releaseWatch
  split
  · dsimp only
    split <;> rfl
  · rfl

theorem State.frozenOf_releasedPage (u : State) (pl : Pl) (agent : Nat) (k : Packet) :
    (u.releasedPage pl agent k).frozenOf pl agent = releasePage (u.frozenOf pl agent) (mgPage k.hdr) := by
  have hrel : (u.modPlacement pl agent (fun (l, u, f) => (l, u, releasePage f (mgPage k.hdr)))).frozenOf pl agent =
      releasePage (u.frozenOf pl agent) (mgPage k.hdr) := by
    rw [State.frozenOf_eq, State.frozenOf_eq, State.placementOf_modPlacement]
  rw [← hrel]
  unfold State.releasedPage State.frozenOf
  cases muleOf agent with
  | some e => rfl
  | none =>
    dsimp only
    rw [State.ni_modNi, Ni.frozen_releaseWatch]

theorem execLookasideRelease_releases (hr : s.runs pl = true) (hk : s.takeMgmt pl agent 3 (some 2) = some (k, u)) :
    execLookasideRelease pl agent s = .next (((u.releasedPage pl agent k).ackMgmt pl agent k.hdr [0]).settleAgent pl agent) := by
  unfold execLookasideRelease
  rw [inPlane_runs hr, hk]
  rfl

/-! ### Watches (R142) -/

/-- The watch of a page at its old home: an armed slot is read and cleared, a free one is armed at a tile that encrypts. -/
def Ni.watchPage (n : Ni) (encrypts : Bool) (page : Nat) : Ni :=
  if n.watch.any (fun w => decide (w.page = page)) then
    { n with watch := n.watch.map (fun w => if w.page = page then { w with dirty := 0 } else w) }
  else if n.watch.length < 2 ∧ encrypts then { n with watch := n.watch ++ [{ page := page, dirty := 0 }] } else n

theorem Ni.watch_watchPage_armed {n : Ni} {page : Nat} (h : n.watch.any (fun w => decide (w.page = page)) = true) (c : Bool) :
    (n.watchPage c page).watch = n.watch.map (fun w => if w.page = page then { w with dirty := 0 } else w) := by
  unfold Ni.watchPage
  rw [if_pos h]

theorem Ni.watch_watchPage_free {n : Ni} {page : Nat} (h : n.watch.any (fun w => decide (w.page = page)) = false)
    (hlen : n.watch.length < 2) : (n.watchPage true page).watch = n.watch ++ [{ page := page, dirty := 0 }] := by
  unfold Ni.watchPage
  rw [if_neg (by rw [h]; decide), if_pos ⟨hlen, rfl⟩]

theorem Ni.watchPage_length (n : Ni) (c : Bool) (page : Nat) (h : n.watch.length ≤ 2) : (n.watchPage c page).watch.length ≤ 2 := by
  unfold Ni.watchPage
  split
  · exact Nat.le_trans (Nat.le_of_eq (List.length_map ..)) h
  · split
    · next hfree =>
      rw [List.length_append, List.length_singleton]
      exact hfree.1
    · exact h

theorem Ni.dirty_watchPage {n : Ni} {page : Nat} (h : n.watch.any (fun w => decide (w.page = page)) = true) (c : Bool) :
    ∀ w ∈ (n.watchPage c page).watch, w.page = page → w.dirty = 0 := by
  rw [Ni.watch_watchPage_armed h]
  intro w hw hp
  obtain ⟨x, -, rfl⟩ := List.mem_map.1 hw
  by_cases hx : x.page = page
  · rw [if_pos hx]
  · rw [if_neg hx] at hp
    exact absurd hp hx

theorem execLookasideWatch_watches (hr : s.runs pl = true) (hk : s.takeMgmt pl p 3 (some 3) = some (k, u)) :
    execLookasideWatch pl p s = .next ((u.modNi pl p (fun n => n.watchPage (s.encrypts p) (mgPage k.hdr))).ackMgmt pl p k.hdr
      (dirtyLines ((((u.ni pl p).watch.find? (fun w => decide (w.page = mgPage k.hdr))).map (·.dirty)).getD 0))) := by
  unfold execLookasideWatch
  rw [inPlane_runs hr, hk]
  rfl

theorem State.watch_ackMgmt (hm : muleOf p = none) (t : State) (h : BitVec 64) (lines : List Line) :
    ((t.ackMgmt pl p h lines).ni pl p).watch = (t.ni pl p).watch := by
  unfold State.ackMgmt State.epSend
  split
  · next h' => cases (hm.symm.trans h' :)
  · rw [State.ni_niSend]

/-- Settles O10. An agent's lookaside, lookups and freezes are one list each (`placementOf`), so that replies, invalidates,
freezes and releases are facts about lists; a lookup reads a table that its counting leaves alone (`SameTable`). -/
theorem lookasideRules : Obligations.LookasideRules := by
  refine ⟨fun s u pl agent k hr => ⟨fun hk => ?_, fun hk => execLookasideInvalidate_takes hr hk⟩,
    fun s u pl hr => ⟨fun q k hk hkind hmop => ?_, fun page => ⟨?_, ?_⟩⟩,
    fun s u pl agent k hr => ⟨fun hk hm => ?_, fun page h => ?_, fun hk => ?_⟩,
    fun s u pl p k hr hk hm => ⟨fun d hd => ?_, fun hfree hlen henc => ?_, fun hlen t ht => ?_⟩⟩
  case refine_1 =>
    exact ⟨fun hbad hm => execLookupReply_badNi hr hk hbad hm, fun e hbad hm => execLookupReply_badMule hr hk hbad hm,
      fun hgood hfree hheld => execLookupReply_fills hr hk hgood hfree hheld⟩
  case refine_2 =>
    refine ⟨(u.lookupSampled pl k).heldCounted pl k, ?_, (State.sameTable_heldCounted k).entry _⟩
    exact execPlacementLookup_answers hr hk hkind hmop
  case refine_3 =>
    show execTableError pl _ s = _
    unfold execTableError
    rw [inPlane_runs hr]
    rfl
  case refine_4 =>
    have hsb : (s.tableBroken pl page).sb pl = (s.sb pl).markBad page := s.sb_tableBroken pl page
    have hcause : ((s.tableBroken pl page).sb pl).causeTable = true := by rw [hsb, Sb.markBad]
    refine ⟨s.tableBroken pl page, ?_, hsb ▸ (s.sb pl).mem_markBad page, hcause, State.timedCause_table hcause⟩
    show execTableError pl _ s = _
    unfold execTableError
    rw [inPlane_runs hr]
    rfl
  case refine_5 =>
    refine ⟨_, (u.ni pl agent).freezeOf (mgPage k.hdr)
      (u.homePort pl (mgPage k.hdr) (eInframe (lineWord k.line0 0)) (eFrame (lineWord k.line0 0))), execLookasideFreeze_freezes hr hk hm, ?_⟩
    rw [State.ni_modNi]
    refine ⟨?_, rfl, rfl, rfl, rfl, rfl, rfl, fun x hx => of_decide_eq_true (List.mem_filter.1 hx).2, rfl⟩
    unfold Ni.frozenFor Ni.freezeOf
    dsimp only
    rw [Ni.gtTagsTo_freezePieces]
    rfl
  case refine_6 =>
    refine ⟨s.ackPage pl agent page, execFreezeAcknowledge_acks hr h, ?_⟩
    rw [State.frozenOf_ackPage]
    exact ⟨fun x hx hp => ackFrozen_page hx hp, fun x hp => mem_ackFrozen_other hp, fun x hx hp hrel => mem_ackFrozen_acked hx hp hrel⟩
  case refine_7 =>
    refine ⟨u.releasedPage pl agent k, execLookasideRelease_releases hr hk, ?_⟩
    rw [State.frozenOf_releasedPage]
    exact ⟨holdsPage_releasePage _ _, fun x hp => mem_releasePage_other hp, fun x hx hp hack => mem_releasePage_released hx hp hack⟩
  case refine_8 =>
    refine ⟨_, (execLookasideWatch_watches hr hk).trans (by rw [hd]; rfl), ?_⟩
    rw [State.ni_modNi]
    exact Ni.dirty_watchPage (List.any_eq_true.2 ⟨_, List.mem_of_find?_eq_some hd, decide_eq_true rfl⟩) _
  case refine_9 =>
    have hnone : (u.ni pl p).watch.find? (fun w => decide (w.page = mgPage k.hdr)) = none :=
      List.find?_eq_none.2 fun w hw h => List.any_eq_false.1 hfree w hw h
    refine ⟨_, (execLookasideWatch_watches hr hk).trans (by rw [hnone]; rfl), ?_⟩
    rw [State.ni_modNi, henc]
    exact Ni.watch_watchPage_free hfree hlen
  case refine_10 =>
    cases (execLookasideWatch_watches hr hk).symm.trans ht
    rw [State.watch_ackMgmt hm, State.ni_modNi]
    exact Ni.watchPage_length _ _ _ hlen

end

end Sys2Proof.Machine
